-- ==== Sys2Proof/Word.lean ====
section
/-!
DEFINITION. The word types of the model: the 64-bit word of every Octulo register (R20) and the byte of its stores.
-/

namespace Sys2Proof

/-- A register word of the block (R20: every register is read as 64 bits; header registers use the low 32). -/
abbrev Word := BitVec 64

/-- A byte of the harbour store or of a quay store (R340, R635). -/
abbrev Byte := BitVec 8

/-- An access of a quay's control core through its narrow view (R346, R347, R353): a byte stored through the plain alias, a word stored or loaded through the
sync alias, or a FENCE. -/
inductive CoreAct where
  | store (o : Nat) (v : BitVec 8)
  | syncStore (o : Nat) (w : BitVec 64)
  | syncLoad (o : Nat)
  | fence
  deriving DecidableEq, Repr

end Sys2Proof
end

