-- ==== Sys2Proof/Syntax.lean ====
section
/-!
DEFINITION. The commands of the block: every row of the spec's table of operations and events as one constructor, with the operands
that the row's own effect needs from the surroundings. A command whose place in the tick the spec does not fix carries
the core cycle `cyc` at which it falls; `p` is a physical tile (R7), `q` a quay.
-/

namespace Sys2Proof


/-- The commands of the block: one constructor per row of spec/opcode_table.json. -/
inductive Instr where
  /-- TICK_STROBE (R25). At the start of every tide tick the Harbourmaster strobe realigns every quay and Bollard tide copy and delivers the job tick; tick-boundary effects such as divider, rate and membership changes take force. -/
  | tickStrobe (bad : List Nat) (flits : List (Nat × Nat))
  /-- PPS_EDGE (R28). A PPS_IN edge of the configured polarity is time-stamped, accepted or rejected, and an accepted edge runs the discipline loop. -/
  | ppsEdge (cyc : Nat) (falling : Bool)
  /-- ALIGN (R32). A host write of HM_TIME_CTL.ALIGN requests the one-time alignment, or is refused after the harbour opens. -/
  | align (cyc : Nat)
  /-- TIME_HOLDOVER (R31). Two seconds in LOCKED without an accepted edge move the timebase to HOLDOVER. -/
  | timeHoldover (cyc : Nat)
  /-- HOLDOVER_SECOND (R29). At each expected second boundary in holdover the owed cycles are reloaded from the drift estimate. -/
  | holdoverSecond
  /-- SLEW_DECISION (R29). Before the last granule of each tick the accumulator decides whether this tick is lengthened or shortened by one granule. -/
  | slewDecision
  /-- SIDEBAND_DESC (R58). A DESC beat opens a tile, or is judged invalid or refused when four tiles are open. -/
  | sidebandDesc (cyc p : Nat) (d : BitVec 64)
  /-- SIDEBAND_ADDR (R142). An ADDR beat is attributed to its tile, checked, and the Bollard makes the sample, audit and far decisions. -/
  | sidebandAddr (cyc p : Nat) (w : BitVec 64) (heldA heldB : Nat)
  /-- SIDEBAND_STEP (R54). A STEP beat marks progress, closes an open step and, in lockstep, forms the step contribution. -/
  | sidebandStep (cyc p n : Nat)
  /-- SIDEBAND_SLEEP (R73). A SLEEP beat with a non-zero mask gates the core clock unless the wake pending bit is set. -/
  | sidebandSleep (cyc p mask : Nat)
  /-- OPERAND_TAP_BEAT (R60). An operand or scale beat on the A or B tap is folded into the panel sums of its tile or sets cause COUNT. -/
  | operandTapBeat (cyc p : Nat) (isB scale : Bool) (data : BitVec 256) (lanes l idx : Nat) (lend : Bool)
  /-- WRITEBACK_BEAT (R64). A write-back beat is added to the result sums and CRC signature of its tile. -/
  | writebackBeat (cyc p : Nat) (data : BitVec 256) (lanes i j : Nat)
  /-- CORE_ERROR (R76). A CERR edge sets cause CORE, applies the tile Breakwater and pulls HW1. -/
  | coreError (cyc p bits : Nat)
  /-- LM_CE_INFO (R101). A CINFO_LM_CE pulse counts a local-memory correction. -/
  | lmCeInfo (cyc p : Nat)
  /-- LINK_DOWN (R78). A router link loss sets cause LINK if traffic was in flight, otherwise it is counted and recorded. -/
  | linkDown (cyc p links inflight : Nat)
  /-- ROUTER_FAULT (R65). RTR_FAULT sets cause ROUTER in the tick verdict. -/
  | routerFault (cyc p : Nat)
  /-- CDOM_LOSS (R84). A fall of CDOM_OK discards open tiles, sets cause RESET and clamps the core's inputs. -/
  | cdomLoss (cyc p : Nat)
  /-- CDOM_POWER_GOOD (R518). CDOM_OK rising during a tile compute reset lets the Bollard reload repairs and release reset. -/
  | cdomPowerGood (cyc p : Nat)
  /-- CDOM_POWER_TIMEOUT (R518). CDOM_OK not rising within PWR_CC sends the tile to Slate with a defect entry. -/
  | cdomPowerTimeout (cyc p : Nat)
  /-- CLEARANCE_REQUEST (R448). A CLR_REQ is granted from the bucket, passed to the quay pool, or left pending. -/
  | clearanceRequest (cyc : Nat) (l : List (Nat × Bool × Nat))
  /-- CLEARANCE_RELEASE (R444). The fall of CLR_REQ, CRST_N or CDOM_OK returns the held tokens to bucket, pool or reserve. -/
  | clearanceRelease (cyc p : Nat) (engine : Bool)
  /-- CLEARANCE_OVERHOLD (R445). A class 0 or 1 clearance held longer than HOLD_MAX records CLR_OVERHOLD. -/
  | clearanceOverhold (cyc p : Nat)
  /-- SUBTICK_REDISTRIBUTE (R447). At cycle 0 of each sub-tick the quay recomputes ceil and rise, grants pending requests and refills buckets, pool and reserve. -/
  | subtickRedistribute (q k : Nat)
  /-- HAWSER_ARRIVE (R395). An HWC_ARRIVE pulse sets the slot's arrival bit, latches a pending arrival, or raises an overrun or stray. -/
  | hawserArrive (cyc p slot : Nat)
  /-- HAWSER_RELEASE (R396). Receipt of a round's release pulses HWC_RELEASE, applies any pending arrival and restores the clock. -/
  | hawserRelease (cyc p slot : Nat)
  /-- HAWSER_ROUND_COMPLETE (R392). The tree of the round's sense reads 1 and the completing node broadcasts the release. -/
  | hawserRoundComplete (cyc line entry : Nat)
  /-- INGRESS_SINK (R79). An incoming flit for a guarded tile is discarded, counted and answered HARBOUR_CLOSED. -/
  | ingressSink (cyc p : Nat) (source : Option Nat) (tag : Nat)
  /-- WAKE_CHANNEL (R73). A wake-bus channel in the mask wakes a sleeping core or sets the sticky pending bit. -/
  | wakeChannel (cyc q ch : Nat)
  /-- BOLLARD_WATCHDOG (R75). Four ticks without progress on a JOB core set cause HANG and apply the Breakwater. -/
  | bollardWatchdog (cyc p : Nat)
  /-- SIDEPORT_ACK (R53). A local-memory side-port access completes with its data and error flags. -/
  | sideportAck (cyc p : Nat) (claims : List Nat) (word : Nat) (data : BitVec 64) (err : Nat) (held : Bool)
  /-- SIDEPORT_TIMEOUT (R493). No LM_ACK within 16 cc ends the access with an uncorrectable error and cause SELF. -/
  | sideportTimeout (cyc p : Nat) (claims : List Nat) (word : Nat) (held : Bool)
  /-- ZEROISE_DONE (R305). ZERO_DONE high after a ZEROISE pulse allows scan and memory BIST on the tile. -/
  | zeroiseDone (cyc p : Nat)
  /-- ZEROISE_FAIL (R305). ZERO_DONE not arriving within ZERO_CC fails the test with verdict ZEROISE. -/
  | zeroiseFail (cyc p : Nat)
  /-- MBIST_DONE (R312). The memory BIST controller reports pass or fail, leading to repair, rerun or failure. -/
  | mbistDone (cyc p : Nat) (pass : Bool) (rows : List Nat) (word bitNo : Nat)
  /-- SCAN_INTERVAL_END (R308). At the end of an LBIST interval or top-up pattern the MISR is compared with the expected signature. -/
  | scanIntervalEnd (cyc p : Nat) (misr : BitVec 64)
  /-- BOLLARD_REPORT_LAUNCH (R67). At its slot the Bollard launches the six-word report frame of the previous tick. -/
  | bollardReportLaunch (cyc p : Nat) (closed : Bool)
  /-- REPORT_FRAME (R68). A report frame reaches the quay and is tallied, or marked LATE with HW1 pulled. -/
  | reportFrame (cyc p : Nat)
  /-- TALLY_TIMEOUT (R38). A frame still missing at the tally arrival bound makes the quay pull HW1. -/
  | tallyTimeout (q : Nat)
  /-- CHAIN_WATCHDOG (R515). A position missing its frame in two consecutive ticks recalls, restarts that Bollard and may bypass it. -/
  | chainWatchdog (cyc q l : Nat) (answered : Bool)
  /-- QUAY_DEADLINE (R224). At cycle 1,848 each quay lets go of its HW0 share if clean, or pulls HW1. -/
  | quayDeadline (q : Nat)
  /-- ROOT_DECIDE (R225). At cycle 2,024 the root commits the tick or pulls HW1 with reason ROOT. -/
  | rootDecide
  /-- COMMIT_BROADCAST (R224). A participant receives the commit broadcast and holds the commit pending, or applies it late. -/
  | commitBroadcast (cyc q : Nat) (slow : List Nat)
  /-- COMMIT_APPLY (R222). At cycle 2,200 the pending commit sets CCNT, BOL_COMMIT and EGC_TICK and pulses EGC_STB. -/
  | commitApply
  /-- RECALL_ROOT (R226). The first HW1 pull to reach the root fixes the target and sends the recall. -/
  | recallRoot (cyc arrive : Nat)
  /-- RECALL_RECEIPT (R227). A participant receives the recall and freezes JOB cores, pulses EGC_RECALL and rolls state back to the target. -/
  | recallReceipt (cyc q : Nat) (slow : List Nat)
  /-- DRAIN_END (R227). DRAIN_CC after receipt the drain ends and, with migrations and reroute done, the restart tick is announced. -/
  | drainEnd (cyc : Nat)
  /-- MIGRATION_DONE (R231). The copy of a logical core's local memory to its spare completes. -/
  | migrationDone (cyc l : Nat)
  /-- REROUTE_DONE (R234). REROUTE_CC after the latest link-down edge the reroute bound expires. -/
  | rerouteDone (cyc : Nat)
  /-- MAILBOX_WRITE (R216). At cycle TICK_LEN − 64 of the tick before a restart each JOB Bollard writes the recall mailbox and lowers CRST_N. -/
  | mailboxWrite
  /-- MAILBOX_LATE (R227). A mailbox write not complete by the tick's last cycle keeps the core in reset and raises SELF. -/
  | mailboxLate (p : Nat)
  /-- RESTART (R227). At cycle 0 of the restart tick CRST_N is released and JOB cores resume at the target plus one. -/
  | restart
  /-- RECALL (R254). HM_COMMIT_OP.RECALL pulls HW1 with reason HOST. -/
  | hostRecall (cyc : Nat)
  /-- HALT (R236). HM_COMMIT_OP.HALT halts the job with reason HOST through the recall sequence. -/
  | halt (cyc : Nat)
  /-- RESUME (R237). HM_COMMIT_OP.RESUME restarts a halted job, or is refused while its halt reason holds. -/
  | resume (cyc : Nat)
  /-- ABANDON (R598). HM_COMMIT_OP.ABANDON ends a halted job and closes the harbour. -/
  | abandon (cyc : Nat)
  /-- ALARM_MESSAGE (R130). A Bollard alarm message reaches the quay and is recorded in full or counted. -/
  | alarmMessage (cyc p : Nat)
  /-- CSUM_FLOOD (R130). At cycle 0 of the next tick alarm tiles beyond the first 16 are summed into one record. -/
  | csumFlood (q : Nat)
  /-- RATE_UPDATE (R146). At cycle 2,201 the quay computes the next tick's effective sampling rate from free spares and tallies. -/
  | rateUpdate (q : Nat)
  /-- SAMPLE_REQUEST (R151). A Bollard sample request reaches the quay and is granted the lowest free berth. -/
  | sampleRequest (cyc : Nat) (ps : List Nat)
  /-- BERTH_FULL (R151). A sample request not granted within 512 cc is declined. -/
  | berthFull (cyc p : Nat)
  /-- FAR_PLACEMENT_ANSWER (R148). The far quay answers a far placement request with a spare or a refusal. -/
  | farPlacementAnswer (cyc q b : Nat)
  /-- FAR_PLACEMENT_TIMEOUT (R148). A far quay silent for 256 cc makes the sample fall back to near placement. -/
  | farPlacementTimeout (cyc q b : Nat)
  /-- TENDER_TRANSFER_START (R356). A tender with its token starts the next berth or work-ring transfer in its priority order. -/
  | tenderTransferStart (cyc q t : Nat)
  /-- TENDER_TRANSFER_DONE (R360). A tender transfer ends, reporting to its berth or writing a completion record. -/
  | tenderTransferDone (cyc q t ue ueOff : Nat) (ces : List (Nat × Nat)) (data : List (BitVec 64)) (refusal : Nat)
  /-- OUTPUT_SIGNATURE (R155). The origin Bollard's output signature message reaches the quay. -/
  | outputSignature (cyc p : Nat) (out : List (BitVec 8))
  /-- SHADOW_SIGNATURES (R155). A shadow's tap and output signatures reach the quay and the berth is compared when complete. -/
  | shadowSignatures (cyc p : Nat) (out : List (BitVec 8))
  /-- SHADOW_LATE (R157). A berth still lacking a signature at n+2.1,101 becomes LATE and leaves the commit decision. -/
  | shadowLate (q b : Nat)
  /-- SHADOW_HUNG (R157). A berth still LATE at n+4.0 is aborted and the shadow spare set Amber. -/
  | shadowHung (q b : Nat)
  /-- SHADOW_STOP_CONFIRM (R150). The shadow's Bollard confirms the stop of an ABORTING berth, which becomes FREE. -/
  | shadowStopConfirm (cyc q b : Nat)
  /-- CAPTURE_PASS_DONE (R158). A capture pass on the shadow or witness ends and the next pass or the capture completion follows. -/
  | capturePassDone (cyc q c : Nat) (beats : List (BitVec 64 × BitVec 256)) (sig out : BitVec 64)
  /-- WITNESS_TIMEOUT (R158). A witness pass not ended within 4 ticks is abandoned and WITNESS_NONE set. -/
  | witnessTimeout (cyc q c : Nat)
  /-- AUDIT_RESULT (R161). A skip audit's side-port reads complete and the skipped rows are judged for misses. -/
  | auditResult (cyc p : Nat) (skip : BitVec 256) (rows : List (List Nat))
  /-- AUDIT_LATE (R162). An audit not reported by n+2.1,100 counts as not audited. -/
  | auditLate (p : Nat)
  /-- PATCH_READY (R163). The make-up spare's output is held as a patch and a waiting held core can be patched. -/
  | patchReady (cyc q i : Nat) (data : List (BitVec 64))
  /-- PATCH_APPLIED (R163). The patch write into the result buffer completes and the core's clock hold is cleared. -/
  | patchApplied (cyc q i : Nat)
  /-- DISPUTE_MESSAGE (R187). A dispute message reaches the Harbourmaster and is queued or refused. -/
  | disputeMessage (cyc n : Nat)
  /-- DISPUTE_RESEND (R188). At cycle 2,201 a quay sends a refused dispute message again. -/
  | disputeResend (qs : List Nat)
  /-- CUSTOMS_DISPATCH (R186). The head queue entry with a complete capture is given to a free exact unit. -/
  | customsDispatch (cyc : Nat)
  /-- CUSTOMS_FETCH_DONE (R191). The unit's fetch of the descriptor and capture berth ends and exact evaluation starts. -/
  | customsFetchDone (cyc u : Nat) (ue : Option Nat) (ces : List (Nat × Nat))
  /-- CUSTOMS_EVAL_END (R193). An exact evaluation ends, is residue-checked, and the dispute is decided or a referee run requested. -/
  | customsEvalEnd (cyc u : Nat) (upsets : List (Nat × Nat))
  /-- REFEREE_RESULT (R192). The referee run's signatures return and decide the dispute by majority. -/
  | refereeResult (cyc slot : Nat) (tap out : BitVec 64)
  /-- REFEREE_TIMEOUT (R192). No spare for a referee run within 4 ticks makes the referee absent. -/
  | refereeTimeout (cyc slot : Nat)
  /-- HOUSEKEEPING_ROUND (R459). At each 4,096-tick round boundary per-round counts restart and round-based colour, margin, key and PMBus work runs. -/
  | housekeepingRound (badKey : Option Nat)
  /-- THROTTLE_EVALUATION (R453). At cycle 2,201 of a round's first tick throttle levels are stepped from the last round's readings. -/
  | throttleEvaluation
  /-- CONVERSION_DONE (R454). A housekeeping conversion ends and the reading is compared with its critical level and fault limits. -/
  | conversionDone (cyc ch : Nat) (val : Int) (fault : Nat)
  /-- BUS_SAMPLE (R456). A 64-tick sample of the bus voltage and current is checked for high, low and power fail. -/
  | busSample (cyc c0 c1 : Nat)
  /-- PFAIL_FALL (R455). PFAIL_N falling puts every governor into PFAIL and starts a power-fail flush. -/
  | pfailFall (cyc : Nat)
  /-- PFAIL_RISE (R455). PFAIL_N rising, with two good bus samples, returns the governors to RUN. -/
  | pfailRise (cyc : Nat)
  /-- PMBUS_ALERT (R680). PMB_ALERT_N falling makes Octulo find the device and read its STATUS_WORD. -/
  | pmbusAlert (cyc q : Nat)
  /-- HEALTH_OP_AMBER (R286). HM_HEALTH_OP GO with OP Amber sets the tile Amber or is refused. -/
  | healthOpAmber (cyc p : Nat)
  /-- HEALTH_OP_VERMILION (R286). HM_HEALTH_OP GO with OP Vermilion quarantines the tile, through a boundary move if it serves. -/
  | healthOpVermilion (cyc p : Nat)
  /-- HEALTH_OP_SLATE (R286). HM_HEALTH_OP GO with OP Slate retires the tile, through a boundary move if it serves. -/
  | healthOpSlate (cyc p : Nat)
  /-- MOVE_COPY_DONE (R276). The boundary move's copy ends and the switch tick is chosen. -/
  | moveCopyDone (cyc x : Nat)
  /-- MOVE_SWITCH (R276). At the switch tick the spare takes ROLE JOB with the logical core and the vacated tile takes its next use. -/
  | moveSwitch (x : Nat)
  /-- PARK_TIMEOUT (R277). No park within PARK_TICKS abandons, converts to a recall move, or forces the move. -/
  | parkTimeout (cyc x : Nat)
  /-- TEST_SLOT_FILL (R301). At cycle 2,201 Rinol fills free test slots in the stated order. -/
  | testSlotFill (q : Nat)
  /-- TEST_SLICE_START (R299). A test slice starts at cycle 2,201 once its clearance is granted. -/
  | testSliceStart (q k : Nat)
  /-- TEST_SLICE_END (R304). A slice ends and the test passes, fails, continues, or is pre-empted at the boundary. -/
  | testSliceEnd (cyc q k : Nat) (results : List (BitVec 64))
  /-- SLICE_TIMEOUT (R299). A slice not ended 2,200,000 cc after its start is stopped with verdict TIMEOUT. -/
  | sliceTimeout (cyc q k : Nat) (waits : Bool) (results : List (BitVec 64))
  /-- TEST_CLEARANCE_TIMEOUT (R304). A slice clearance refused for 16 ticks pre-empts the test. -/
  | testClearanceTimeout (cyc q k : Nat)
  /-- DIAGNOSIS_DONE (R309). Diagnosis of a failed interval ends and names the failing pattern, chain and cell. -/
  | diagnosisDone (cyc q k pattern chain cell : Nat) (found : Bool)
  /-- TEST_NEXT (R335). HM_TEST_OP GO with OP 1 names a tile to test next, or is refused. -/
  | testNext (cyc p : Nat)
  /-- TEST_ABORT (R335). HM_TEST_OP GO with OP 2 aborts a test at its slice's end. -/
  | testAbort (cyc p : Nat)
  /-- XSPI_PROGRAM (R322). HM_XSPI_OP OP 1 checks, erases, programs and verifies a staged library segment. -/
  | xspiProgram (cyc : Nat)
  /-- XSPI_ERASE (R322). HM_XSPI_OP OP 2 erases flash sectors under the same checks. -/
  | xspiErase (cyc : Nat)
  /-- XSPI_RESCAN (R319). HM_XSPI_OP OP 3 rescans the pattern library and reloads the caches. -/
  | xspiRescan (cyc : Nat)
  /-- TAGGED_ACCESS_RETRY (R352). A waiting tagged access is retried in the cycle after its slot's tag changes. -/
  | taggedAccessRetry (cyc q client : Nat)
  /-- TAG_TIMEOUT (R352). A tagged access waiting TAG_WAIT_CC cycles ends with status TAG_TIMEOUT. -/
  | tagTimeout (cyc q client : Nat)
  /-- FENCE (R347). A control-core FENCE completes once the gather buffer is empty. -/
  | fence (cyc q : Nat) (acts : List CoreAct)
  /-- GATHER_IDLE_FLUSH (R347). A gather entry idle for GATHER_IDLE cycles is flushed to its bank. -/
  | gatherIdleFlush (cyc q : Nat) (acts same : List CoreAct)
  /-- SCRUB_SLOT (R366). The scrubber reads one row of a bank in a background slot and corrects or reports its errors. -/
  | scrubSlot (cyc q b found synd word : Nat)
  /-- FORCED_SCRUB (R366). A bank without a background slot for FORCE_TICKS ticks takes its forced slot. -/
  | forcedScrub (cyc q b found synd word : Nat)
  /-- STORE_REPAIR (R367). QY_STORE_REPAIR GO copies a row into a spare row, or records STORE_REPAIR_FULL. -/
  | storeRepair (cyc q bank row : Nat) (host : Bool)
  /-- BANK_REQUEST (R369). A write to QY_STORE_BANK.REQ requests ON, RETAIN or OFF for a bank. -/
  | bankRequest (cyc q b req : Nat) (host : Bool)
  /-- BANK_DRAIN_DONE (R370). A draining bank's INFLIGHT reaches 0 and it enters RETAIN or OFF. -/
  | bankDrainDone (cyc q b : Nat)
  /-- BANK_WAKE_DONE (R369). A waking bank ends its 220 cc wake and becomes ON. -/
  | bankWakeDone (cyc q b : Nat)
  /-- BANK_INIT_DONE (R369). A bank ends power-up and zeroing and becomes ON. -/
  | bankInitDone (cyc q b : Nat)
  /-- PUSH (R354). QY_RING_OP PUSH advances TAIL by COUNT or is refused. -/
  | push (cyc q ring count : Nat) (host : Bool)
  /-- POP (R354). QY_RING_OP POP advances HEAD by COUNT or is refused. -/
  | pop (cyc q ring count : Nat) (host : Bool)
  /-- REMOTE_WRITE (R363). A remote write packet is checked against its window and written whole or refused with a reason. -/
  | remoteWrite (cyc : Nat) (quay : Option Nat) (wafer win off seq : Nat) (tag : BitVec 64) (rows : List (List (BitVec 64)))
  /-- SIGNAL (R402). A SIGNAL request adds its increment to the object's tick share and fires waiters when TMIN is reached. -/
  | signal (cyc p owner idx tick8 lcore inc : Nat)
  /-- ARM (R407). An ARM request is answered SATISFIED, recorded as a waiter, or refused FULL. -/
  | arm (cyc p owner idx tick8 lcore ch target : Nat) (space : Bool)
  /-- READ (R399). A READ request is answered with the object's value. -/
  | read (cyc p owner idx tick8 lcore : Nat)
  /-- HREQ (R413). A group request is forwarded to the Harbourmaster for decision at its epoch. -/
  | hreq (cyc p tick8 lcore slot mask group lo hi : Nat)
  /-- HFREE (R417). A group release takes effect at the first effective tick with no open round. -/
  | hfree (cyc p tick8 lcore slot group : Nat)
  /-- GQUERY (R413). A group query is answered from the quay's copy of the group table. -/
  | gquery (cyc p tick8 lcore group : Nat)
  /-- SYNC_BAD_OP (R399). A sync request with an unlisted OP code is answered BAD_OP and recorded. -/
  | syncBadOp (cyc p op owner idx lcore : Nat)
  /-- WAKE_MESSAGE (R407). A remote wake message arrives at a quay, which fires the named channel. -/
  | wakeMessage (cyc q ch : Nat)
  /-- LINK_FORWARD (R411). A forwarded signal of a linked counter is added to the producer object's mirror. -/
  | linkForward (cyc q idx : Nat)
  /-- REALIGN (R412). Every realignment period the quays run an HW2 round and rebase linked mirrors. -/
  | realign (cyc : Nat)
  /-- WAKE_FORCE (R439). A write to QY_WAKE_FORCE fires the named wake channels once. -/
  | wakeForce (cyc q mask : Nat)
  /-- SYNC_SELECT (R423). A write to QY_SYNC_SEL loads a coherent view of the selected object. -/
  | syncSelect (cyc q idx : Nat)
  /-- HWX_FRAME (R420). A frame on a hawser extension lane is checked and a gather or release is forwarded or applied. -/
  | hwxFrame (cyc lane frame cal a b : Nat)
  /-- CAL_GO (R421). HM_HAWSER_XCTL.CAL_GO starts ring calibration on the master. -/
  | calGo (cyc : Nat)
  /-- HWX_CAL_TIMEOUT (R421). A wafer not echoing within 4,096 cc ends calibration as failed. -/
  | hwxCalTimeout (cyc : Nat)
  /-- FAULT_LATCH (R483). A checker finds a fault and latches its bit, triggering the bit's class reaction. -/
  | faultLatch (cyc level unit b synd aux : Nat) (real : Bool)
  /-- BOLLARD_FAULT_MESSAGE (R485). A Bollard fault message reaches its quay and sets the row's fault bit. -/
  | bollardFaultMessage (cyc q : Nat)
  /-- QUAY_FAULT_MESSAGE (R486). A quay fault message reaches the Harbourmaster and loads HM_FAULT_SRC. -/
  | quayFaultMessage (cyc n : Nat)
  /-- LOCKSTEP_MISMATCH (R491). A quay control-core pair mismatch stops both cores, recalls and reloads Rinol. -/
  | lockstepMismatch (cyc q addr b : Nat)
  /-- TRIPLEX_VOTE (R492). An outvoted triplex core leaves the triplex and the other two run in duplex. -/
  | triplexVote (cyc core addr : Nat)
  /-- DUPLEX_MISMATCH (R492). The duplex cores disagree, both stop and Lantern mode is entered. -/
  | duplexMismatch (cyc : Nat)
  /-- RT_SCRUB (R18). Every 1,024 cc RT registers are voted and rewritten, counting disagreements. -/
  | rtScrub (cyc : Nat)
  /-- ERROR_FORCE (R498). A write to PG_ERR_FORCE or BOL_ERR_FORCE arms one injection at a checker, or is refused. -/
  | errorForce (cyc level unit page bits : Nat)
  /-- ALARM_ACK (R497). A host or sideband acknowledge clears alarm causes whose condition has ended. -/
  | alarmAck (cyc mask : Nat) (host : Bool)
  /-- BREAKWATER_REGION (R510). HM_FAULT_OP.REGION applies the region Breakwater to a quay and pulls HW1. -/
  | breakwaterRegion (cyc q : Nat)
  /-- BREAKWATER_WAFER (R510). HM_FAULT_OP.WAFER applies the wafer Breakwater and pulls HW1. -/
  | breakwaterWafer (cyc : Nat)
  /-- QUAY_WATCHDOG (R514). A quay control core not kicking for 4 ticks causes a quay reset. -/
  | quayWatchdog (cyc q : Nat)
  /-- QUAY_WATCHDOG_KICK (R542). Rinol's write to QY_RST_WDOG.KICK restarts the quay watchdog; a host write is denied. -/
  | quayWatchdogKick (cyc q : Nat) (host : Bool)
  /-- HM_WATCHDOG (R514). The triplex not kicking HM_RST_KICK for 4 ticks enters Lantern mode. -/
  | hmWatchdog (cyc : Nat)
  /-- HM_WATCHDOG_KICK (R540). The triplex's write to HM_RST_KICK restarts the Harbourmaster watchdog; a host write is denied. -/
  | hmWatchdogKick (cyc : Nat) (host : Bool)
  /-- TILE_COMPUTE_RESET (R518). A tile compute reset gates, resets and optionally power-cycles the compute domain. -/
  | tileComputeReset (cyc p reason : Nat) (pwr : Bool)
  /-- TILE_RESET (R539). HM_RST_OP OP 1 resets one tile. -/
  | tileReset (cyc p : Nat) (pwr : Bool)
  /-- PARTITION_RESET (R519). HM_RST_OP OP 2 empties and resets a rectangle of tiles in one quay. -/
  | partitionReset (cyc q rowLo rowHi colLo colHi : Nat) (pwr : Bool)
  /-- QUAY_RESET (R520). A quay is reset: region Breakwater, recall, partner adoption, dump, reset and self-test. -/
  | quayReset (cyc q reason : Nat)
  /-- QUAY_RESET_OP (R539). HM_RST_OP OP 3 resets a named quay. -/
  | quayResetOp (cyc q : Nat)
  /-- SOFT_RESET (R644). A host write of PG_CTL.SOFT_RESET resets its quay, or is denied on a Harbourmaster page. -/
  | softReset (cyc addr : Nat)
  /-- QUAY_ADOPT (R520). One tick after the order the partner has switched its muxes and adopted the region. -/
  | quayAdopt (cyc q : Nat)
  /-- QUAY_SELFTEST_DONE (R520). A reset quay ends its self-test and becomes Green, Vermilion or Slate. -/
  | quaySelftestDone (cyc q : Nat) (pass : Bool) (rows : Nat)
  /-- QUAY_RECLAIM (R522). HM_RST_OP OP 4 returns a Green adopted quay's Bollards at a recall. -/
  | quayReclaim (cyc q : Nat)
  /-- ENTER_LANTERN (R539). HM_RST_OP OP 5 forces Lantern mode, when allowed. -/
  | enterLantern (cyc : Nat)
  /-- HARBOURMASTER_RESTART (R530). HM_RST_OP OP 6 resets and self-tests the triplex and verifies and runs a staged Rinol image. -/
  | harbourmasterRestart (cyc pass : Nat)
  /-- LANTERN_EXIT (R530). Once keys are reloaded Rinol clears Lantern mode at cycle 2,201 of a tick. -/
  | lanternExit
  /-- DUMP (R525). HM_RST_OP OP 7 takes a host dump of the named kind. -/
  | dump (cyc kind p q : Nat)
  /-- DUMP_READ_TIMEOUT (R526). A dump read not answered within 64 cc writes the VOID marker and moves on. -/
  | dumpReadTimeout (cyc n : Nat)
  /-- DUMP_DONE (R527). The dump engine finishes staging a dump, or skips it for a held one of higher priority. -/
  | dumpDone (cyc : Nat) (ext : List (BitVec 64))
  /-- DUMP_COPY_DONE (R525). The staged dump is copied to the crash-dump area of the log store. -/
  | dumpCopyDone (cyc : Nat)
  /-- LOG_RECORD (R548). A record claim reaches the writer and is admitted, merged, held or dropped. -/
  | logRecord (cyc : Nat) (producers : List Nat)
  /-- TRICKLE_FLUSH (R553). With 2,047 unflushed records and no flush running, a block write to the log store starts. -/
  | trickleFlush (cyc : Nat)
  /-- FLUSH_BLOCK_DONE (R553). A block's write and verify complete and FSEQ advances, or the write is retried. -/
  | flushBlockDone (cyc : Nat) (ok : Bool)
  /-- LOG_PORT_TIMEOUT (R555). The log device silent for 1 ms marks the block bad and declares the port failed. -/
  | logPortTimeout (cyc : Nat)
  /-- LOG_FLUSH (R554). HM_LOG_CTL.FLUSH starts a power-fail flush. -/
  | logFlush (cyc : Nat)
  /-- PFAIL_FLUSH_STOP (R554). Six ms after its trigger the power-fail flush stops and writes its last trailer. -/
  | pfailFlushStop (cyc : Nat)
  /-- LOG_PORT_RETRY (R555). HM_LOG_CTL.PORT_RETRY leaves the failed port state and resumes flushing. -/
  | logPortRetry (cyc : Nat)
  /-- LOG_STORE_RESUME (R556). At power-up the flusher's trailer scan ends and WSEQ resumes from the store. -/
  | logStoreResume (cyc : Nat) (trailers : List (Nat × Nat × Nat × Nat × Bool))
  /-- LOG_READ_SELECT (R558). A write to HM_LOG_RSEL starts the read of one record. -/
  | logReadSelect (cyc n : Nat)
  /-- LOG_FETCH_DONE (R558). A record fetched from the log store becomes READY. -/
  | logFetchDone (cyc : Nat) (words : List (BitVec 64))
  /-- NONCE_READ (R561). A read of HM_LOG_NONCE0 draws a fresh nonce and invalidates the earlier one. -/
  | nonceRead (cyc : Nat)
  /-- LOG_CLEAR (R561). HM_LOG_CLR.GO submits a clear for token verification. -/
  | logClear (cyc : Nat)
  /-- LOG_CLEAR_VERIFIED (R562). Rinol's verification ends: the buffer range is cleared and the store pass starts, or the clear is refused. -/
  | logClearVerified (cyc : Nat)
  /-- CLEAR_STORE_PASS_DONE (R560). The clear's store pass ends and BUSY falls. -/
  | clearStorePassDone (cyc extra : Nat)
  /-- KEY_LOAD (R567). HM_KEY_OP.LOAD copies a key into the triplex and distributes window keys to the quays. -/
  | keyLoad (cyc : Nat)
  /-- KEY_SPREAD (R567). A window key takes force at every quay at cycle 0 after all hold it. -/
  | keySpread
  /-- KEY_ZERO (R568). HM_KEY_OP.ZERO zeroises the selected key slot. -/
  | keyZero (cyc : Nat)
  /-- POWER_ON_RESET (R672). PORST_N falling resets every domain at once. -/
  | powerOnReset
  /-- RESET_RELEASE (R672). PORST_N rising starts domain sequencing and the boot ROM. -/
  | resetRelease
  /-- DOMAIN_SWITCH_ON (R670). The domain controller switches a power domain on at its sequenced time. -/
  | domainSwitchOn (cyc d : Nat)
  /-- DOMAIN_POWER_GOOD (R670). A domain's power-good held for 1,100 cc lets it leave reset and isolation. -/
  | domainPowerGood (cyc d : Nat)
  /-- BOOT_ROM (R583). The boot ROM self-test ends and PHASE becomes WAIT_IMAGE or FAILED. -/
  | bootRom (cyc pass : Nat)
  /-- LOAD (R585). HM_TRIPLEX_OP LOAD verifies a staged Rinol image and loads the triplex and quays. -/
  | load (cyc : Nat)
  /-- IMAGE_LOADED (R586). Every quay acknowledges its load and runs Rinol, and PHASE becomes CONFIG. -/
  | imageLoaded (cyc : Nat)
  /-- PREPARE (R588). HM_TRIPLEX_OP PREPARE applies the defect list, trains XSPI, scans the library and reads the regulators. -/
  | prepare (cyc : Nat) (taps : List Nat)
  /-- EPOCH (R591). HM_TRIPLEX_OP EPOCH arrives on HW2 to start the tide counter. -/
  | epoch (cyc : Nat)
  /-- START_TEST (R592). HM_TRIPLEX_OP START_TEST tests every non-Slate tile in waves. -/
  | startTest (cyc : Nat)
  /-- OPEN (R595). HM_TRIPLEX_OP OPEN runs the opening checks, locks pages, builds the Manifest and chooses the opening tick. -/
  | openHarbour (cyc : Nat)
  /-- OPENING_TICK (R596). At cycle 0 of the opening tick JOB cores leave reset and the commit counts take O − 1. -/
  | openingTick
  /-- CLOSE (R598). HM_TRIPLEX_OP CLOSE halts the job, holds the tiles, unlocks pages and returns to READY. -/
  | close (cyc : Nat)
  /-- UPDATE (R599). HM_TRIPLEX_OP UPDATE starts a rolling update of Rinol, or is refused. -/
  | update (cyc : Nat)
  /-- UPDATE_LEAVE (R599). At cycle 2,201 core 2 leaves the triplex and starts loading the new image. -/
  | updateLeave
  /-- UPDATE_LOAD_DONE (R599). Core 2's verification and load end, or the update aborts. -/
  | updateLoadDone (cyc : Nat)
  /-- UPDATE_HANDOVER (R599). After a commit the old duplex hands over and cores 1 and 2 start on the new image. -/
  | updateHandover
  /-- UPDATE_QUAY_RELOAD (R599). Each tick one quay is reloaded with the new quay code without a recall. -/
  | updateQuayReload (cyc : Nat)
  /-- TRIPLEX_REJOIN (R600). The duplex pauses at 2,201 and a core is copied in and rejoins lockstep. -/
  | triplexRejoin (core : Nat) (same : Bool)
  /-- LOCKSTEP_GO (R626). HM_LOCKSTEP_CTL.GO computes the digest and sends a START slot to the peer. -/
  | lockstepGo (cyc : Nat)
  /-- LOCKSTEP_START_TIMEOUT (R626). No START slot from the peer within TPS ticks refuses the start. -/
  | lockstepStartTimeout (cyc : Nat)
  /-- LOCKSTEP_STOP (R632). HM_LOCKSTEP_CTL.STOP stops lockstep with reason 1. -/
  | lockstepStop (cyc : Nat)
  /-- LOCKSTEP_CONTRIBUTION (R621). A step contribution reaches the home quay and is accumulated per row and tick. -/
  | lockstepContribution (cyc l : Nat)
  /-- QUAY_DIGEST (R622). A quay's digest of a completed step reaches the Harbourmaster. -/
  | quayDigest (cyc q : Nat)
  /-- LOCKSTEP_SLOT_SEND (R623). In the tick after a step digest is complete the engine writes its slot into the peer's window. -/
  | lockstepSlotSend (cyc : Nat) (refused : Bool)
  /-- LOCKSTEP_COMPARE (R624). At cycle 2,201 the engine compares present steps, advances, stops, or starts a drill-down. -/
  | lockstepCompare (ue : Bool)
  /-- BOLLARD_ACCESS (R88). A write to QY_BOL_SEL starts one Bollard register access on the row service bus. -/
  | bollardAccess (cyc q : Nat) (value : BitVec 64) (answered : Bool)
  /-- BOLLARD_ACCESS_TIMEOUT (R87). A Bollard not answering within 64 cc is given up and VOID set. -/
  | bollardAccessTimeout (cyc q : Nat)
  /-- LM_SIDEPORT_ACCESS (R103). A write to BOL_LM_ADDR starts a side-port access as claimant 2. -/
  | lmSideportAccess (cyc p : Nat) (w : BitVec 64)
  /-- SCAN_START (R330). BOL_SCAN.START starts an LBIST, top-up or diagnosis slice, refused without zeroisation. -/
  | scanStart (cyc p : Nat) (w : BitVec 64)
  /-- MBIST_START (R331). BOL_MBIST.START starts the selected memory BIST operation. -/
  | mbistStart (cyc p : Nat) (w : BitVec 64)
  /-- PING (R653). Command 0x01 returns the running Rinol version and the tide. -/
  | ping (cyc : Nat) (args : List (BitVec 64))
  /-- BOL_READ (R653). Command 0x02 copies Bollard register files into the harbour store. -/
  | bolRead (cyc : Nat) (args : List (BitVec 64))
  /-- LM_READ (R653). Command 0x03 copies local-memory words of a tile into the harbour store. -/
  | lmRead (cyc : Nat) (args : List (BitVec 64))
  /-- PMBUS_READ (R653). Command 0x04 performs one PMBus read from a region regulator. -/
  | pmbusRead (cyc : Nat) (args : List (BitVec 64))
  /-- MANIFEST_CHECK (R653). Command 0x05 compares quays' tile entries with the harbour Manifest. -/
  | manifestCheck (cyc : Nat) (args : List (BitVec 64))
  /-- SYNC_DUMP (R653). Command 0x06 copies a quay's sync object values into the harbour store. -/
  | syncDump (cyc : Nat) (args : List (BitVec 64))
  /-- CMD_BAD_OP (R653). An HM_CMD GO with an unlisted command code ends with RESULT 1. -/
  | cmdBadOp (cyc op : Nat) (args : List (BitVec 64))
  /-- CMD_COMPLETE (R652). A command ends: results written, RESULT set, BUSY falls and HM_IRQ_STAT.CMD set. -/
  | cmdComplete (cyc : Nat) (data : List (BitVec 64)) (bad : List Nat) (ce : Nat)
  /-- STORE_APERTURE_ACCESS (R640). A host access through a store aperture is served, wakes its bank, or is refused. -/
  | storeApertureAccess (cyc addr size : Nat) (data : BitVec 64) (write parBad ue : Bool) (ce : Option Nat)
  /-- TAP_SEGMENT (R691). A segment insertion through the test access network is opened or refused by harbour state. -/
  | tapSegment (cyc seg kind ty unit : Nat) (write opening : Bool)
  /-- REGISTER_WRITE (R18). A host write to a register without a row of its own is applied by its field access codes, lock rules and parity check. -/
  | registerWrite (cyc addr size : Nat) (data : BitVec 64) (parBad : Bool)
  /-- FLASH_ACCESS_DONE (R322). A sector erase, page program, read-back or read on the pattern flash completes, and the operation moves to its next access or ends. -/
  | flashAccessDone (cyc : Nat) (ok : Bool) (found : List (Nat × List (BitVec 8)))
  /-- PMBUS_TRANSACTION_DONE (R680). A PMBus transaction with a region regulator completes, acknowledged or NACKed, and the next queued transaction starts. -/
  | pmbusTransactionDone (cyc : Nat) (ack : Bool) (data : Nat)
  /-- UNIT_RETEST_DONE (R323). The built-in LBIST and memory BIST retest of a Vermilion Customs unit, triplex core or harbour-store bank ends and takes the unit to Green or Slate. -/
  | unitRetestDone (cyc k : Nat) (pass : Bool)
  /-- LINK_DOMAIN_POWER (R517). The integrator removes and restores a tile's link power, resetting its router and Bollard to their reset values. -/
  | linkDomainPower (cyc p : Nat)
  deriving DecidableEq, Repr

end Sys2Proof
end

