-- ==== Sys2Proof/Config.lean ====
section
/-!
DEFINITION. What an implementation fixes and the spec leaves open: the free values of the model. Each is an uninterpreted constant
without a body, so a claim that mentions one holds for every value of it.
-/

namespace Sys2Proof.Config

/-- The free values the spec states no result for, drawn one after the other by the step's counter of free values
(State.freeCount, the model's own field). -/
opaque freeWord : Nat → BitVec 64

/-- HMAC-SHA-256 of a byte message under a 256-bit key (R362, R561), given by a standard outside the spec. -/
opaque hmacSha256 : BitVec 256 → List (BitVec 8) → BitVec 256

/-- The boot ROM's check of an image's signature (R585): ECDSA P-384 over SHA-384, given by standards outside the spec;
the arguments are the signed bytes (0x000 to 0x17F, then the body) and the signature's bytes (0x180 to 0x1FF). -/
opaque imageSigned : List (BitVec 8) → List (BitVec 8) → Bool

/-- The count of AO_CLK cycles since reset release, by the CORE_CLK cycles since then (R582): the two clocks' ratio is the integrator's (R667, R668). -/
opaque aoCycles : Nat → Nat

/-- The boot ROM's design-time public-key hash check (R585): SHA-384, given by a standard outside the spec, over bytes 0x100 to 0x160 of the image. -/
opaque keyTrusted : List (BitVec 8) → Bool

/-- The bits a NaN residual or tolerance is reported with: the spec gives the number format, not the payload (R129, R137). -/
opaque nanBits : BitVec 64

/-- The state that the pattern generator of a test engine reaches from a state after a number of patterns (R308): the spec gives its width, not its feedback. -/
opaque prpgAfter : BitVec 256 → Nat → BitVec 256

/-- Bytes of the integrator's LOG device (R578). -/
opaque logDeviceBytes : Nat

end Sys2Proof.Config
end

