-- ==== Sys2Proof/Machine/Tab.lean ====
section
/-!
DEFINITION. The sparse maps the state is built of, as plain data in one canonical form: a list of key and value pairs with
strictly rising keys in which no entry equals what an unlisted key reads as. Also the place of a register
(one number per register of the block) and the shape of a field.
-/

namespace Sys2Proof.Machine

/-- A sparse map from a number to a value. -/
abbrev Tab (α : Type) := List (Nat × α)

/-- What key `k` reads as: its entry, else the default of that key. -/
def tabGet {α : Type} (d : Nat → α) : Tab α → Nat → α
  | [], k => d k
  | (k', v) :: t, k => if k' = k then v else tabGet d t k

/-- Insert before the first larger key. -/
def tabIns {α : Type} (k : Nat) (v : α) : Tab α → Tab α
  | [] => [(k, v)]
  | (k', v') :: t => if k < k' then (k, v) :: (k', v') :: t else (k', v') :: tabIns k v t

/-- Remove every entry of a key. -/
def tabDel {α : Type} (k : Nat) : Tab α → Tab α
  | [] => []
  | (k', v') :: t => if k' = k then tabDel k t else (k', v') :: tabDel k t

/-- Write key `k`: an entry equal to what the unlisted key reads as is removed. -/
def tabSet {α : Type} [DecidableEq α] (d : Nat → α) (t : Tab α) (k : Nat) (v : α) : Tab α :=
  if v = d k then tabDel k t else tabIns k v (tabDel k t)

/-- The keys rise strictly from above `lo`. -/
def tabSorted {α : Type} : Option Nat → Tab α → Bool
  | _, [] => true
  | lo, (k, _) :: t =>
    (match lo with
     | none => true
     | some l => decide (l < k)) && tabSorted (some k) t

/-- The canonical form: rising keys, no entry equal to its default. -/
def tabWf {α : Type} [DecidableEq α] (d : Nat → α) (t : Tab α) : Bool :=
  tabSorted none t && t.all (fun kv => decide (kv.2 ≠ d kv.1))

/-- The access codes of R18. -/
inductive Acc where
  | rw | ro | w1c | w1s | wo | rwl | rt
  deriving DecidableEq, Repr

/-- One field of a register table: bits `[lo + w - 1 : lo]`, access, reset value. -/
structure FldRow where
  lo : Nat
  w : Nat
  acc : Acc
  rst : Nat
  deriving DecidableEq, Repr

/-- One row of a register table: the offset of register 0, how many follow it and at what stride, and its fields. -/
structure RegRow where
  off : Nat
  count : Nat
  stride : Nat
  fields : List FldRow
  deriving DecidableEq, Repr

/-- A field of a register of the block: the register's place and the field's bits. -/
structure Fld where
  reg : Nat
  lo : Nat
  w : Nat
  deriving DecidableEq, Repr

/-- The HPORT address of offset `o` (page times 0x1000 plus offset in the page) of quay `q` (R635). -/
def qyAddr (q o : Nat) : Nat := 0x100000 + q * 0x10000 + o

/-- The place of register `i` of the Bollard of physical tile `p`. It lies beyond the HPORT map, because the Bollard file is
reached only through quay page 3 (R87 to R90, R638). -/
def bolAddr (p i : Nat) : Nat := 0x100000000 + p * 32 + i

end Sys2Proof.Machine
end

