-- ==== Sys2Proof/Machine/RegTable.lean ====
section
/-!
DEFINITION. The register tables of the spec as data: for every register its place, and for every field its bits,
its access code (R18) and its reset value (R20), transcribed from the field tables of the chapters and the index of R647 and R656.
Below the tables one field constant per named field: a block's own registers are constants, a quay's take the quay number,
a Bollard's the physical tile, an indexed register its index.
-/

namespace Sys2Proof.Machine

/-- Harbourmaster page 0 (R647). -/
def hmPage0 : List RegRow :=
  [
   -- OC_CONFIG (R648)
   ⟨0x040, 1, 1, [⟨0, 16, .ro, 0x0⟩, ⟨16, 8, .ro, 0x0⟩, ⟨24, 2, .ro, 0x0⟩, ⟨26, 7, .ro, 0x0⟩, ⟨33, 3, .ro, 0x0⟩, ⟨36, 6, .ro, 0x0⟩]⟩,
   -- OC_PARAM (R649)
   ⟨0x048, 1, 1, [⟨0, 13, .ro, 0x0⟩, ⟨13, 2, .ro, 0x0⟩, ⟨15, 8, .ro, 0x0⟩, ⟨23, 8, .ro, 0x0⟩]⟩,
   -- OC_SECURE (R649)
   ⟨0x050, 1, 1, [⟨0, 64, .ro, 0x0⟩]⟩ ]

/-- Harbourmaster page 1 (R647). -/
def hmPage1 : List RegRow :=
  [
   -- HM_CMD_OP (R651)
   ⟨0x040, 1, 1, [⟨0, 8, .rw, 0x0⟩]⟩,
   -- HM_CMD_ARG (R651)
   ⟨0x048, 8, 8, [⟨0, 64, .rw, 0x0⟩]⟩,
   -- HM_CMD_GO (R651)
   ⟨0x088, 1, 1, [⟨0, 1, .wo, 0x0⟩]⟩,
   -- HM_CMD_STATUS (R651)
   ⟨0x090, 1, 1, [⟨0, 1, .ro, 0x0⟩, ⟨1, 4, .ro, 0x0⟩, ⟨5, 8, .ro, 0x0⟩, ⟨13, 32, .ro, 0x0⟩]⟩ ]

/-- Harbourmaster page 2 (R647). -/
def hmPage2 : List RegRow :=
  [
   -- HM_TIDE (R42)
   ⟨0x040, 1, 1, [⟨0, 14, .ro, 0x0⟩, ⟨14, 50, .ro, 0x0⟩]⟩,
   -- HM_TIME_CTL (R43)
   ⟨0x048, 1, 1, [⟨0, 2, .rwl, 0x1⟩, ⟨2, 1, .rw, 0x0⟩, ⟨3, 1, .rw, 0x0⟩, ⟨4, 1, .wo, 0x0⟩]⟩,
   -- HM_TIME_TPS (R44)
   ⟨0x050, 1, 1, [⟨0, 18, .rwl, 0x1E848⟩]⟩,
   -- HM_TIME_SEC_BASE (R45)
   ⟨0x058, 1, 1, [⟨0, 50, .ro, 0x0⟩]⟩,
   -- HM_TIME_PPS_CAPT (R46)
   ⟨0x060, 1, 1, [⟨0, 14, .ro, 0x0⟩, ⟨14, 50, .ro, 0x0⟩]⟩,
   -- HM_TIME_STAT (R47)
   ⟨0x068, 1, 1, [⟨0, 2, .ro, 0x0⟩, ⟨2, 1, .ro, 0x0⟩, ⟨8, 20, .ro, 0x0⟩, ⟨32, 16, .w1c, 0x0⟩]⟩,
   -- HM_TIME_SLEW (R48)
   ⟨0x070, 1, 1, [⟨0, 32, .ro, 0x0⟩, ⟨32, 32, .ro, 0x0⟩]⟩ ]

/-- Harbourmaster page 3 (R647). -/
def hmPage3 : List RegRow :=
  [
   -- HM_IRQ_STAT (R650)
   ⟨0x040, 1, 1, [⟨0, 1, .w1c, 0x0⟩, ⟨1, 1, .w1c, 0x0⟩, ⟨2, 1, .w1c, 0x0⟩, ⟨3, 1, .w1c, 0x0⟩, ⟨4, 1, .w1c, 0x0⟩, ⟨5, 1, .w1c, 0x0⟩, ⟨6, 1, .w1c, 0x0⟩, ⟨7, 1, .w1c, 0x0⟩, ⟨16, 1, .w1c, 0x0⟩, ⟨17, 1, .w1c, 0x0⟩, ⟨18, 1, .w1c, 0x0⟩, ⟨19, 1, .w1c, 0x0⟩, ⟨20, 1, .w1c, 0x0⟩, ⟨24, 4, .ro, 0x0⟩]⟩,
   -- HM_IRQ_MASK (R650)
   ⟨0x048, 1, 1, [⟨0, 1, .rw, 0x0⟩, ⟨1, 1, .rw, 0x0⟩, ⟨2, 1, .rw, 0x0⟩, ⟨3, 1, .rw, 0x0⟩, ⟨4, 1, .rw, 0x0⟩, ⟨5, 1, .rw, 0x0⟩, ⟨6, 1, .rw, 0x0⟩, ⟨7, 1, .rw, 0x0⟩, ⟨16, 1, .rw, 0x0⟩, ⟨17, 1, .rw, 0x0⟩, ⟨18, 1, .rw, 0x0⟩, ⟨19, 1, .rw, 0x0⟩, ⟨20, 1, .rw, 0x1⟩]⟩ ]

/-- Harbourmaster page 12 (R647). -/
def hmPage12 : List RegRow :=
  [
   -- HM_CUS_CTL (R204)
   ⟨0x040, 1, 1, [⟨0, 1, .rwl, 0x0⟩, ⟨1, 4, .rwl, 0xF⟩, ⟨5, 2, .rwl, 0x2⟩, ⟨7, 1, .rwl, 0x1⟩, ⟨8, 8, .rwl, 0x8⟩, ⟨16, 8, .rwl, 0x4⟩, ⟨24, 5, .rwl, 0x4⟩]⟩,
   -- HM_CUS_STAT (R205)
   ⟨0x048, 1, 1, [⟨0, 9, .ro, 0x0⟩, ⟨9, 4, .ro, 0x0⟩, ⟨13, 4, .ro, 0x0⟩, ⟨17, 4, .ro, 0x0⟩, ⟨21, 1, .ro, 0x0⟩]⟩,
   -- HM_CUS_QBASE (R206)
   ⟨0x050, 1, 1, [⟨0, 24, .rwl, 0x0⟩]⟩,
   -- HM_CUS_HARV_BASE (R206)
   ⟨0x058, 1, 1, [⟨0, 24, .rwl, 0x100000⟩, ⟨24, 6, .rwl, 0x10⟩]⟩,
   -- HM_CUS_HARV_WR (R207)
   ⟨0x060, 1, 1, [⟨0, 22, .ro, 0x0⟩, ⟨32, 32, .ro, 0x0⟩]⟩,
   -- HM_CUS_HARV_RD (R207)
   ⟨0x068, 1, 1, [⟨0, 22, .rw, 0x0⟩]⟩,
   -- HM_CUS_LAST (R208)
   ⟨0x070, 1, 1, [⟨0, 4, .ro, 0x0⟩, ⟨4, 4, .ro, 0x0⟩, ⟨8, 6, .ro, 0x0⟩, ⟨14, 9, .ro, 0x0⟩, ⟨23, 20, .ro, 0x0⟩, ⟨63, 1, .w1c, 0x0⟩]⟩,
   -- HM_CUS_CNT0 (R208)
   ⟨0x078, 1, 1, [⟨0, 16, .ro, 0x0⟩, ⟨16, 16, .ro, 0x0⟩, ⟨32, 16, .ro, 0x0⟩, ⟨48, 16, .ro, 0x0⟩]⟩,
   -- HM_CUS_CNT1 (R208)
   ⟨0x080, 1, 1, [⟨0, 16, .ro, 0x0⟩, ⟨16, 16, .ro, 0x0⟩, ⟨32, 16, .ro, 0x0⟩, ⟨48, 16, .ro, 0x0⟩]⟩,
   -- HM_CUS_UNIT (R209)
   ⟨0x088, 4, 8, [⟨0, 3, .ro, 0x0⟩, ⟨3, 1, .ro, 0x0⟩, ⟨4, 16, .ro, 0x0⟩, ⟨20, 32, .ro, 0x0⟩]⟩ ]

/-- Harbourmaster page 13 (R647). -/
def hmPage13 : List RegRow :=
  [
   -- HM_COMMIT_CTL (R248)
   ⟨0x040, 1, 1, [⟨0, 1, .rwl, 0x1⟩, ⟨1, 1, .rwl, 0x0⟩, ⟨2, 2, .rwl, 0x3⟩, ⟨4, 16, .rwl, 0x800⟩, ⟨20, 20, .rwl, 0x44C0⟩]⟩,
   -- HM_COMMIT_STAT (R249)
   ⟨0x048, 1, 1, [⟨0, 50, .ro, 0x0⟩, ⟨50, 3, .ro, 0x0⟩, ⟨53, 1, .ro, 0x0⟩, ⟨54, 1, .ro, 0x0⟩]⟩,
   -- HM_COMMIT_JT (R250)
   ⟨0x050, 1, 1, [⟨0, 50, .ro, 0x0⟩]⟩,
   -- HM_COMMIT_OFFSET (R250)
   ⟨0x058, 1, 1, [⟨0, 50, .ro, 0x0⟩]⟩,
   -- HM_COMMIT_RECALL (R251)
   ⟨0x060, 1, 1, [⟨0, 50, .ro, 0x0⟩, ⟨50, 4, .ro, 0x0⟩, ⟨54, 2, .ro, 0x0⟩, ⟨56, 2, .ro, 0x0⟩]⟩,
   -- HM_COMMIT_SRC (R252)
   ⟨0x068, 1, 1, [⟨0, 2, .ro, 0x0⟩, ⟨2, 6, .ro, 0x0⟩, ⟨8, 14, .ro, 0x0⟩, ⟨22, 16, .ro, 0x0⟩]⟩,
   -- HM_COMMIT_RESTART (R253)
   ⟨0x070, 1, 1, [⟨0, 50, .ro, 0x0⟩]⟩,
   -- HM_COMMIT_CNT (R253)
   ⟨0x078, 1, 1, [⟨0, 32, .ro, 0x0⟩, ⟨32, 16, .ro, 0x0⟩, ⟨48, 16, .ro, 0x0⟩]⟩,
   -- HM_COMMIT_OP (R254)
   ⟨0x080, 1, 1, [⟨0, 1, .wo, 0x0⟩, ⟨1, 1, .wo, 0x0⟩, ⟨2, 1, .wo, 0x0⟩, ⟨3, 1, .wo, 0x0⟩, ⟨4, 1, .ro, 0x0⟩, ⟨5, 3, .ro, 0x0⟩, ⟨8, 1, .w1c, 0x0⟩]⟩,
   -- HM_SUSPECT_FIRST (R255)
   ⟨0x088, 1, 1, [⟨0, 50, .ro, 0x0⟩]⟩,
   -- HM_SUSPECT_LAST (R255)
   ⟨0x090, 1, 1, [⟨0, 50, .ro, 0x0⟩]⟩,
   -- HM_SUSPECT_INFO (R255)
   ⟨0x098, 1, 1, [⟨0, 20, .ro, 0x0⟩, ⟨20, 20, .ro, 0x0⟩, ⟨40, 3, .ro, 0x0⟩, ⟨63, 1, .w1c, 0x0⟩]⟩ ]

/-- Harbourmaster page 14 (R647). -/
def hmPage14 : List RegRow :=
  [
   -- HM_HEALTH_CTL (R288)
   ⟨0x040, 1, 1, [⟨0, 1, .rwl, 0x0⟩, ⟨1, 1, .rwl, 0x1⟩, ⟨2, 1, .rwl, 0x1⟩, ⟨3, 8, .rwl, 0x40⟩, ⟨11, 8, .rwl, 0x4⟩, ⟨19, 10, .rwl, 0x100⟩, ⟨29, 2, .rwl, 0x2⟩, ⟨31, 8, .rwl, 0x10⟩, ⟨39, 12, .rwl, 0x100⟩, ⟨51, 4, .rwl, 0x4⟩]⟩,
   -- HM_HEALTH_MARGIN (R289)
   ⟨0x048, 1, 1, [⟨0, 2, .rwl, 0x2⟩, ⟨2, 12, .rwl, 0x2EE⟩, ⟨14, 3, .rwl, 0x3⟩]⟩,
   -- HM_MANIFEST_BASE (R290)
   ⟨0x050, 1, 1, [⟨0, 24, .rwl, 0x400000⟩, ⟨24, 24, .rwl, 0x800000⟩]⟩,
   -- HM_DEFECT_BASE (R290)
   ⟨0x058, 1, 1, [⟨0, 24, .rwl, 0xC00000⟩, ⟨24, 17, .rwl, 0x10000⟩]⟩,
   -- HM_DEFECT_CNT (R290)
   ⟨0x060, 1, 1, [⟨0, 17, .rwl, 0x0⟩, ⟨17, 17, .ro, 0x0⟩, ⟨34, 1, .ro, 0x0⟩]⟩,
   -- HM_MAP_CTL (R290)
   ⟨0x068, 1, 1, [⟨0, 13, .rwl, 0x1130⟩]⟩,
   -- HM_SPARE_STAT (R291)
   ⟨0x070, 1, 1, [⟨0, 20, .ro, 0x0⟩, ⟨20, 20, .ro, 0x0⟩, ⟨40, 7, .ro, 0x0⟩, ⟨47, 16, .ro, 0x0⟩, ⟨63, 1, .ro, 0x0⟩]⟩,
   -- HM_HEALTH_OP (R292)
   ⟨0x078, 1, 1, [⟨0, 20, .rw, 0x0⟩, ⟨20, 2, .rw, 0x0⟩, ⟨22, 1, .wo, 0x0⟩, ⟨23, 1, .ro, 0x0⟩, ⟨24, 1, .w1c, 0x0⟩]⟩,
   -- HM_HEALTH_CNT (R291)
   ⟨0x080, 1, 1, [⟨0, 16, .ro, 0x0⟩, ⟨16, 16, .ro, 0x0⟩, ⟨32, 16, .ro, 0x0⟩, ⟨48, 16, .ro, 0x0⟩]⟩ ]

/-- Harbourmaster page 15 (R647). -/
def hmPage15 : List RegRow :=
  [
   -- HM_TEST_CTL (R332)
   ⟨0x040, 1, 1, [⟨0, 1, .rwl, 0x0⟩, ⟨1, 8, .rwl, 0x78⟩, ⟨9, 5, .rwl, 0x10⟩, ⟨14, 3, .rwl, 0x3⟩, ⟨17, 2, .rwl, 0x2⟩, ⟨19, 2, .rwl, 0x2⟩, ⟨21, 1, .rwl, 0x1⟩, ⟨22, 1, .rwl, 0x1⟩, ⟨23, 17, .rwl, 0x1000⟩]⟩,
   -- HM_TEST_STAT (R333)
   ⟨0x048, 1, 1, [⟨0, 10, .ro, 0x0⟩, ⟨10, 16, .ro, 0x0⟩, ⟨26, 16, .ro, 0x0⟩, ⟨42, 1, .ro, 0x0⟩]⟩,
   -- HM_TEST_RES_BASE (R333)
   ⟨0x050, 1, 1, [⟨0, 24, .rwl, 0x200000⟩, ⟨24, 6, .rwl, 0x8⟩]⟩,
   -- HM_TEST_RES_WR (R333)
   ⟨0x058, 1, 1, [⟨0, 22, .ro, 0x0⟩]⟩,
   -- HM_TEST_RES_RD (R333)
   ⟨0x060, 1, 1, [⟨0, 22, .rw, 0x0⟩]⟩,
   -- HM_TEST_CNT0 (R334)
   ⟨0x068, 1, 1, [⟨0, 32, .ro, 0x0⟩, ⟨32, 16, .ro, 0x0⟩, ⟨48, 16, .ro, 0x0⟩]⟩,
   -- HM_TEST_CNT1 (R334)
   ⟨0x070, 1, 1, [⟨0, 16, .ro, 0x0⟩, ⟨16, 16, .ro, 0x0⟩, ⟨32, 16, .ro, 0x0⟩]⟩,
   -- HM_TEST_OP (R335)
   ⟨0x078, 1, 1, [⟨0, 20, .rw, 0x0⟩, ⟨20, 2, .rw, 0x0⟩, ⟨22, 1, .wo, 0x0⟩, ⟨23, 1, .ro, 0x0⟩, ⟨24, 1, .w1c, 0x0⟩]⟩,
   -- HM_TEST_LIB (R336)
   ⟨0x080, 1, 1, [⟨0, 32, .ro, 0x0⟩, ⟨32, 32, .ro, 0x0⟩]⟩,
   -- HM_TEST_LIB1 (R336)
   ⟨0x088, 1, 1, [⟨0, 24, .ro, 0x0⟩, ⟨24, 16, .ro, 0x0⟩]⟩ ]

/-- Harbourmaster page 16 (R647). -/
def hmPage16 : List RegRow :=
  [
   -- HM_XSPI_ADDR (R337)
   ⟨0x040, 1, 1, [⟨0, 32, .rw, 0x0⟩]⟩,
   -- HM_XSPI_SRC (R337)
   ⟨0x048, 1, 1, [⟨0, 24, .rw, 0x300000⟩, ⟨24, 21, .rw, 0x0⟩]⟩,
   -- HM_XSPI_OP (R337)
   ⟨0x050, 1, 1, [⟨0, 2, .rw, 0x0⟩, ⟨2, 1, .wo, 0x0⟩, ⟨3, 1, .ro, 0x0⟩, ⟨4, 3, .ro, 0x0⟩, ⟨32, 32, .ro, 0x0⟩]⟩,
   -- HM_XSPI_TEMP (R337)
   ⟨0x058, 1, 1, [⟨0, 16, .ro, 0x0⟩, ⟨16, 1, .ro, 0x0⟩]⟩,
   -- HM_XSPI_SEG (R337)
   ⟨0x060, 1, 1, [⟨0, 16, .ro, 0x0⟩, ⟨16, 16, .ro, 0x0⟩]⟩ ]

/-- Harbourmaster page 17 (R647). -/
def hmPage17 : List RegRow :=
  [
   -- HM_HAWSER_CTL (R430)
   ⟨0x040, 1, 1, [⟨0, 1, .rwl, 0x0⟩, ⟨1, 4, .rwl, 0x8⟩, ⟨5, 4, .rwl, 0xC⟩, ⟨9, 1, .rwl, 0x1⟩]⟩,
   -- HM_HAWSER_STAT (R431)
   ⟨0x048, 1, 1, [⟨0, 8, .ro, 0x0⟩, ⟨8, 5, .ro, 0x0⟩, ⟨13, 7, .ro, 0x0⟩, ⟨20, 7, .ro, 0x0⟩]⟩,
   -- HM_HAWSER_CNT (R432)
   ⟨0x050, 8, 8, [⟨0, 48, .ro, 0x0⟩, ⟨48, 16, .ro, 0x0⟩]⟩,
   -- HM_HAWSER_GTAB (R433)
   ⟨0x090, 1, 1, [⟨0, 24, .rwl, 0x4000⟩]⟩,
   -- HM_HAWSER_XCTL (R434)
   ⟨0x098, 1, 1, [⟨0, 8, .rwl, 0x0⟩, ⟨8, 4, .rwl, 0x0⟩, ⟨12, 5, .rwl, 0x1⟩, ⟨17, 1, .wo, 0x0⟩]⟩,
   -- HM_HAWSER_XCAL (R434)
   ⟨0x0A0, 1, 1, [⟨0, 12, .ro, 0x0⟩, ⟨12, 12, .ro, 0x0⟩, ⟨24, 12, .ro, 0x0⟩, ⟨36, 2, .ro, 0x0⟩, ⟨38, 12, .ro, 0x0⟩]⟩ ]

/-- Harbourmaster page 18 (R647). -/
def hmPage18 : List RegRow :=
  [
   -- HM_PWR_CTL (R476)
   ⟨0x040, 1, 1, [⟨0, 1, .rwl, 0x0⟩, ⟨1, 1, .rwl, 0x0⟩, ⟨2, 16, .rwl, 0x7D00⟩, ⟨18, 12, .rwl, 0x3E8⟩, ⟨30, 6, .rwl, 0x1E⟩, ⟨36, 4, .rwl, 0x4⟩]⟩,
   -- HM_PWR_CAL (R476)
   ⟨0x048, 1, 1, [⟨0, 24, .rwl, 0x0⟩]⟩,
   -- HM_PWR_BUS (R477)
   ⟨0x050, 1, 1, [⟨0, 16, .ro, 0x0⟩, ⟨16, 16, .ro, 0x0⟩, ⟨32, 16, .ro, 0x0⟩, ⟨48, 1, .ro, 0x0⟩, ⟨49, 1, .ro, 0x0⟩, ⟨50, 1, .ro, 0x0⟩, ⟨51, 1, .ro, 0x0⟩]⟩,
   -- HM_PWR_STAT (R477)
   ⟨0x058, 1, 1, [⟨0, 4, .ro, 0x0⟩, ⟨4, 6, .ro, 0x0⟩, ⟨10, 1, .ro, 0x0⟩]⟩,
   -- HM_PWR_AIN (R478)
   ⟨0x060, 16, 8, [⟨0, 14, .ro, 0x0⟩, ⟨16, 14, .rw, 0x0⟩, ⟨32, 14, .rw, 0x3FFF⟩, ⟨48, 1, .w1c, 0x0⟩, ⟨49, 1, .w1c, 0x0⟩]⟩,
   -- HM_PWR_CNT (R477)
   ⟨0x0E0, 1, 1, [⟨0, 16, .ro, 0x0⟩, ⟨16, 16, .ro, 0x0⟩, ⟨32, 16, .ro, 0x0⟩, ⟨48, 16, .ro, 0x0⟩]⟩ ]

/-- Harbourmaster page 19 (R647). -/
def hmPage19 : List RegRow :=
  [
   -- HM_THERM_CTL (R479)
   ⟨0x040, 1, 1, [⟨0, 1, .rwl, 0x0⟩, ⟨1, 8, .rwl, 0x5F⟩, ⟨9, 8, .rwl, 0x64⟩, ⟨17, 8, .rwl, 0x6E⟩, ⟨25, 4, .rwl, 0x3⟩, ⟨29, 8, .rwl, 0x8⟩, ⟨37, 4, .rwl, 0x4⟩, ⟨41, 4, .rwl, 0x8⟩]⟩,
   -- HM_THERM_XCFG (R480)
   ⟨0x048, 24, 8, [⟨0, 1, .rwl, 0x0⟩, ⟨1, 1, .rwl, 0x0⟩, ⟨2, 2, .rwl, 0x0⟩, ⟨4, 6, .rwl, 0x0⟩, ⟨10, 8, .rwl, 0x5F⟩, ⟨18, 8, .rwl, 0x64⟩, ⟨26, 8, .rwl, 0x6E⟩, ⟨34, 12, .rwl, 0x0⟩, ⟨46, 18, .rwl, 0x0⟩]⟩,
   -- HM_THERM_VAL (R481)
   ⟨0x108, 88, 8, [⟨0, 16, .ro, 0x0⟩, ⟨16, 16, .ro, 0x0⟩, ⟨32, 1, .ro, 0x0⟩, ⟨33, 1, .ro, 0x0⟩, ⟨34, 1, .ro, 0x0⟩, ⟨35, 1, .ro, 0x0⟩, ⟨36, 1, .ro, 0x0⟩]⟩,
   -- HM_THERM_STAT (R481)
   ⟨0x3C8, 1, 1, [⟨0, 7, .ro, 0x0⟩, ⟨7, 16, .ro, 0x0⟩, ⟨23, 1, .ro, 0x0⟩, ⟨24, 8, .ro, 0x0⟩, ⟨32, 32, .ro, 0x0⟩]⟩ ]

/-- Harbourmaster page 20 (R647). -/
def hmPage20 : List RegRow :=
  [
   -- HM_FAULT_CTL (R508)
   ⟨0x040, 1, 1, [⟨0, 1, .rw, 0x0⟩, ⟨1, 1, .rw, 0x0⟩, ⟨2, 1, .rw, 0x1⟩]⟩,
   -- HM_FAULT_SUM (R509)
   ⟨0x048, 1, 1, [⟨0, 64, .ro, 0x0⟩]⟩,
   -- HM_FAULT_SRC (R509)
   ⟨0x050, 1, 1, [⟨0, 8, .ro, 0x0⟩, ⟨8, 6, .ro, 0x0⟩, ⟨14, 14, .ro, 0x0⟩, ⟨28, 5, .ro, 0x0⟩, ⟨33, 1, .ro, 0x0⟩, ⟨34, 29, .ro, 0x0⟩, ⟨63, 1, .w1c, 0x0⟩]⟩,
   -- HM_FAULT_ALARM (R510)
   ⟨0x058, 1, 1, [⟨0, 6, .ro, 0x0⟩, ⟨6, 6, .ro, 0x0⟩, ⟨12, 1, .ro, 0x0⟩]⟩,
   -- HM_FAULT_ACK (R510)
   ⟨0x060, 1, 1, [⟨0, 6, .w1s, 0x0⟩]⟩,
   -- HM_FAULT_OP (R510)
   ⟨0x068, 1, 1, [⟨0, 6, .rw, 0x0⟩, ⟨6, 1, .wo, 0x0⟩, ⟨7, 1, .wo, 0x0⟩]⟩,
   -- HM_FAULT_CNT0 (R511)
   ⟨0x070, 1, 1, [⟨0, 24, .ro, 0x0⟩, ⟨24, 16, .ro, 0x0⟩, ⟨40, 16, .ro, 0x0⟩, ⟨56, 8, .ro, 0x0⟩]⟩ ]

/-- Harbourmaster page 21 (R647). -/
def hmPage21 : List RegRow :=
  [
   -- HM_RST_CTL (R537)
   ⟨0x040, 1, 1, [⟨0, 1, .rwl, 0x1⟩, ⟨1, 1, .rwl, 0x1⟩, ⟨2, 1, .rwl, 0x1⟩, ⟨3, 1, .rw, 0x1⟩, ⟨4, 20, .rwl, 0x2AF8⟩]⟩,
   -- HM_RST_STAT (R538)
   ⟨0x048, 1, 1, [⟨0, 1, .ro, 0x0⟩, ⟨1, 3, .ro, 0x0⟩, ⟨4, 3, .ro, 0x0⟩, ⟨7, 3, .ro, 0x0⟩, ⟨10, 2, .ro, 0x0⟩]⟩,
   -- HM_RST_OP (R539)
   ⟨0x050, 1, 1, [⟨0, 3, .rw, 0x0⟩, ⟨3, 1, .wo, 0x0⟩, ⟨4, 1, .ro, 0x0⟩, ⟨5, 1, .w1c, 0x0⟩]⟩,
   -- HM_RST_ARG (R539)
   ⟨0x058, 1, 1, [⟨0, 20, .rw, 0x0⟩, ⟨20, 6, .rw, 0x0⟩, ⟨26, 7, .rw, 0x0⟩, ⟨33, 7, .rw, 0x0⟩, ⟨40, 7, .rw, 0x0⟩, ⟨47, 7, .rw, 0x0⟩, ⟨54, 2, .rw, 0x0⟩, ⟨56, 1, .rw, 0x0⟩]⟩,
   -- HM_RST_DUMP (R540)
   ⟨0x060, 1, 1, [⟨0, 24, .rwl, 0xE00000⟩, ⟨24, 1, .w1c, 0x0⟩, ⟨25, 3, .ro, 0x0⟩, ⟨28, 1, .ro, 0x0⟩, ⟨29, 22, .ro, 0x0⟩]⟩,
   -- HM_RST_IMG (R540)
   ⟨0x068, 1, 1, [⟨0, 24, .rw, 0x0⟩, ⟨24, 21, .rw, 0x0⟩]⟩,
   -- HM_RST_NOTE_BASE (R541)
   ⟨0x070, 1, 1, [⟨0, 24, .rwl, 0x280000⟩, ⟨24, 6, .rwl, 0x1⟩]⟩,
   -- HM_RST_NOTE_WR (R541)
   ⟨0x078, 1, 1, [⟨0, 22, .ro, 0x0⟩]⟩,
   -- HM_RST_NOTE_RD (R541)
   ⟨0x080, 1, 1, [⟨0, 22, .rw, 0x0⟩]⟩,
   -- HM_RST_ESC (R541)
   ⟨0x088, 1, 1, [⟨0, 14, .ro, 0x0⟩, ⟨14, 16, .ro, 0x0⟩, ⟨30, 16, .ro, 0x0⟩, ⟨46, 8, .ro, 0x0⟩]⟩,
   -- HM_RST_CNT (R541)
   ⟨0x090, 1, 1, [⟨0, 24, .ro, 0x0⟩, ⟨24, 12, .ro, 0x0⟩, ⟨36, 8, .ro, 0x0⟩, ⟨44, 8, .ro, 0x0⟩, ⟨52, 12, .ro, 0x0⟩]⟩,
   -- HM_RST_KICK (R540)
   ⟨0x098, 1, 1, [⟨0, 1, .wo, 0x0⟩]⟩ ]

/-- Harbourmaster page 22 (R647). -/
def hmPage22 : List RegRow :=
  [
   -- HM_LOG_CTL (R574)
   ⟨0x040, 1, 1, [⟨0, 1, .rwl, 0x1⟩, ⟨1, 1, .wo, 0x0⟩, ⟨2, 1, .wo, 0x0⟩, ⟨3, 20, .rw, 0x800⟩]⟩,
   -- HM_LOG_WSEQ (R575)
   ⟨0x048, 1, 1, [⟨0, 64, .ro, 0x0⟩]⟩,
   -- HM_LOG_FSEQ (R575)
   ⟨0x050, 1, 1, [⟨0, 64, .ro, 0x0⟩]⟩,
   -- HM_LOG_RMARK (R575)
   ⟨0x058, 1, 1, [⟨0, 64, .rw, 0x0⟩]⟩,
   -- HM_LOG_RSEL (R575)
   ⟨0x060, 1, 1, [⟨0, 64, .rw, 0x0⟩]⟩,
   -- HM_LOG_RSTAT (R575)
   ⟨0x068, 1, 1, [⟨0, 3, .ro, 0x0⟩]⟩,
   -- HM_LOG_RDATA (R575)
   ⟨0x070, 4, 8, [⟨0, 64, .ro, 0x0⟩]⟩,
   -- HM_LOG_STAT (R576)
   ⟨0x090, 1, 1, [⟨0, 3, .ro, 0x0⟩, ⟨3, 8, .ro, 0x0⟩, ⟨11, 1, .ro, 0x0⟩, ⟨12, 8, .ro, 0x0⟩]⟩,
   -- HM_LOG_CNT (R576)
   ⟨0x098, 1, 1, [⟨0, 32, .ro, 0x0⟩, ⟨32, 16, .ro, 0x0⟩, ⟨48, 16, .ro, 0x0⟩]⟩,
   -- HM_LOG_NONCE0 (R577)
   ⟨0x0A0, 1, 1, [⟨0, 64, .ro, 0x0⟩]⟩,
   -- HM_LOG_NONCE1 (R577)
   ⟨0x0A8, 1, 1, [⟨0, 64, .ro, 0x0⟩]⟩,
   -- HM_LOG_CLR_FIRST (R577)
   ⟨0x0B0, 1, 1, [⟨0, 64, .rw, 0x0⟩]⟩,
   -- HM_LOG_CLR_LAST (R577)
   ⟨0x0B8, 1, 1, [⟨0, 64, .rw, 0x0⟩]⟩,
   -- HM_LOG_TOKEN (R577)
   ⟨0x0C0, 4, 8, [⟨0, 64, .wo, 0x0⟩]⟩,
   -- HM_LOG_CLR (R577)
   ⟨0x0E0, 1, 1, [⟨0, 1, .wo, 0x0⟩, ⟨1, 1, .ro, 0x0⟩, ⟨2, 3, .ro, 0x0⟩, ⟨5, 32, .ro, 0x0⟩]⟩,
   -- HM_LOG_PORT (R578)
   ⟨0x0E8, 1, 1, [⟨0, 8, .rwl, 0x6⟩, ⟨8, 8, .rwl, 0x32⟩, ⟨16, 8, .rwl, 0x6B⟩, ⟨24, 4, .rwl, 0x8⟩, ⟨28, 1, .rwl, 0x1⟩, ⟨29, 3, .rwl, 0x0⟩]⟩,
   -- HM_LOG_STORE (R578)
   ⟨0x0F0, 1, 1, [⟨0, 8, .rwl, 0x60⟩]⟩ ]

/-- Harbourmaster page 23 (R647). -/
def hmPage23 : List RegRow :=
  [
   -- HM_KEY_SEL (R579)
   ⟨0x040, 1, 1, [⟨0, 3, .rw, 0x0⟩, ⟨4, 12, .rw, 0x0⟩]⟩,
   -- HM_KEY_DATA (R579)
   ⟨0x048, 4, 8, [⟨0, 64, .wo, 0x0⟩]⟩,
   -- HM_KEY_OP (R579)
   ⟨0x068, 1, 1, [⟨0, 1, .wo, 0x0⟩, ⟨1, 1, .wo, 0x0⟩, ⟨2, 1, .ro, 0x0⟩, ⟨3, 1, .w1c, 0x0⟩]⟩,
   -- HM_KEY_STAT (R579)
   ⟨0x070, 1, 1, [⟨0, 5, .ro, 0x0⟩, ⟨5, 5, .ro, 0x0⟩, ⟨10, 5, .w1c, 0x0⟩]⟩,
   -- HM_KEY_ID (R579)
   ⟨0x078, 1, 1, [⟨0, 60, .ro, 0x0⟩]⟩ ]

/-- Harbourmaster page 24 (R647). -/
def hmPage24 : List RegRow :=
  [
   -- HM_TRIPLEX_STAT (R608)
   ⟨0x040, 1, 1, [⟨0, 3, .ro, 0x0⟩, ⟨3, 3, .ro, 0x0⟩, ⟨6, 9, .ro, 0x0⟩, ⟨15, 3, .ro, 0x0⟩, ⟨18, 1, .ro, 0x0⟩, ⟨19, 1, .ro, 0x0⟩]⟩,
   -- HM_TRIPLEX_IMG (R609)
   ⟨0x048, 1, 1, [⟨0, 24, .rw, 0x0⟩, ⟨24, 21, .rw, 0x0⟩]⟩,
   -- HM_TRIPLEX_OP (R609)
   ⟨0x050, 1, 1, [⟨0, 4, .rw, 0x0⟩, ⟨4, 1, .wo, 0x0⟩, ⟨5, 1, .ro, 0x0⟩, ⟨6, 4, .ro, 0x0⟩, ⟨10, 1, .w1c, 0x0⟩]⟩,
   -- HM_TRIPLEX_VER (R610)
   ⟨0x058, 1, 1, [⟨0, 16, .ro, 0x0⟩, ⟨16, 16, .ro, 0x0⟩, ⟨32, 16, .ro, 0x0⟩]⟩,
   -- HM_TRIPLEX_ID (R610)
   ⟨0x060, 1, 1, [⟨0, 4, .rwl, 0x0⟩, ⟨4, 32, .rwl, 0x0⟩]⟩,
   -- HM_TRIPLEX_HINT (R611)
   ⟨0x068, 1, 1, [⟨0, 6, .rw, 0x0⟩, ⟨6, 1, .rw, 0x0⟩, ⟨7, 12, .rw, 0x0⟩, ⟨19, 1, .rw, 0x0⟩, ⟨20, 6, .ro, 0x0⟩, ⟨26, 2, .ro, 0x0⟩, ⟨28, 1, .ro, 0x0⟩]⟩,
   -- HM_TRIPLEX_OPENCHK (R612)
   ⟨0x070, 1, 1, [⟨0, 6, .ro, 0x0⟩, ⟨6, 1, .ro, 0x0⟩, ⟨7, 6, .ro, 0x0⟩, ⟨13, 12, .ro, 0x0⟩, ⟨25, 1, .w1c, 0x0⟩]⟩,
   -- HM_TRIPLEX_OPEN (R612)
   ⟨0x078, 1, 1, [⟨0, 50, .ro, 0x0⟩]⟩,
   -- HM_TRIPLEX_STEST (R612)
   ⟨0x080, 1, 1, [⟨0, 20, .ro, 0x0⟩, ⟨20, 16, .ro, 0x0⟩, ⟨36, 6, .ro, 0x0⟩, ⟨42, 16, .ro, 0x0⟩]⟩ ]

/-- Harbourmaster page 25 (R647). -/
def hmPage25 : List RegRow :=
  [
   -- HM_DET_PLAN (R631)
   ⟨0x040, 1, 1, [⟨0, 32, .rwl, 0x0⟩, ⟨32, 32, .rwl, 0x0⟩]⟩,
   -- HM_DET_DIGEST (R631)
   ⟨0x048, 1, 1, [⟨0, 64, .ro, 0x0⟩]⟩,
   -- HM_LOCKSTEP_CTL (R632)
   ⟨0x050, 1, 1, [⟨0, 1, .rwl, 0x0⟩, ⟨1, 4, .rwl, 0x0⟩, ⟨5, 3, .rwl, 0x0⟩, ⟨8, 3, .rwl, 0x0⟩, ⟨11, 1, .wo, 0x0⟩, ⟨12, 1, .wo, 0x0⟩, ⟨13, 1, .rwl, 0x0⟩, ⟨14, 10, .rwl, 0x40⟩]⟩,
   -- HM_LOCKSTEP_STAT (R633)
   ⟨0x058, 1, 1, [⟨0, 3, .ro, 0x0⟩, ⟨3, 3, .ro, 0x0⟩, ⟨6, 1, .ro, 0x0⟩, ⟨7, 32, .ro, 0x0⟩]⟩,
   -- HM_LOCKSTEP_DIV (R633)
   ⟨0x060, 1, 1, [⟨0, 32, .ro, 0x0⟩, ⟨32, 6, .ro, 0x0⟩, ⟨38, 7, .ro, 0x0⟩, ⟨45, 1, .ro, 0x0⟩, ⟨63, 1, .w1c, 0x0⟩]⟩,
   -- HM_LOCKSTEP_QAREA (R633)
   ⟨0x068, 1, 1, [⟨0, 24, .rwl, 0x0⟩]⟩,
   -- HM_LOCKSTEP_CNT (R633)
   ⟨0x070, 1, 1, [⟨0, 48, .ro, 0x0⟩, ⟨48, 16, .ro, 0x0⟩]⟩,
   -- HM_WIN_CFG (R634)
   ⟨0x100, 8, 16, [⟨0, 24, .rw, 0x0⟩, ⟨24, 18, .rw, 0x0⟩, ⟨42, 1, .rw, 0x0⟩, ⟨43, 1, .rw, 0x1⟩, ⟨44, 2, .rw, 0x0⟩, ⟨46, 1, .rw, 0x0⟩, ⟨47, 16, .rw, 0x0⟩]⟩,
   -- HM_WIN_STAT (R634)
   ⟨0x108, 8, 16, [⟨0, 32, .ro, 0x0⟩, ⟨32, 16, .ro, 0x0⟩, ⟨48, 12, .ro, 0x0⟩, ⟨60, 3, .ro, 0x0⟩]⟩ ]

/-- Quay page 0 (R656). -/
def qyPage0 : List RegRow :=
  [
   -- QY_INFO (R657)
   ⟨0x040, 1, 1, [⟨0, 6, .ro, 0x0⟩, ⟨6, 6, .ro, 0x0⟩, ⟨12, 1, .ro, 0x0⟩, ⟨13, 7, .ro, 0x0⟩, ⟨20, 8, .ro, 0x0⟩, ⟨28, 10, .ro, 0x0⟩, ⟨38, 10, .ro, 0x0⟩]⟩,
   -- QY_TIDE (R657)
   ⟨0x048, 1, 1, [⟨0, 14, .ro, 0x0⟩, ⟨14, 50, .ro, 0x0⟩]⟩,
   -- QY_JT (R657)
   ⟨0x050, 1, 1, [⟨0, 50, .ro, 0x0⟩]⟩ ]

/-- Quay page 2 (R656). -/
def qyPage2 : List RegRow :=
  [
   -- QY_RST_WDOG (R542)
   ⟨0x040, 1, 1, [⟨0, 1, .wo, 0x0⟩, ⟨1, 3, .ro, 0x0⟩, ⟨4, 2, .ro, 0x0⟩, ⟨6, 7, .ro, 0x0⟩, ⟨13, 8, .ro, 0x0⟩]⟩,
   -- QY_RST_STAT (R542)
   ⟨0x048, 1, 1, [⟨0, 3, .ro, 0x0⟩, ⟨3, 1, .ro, 0x0⟩, ⟨4, 1, .ro, 0x0⟩, ⟨5, 2, .ro, 0x0⟩]⟩,
   -- QY_RST_CNT (R542)
   ⟨0x050, 1, 1, [⟨0, 32, .ro, 0x0⟩, ⟨32, 16, .ro, 0x0⟩, ⟨48, 16, .ro, 0x0⟩]⟩ ]

/-- Quay page 3 (R656). -/
def qyPage3 : List RegRow :=
  [
   -- QY_BOL_SEL (R88)
   ⟨0x040, 1, 1, [⟨0, 14, .rw, 0x0⟩, ⟨14, 5, .rw, 0x0⟩, ⟨19, 1, .rw, 0x0⟩, ⟨62, 1, .ro, 0x0⟩, ⟨63, 1, .ro, 0x0⟩]⟩,
   -- QY_BOL_DATA (R89)
   ⟨0x048, 1, 1, [⟨0, 64, .rw, 0x0⟩]⟩ ]

/-- Quay page 4 (R656). -/
def qyPage4 : List RegRow :=
  [
   -- QY_CSUM_CTL (R132)
   ⟨0x040, 1, 1, [⟨0, 16, .rwl, 0x1⟩, ⟨16, 1, .rwl, 0x1⟩, ⟨17, 1, .rw, 0x1⟩]⟩,
   -- QY_CSUM_TOL_F (R133)
   ⟨0x048, 8, 8, [⟨0, 8, .rwl, 0x0⟩, ⟨8, 1, .rwl, 0x0⟩, ⟨9, 1, .rwl, 0x0⟩]⟩,
   -- QY_CSUM_CAPT_DESC (R134)
   ⟨0x088, 1, 1, [⟨0, 64, .ro, 0x0⟩]⟩,
   -- QY_CSUM_CAPT_ID (R135)
   ⟨0x090, 1, 1, [⟨0, 14, .ro, 0x0⟩, ⟨14, 8, .ro, 0x0⟩, ⟨22, 16, .ro, 0x0⟩, ⟨38, 1, .ro, 0x0⟩]⟩,
   -- QY_CSUM_CAPT_TICK (R136)
   ⟨0x098, 1, 1, [⟨0, 50, .ro, 0x0⟩, ⟨50, 12, .ro, 0x0⟩, ⟨63, 1, .w1c, 0x0⟩]⟩,
   -- QY_CSUM_CAPT_RESID (R137)
   ⟨0x0A0, 1, 1, [⟨0, 64, .ro, 0x0⟩]⟩,
   -- QY_CSUM_CAPT_TAU (R137)
   ⟨0x0A8, 1, 1, [⟨0, 64, .ro, 0x0⟩]⟩,
   -- QY_CSUM_CAPT_MAG (R137)
   ⟨0x0B0, 1, 1, [⟨0, 64, .ro, 0x0⟩]⟩,
   -- QY_CSUM_CNT (R138)
   ⟨0x0B8, 1, 1, [⟨0, 32, .ro, 0x0⟩, ⟨32, 32, .ro, 0x0⟩]⟩ ]

/-- Quay page 5 (R656). -/
def qyPage5 : List RegRow :=
  [
   -- QY_PILOT_CTL (R173)
   ⟨0x040, 1, 1, [⟨0, 1, .rwl, 0x0⟩, ⟨1, 10, .rwl, 0x10⟩, ⟨11, 10, .rwl, 0x40⟩, ⟨21, 10, .rwl, 0x80⟩, ⟨31, 4, .rwl, 0x0⟩, ⟨35, 6, .rwl, 0x2⟩, ⟨41, 8, .rwl, 0x10⟩, ⟨49, 2, .rwl, 0x2⟩]⟩,
   -- QY_PILOT_SEED (R174)
   ⟨0x048, 1, 1, [⟨0, 64, .rwl, 0x0⟩]⟩,
   -- QY_PILOT_BW (R175)
   ⟨0x050, 1, 1, [⟨0, 32, .rwl, 0x1EB01⟩, ⟨32, 32, .ro, 0x0⟩]⟩,
   -- QY_PILOT_BASE (R176)
   ⟨0x058, 1, 1, [⟨0, 24, .rwl, 0x0⟩, ⟨24, 24, .rwl, 0x0⟩, ⟨48, 8, .rwl, 0x0⟩, ⟨56, 1, .rwl, 0x0⟩]⟩,
   -- QY_PILOT_STAT (R177)
   ⟨0x060, 1, 1, [⟨0, 10, .ro, 0x0⟩, ⟨10, 9, .ro, 0x0⟩, ⟨19, 9, .ro, 0x0⟩, ⟨28, 10, .ro, 0x0⟩, ⟨38, 7, .ro, 0x0⟩, ⟨45, 7, .ro, 0x0⟩, ⟨52, 1, .ro, 0x0⟩, ⟨53, 1, .ro, 0x0⟩]⟩,
   -- QY_PILOT_CNT0 (R178)
   ⟨0x068, 1, 1, [⟨0, 32, .ro, 0x0⟩, ⟨32, 32, .ro, 0x0⟩]⟩,
   -- QY_PILOT_CNT1 (R178)
   ⟨0x070, 1, 1, [⟨0, 16, .ro, 0x0⟩, ⟨16, 16, .ro, 0x0⟩, ⟨32, 16, .ro, 0x0⟩, ⟨48, 16, .ro, 0x0⟩]⟩,
   -- QY_PILOT_CNT2 (R178)
   ⟨0x078, 1, 1, [⟨0, 32, .ro, 0x0⟩, ⟨32, 16, .ro, 0x0⟩, ⟨48, 16, .ro, 0x0⟩]⟩,
   -- QY_PILOT_CNT3 (R178)
   ⟨0x080, 1, 1, [⟨0, 16, .ro, 0x0⟩, ⟨16, 16, .ro, 0x0⟩, ⟨32, 16, .ro, 0x0⟩, ⟨48, 16, .ro, 0x0⟩]⟩ ]

/-- Quay page 6 (R656). -/
def qyPage6 : List RegRow :=
  [
   -- QY_HEALTH_CNT0 (R293)
   ⟨0x040, 1, 1, [⟨0, 14, .ro, 0x0⟩, ⟨14, 14, .ro, 0x0⟩, ⟨28, 14, .ro, 0x0⟩, ⟨42, 14, .ro, 0x0⟩]⟩,
   -- QY_HEALTH_CNT1 (R293)
   ⟨0x048, 1, 1, [⟨0, 14, .ro, 0x0⟩, ⟨14, 4, .ro, 0x0⟩]⟩,
   -- QY_SPARE (R294)
   ⟨0x050, 1, 1, [⟨0, 10, .ro, 0x0⟩, ⟨10, 4, .ro, 0x0⟩, ⟨14, 9, .ro, 0x0⟩, ⟨23, 9, .ro, 0x0⟩, ⟨32, 2, .ro, 0x0⟩, ⟨34, 1, .ro, 0x0⟩]⟩,
   -- QY_MARGIN (R295)
   ⟨0x058, 1, 1, [⟨0, 3, .ro, 0x0⟩, ⟨3, 1, .ro, 0x0⟩, ⟨4, 1, .w1c, 0x0⟩, ⟨5, 16, .ro, 0x0⟩, ⟨21, 11, .ro, 0x0⟩]⟩,
   -- QY_MOVE (R295)
   ⟨0x060, 1, 1, [⟨0, 20, .ro, 0x0⟩, ⟨20, 20, .ro, 0x0⟩, ⟨40, 20, .ro, 0x0⟩, ⟨60, 3, .ro, 0x0⟩, ⟨63, 1, .ro, 0x0⟩]⟩,
   -- QY_SPARE_ROWS0 (R296)
   ⟨0x068, 1, 1, [⟨0, 64, .rwl, 0x0⟩]⟩,
   -- QY_SPARE_ROWS1 (R296)
   ⟨0x070, 1, 1, [⟨0, 56, .rwl, 0x0⟩]⟩ ]

/-- Quay page 7 (R656). -/
def qyPage7 : List RegRow :=
  [
   -- QY_TEST_BASE (R338)
   ⟨0x040, 1, 1, [⟨0, 24, .rwl, 0x0⟩, ⟨24, 7, .rwl, 0x10⟩]⟩,
   -- QY_TEST_KERN (R338)
   ⟨0x048, 1, 1, [⟨0, 24, .rwl, 0x0⟩, ⟨24, 14, .rwl, 0x0⟩, ⟨38, 1, .rwl, 0x0⟩]⟩,
   -- QY_TEST_STAT (R338)
   ⟨0x050, 1, 1, [⟨0, 1, .ro, 0x0⟩, ⟨1, 4, .ro, 0x0⟩, ⟨5, 4, .ro, 0x0⟩, ⟨9, 14, .ro, 0x0⟩, ⟨23, 16, .ro, 0x0⟩]⟩,
   -- QY_TEST_SLOT (R338)
   ⟨0x058, 8, 8, [⟨0, 14, .ro, 0x0⟩, ⟨14, 5, .ro, 0x0⟩, ⟨19, 3, .ro, 0x0⟩, ⟨22, 1, .ro, 0x0⟩, ⟨23, 1, .ro, 0x0⟩, ⟨24, 1, .ro, 0x0⟩]⟩ ]

/-- Quay page 8 (R656). -/
def qyPage8 : List RegRow :=
  [
   -- QY_STORE_SIZE (R380)
   ⟨0x040, 1, 1, [⟨0, 6, .ro, 0x0⟩, ⟨6, 10, .ro, 0x200⟩, ⟨16, 6, .ro, 0x20⟩, ⟨22, 25, .ro, 0x0⟩, ⟨47, 1, .ro, 0x0⟩]⟩,
   -- QY_STORE_CTL (R381)
   ⟨0x048, 1, 1, [⟨0, 1, .rwl, 0x1⟩, ⟨1, 7, .rwl, 0x40⟩, ⟨8, 6, .rwl, 0x20⟩, ⟨14, 20, .rwl, 0x2260⟩, ⟨34, 2, .rwl, 0x2⟩, ⟨36, 1, .rwl, 0x1⟩]⟩,
   -- QY_STORE_BANK (R382)
   ⟨0x050, 32, 8, [⟨0, 2, .rw, 0x3⟩, ⟨2, 3, .ro, 0x3⟩, ⟨5, 1, .rwl, 0x0⟩, ⟨6, 10, .ro, 0x0⟩, ⟨16, 6, .ro, 0x0⟩, ⟨22, 16, .ro, 0x0⟩, ⟨38, 8, .ro, 0x0⟩, ⟨46, 16, .ro, 0x0⟩]⟩,
   -- QY_STORE_SCRUB (R383)
   ⟨0x150, 1, 1, [⟨0, 32, .ro, 0x0⟩, ⟨32, 16, .ro, 0x0⟩, ⟨48, 16, .ro, 0x0⟩]⟩,
   -- QY_STORE_ECC (R383)
   ⟨0x158, 1, 1, [⟨0, 25, .ro, 0x0⟩, ⟨25, 1, .w1c, 0x0⟩, ⟨26, 32, .ro, 0x0⟩]⟩,
   -- QY_STORE_REPAIR (R383)
   ⟨0x160, 1, 1, [⟨0, 5, .rw, 0x0⟩, ⟨5, 13, .rw, 0x0⟩, ⟨18, 1, .wo, 0x0⟩, ⟨19, 1, .ro, 0x0⟩, ⟨20, 1, .w1c, 0x0⟩, ⟨21, 1, .ro, 0x0⟩, ⟨22, 1, .ro, 0x0⟩]⟩ ]

/-- Quay page 9 (R656). -/
def qyPage9 : List RegRow :=
  [
   -- QY_RING_CFG (R384)
   ⟨0x040, 32, 16, [⟨0, 24, .rw, 0x0⟩, ⟨24, 5, .rw, 0x1⟩, ⟨29, 1, .rw, 0x0⟩, ⟨30, 1, .rw, 0x1⟩]⟩,
   -- QY_RING_PTR (R384)
   ⟨0x048, 32, 16, [⟨0, 32, .ro, 0x0⟩, ⟨32, 32, .ro, 0x0⟩]⟩,
   -- QY_RING_OP (R385)
   ⟨0x240, 1, 1, [⟨0, 5, .rw, 0x0⟩, ⟨5, 1, .wo, 0x0⟩, ⟨6, 1, .wo, 0x0⟩, ⟨7, 17, .rw, 0x1⟩, ⟨24, 1, .ro, 0x0⟩]⟩ ]

/-- Quay page 10 (R656). -/
def qyPage10 : List RegRow :=
  [
   -- QY_WIN_CFG (R386)
   ⟨0x040, 16, 16, [⟨0, 24, .rw, 0x0⟩, ⟨24, 18, .rw, 0x0⟩, ⟨42, 1, .rw, 0x0⟩, ⟨43, 1, .rw, 0x1⟩, ⟨44, 2, .rw, 0x0⟩, ⟨46, 1, .rw, 0x0⟩, ⟨47, 16, .rw, 0x0⟩]⟩,
   -- QY_WIN_STAT (R386)
   ⟨0x048, 16, 16, [⟨0, 32, .ro, 0x0⟩, ⟨32, 16, .ro, 0x0⟩, ⟨48, 12, .ro, 0x0⟩, ⟨60, 3, .ro, 0x0⟩]⟩ ]

/-- Quay page 11 (R656). -/
def qyPage11 : List RegRow :=
  [
   -- QY_TND_CTL (R387)
   ⟨0x040, 1, 1, [⟨0, 8, .rwl, 0xFF⟩, ⟨8, 4, .rwl, 0x8⟩]⟩,
   -- QY_TND_STAT (R388)
   ⟨0x048, 8, 8, [⟨0, 3, .ro, 0x0⟩, ⟨3, 1, .ro, 0x0⟩, ⟨4, 9, .ro, 0x0⟩, ⟨13, 10, .ro, 0x0⟩, ⟨23, 32, .ro, 0x0⟩]⟩,
   -- QY_TND_CNT0 (R389)
   ⟨0x088, 1, 1, [⟨0, 32, .ro, 0x0⟩, ⟨32, 16, .ro, 0x0⟩, ⟨48, 16, .ro, 0x0⟩]⟩,
   -- QY_TND_CNT1 (R389)
   ⟨0x090, 1, 1, [⟨0, 64, .ro, 0x0⟩]⟩ ]

/-- Quay page 12 (R656). -/
def qyPage12 : List RegRow :=
  [
   -- QY_SYNC_CTL (R435)
   ⟨0x040, 1, 1, [⟨0, 1, .rwl, 0x0⟩, ⟨1, 5, .rwl, 0x10⟩]⟩,
   -- QY_SYNC_SEL (R435)
   ⟨0x048, 1, 1, [⟨0, 10, .rw, 0x0⟩]⟩,
   -- QY_SYNC_VAL (R436)
   ⟨0x050, 1, 1, [⟨0, 64, .ro, 0x0⟩]⟩,
   -- QY_SYNC_CVAL (R436)
   ⟨0x058, 1, 1, [⟨0, 64, .ro, 0x0⟩]⟩,
   -- QY_SYNC_WAIT (R436)
   ⟨0x060, 1, 1, [⟨0, 16, .ro, 0x0⟩, ⟨16, 40, .ro, 0x0⟩, ⟨56, 4, .ro, 0x0⟩]⟩,
   -- QY_SYNC_TMIN (R436)
   ⟨0x068, 1, 1, [⟨0, 64, .ro, 0xFFFFFFFFFFFFFFFF⟩]⟩,
   -- QY_SYNC_WREC0 (R436)
   ⟨0x070, 1, 1, [⟨0, 20, .ro, 0x0⟩, ⟨20, 20, .ro, 0x0⟩]⟩,
   -- QY_SYNC_WREC1 (R436)
   ⟨0x078, 1, 1, [⟨0, 20, .ro, 0x0⟩, ⟨20, 20, .ro, 0x0⟩]⟩,
   -- QY_SYNC_LAST (R436)
   ⟨0x080, 1, 1, [⟨0, 20, .ro, 0x0⟩, ⟨20, 44, .ro, 0x0⟩]⟩,
   -- QY_SYNC_LINK (R437)
   ⟨0x088, 1, 1, [⟨0, 1, .rw, 0x0⟩, ⟨1, 10, .rw, 0x0⟩, ⟨11, 6, .rw, 0x0⟩, ⟨17, 16, .rw, 0x0⟩]⟩,
   -- QY_SYNC_MIRROR (R436)
   ⟨0x090, 1, 1, [⟨0, 64, .ro, 0x0⟩]⟩,
   -- QY_SYNC_CNT0 (R438)
   ⟨0x098, 1, 1, [⟨0, 32, .ro, 0x0⟩, ⟨32, 32, .ro, 0x0⟩]⟩,
   -- QY_SYNC_CNT1 (R438)
   ⟨0x0A0, 1, 1, [⟨0, 32, .ro, 0x0⟩, ⟨32, 16, .ro, 0x0⟩, ⟨48, 16, .ro, 0x0⟩]⟩ ]

/-- Quay page 13 (R656). -/
def qyPage13 : List RegRow :=
  [
   -- QY_WAKE_CNT (R439)
   ⟨0x040, 16, 8, [⟨0, 32, .ro, 0x0⟩, ⟨32, 16, .ro, 0x0⟩]⟩,
   -- QY_WAKE_FORCE (R439)
   ⟨0x0C0, 1, 1, [⟨0, 16, .w1s, 0x0⟩]⟩,
   -- QY_WAKE_LAST (R439)
   ⟨0x0C8, 1, 1, [⟨0, 4, .ro, 0x0⟩, ⟨4, 10, .ro, 0x0⟩, ⟨14, 6, .ro, 0x0⟩, ⟨20, 44, .ro, 0x0⟩]⟩ ]

/-- Quay page 14 (R656). -/
def qyPage14 : List RegRow :=
  [
   -- QY_CLEAR_CTL (R472)
   ⟨0x040, 1, 1, [⟨0, 1, .rwl, 0x0⟩, ⟨1, 14, .rwl, 0x3840⟩, ⟨15, 4, .rwl, 0x8⟩, ⟨19, 4, .rw, 0x0⟩, ⟨23, 20, .rwl, 0x11300⟩]⟩,
   -- QY_CLEAR_STAT (R473)
   ⟨0x048, 1, 1, [⟨0, 2, .ro, 0x0⟩, ⟨2, 1, .ro, 0x0⟩, ⟨3, 4, .ro, 0x0⟩, ⟨7, 4, .ro, 0x0⟩, ⟨11, 4, .ro, 0x0⟩, ⟨15, 14, .ro, 0x0⟩, ⟨29, 10, .ro, 0x0⟩]⟩,
   -- QY_CLEAR_TOK (R474)
   ⟨0x050, 1, 1, [⟨0, 14, .ro, 0x0⟩, ⟨14, 14, .ro, 0x0⟩, ⟨28, 14, .ro, 0x0⟩, ⟨42, 14, .ro, 0x0⟩, ⟨56, 4, .ro, 0x0⟩]⟩,
   -- QY_CLEAR_CNT0 (R475)
   ⟨0x058, 1, 1, [⟨0, 32, .ro, 0x0⟩, ⟨32, 32, .ro, 0x0⟩]⟩,
   -- QY_CLEAR_CNT1 (R475)
   ⟨0x060, 1, 1, [⟨0, 16, .ro, 0x0⟩, ⟨16, 16, .ro, 0x0⟩, ⟨32, 16, .ro, 0x0⟩, ⟨48, 16, .ro, 0x0⟩]⟩,
   -- QY_CLEAR_PEAK (R475)
   ⟨0x068, 1, 1, [⟨0, 14, .ro, 0x0⟩, ⟨14, 10, .ro, 0x0⟩, ⟨24, 24, .ro, 0x0⟩]⟩,
   -- QY_RAIL (R475)
   ⟨0x070, 1, 1, [⟨0, 16, .ro, 0x0⟩, ⟨16, 1, .ro, 0x0⟩, ⟨17, 1, .ro, 0x0⟩, ⟨18, 1, .w1c, 0x0⟩]⟩,
   -- QY_CLEAR_ASTAT (R473)
   ⟨0x078, 1, 1, [⟨0, 2, .ro, 0x0⟩, ⟨2, 1, .ro, 0x0⟩, ⟨3, 4, .ro, 0x0⟩, ⟨7, 4, .ro, 0x0⟩, ⟨11, 4, .ro, 0x0⟩, ⟨15, 14, .ro, 0x0⟩, ⟨29, 10, .ro, 0x0⟩]⟩,
   -- QY_CLEAR_ATOK (R474)
   ⟨0x080, 1, 1, [⟨0, 14, .ro, 0x0⟩, ⟨14, 14, .ro, 0x0⟩, ⟨28, 14, .ro, 0x0⟩, ⟨42, 14, .ro, 0x0⟩, ⟨56, 4, .ro, 0x0⟩]⟩ ]

/-- Quay page 15 (R656). -/
def qyPage15 : List RegRow :=
  [
   -- QY_FAULT_ROWS0 (R512)
   ⟨0x040, 1, 1, [⟨0, 64, .ro, 0x0⟩]⟩,
   -- QY_FAULT_ROWS1 (R512)
   ⟨0x048, 1, 1, [⟨0, 56, .ro, 0x0⟩]⟩,
   -- QY_FAULT_FIRST (R512)
   ⟨0x050, 1, 1, [⟨0, 14, .ro, 0x0⟩, ⟨14, 16, .ro, 0x0⟩, ⟨30, 1, .ro, 0x0⟩, ⟨31, 32, .ro, 0x0⟩, ⟨63, 1, .w1c, 0x0⟩]⟩,
   -- QY_FAULT_CNT (R512)
   ⟨0x058, 1, 1, [⟨0, 32, .ro, 0x0⟩, ⟨32, 16, .ro, 0x0⟩, ⟨48, 16, .ro, 0x0⟩]⟩ ]

/-- The Bollard file (R90); the offset is the index. -/
def bolFile : List RegRow :=
  [
   -- BOL_ID (R91)
   ⟨0x000, 1, 1, [⟨0, 20, .ro, 0x0⟩, ⟨20, 14, .ro, 0x0⟩, ⟨34, 6, .ro, 0x0⟩, ⟨40, 8, .ro, 0x0⟩, ⟨48, 8, .ro, 0x3⟩]⟩,
   -- BOL_POS (R92)
   ⟨0x001, 1, 1, [⟨0, 8, .rt, 0x0⟩, ⟨8, 1, .rt, 0x0⟩, ⟨9, 1, .rt, 0x0⟩]⟩,
   -- BOL_CTL (R93)
   ⟨0x002, 1, 1, [⟨0, 1, .rt, 0x0⟩, ⟨1, 1, .rt, 0x1⟩, ⟨2, 1, .rt, 0x1⟩, ⟨3, 1, .rt, 0x1⟩, ⟨4, 2, .rt, 0x0⟩, ⟨6, 1, .rt, 0x0⟩, ⟨7, 2, .rt, 0x2⟩]⟩,
   -- BOL_STAT (R94)
   ⟨0x003, 1, 1, [⟨0, 3, .ro, 0x0⟩, ⟨3, 1, .ro, 0x1⟩, ⟨4, 1, .ro, 0x0⟩, ⟨5, 1, .ro, 0x0⟩, ⟨6, 1, .ro, 0x1⟩]⟩,
   -- BOL_ERR (R493)
   ⟨0x004, 1, 1, [⟨0, 1, .w1c, 0x0⟩, ⟨1, 1, .w1c, 0x0⟩, ⟨2, 1, .w1c, 0x0⟩, ⟨3, 1, .w1c, 0x0⟩, ⟨4, 1, .w1c, 0x0⟩, ⟨5, 1, .w1c, 0x0⟩, ⟨6, 1, .w1c, 0x0⟩, ⟨7, 1, .w1c, 0x0⟩, ⟨8, 1, .w1c, 0x0⟩, ⟨9, 1, .w1c, 0x0⟩, ⟨10, 1, .w1c, 0x0⟩, ⟨11, 1, .w1c, 0x0⟩, ⟨12, 1, .w1c, 0x0⟩, ⟨13, 1, .w1c, 0x0⟩, ⟨14, 1, .w1c, 0x0⟩, ⟨15, 1, .w1c, 0x0⟩]⟩,
   -- BOL_ERR_FORCE (R498)
   ⟨0x005, 1, 1, [⟨0, 16, .w1s, 0x0⟩]⟩,
   -- BOL_VERDICT (R90)
   ⟨0x006, 1, 1, [⟨0, 64, .ro, 0x0⟩]⟩,
   -- BOL_SIG (R90)
   ⟨0x007, 1, 1, [⟨0, 64, .ro, 0x0⟩]⟩,
   -- BOL_OPEN (R90): in the layout of W0 an open verdict without a cause is CLEAN (R66)
   ⟨0x008, 1, 1, [⟨0, 64, .ro, 0x1⟩]⟩,
   -- BOL_COMMIT (R90)
   ⟨0x009, 1, 1, [⟨0, 50, .ro, 0x0⟩]⟩,
   -- BOL_DESC (R90)
   ⟨0x00A, 1, 1, [⟨0, 64, .ro, 0x0⟩]⟩,
   -- BOL_ADDR (R90)
   ⟨0x00B, 1, 1, [⟨0, 64, .ro, 0x0⟩]⟩,
   -- BOL_CTX (R95)
   ⟨0x00C, 1, 1, [⟨0, 3, .ro, 0x0⟩, ⟨3, 9, .ro, 0x0⟩, ⟨12, 8, .ro, 0x0⟩]⟩,
   -- BOL_PILOT (R179)
   ⟨0x00D, 1, 1, [⟨0, 3, .ro, 0x0⟩, ⟨3, 3, .ro, 0x0⟩, ⟨6, 10, .ro, 0x0⟩, ⟨16, 1, .ro, 0x0⟩, ⟨17, 1, .ro, 0x0⟩, ⟨18, 9, .ro, 0x0⟩, ⟨27, 1, .ro, 0x0⟩, ⟨32, 20, .ro, 0x0⟩]⟩,
   -- BOL_WDOG (R96)
   ⟨0x00E, 1, 1, [⟨0, 3, .ro, 0x0⟩, ⟨32, 32, .ro, 0x0⟩]⟩,
   -- BOL_CLK (R97)
   ⟨0x00F, 1, 1, [⟨0, 2, .ro, 0x0⟩, ⟨2, 1, .ro, 0x0⟩, ⟨3, 4, .ro, 0x1⟩]⟩,
   -- BOL_CLR (R471)
   ⟨0x010, 1, 1, [⟨0, 4, .ro, 0x0⟩, ⟨4, 4, .ro, 0x0⟩, ⟨8, 1, .ro, 0x0⟩, ⟨9, 1, .ro, 0x0⟩, ⟨10, 1, .ro, 0x0⟩, ⟨11, 1, .ro, 0x0⟩, ⟨12, 2, .ro, 0x0⟩, ⟨14, 16, .ro, 0x0⟩, ⟨30, 32, .ro, 0x0⟩]⟩,
   -- BOL_WAKE (R98)
   ⟨0x011, 1, 1, [⟨0, 16, .ro, 0x0⟩, ⟨16, 1, .ro, 0x0⟩]⟩,
   -- BOL_BW (R99)
   ⟨0x012, 1, 1, [⟨0, 5, .ro, 0x1⟩, ⟨5, 27, .ro, 0x0⟩, ⟨32, 32, .ro, 0x0⟩]⟩,
   -- BOL_SINK_CNT (R90)
   ⟨0x013, 1, 1, [⟨0, 64, .ro, 0x0⟩]⟩,
   -- BOL_RTR (R100)
   ⟨0x014, 1, 1, [⟨0, 4, .ro, 0x0⟩, ⟨4, 16, .ro, 0x0⟩, ⟨20, 16, .ro, 0x0⟩, ⟨36, 1, .ro, 0x0⟩]⟩,
   -- BOL_CERR (R101)
   ⟨0x015, 1, 1, [⟨0, 4, .w1c, 0x0⟩, ⟨4, 28, .ro, 0x0⟩, ⟨32, 32, .ro, 0x0⟩]⟩,
   -- BOL_CDOM (R102)
   ⟨0x016, 1, 1, [⟨0, 1, .rw, 0x0⟩, ⟨1, 1, .rw, 0x1⟩, ⟨2, 1, .ro, 0x0⟩]⟩,
   -- BOL_SCAN (R330)
   ⟨0x017, 1, 1, [⟨0, 2, .rw, 0x0⟩, ⟨2, 5, .rw, 0x0⟩, ⟨7, 1, .wo, 0x0⟩, ⟨8, 2, .ro, 0x0⟩, ⟨10, 1, .ro, 0x0⟩, ⟨11, 11, .ro, 0x0⟩, ⟨22, 4, .ro, 0x0⟩, ⟨26, 3, .ro, 0x0⟩, ⟨29, 13, .ro, 0x0⟩, ⟨42, 1, .ro, 0x0⟩]⟩,
   -- BOL_MBIST (R331)
   ⟨0x018, 1, 1, [⟨0, 3, .rw, 0x0⟩, ⟨3, 1, .wo, 0x0⟩, ⟨4, 2, .ro, 0x0⟩, ⟨6, 10, .ro, 0x0⟩, ⟨16, 3, .ro, 0x0⟩, ⟨19, 7, .ro, 0x0⟩, ⟨26, 3, .ro, 0x0⟩, ⟨29, 3, .rw, 0x0⟩, ⟨32, 10, .rw, 0x0⟩, ⟨42, 10, .rw, 0x0⟩, ⟨52, 10, .rw, 0x0⟩]⟩,
   -- BOL_LM_ADDR (R103)
   ⟨0x019, 1, 1, [⟨0, 13, .rw, 0x0⟩, ⟨13, 1, .rw, 0x0⟩, ⟨14, 2, .ro, 0x0⟩, ⟨16, 1, .ro, 0x0⟩]⟩,
   -- BOL_LM_DATA (R90)
   ⟨0x01A, 1, 1, [⟨0, 64, .rw, 0x0⟩]⟩,
   -- BOL_TILES (R90)
   ⟨0x01B, 1, 1, [⟨0, 64, .ro, 0x0⟩]⟩,
   -- BOL_ALARMS (R90)
   ⟨0x01C, 1, 1, [⟨0, 64, .ro, 0x0⟩]⟩,
   -- BOL_UNCHK (R90)
   ⟨0x01D, 1, 1, [⟨0, 64, .ro, 0x0⟩]⟩,
   -- BOL_TALLY (R104)
   ⟨0x01E, 1, 1, [⟨0, 32, .ro, 0x0⟩, ⟨32, 16, .ro, 0x0⟩, ⟨48, 1, .ro, 0x0⟩]⟩,
   -- BOL_INVAL (R105)
   ⟨0x01F, 1, 1, [⟨0, 50, .ro, 0x0⟩, ⟨50, 8, .ro, 0x0⟩, ⟨58, 1, .ro, 0x0⟩]⟩ ]

/-- The common page header (R642 to R646). -/
def pgHeader : List RegRow :=
  [
   -- PG_ID (R642)
   ⟨0x000, 1, 1, [⟨0, 16, .ro, 0x0⟩, ⟨16, 8, .ro, 0x0⟩, ⟨24, 8, .ro, 0x0⟩]⟩,
   -- PG_CAP (R643)
   ⟨0x004, 1, 1, [⟨0, 6, .ro, 0x0⟩, ⟨6, 1, .ro, 0x0⟩, ⟨7, 2, .ro, 0x0⟩, ⟨9, 1, .ro, 0x0⟩]⟩,
   -- PG_CTL (R644)
   ⟨0x008, 1, 1, [⟨0, 1, .rw, 0x1⟩, ⟨1, 1, .ro, 0x0⟩, ⟨2, 1, .wo, 0x0⟩]⟩,
   -- PG_STAT (R645)
   ⟨0x00C, 1, 1, [⟨0, 1, .ro, 0x0⟩, ⟨1, 1, .ro, 0x0⟩, ⟨2, 3, .ro, 0x0⟩]⟩,
   -- PG_ERR (R488)
   ⟨0x010, 1, 1, [⟨0, 1, .w1c, 0x0⟩, ⟨1, 1, .w1c, 0x0⟩, ⟨2, 1, .w1c, 0x0⟩, ⟨3, 1, .w1c, 0x0⟩, ⟨4, 1, .w1c, 0x0⟩, ⟨5, 1, .w1c, 0x0⟩, ⟨6, 1, .w1c, 0x0⟩, ⟨7, 1, .w1c, 0x0⟩, ⟨8, 24, .w1c, 0x0⟩]⟩,
   -- PG_ERR_MASK (R490)
   ⟨0x014, 1, 1, [⟨0, 32, .rw, 0x0⟩]⟩,
   -- PG_ERR_FORCE (R498)
   ⟨0x018, 1, 1, [⟨0, 32, .w1s, 0x0⟩]⟩,
   -- PG_ERR_FIRST (R490)
   ⟨0x01C, 1, 1, [⟨0, 5, .ro, 0x0⟩, ⟨5, 1, .ro, 0x0⟩, ⟨6, 1, .ro, 0x0⟩, ⟨7, 25, .ro, 0x0⟩]⟩,
   -- PG_VOTE (R490)
   ⟨0x020, 1, 1, [⟨0, 32, .ro, 0x0⟩]⟩ ]

/-- The rows of Harbourmaster page `n`; a reserved page has none (R646). -/
def hmPageRows (n : Nat) : List RegRow :=
  match n with
  | 0 => hmPage0
  | 1 => hmPage1
  | 2 => hmPage2
  | 3 => hmPage3
  | 12 => hmPage12
  | 13 => hmPage13
  | 14 => hmPage14
  | 15 => hmPage15
  | 16 => hmPage16
  | 17 => hmPage17
  | 18 => hmPage18
  | 19 => hmPage19
  | 20 => hmPage20
  | 21 => hmPage21
  | 22 => hmPage22
  | 23 => hmPage23
  | 24 => hmPage24
  | 25 => hmPage25
  | _ => []

/-- The rows of page `n` of a quay (R656). -/
def qyPageRows (n : Nat) : List RegRow :=
  match n with
  | 0 => qyPage0
  | 2 => qyPage2
  | 3 => qyPage3
  | 4 => qyPage4
  | 5 => qyPage5
  | 6 => qyPage6
  | 7 => qyPage7
  | 8 => qyPage8
  | 9 => qyPage9
  | 10 => qyPage10
  | 11 => qyPage11
  | 12 => qyPage12
  | 13 => qyPage13
  | 14 => qyPage14
  | 15 => qyPage15
  | _ => []

/-! ### Field constants -/

/-- OC_CONFIG (R648). -/
def OC_CONFIG : Nat := 0x00040
def OC_CONFIG_STEPPING : Fld := ⟨OC_CONFIG, 0, 16⟩
def OC_CONFIG_GRADE : Fld := ⟨OC_CONFIG, 16, 8⟩
def OC_CONFIG_CONFIG : Fld := ⟨OC_CONFIG, 24, 2⟩
def OC_CONFIG_QUAYS : Fld := ⟨OC_CONFIG, 26, 7⟩
def OC_CONFIG_CUSTOMS : Fld := ⟨OC_CONFIG, 33, 3⟩
def OC_CONFIG_STORE_MIB : Fld := ⟨OC_CONFIG, 36, 6⟩
/-- OC_PARAM (R649). -/
def OC_PARAM : Nat := 0x00048
def OC_PARAM_CHAIN_LEN : Fld := ⟨OC_PARAM, 0, 13⟩
def OC_PARAM_LM_SPARE_ROWS : Fld := ⟨OC_PARAM, 13, 2⟩
def OC_PARAM_FLIT_HDR_W : Fld := ⟨OC_PARAM, 15, 8⟩
def OC_PARAM_RSP_W : Fld := ⟨OC_PARAM, 23, 8⟩
/-- OC_SECURE (R649). -/
def OC_SECURE : Nat := 0x00050
def OC_SECURE_SECURE_PAGES : Fld := ⟨OC_SECURE, 0, 64⟩
/-- HM_CMD_OP (R651). -/
def HM_CMD_OP : Nat := 0x01040
def HM_CMD_OP_OP : Fld := ⟨HM_CMD_OP, 0, 8⟩
/-- HM_CMD_ARG (R651). -/
def HM_CMD_ARG (n : Nat) : Nat := (0x01048 + 8 * n)
def HM_CMD_ARG_ARG (n : Nat) : Fld := ⟨HM_CMD_ARG n, 0, 64⟩
/-- HM_CMD_GO (R651). -/
def HM_CMD_GO : Nat := 0x01088
def HM_CMD_GO_GO : Fld := ⟨HM_CMD_GO, 0, 1⟩
/-- HM_CMD_STATUS (R651). -/
def HM_CMD_STATUS : Nat := 0x01090
def HM_CMD_STATUS_BUSY : Fld := ⟨HM_CMD_STATUS, 0, 1⟩
def HM_CMD_STATUS_RESULT : Fld := ⟨HM_CMD_STATUS, 1, 4⟩
def HM_CMD_STATUS_LAST_OP : Fld := ⟨HM_CMD_STATUS, 5, 8⟩
def HM_CMD_STATUS_ACCEPTED : Fld := ⟨HM_CMD_STATUS, 13, 32⟩
/-- HM_TIDE (R42). -/
def HM_TIDE : Nat := 0x02040
def HM_TIDE_CYC : Fld := ⟨HM_TIDE, 0, 14⟩
def HM_TIDE_TICK : Fld := ⟨HM_TIDE, 14, 50⟩
/-- HM_TIME_CTL (R43). -/
def HM_TIME_CTL : Nat := 0x02048
def HM_TIME_CTL_TICK_LEN : Fld := ⟨HM_TIME_CTL, 0, 2⟩
def HM_TIME_CTL_PPS_EN : Fld := ⟨HM_TIME_CTL, 2, 1⟩
def HM_TIME_CTL_PPS_POL : Fld := ⟨HM_TIME_CTL, 3, 1⟩
def HM_TIME_CTL_ALIGN : Fld := ⟨HM_TIME_CTL, 4, 1⟩
/-- HM_TIME_TPS (R44). -/
def HM_TIME_TPS : Nat := 0x02050
def HM_TIME_TPS_TPS : Fld := ⟨HM_TIME_TPS, 0, 18⟩
/-- HM_TIME_SEC_BASE (R45). -/
def HM_TIME_SEC_BASE : Nat := 0x02058
def HM_TIME_SEC_BASE_BASE : Fld := ⟨HM_TIME_SEC_BASE, 0, 50⟩
/-- HM_TIME_PPS_CAPT (R46). -/
def HM_TIME_PPS_CAPT : Nat := 0x02060
def HM_TIME_PPS_CAPT_CYC : Fld := ⟨HM_TIME_PPS_CAPT, 0, 14⟩
def HM_TIME_PPS_CAPT_TICK : Fld := ⟨HM_TIME_PPS_CAPT, 14, 50⟩
/-- HM_TIME_STAT (R47). -/
def HM_TIME_STAT : Nat := 0x02068
def HM_TIME_STAT_STATE : Fld := ⟨HM_TIME_STAT, 0, 2⟩
def HM_TIME_STAT_ALIGNED : Fld := ⟨HM_TIME_STAT, 2, 1⟩
def HM_TIME_STAT_PHASE : Fld := ⟨HM_TIME_STAT, 8, 20⟩
def HM_TIME_STAT_SPURIOUS : Fld := ⟨HM_TIME_STAT, 32, 16⟩
/-- HM_TIME_SLEW (R48). -/
def HM_TIME_SLEW : Nat := 0x02070
def HM_TIME_SLEW_OWED : Fld := ⟨HM_TIME_SLEW, 0, 32⟩
def HM_TIME_SLEW_DRIFT : Fld := ⟨HM_TIME_SLEW, 32, 32⟩
/-- HM_IRQ_STAT (R650). -/
def HM_IRQ_STAT : Nat := 0x03040
def HM_IRQ_STAT_CMD : Fld := ⟨HM_IRQ_STAT, 0, 1⟩
def HM_IRQ_STAT_TRIPLEX : Fld := ⟨HM_IRQ_STAT, 1, 1⟩
def HM_IRQ_STAT_XSPI : Fld := ⟨HM_IRQ_STAT, 2, 1⟩
def HM_IRQ_STAT_HEALTH_OP : Fld := ⟨HM_IRQ_STAT, 3, 1⟩
def HM_IRQ_STAT_TEST_OP : Fld := ⟨HM_IRQ_STAT, 4, 1⟩
def HM_IRQ_STAT_RST_OP : Fld := ⟨HM_IRQ_STAT, 5, 1⟩
def HM_IRQ_STAT_LOG_CLR : Fld := ⟨HM_IRQ_STAT, 6, 1⟩
def HM_IRQ_STAT_KEY_OP : Fld := ⟨HM_IRQ_STAT, 7, 1⟩
def HM_IRQ_STAT_QUAY_COLOUR : Fld := ⟨HM_IRQ_STAT, 16, 1⟩
def HM_IRQ_STAT_UNIT_COLOUR : Fld := ⟨HM_IRQ_STAT, 17, 1⟩
def HM_IRQ_STAT_SPARE_LOW : Fld := ⟨HM_IRQ_STAT, 18, 1⟩
def HM_IRQ_STAT_NOTE : Fld := ⟨HM_IRQ_STAT, 19, 1⟩
def HM_IRQ_STAT_TILE_COLOUR : Fld := ⟨HM_IRQ_STAT, 20, 1⟩
def HM_IRQ_STAT_PINS : Fld := ⟨HM_IRQ_STAT, 24, 4⟩
/-- HM_IRQ_MASK (R650). -/
def HM_IRQ_MASK : Nat := 0x03048
def HM_IRQ_MASK_CMD : Fld := ⟨HM_IRQ_MASK, 0, 1⟩
def HM_IRQ_MASK_TRIPLEX : Fld := ⟨HM_IRQ_MASK, 1, 1⟩
def HM_IRQ_MASK_XSPI : Fld := ⟨HM_IRQ_MASK, 2, 1⟩
def HM_IRQ_MASK_HEALTH_OP : Fld := ⟨HM_IRQ_MASK, 3, 1⟩
def HM_IRQ_MASK_TEST_OP : Fld := ⟨HM_IRQ_MASK, 4, 1⟩
def HM_IRQ_MASK_RST_OP : Fld := ⟨HM_IRQ_MASK, 5, 1⟩
def HM_IRQ_MASK_LOG_CLR : Fld := ⟨HM_IRQ_MASK, 6, 1⟩
def HM_IRQ_MASK_KEY_OP : Fld := ⟨HM_IRQ_MASK, 7, 1⟩
def HM_IRQ_MASK_QUAY_COLOUR : Fld := ⟨HM_IRQ_MASK, 16, 1⟩
def HM_IRQ_MASK_UNIT_COLOUR : Fld := ⟨HM_IRQ_MASK, 17, 1⟩
def HM_IRQ_MASK_SPARE_LOW : Fld := ⟨HM_IRQ_MASK, 18, 1⟩
def HM_IRQ_MASK_NOTE : Fld := ⟨HM_IRQ_MASK, 19, 1⟩
def HM_IRQ_MASK_TILE_COLOUR : Fld := ⟨HM_IRQ_MASK, 20, 1⟩
/-- HM_CUS_CTL (R204). -/
def HM_CUS_CTL : Nat := 0x0C040
def HM_CUS_CTL_EN : Fld := ⟨HM_CUS_CTL, 0, 1⟩
def HM_CUS_CTL_UNIT_EN : Fld := ⟨HM_CUS_CTL, 1, 4⟩
def HM_CUS_CTL_HARVEST_MODE : Fld := ⟨HM_CUS_CTL, 5, 2⟩
def HM_CUS_CTL_REFEREE_EN : Fld := ⟨HM_CUS_CTL, 7, 1⟩
def HM_CUS_CTL_NONDET_LIMIT : Fld := ⟨HM_CUS_CTL, 8, 8⟩
def HM_CUS_CTL_PRED_AMBER : Fld := ⟨HM_CUS_CTL, 16, 8⟩
def HM_CUS_CTL_HARV_ELEMS : Fld := ⟨HM_CUS_CTL, 24, 5⟩
/-- HM_CUS_STAT (R205). -/
def HM_CUS_STAT : Nat := 0x0C048
def HM_CUS_STAT_QDEPTH : Fld := ⟨HM_CUS_STAT, 0, 9⟩
def HM_CUS_STAT_BUSY : Fld := ⟨HM_CUS_STAT, 9, 4⟩
def HM_CUS_STAT_PRESENT : Fld := ⟨HM_CUS_STAT, 13, 4⟩
def HM_CUS_STAT_OK : Fld := ⟨HM_CUS_STAT, 17, 4⟩
def HM_CUS_STAT_QFULL : Fld := ⟨HM_CUS_STAT, 21, 1⟩
/-- HM_CUS_QBASE (R206). -/
def HM_CUS_QBASE : Nat := 0x0C050
def HM_CUS_QBASE_QOFF : Fld := ⟨HM_CUS_QBASE, 0, 24⟩
/-- HM_CUS_HARV_BASE (R206). -/
def HM_CUS_HARV_BASE : Nat := 0x0C058
def HM_CUS_HARV_BASE_OFF : Fld := ⟨HM_CUS_HARV_BASE, 0, 24⟩
def HM_CUS_HARV_BASE_SIZE : Fld := ⟨HM_CUS_HARV_BASE, 24, 6⟩
/-- HM_CUS_HARV_WR (R207). -/
def HM_CUS_HARV_WR : Nat := 0x0C060
def HM_CUS_HARV_WR_WR : Fld := ⟨HM_CUS_HARV_WR, 0, 22⟩
def HM_CUS_HARV_WR_WRITTEN : Fld := ⟨HM_CUS_HARV_WR, 32, 32⟩
/-- HM_CUS_HARV_RD (R207). -/
def HM_CUS_HARV_RD : Nat := 0x0C068
def HM_CUS_HARV_RD_RD : Fld := ⟨HM_CUS_HARV_RD, 0, 22⟩
/-- HM_CUS_LAST (R208). -/
def HM_CUS_LAST : Nat := 0x0C070
def HM_CUS_LAST_VERDICT : Fld := ⟨HM_CUS_LAST, 0, 4⟩
def HM_CUS_LAST_SUBCLASS : Fld := ⟨HM_CUS_LAST, 4, 4⟩
def HM_CUS_LAST_QUAY : Fld := ⟨HM_CUS_LAST, 8, 6⟩
def HM_CUS_LAST_BERTH : Fld := ⟨HM_CUS_LAST, 14, 9⟩
def HM_CUS_LAST_LCORE : Fld := ⟨HM_CUS_LAST, 23, 20⟩
def HM_CUS_LAST_VALID : Fld := ⟨HM_CUS_LAST, 63, 1⟩
/-- HM_CUS_CNT0 (R208). -/
def HM_CUS_CNT0 : Nat := 0x0C078
def HM_CUS_CNT0_CORE : Fld := ⟨HM_CUS_CNT0, 0, 16⟩
def HM_CUS_CNT0_SHADOW : Fld := ⟨HM_CUS_CNT0, 16, 16⟩
def HM_CUS_CNT0_BOLLARD : Fld := ⟨HM_CUS_CNT0, 32, 16⟩
def HM_CUS_CNT0_NONDET : Fld := ⟨HM_CUS_CNT0, 48, 16⟩
/-- HM_CUS_CNT1 (R208). -/
def HM_CUS_CNT1 : Nat := 0x0C080
def HM_CUS_CNT1_PREDICTOR : Fld := ⟨HM_CUS_CNT1, 0, 16⟩
def HM_CUS_CNT1_UNRESOLVED : Fld := ⟨HM_CUS_CNT1, 16, 16⟩
def HM_CUS_CNT1_REFEREE_RUNS : Fld := ⟨HM_CUS_CNT1, 32, 16⟩
def HM_CUS_CNT1_HARV_DROPPED : Fld := ⟨HM_CUS_CNT1, 48, 16⟩
/-- HM_CUS_UNIT (R209). -/
def HM_CUS_UNIT (n : Nat) : Nat := (0x0C088 + 8 * n)
def HM_CUS_UNIT_COLOUR (n : Nat) : Fld := ⟨HM_CUS_UNIT n, 0, 3⟩
def HM_CUS_UNIT_BUSY (n : Nat) : Fld := ⟨HM_CUS_UNIT n, 3, 1⟩
def HM_CUS_UNIT_RESIDUE_FAULTS (n : Nat) : Fld := ⟨HM_CUS_UNIT n, 4, 16⟩
def HM_CUS_UNIT_DECIDED (n : Nat) : Fld := ⟨HM_CUS_UNIT n, 20, 32⟩
/-- HM_COMMIT_CTL (R248). -/
def HM_COMMIT_CTL : Nat := 0x0D040
def HM_COMMIT_CTL_HELD : Fld := ⟨HM_COMMIT_CTL, 0, 1⟩
def HM_COMMIT_CTL_SUSPECT_HALT : Fld := ⟨HM_COMMIT_CTL, 1, 1⟩
def HM_COMMIT_CTL_MAX_REPLAY : Fld := ⟨HM_COMMIT_CTL, 2, 2⟩
def HM_COMMIT_CTL_DRAIN_CC : Fld := ⟨HM_COMMIT_CTL, 4, 16⟩
def HM_COMMIT_CTL_REROUTE_CC : Fld := ⟨HM_COMMIT_CTL, 20, 20⟩
/-- HM_COMMIT_STAT (R249). -/
def HM_COMMIT_STAT : Nat := 0x0D048
def HM_COMMIT_STAT_CTICK : Fld := ⟨HM_COMMIT_STAT, 0, 50⟩
def HM_COMMIT_STAT_STATE : Fld := ⟨HM_COMMIT_STAT, 50, 3⟩
def HM_COMMIT_STAT_DETECT_ONLY : Fld := ⟨HM_COMMIT_STAT, 53, 1⟩
def HM_COMMIT_STAT_COMMIT_PEND : Fld := ⟨HM_COMMIT_STAT, 54, 1⟩
/-- HM_COMMIT_JT (R250). -/
def HM_COMMIT_JT : Nat := 0x0D050
def HM_COMMIT_JT_JT : Fld := ⟨HM_COMMIT_JT, 0, 50⟩
/-- HM_COMMIT_OFFSET (R250). -/
def HM_COMMIT_OFFSET : Nat := 0x0D058
def HM_COMMIT_OFFSET_OFFSET : Fld := ⟨HM_COMMIT_OFFSET, 0, 50⟩
/-- HM_COMMIT_RECALL (R251). -/
def HM_COMMIT_RECALL : Nat := 0x0D060
def HM_COMMIT_RECALL_TARGET : Fld := ⟨HM_COMMIT_RECALL, 0, 50⟩
def HM_COMMIT_RECALL_REASON : Fld := ⟨HM_COMMIT_RECALL, 50, 4⟩
def HM_COMMIT_RECALL_DEPTH : Fld := ⟨HM_COMMIT_RECALL, 54, 2⟩
def HM_COMMIT_RECALL_REPLAYS : Fld := ⟨HM_COMMIT_RECALL, 56, 2⟩
/-- HM_COMMIT_SRC (R252). -/
def HM_COMMIT_SRC : Nat := 0x0D068
def HM_COMMIT_SRC_KIND : Fld := ⟨HM_COMMIT_SRC, 0, 2⟩
def HM_COMMIT_SRC_QUAY : Fld := ⟨HM_COMMIT_SRC, 2, 6⟩
def HM_COMMIT_SRC_LTILE : Fld := ⟨HM_COMMIT_SRC, 8, 14⟩
def HM_COMMIT_SRC_CAUSE : Fld := ⟨HM_COMMIT_SRC, 22, 16⟩
/-- HM_COMMIT_RESTART (R253). -/
def HM_COMMIT_RESTART : Nat := 0x0D070
def HM_COMMIT_RESTART_TICK : Fld := ⟨HM_COMMIT_RESTART, 0, 50⟩
/-- HM_COMMIT_CNT (R253). -/
def HM_COMMIT_CNT : Nat := 0x0D078
def HM_COMMIT_CNT_RECALLS : Fld := ⟨HM_COMMIT_CNT, 0, 32⟩
def HM_COMMIT_CNT_HALTS : Fld := ⟨HM_COMMIT_CNT, 32, 16⟩
def HM_COMMIT_CNT_SUSPECTS : Fld := ⟨HM_COMMIT_CNT, 48, 16⟩
/-- HM_COMMIT_OP (R254). -/
def HM_COMMIT_OP : Nat := 0x0D080
def HM_COMMIT_OP_RECALL : Fld := ⟨HM_COMMIT_OP, 0, 1⟩
def HM_COMMIT_OP_HALT : Fld := ⟨HM_COMMIT_OP, 1, 1⟩
def HM_COMMIT_OP_RESUME : Fld := ⟨HM_COMMIT_OP, 2, 1⟩
def HM_COMMIT_OP_ABANDON : Fld := ⟨HM_COMMIT_OP, 3, 1⟩
def HM_COMMIT_OP_HALTED : Fld := ⟨HM_COMMIT_OP, 4, 1⟩
def HM_COMMIT_OP_HALT_REASON : Fld := ⟨HM_COMMIT_OP, 5, 3⟩
def HM_COMMIT_OP_REFUSED : Fld := ⟨HM_COMMIT_OP, 8, 1⟩
/-- HM_SUSPECT_FIRST (R255). -/
def HM_SUSPECT_FIRST : Nat := 0x0D088
def HM_SUSPECT_FIRST_FIRST : Fld := ⟨HM_SUSPECT_FIRST, 0, 50⟩
/-- HM_SUSPECT_LAST (R255). -/
def HM_SUSPECT_LAST : Nat := 0x0D090
def HM_SUSPECT_LAST_LAST : Fld := ⟨HM_SUSPECT_LAST, 0, 50⟩
/-- HM_SUSPECT_INFO (R255). -/
def HM_SUSPECT_INFO : Nat := 0x0D098
def HM_SUSPECT_INFO_LCORE : Fld := ⟨HM_SUSPECT_INFO, 0, 20⟩
def HM_SUSPECT_INFO_PTILE : Fld := ⟨HM_SUSPECT_INFO, 20, 20⟩
def HM_SUSPECT_INFO_CAUSE : Fld := ⟨HM_SUSPECT_INFO, 40, 3⟩
def HM_SUSPECT_INFO_VALID : Fld := ⟨HM_SUSPECT_INFO, 63, 1⟩
/-- HM_HEALTH_CTL (R288). -/
def HM_HEALTH_CTL : Nat := 0x0E040
def HM_HEALTH_CTL_EN : Fld := ⟨HM_HEALTH_CTL, 0, 1⟩
def HM_HEALTH_CTL_MARGIN_EN : Fld := ⟨HM_HEALTH_CTL, 1, 1⟩
def HM_HEALTH_CTL_BORROW_EN : Fld := ⟨HM_HEALTH_CTL, 2, 1⟩
def HM_HEALTH_CTL_AMBER_MATCH : Fld := ⟨HM_HEALTH_CTL, 3, 8⟩
def HM_HEALTH_CTL_AMBER_ROUNDS : Fld := ⟨HM_HEALTH_CTL, 11, 8⟩
def HM_HEALTH_CTL_OCHRE_ROUNDS : Fld := ⟨HM_HEALTH_CTL, 19, 10⟩
def HM_HEALTH_CTL_STRIKE_LIMIT : Fld := ⟨HM_HEALTH_CTL, 29, 2⟩
def HM_HEALTH_CTL_CE_AMBER : Fld := ⟨HM_HEALTH_CTL, 31, 8⟩
def HM_HEALTH_CTL_PARK_TICKS : Fld := ⟨HM_HEALTH_CTL, 39, 12⟩
def HM_HEALTH_CTL_REGION_EVENTS : Fld := ⟨HM_HEALTH_CTL, 51, 4⟩
/-- HM_HEALTH_MARGIN (R289). -/
def HM_HEALTH_MARGIN : Nat := 0x0E048
def HM_HEALTH_MARGIN_DIV_MAX : Fld := ⟨HM_HEALTH_MARGIN, 0, 2⟩
def HM_HEALTH_MARGIN_NOM_MV : Fld := ⟨HM_HEALTH_MARGIN, 2, 12⟩
def HM_HEALTH_MARGIN_MV_MAX : Fld := ⟨HM_HEALTH_MARGIN, 14, 3⟩
/-- HM_MANIFEST_BASE (R290). -/
def HM_MANIFEST_BASE : Nat := 0x0E050
def HM_MANIFEST_BASE_L2P_OFF : Fld := ⟨HM_MANIFEST_BASE, 0, 24⟩
def HM_MANIFEST_BASE_TILE_OFF : Fld := ⟨HM_MANIFEST_BASE, 24, 24⟩
/-- HM_DEFECT_BASE (R290). -/
def HM_DEFECT_BASE : Nat := 0x0E058
def HM_DEFECT_BASE_OFF : Fld := ⟨HM_DEFECT_BASE, 0, 24⟩
def HM_DEFECT_BASE_MAX : Fld := ⟨HM_DEFECT_BASE, 24, 17⟩
/-- HM_DEFECT_CNT (R290). -/
def HM_DEFECT_CNT : Nat := 0x0E060
def HM_DEFECT_CNT_HOST : Fld := ⟨HM_DEFECT_CNT, 0, 17⟩
def HM_DEFECT_CNT_TOTAL : Fld := ⟨HM_DEFECT_CNT, 17, 17⟩
def HM_DEFECT_CNT_FULL : Fld := ⟨HM_DEFECT_CNT, 34, 1⟩
/-- HM_MAP_CTL (R290). -/
def HM_MAP_CTL : Nat := 0x0E068
def HM_MAP_CTL_MAP_CC : Fld := ⟨HM_MAP_CTL, 0, 13⟩
/-- HM_SPARE_STAT (R291). -/
def HM_SPARE_STAT : Nat := 0x0E070
def HM_SPARE_STAT_AVAIL : Fld := ⟨HM_SPARE_STAT, 0, 20⟩
def HM_SPARE_STAT_FREE : Fld := ⟨HM_SPARE_STAT, 20, 20⟩
def HM_SPARE_STAT_ZERO_QUAYS : Fld := ⟨HM_SPARE_STAT, 40, 7⟩
def HM_SPARE_STAT_LENT : Fld := ⟨HM_SPARE_STAT, 47, 16⟩
def HM_SPARE_STAT_OUT : Fld := ⟨HM_SPARE_STAT, 63, 1⟩
/-- HM_HEALTH_OP (R292). -/
def HM_HEALTH_OP : Nat := 0x0E078
def HM_HEALTH_OP_PTILE : Fld := ⟨HM_HEALTH_OP, 0, 20⟩
def HM_HEALTH_OP_OP : Fld := ⟨HM_HEALTH_OP, 20, 2⟩
def HM_HEALTH_OP_GO : Fld := ⟨HM_HEALTH_OP, 22, 1⟩
def HM_HEALTH_OP_BUSY : Fld := ⟨HM_HEALTH_OP, 23, 1⟩
def HM_HEALTH_OP_REFUSED : Fld := ⟨HM_HEALTH_OP, 24, 1⟩
/-- HM_HEALTH_CNT (R291). -/
def HM_HEALTH_CNT : Nat := 0x0E080
def HM_HEALTH_CNT_MOVES : Fld := ⟨HM_HEALTH_CNT, 0, 16⟩
def HM_HEALTH_CNT_BMOVES : Fld := ⟨HM_HEALTH_CNT, 16, 16⟩
def HM_HEALTH_CNT_BORROWS : Fld := ⟨HM_HEALTH_CNT, 32, 16⟩
def HM_HEALTH_CNT_FORCED : Fld := ⟨HM_HEALTH_CNT, 48, 16⟩
/-- HM_TEST_CTL (R332). -/
def HM_TEST_CTL : Nat := 0x0F040
def HM_TEST_CTL_EN : Fld := ⟨HM_TEST_CTL, 0, 1⟩
def HM_TEST_CTL_INTERVAL_S : Fld := ⟨HM_TEST_CTL, 1, 8⟩
def HM_TEST_CTL_LBIST_SL : Fld := ⟨HM_TEST_CTL, 9, 5⟩
def HM_TEST_CTL_TOPUP_SL : Fld := ⟨HM_TEST_CTL, 14, 3⟩
def HM_TEST_CTL_MBIST_SL : Fld := ⟨HM_TEST_CTL, 17, 2⟩
def HM_TEST_CTL_FUNC_SL : Fld := ⟨HM_TEST_CTL, 19, 2⟩
def HM_TEST_CTL_DIAG_EN : Fld := ⟨HM_TEST_CTL, 21, 1⟩
def HM_TEST_CTL_REPAIR_EN : Fld := ⟨HM_TEST_CTL, 22, 1⟩
def HM_TEST_CTL_ZERO_CC : Fld := ⟨HM_TEST_CTL, 23, 17⟩
/-- HM_TEST_STAT (R333). -/
def HM_TEST_STAT : Nat := 0x0F048
def HM_TEST_STAT_TESTING : Fld := ⟨HM_TEST_STAT, 0, 10⟩
def HM_TEST_STAT_OVERDUE : Fld := ⟨HM_TEST_STAT, 10, 16⟩
def HM_TEST_STAT_OLDEST : Fld := ⟨HM_TEST_STAT, 26, 16⟩
def HM_TEST_STAT_LIB_OK : Fld := ⟨HM_TEST_STAT, 42, 1⟩
/-- HM_TEST_RES_BASE (R333). -/
def HM_TEST_RES_BASE : Nat := 0x0F050
def HM_TEST_RES_BASE_OFF : Fld := ⟨HM_TEST_RES_BASE, 0, 24⟩
def HM_TEST_RES_BASE_SIZE : Fld := ⟨HM_TEST_RES_BASE, 24, 6⟩
/-- HM_TEST_RES_WR (R333). -/
def HM_TEST_RES_WR : Nat := 0x0F058
def HM_TEST_RES_WR_WR : Fld := ⟨HM_TEST_RES_WR, 0, 22⟩
/-- HM_TEST_RES_RD (R333). -/
def HM_TEST_RES_RD : Nat := 0x0F060
def HM_TEST_RES_RD_RD : Fld := ⟨HM_TEST_RES_RD, 0, 22⟩
/-- HM_TEST_CNT0 (R334). -/
def HM_TEST_CNT0 : Nat := 0x0F068
def HM_TEST_CNT0_PASSES : Fld := ⟨HM_TEST_CNT0, 0, 32⟩
def HM_TEST_CNT0_FAILS : Fld := ⟨HM_TEST_CNT0, 32, 16⟩
def HM_TEST_CNT0_PREEMPTS : Fld := ⟨HM_TEST_CNT0, 48, 16⟩
/-- HM_TEST_CNT1 (R334). -/
def HM_TEST_CNT1 : Nat := 0x0F070
def HM_TEST_CNT1_REPAIRS : Fld := ⟨HM_TEST_CNT1, 0, 16⟩
def HM_TEST_CNT1_DIAGS : Fld := ⟨HM_TEST_CNT1, 16, 16⟩
def HM_TEST_CNT1_RES_DROPPED : Fld := ⟨HM_TEST_CNT1, 32, 16⟩
/-- HM_TEST_OP (R335). -/
def HM_TEST_OP : Nat := 0x0F078
def HM_TEST_OP_PTILE : Fld := ⟨HM_TEST_OP, 0, 20⟩
def HM_TEST_OP_OP : Fld := ⟨HM_TEST_OP, 20, 2⟩
def HM_TEST_OP_GO : Fld := ⟨HM_TEST_OP, 22, 1⟩
def HM_TEST_OP_BUSY : Fld := ⟨HM_TEST_OP, 23, 1⟩
def HM_TEST_OP_REFUSED : Fld := ⟨HM_TEST_OP, 24, 1⟩
/-- HM_TEST_LIB (R336). -/
def HM_TEST_LIB : Nat := 0x0F080
def HM_TEST_LIB_LBIST_SEQ : Fld := ⟨HM_TEST_LIB, 0, 32⟩
def HM_TEST_LIB_TOPUP_SEQ : Fld := ⟨HM_TEST_LIB, 32, 32⟩
/-- HM_TEST_LIB1 (R336). -/
def HM_TEST_LIB1 : Nat := 0x0F088
def HM_TEST_LIB1_VECTORS : Fld := ⟨HM_TEST_LIB1, 0, 24⟩
def HM_TEST_LIB1_VSEGS : Fld := ⟨HM_TEST_LIB1, 24, 16⟩
/-- HM_XSPI_ADDR (R337). -/
def HM_XSPI_ADDR : Nat := 0x10040
def HM_XSPI_ADDR_ADDR : Fld := ⟨HM_XSPI_ADDR, 0, 32⟩
/-- HM_XSPI_SRC (R337). -/
def HM_XSPI_SRC : Nat := 0x10048
def HM_XSPI_SRC_OFF : Fld := ⟨HM_XSPI_SRC, 0, 24⟩
def HM_XSPI_SRC_LEN : Fld := ⟨HM_XSPI_SRC, 24, 21⟩
/-- HM_XSPI_OP (R337). -/
def HM_XSPI_OP : Nat := 0x10050
def HM_XSPI_OP_OP : Fld := ⟨HM_XSPI_OP, 0, 2⟩
def HM_XSPI_OP_GO : Fld := ⟨HM_XSPI_OP, 2, 1⟩
def HM_XSPI_OP_BUSY : Fld := ⟨HM_XSPI_OP, 3, 1⟩
def HM_XSPI_OP_STATUS : Fld := ⟨HM_XSPI_OP, 4, 3⟩
def HM_XSPI_OP_DONE : Fld := ⟨HM_XSPI_OP, 32, 32⟩
/-- HM_XSPI_TEMP (R337). -/
def HM_XSPI_TEMP : Nat := 0x10058
def HM_XSPI_TEMP_CH23 : Fld := ⟨HM_XSPI_TEMP, 0, 16⟩
def HM_XSPI_TEMP_IN_WINDOW : Fld := ⟨HM_XSPI_TEMP, 16, 1⟩
/-- HM_XSPI_SEG (R337). -/
def HM_XSPI_SEG : Nat := 0x10060
def HM_XSPI_SEG_VALID : Fld := ⟨HM_XSPI_SEG, 0, 16⟩
def HM_XSPI_SEG_INVALID : Fld := ⟨HM_XSPI_SEG, 16, 16⟩
/-- HM_HAWSER_CTL (R430). -/
def HM_HAWSER_CTL : Nat := 0x11040
def HM_HAWSER_CTL_EN : Fld := ⟨HM_HAWSER_CTL, 0, 1⟩
def HM_HAWSER_CTL_EPOCH_LOG2 : Fld := ⟨HM_HAWSER_CTL, 1, 4⟩
def HM_HAWSER_CTL_REALIGN_LOG2 : Fld := ⟨HM_HAWSER_CTL, 5, 4⟩
def HM_HAWSER_CTL_FB_EN : Fld := ⟨HM_HAWSER_CTL, 9, 1⟩
/-- HM_HAWSER_STAT (R431). -/
def HM_HAWSER_STAT : Nat := 0x11048
def HM_HAWSER_STAT_SENSE : Fld := ⟨HM_HAWSER_STAT, 0, 8⟩
def HM_HAWSER_STAT_RING : Fld := ⟨HM_HAWSER_STAT, 8, 5⟩
def HM_HAWSER_STAT_GROUPS : Fld := ⟨HM_HAWSER_STAT, 13, 7⟩
def HM_HAWSER_STAT_FALLBACK : Fld := ⟨HM_HAWSER_STAT, 20, 7⟩
/-- HM_HAWSER_CNT (R432). -/
def HM_HAWSER_CNT (n : Nat) : Nat := (0x11050 + 8 * n)
def HM_HAWSER_CNT_ROUNDS (n : Nat) : Fld := ⟨HM_HAWSER_CNT n, 0, 48⟩
def HM_HAWSER_CNT_OVERRUNS (n : Nat) : Fld := ⟨HM_HAWSER_CNT n, 48, 16⟩
/-- HM_HAWSER_GTAB (R433). -/
def HM_HAWSER_GTAB : Nat := 0x11090
def HM_HAWSER_GTAB_OFF : Fld := ⟨HM_HAWSER_GTAB, 0, 24⟩
/-- HM_HAWSER_XCTL (R434). -/
def HM_HAWSER_XCTL : Nat := 0x11098
def HM_HAWSER_XCTL_XEN : Fld := ⟨HM_HAWSER_XCTL, 0, 8⟩
def HM_HAWSER_XCTL_POS : Fld := ⟨HM_HAWSER_XCTL, 8, 4⟩
def HM_HAWSER_XCTL_WAFERS : Fld := ⟨HM_HAWSER_XCTL, 12, 5⟩
def HM_HAWSER_XCTL_CAL_GO : Fld := ⟨HM_HAWSER_XCTL, 17, 1⟩
/-- HM_HAWSER_XCAL (R434). -/
def HM_HAWSER_XCAL : Nat := 0x110A0
def HM_HAWSER_XCAL_LOOP : Fld := ⟨HM_HAWSER_XCAL, 0, 12⟩
def HM_HAWSER_XCAL_DPOS : Fld := ⟨HM_HAWSER_XCAL, 12, 12⟩
def HM_HAWSER_XCAL_DMAX : Fld := ⟨HM_HAWSER_XCAL, 24, 12⟩
def HM_HAWSER_XCAL_CAL_STATE : Fld := ⟨HM_HAWSER_XCAL, 36, 2⟩
def HM_HAWSER_XCAL_REL_DLY : Fld := ⟨HM_HAWSER_XCAL, 38, 12⟩
/-- HM_PWR_CTL (R476). -/
def HM_PWR_CTL : Nat := 0x12040
def HM_PWR_CTL_EN : Fld := ⟨HM_PWR_CTL, 0, 1⟩
def HM_PWR_CTL_I_EN : Fld := ⟨HM_PWR_CTL, 1, 1⟩
def HM_PWR_CTL_PIN_MAX : Fld := ⟨HM_PWR_CTL, 2, 16⟩
def HM_PWR_CTL_IOUT_MAX : Fld := ⟨HM_PWR_CTL, 18, 12⟩
def HM_PWR_CTL_RAIL_LOW_MV : Fld := ⟨HM_PWR_CTL, 30, 6⟩
def HM_PWR_CTL_RELAX : Fld := ⟨HM_PWR_CTL, 36, 4⟩
/-- HM_PWR_CAL (R476). -/
def HM_PWR_CAL : Nat := 0x12048
def HM_PWR_CAL_I_SCALE : Fld := ⟨HM_PWR_CAL, 0, 24⟩
/-- HM_PWR_BUS (R477). -/
def HM_PWR_BUS : Nat := 0x12050
def HM_PWR_BUS_VBUS : Fld := ⟨HM_PWR_BUS, 0, 16⟩
def HM_PWR_BUS_IBUS : Fld := ⟨HM_PWR_BUS, 16, 16⟩
def HM_PWR_BUS_PIN : Fld := ⟨HM_PWR_BUS, 32, 16⟩
def HM_PWR_BUS_LOW : Fld := ⟨HM_PWR_BUS, 48, 1⟩
def HM_PWR_BUS_PFAIL : Fld := ⟨HM_PWR_BUS, 49, 1⟩
def HM_PWR_BUS_HIGH : Fld := ⟨HM_PWR_BUS, 50, 1⟩
def HM_PWR_BUS_PFAIL_PIN : Fld := ⟨HM_PWR_BUS, 51, 1⟩
/-- HM_PWR_STAT (R477). -/
def HM_PWR_STAT : Nat := 0x12058
def HM_PWR_STAT_T_WAFER : Fld := ⟨HM_PWR_STAT, 0, 4⟩
def HM_PWR_STAT_QUIET : Fld := ⟨HM_PWR_STAT, 4, 6⟩
def HM_PWR_STAT_PIN_OVER : Fld := ⟨HM_PWR_STAT, 10, 1⟩
/-- HM_PWR_AIN (R478). -/
def HM_PWR_AIN (n : Nat) : Nat := (0x12060 + 8 * n)
def HM_PWR_AIN_VALUE (n : Nat) : Fld := ⟨HM_PWR_AIN n, 0, 14⟩
def HM_PWR_AIN_LO (n : Nat) : Fld := ⟨HM_PWR_AIN n, 16, 14⟩
def HM_PWR_AIN_HI (n : Nat) : Fld := ⟨HM_PWR_AIN n, 32, 14⟩
def HM_PWR_AIN_BELOW (n : Nat) : Fld := ⟨HM_PWR_AIN n, 48, 1⟩
def HM_PWR_AIN_ABOVE (n : Nat) : Fld := ⟨HM_PWR_AIN n, 49, 1⟩
/-- HM_PWR_CNT (R477). -/
def HM_PWR_CNT : Nat := 0x120E0
def HM_PWR_CNT_BUS_LOW : Fld := ⟨HM_PWR_CNT, 0, 16⟩
def HM_PWR_CNT_PFAIL : Fld := ⟨HM_PWR_CNT, 16, 16⟩
def HM_PWR_CNT_BUS_HIGH : Fld := ⟨HM_PWR_CNT, 32, 16⟩
def HM_PWR_CNT_RAIL : Fld := ⟨HM_PWR_CNT, 48, 16⟩
/-- HM_THERM_CTL (R479). -/
def HM_THERM_CTL : Nat := 0x13040
def HM_THERM_CTL_EN : Fld := ⟨HM_THERM_CTL, 0, 1⟩
def HM_THERM_CTL_JWARN : Fld := ⟨HM_THERM_CTL, 1, 8⟩
def HM_THERM_CTL_JTHR : Fld := ⟨HM_THERM_CTL, 9, 8⟩
def HM_THERM_CTL_JCRIT : Fld := ⟨HM_THERM_CTL, 17, 8⟩
def HM_THERM_CTL_HYST : Fld := ⟨HM_THERM_CTL, 25, 4⟩
def HM_THERM_CTL_RISE : Fld := ⟨HM_THERM_CTL, 29, 8⟩
def HM_THERM_CTL_RELAX : Fld := ⟨HM_THERM_CTL, 37, 4⟩
def HM_THERM_CTL_FAULT_T : Fld := ⟨HM_THERM_CTL, 41, 4⟩
/-- HM_THERM_XCFG (R480). -/
def HM_THERM_XCFG (n : Nat) : Nat := (0x13048 + 8 * n)
def HM_THERM_XCFG_EN (n : Nat) : Fld := ⟨HM_THERM_XCFG n, 0, 1⟩
def HM_THERM_XCFG_TYPE (n : Nat) : Fld := ⟨HM_THERM_XCFG n, 1, 1⟩
def HM_THERM_XCFG_SCOPE (n : Nat) : Fld := ⟨HM_THERM_XCFG n, 2, 2⟩
def HM_THERM_XCFG_QUAY (n : Nat) : Fld := ⟨HM_THERM_XCFG n, 4, 6⟩
def HM_THERM_XCFG_WARN (n : Nat) : Fld := ⟨HM_THERM_XCFG n, 10, 8⟩
def HM_THERM_XCFG_THR (n : Nat) : Fld := ⟨HM_THERM_XCFG n, 18, 8⟩
def HM_THERM_XCFG_CRIT (n : Nat) : Fld := ⟨HM_THERM_XCFG n, 26, 8⟩
def HM_THERM_XCFG_BETA (n : Nat) : Fld := ⟨HM_THERM_XCFG n, 34, 12⟩
def HM_THERM_XCFG_R26 (n : Nat) : Fld := ⟨HM_THERM_XCFG n, 46, 18⟩
/-- HM_THERM_VAL (R481). -/
def HM_THERM_VAL (n : Nat) : Nat := (0x13108 + 8 * n)
def HM_THERM_VAL_TEMP (n : Nat) : Fld := ⟨HM_THERM_VAL n, 0, 16⟩
def HM_THERM_VAL_DELTA (n : Nat) : Fld := ⟨HM_THERM_VAL n, 16, 16⟩
def HM_THERM_VAL_VALID (n : Nat) : Fld := ⟨HM_THERM_VAL n, 32, 1⟩
def HM_THERM_VAL_FAULT (n : Nat) : Fld := ⟨HM_THERM_VAL n, 33, 1⟩
def HM_THERM_VAL_WARN (n : Nat) : Fld := ⟨HM_THERM_VAL n, 34, 1⟩
def HM_THERM_VAL_THR (n : Nat) : Fld := ⟨HM_THERM_VAL n, 35, 1⟩
def HM_THERM_VAL_CRIT (n : Nat) : Fld := ⟨HM_THERM_VAL n, 36, 1⟩
/-- HM_THERM_STAT (R481). -/
def HM_THERM_STAT : Nat := 0x133C8
def HM_THERM_STAT_HOT_CH : Fld := ⟨HM_THERM_STAT, 0, 7⟩
def HM_THERM_STAT_HOT_TEMP : Fld := ⟨HM_THERM_STAT, 7, 16⟩
def HM_THERM_STAT_CRIT_ANY : Fld := ⟨HM_THERM_STAT, 23, 1⟩
def HM_THERM_STAT_FAULTS : Fld := ⟨HM_THERM_STAT, 24, 8⟩
def HM_THERM_STAT_ROUNDS : Fld := ⟨HM_THERM_STAT, 32, 32⟩
/-- HM_FAULT_CTL (R508). -/
def HM_FAULT_CTL : Nat := 0x14040
def HM_FAULT_CTL_INJECT_EN : Fld := ⟨HM_FAULT_CTL, 0, 1⟩
def HM_FAULT_CTL_INJECT_L : Fld := ⟨HM_FAULT_CTL, 1, 1⟩
def HM_FAULT_CTL_FORCE_NOCOLOUR : Fld := ⟨HM_FAULT_CTL, 2, 1⟩
/-- HM_FAULT_SUM (R509). -/
def HM_FAULT_SUM : Nat := 0x14048
def HM_FAULT_SUM_QUAYS : Fld := ⟨HM_FAULT_SUM, 0, 64⟩
/-- HM_FAULT_SRC (R509). -/
def HM_FAULT_SRC : Nat := 0x14050
def HM_FAULT_SRC_TYPE : Fld := ⟨HM_FAULT_SRC, 0, 8⟩
def HM_FAULT_SRC_QUAY : Fld := ⟨HM_FAULT_SRC, 8, 6⟩
def HM_FAULT_SRC_LTILE : Fld := ⟨HM_FAULT_SRC, 14, 14⟩
def HM_FAULT_SRC_BIT : Fld := ⟨HM_FAULT_SRC, 28, 5⟩
def HM_FAULT_SRC_FORCED : Fld := ⟨HM_FAULT_SRC, 33, 1⟩
def HM_FAULT_SRC_TICK : Fld := ⟨HM_FAULT_SRC, 34, 29⟩
def HM_FAULT_SRC_VALID : Fld := ⟨HM_FAULT_SRC, 63, 1⟩
/-- HM_FAULT_ALARM (R510). -/
def HM_FAULT_ALARM : Nat := 0x14058
def HM_FAULT_ALARM_CAUSE : Fld := ⟨HM_FAULT_ALARM, 0, 6⟩
def HM_FAULT_ALARM_ACKED : Fld := ⟨HM_FAULT_ALARM, 6, 6⟩
def HM_FAULT_ALARM_PIN : Fld := ⟨HM_FAULT_ALARM, 12, 1⟩
/-- HM_FAULT_ACK (R510). -/
def HM_FAULT_ACK : Nat := 0x14060
def HM_FAULT_ACK_ACK : Fld := ⟨HM_FAULT_ACK, 0, 6⟩
/-- HM_FAULT_OP (R510). -/
def HM_FAULT_OP : Nat := 0x14068
def HM_FAULT_OP_QUAY : Fld := ⟨HM_FAULT_OP, 0, 6⟩
def HM_FAULT_OP_REGION : Fld := ⟨HM_FAULT_OP, 6, 1⟩
def HM_FAULT_OP_WAFER : Fld := ⟨HM_FAULT_OP, 7, 1⟩
/-- HM_FAULT_CNT0 (R511). -/
def HM_FAULT_CNT0 : Nat := 0x14070
def HM_FAULT_CNT0_CORRECTED : Fld := ⟨HM_FAULT_CNT0, 0, 24⟩
def HM_FAULT_CNT0_UNCORRECTED : Fld := ⟨HM_FAULT_CNT0, 24, 16⟩
def HM_FAULT_CNT0_FORCED : Fld := ⟨HM_FAULT_CNT0, 40, 16⟩
def HM_FAULT_CNT0_BW_REGION : Fld := ⟨HM_FAULT_CNT0, 56, 8⟩
/-- HM_RST_CTL (R537). -/
def HM_RST_CTL : Nat := 0x15040
def HM_RST_CTL_DUMP_TILE : Fld := ⟨HM_RST_CTL, 0, 1⟩
def HM_RST_CTL_DUMP_QUAY : Fld := ⟨HM_RST_CTL, 1, 1⟩
def HM_RST_CTL_DUMP_LANTERN : Fld := ⟨HM_RST_CTL, 2, 1⟩
def HM_RST_CTL_NOTE_IRQ : Fld := ⟨HM_RST_CTL, 3, 1⟩
def HM_RST_CTL_PWR_CC : Fld := ⟨HM_RST_CTL, 4, 20⟩
/-- HM_RST_STAT (R538). -/
def HM_RST_STAT : Nat := 0x15048
def HM_RST_STAT_LANTERN : Fld := ⟨HM_RST_STAT, 0, 1⟩
def HM_RST_STAT_WHY : Fld := ⟨HM_RST_STAT, 1, 3⟩
def HM_RST_STAT_CORES : Fld := ⟨HM_RST_STAT, 4, 3⟩
def HM_RST_STAT_IDLE_TICKS : Fld := ⟨HM_RST_STAT, 7, 3⟩
def HM_RST_STAT_RESTART_STATE : Fld := ⟨HM_RST_STAT, 10, 2⟩
/-- HM_RST_OP (R539). -/
def HM_RST_OP : Nat := 0x15050
def HM_RST_OP_OP : Fld := ⟨HM_RST_OP, 0, 3⟩
def HM_RST_OP_GO : Fld := ⟨HM_RST_OP, 3, 1⟩
def HM_RST_OP_BUSY : Fld := ⟨HM_RST_OP, 4, 1⟩
def HM_RST_OP_REFUSED : Fld := ⟨HM_RST_OP, 5, 1⟩
/-- HM_RST_ARG (R539). -/
def HM_RST_ARG : Nat := 0x15058
def HM_RST_ARG_PTILE : Fld := ⟨HM_RST_ARG, 0, 20⟩
def HM_RST_ARG_QUAY : Fld := ⟨HM_RST_ARG, 20, 6⟩
def HM_RST_ARG_ROW_LO : Fld := ⟨HM_RST_ARG, 26, 7⟩
def HM_RST_ARG_ROW_HI : Fld := ⟨HM_RST_ARG, 33, 7⟩
def HM_RST_ARG_COL_LO : Fld := ⟨HM_RST_ARG, 40, 7⟩
def HM_RST_ARG_COL_HI : Fld := ⟨HM_RST_ARG, 47, 7⟩
def HM_RST_ARG_KIND : Fld := ⟨HM_RST_ARG, 54, 2⟩
def HM_RST_ARG_PWR : Fld := ⟨HM_RST_ARG, 56, 1⟩
/-- HM_RST_DUMP (R540). -/
def HM_RST_DUMP : Nat := 0x15060
def HM_RST_DUMP_OFF : Fld := ⟨HM_RST_DUMP, 0, 24⟩
def HM_RST_DUMP_HELD : Fld := ⟨HM_RST_DUMP, 24, 1⟩
def HM_RST_DUMP_KIND : Fld := ⟨HM_RST_DUMP, 25, 3⟩
def HM_RST_DUMP_COPIED : Fld := ⟨HM_RST_DUMP, 28, 1⟩
def HM_RST_DUMP_BYTES : Fld := ⟨HM_RST_DUMP, 29, 22⟩
/-- HM_RST_IMG (R540). -/
def HM_RST_IMG : Nat := 0x15068
def HM_RST_IMG_OFF : Fld := ⟨HM_RST_IMG, 0, 24⟩
def HM_RST_IMG_LEN : Fld := ⟨HM_RST_IMG, 24, 21⟩
/-- HM_RST_NOTE_BASE (R541). -/
def HM_RST_NOTE_BASE : Nat := 0x15070
def HM_RST_NOTE_BASE_OFF : Fld := ⟨HM_RST_NOTE_BASE, 0, 24⟩
def HM_RST_NOTE_BASE_SIZE : Fld := ⟨HM_RST_NOTE_BASE, 24, 6⟩
/-- HM_RST_NOTE_WR (R541). -/
def HM_RST_NOTE_WR : Nat := 0x15078
def HM_RST_NOTE_WR_WR : Fld := ⟨HM_RST_NOTE_WR, 0, 22⟩
/-- HM_RST_NOTE_RD (R541). -/
def HM_RST_NOTE_RD : Nat := 0x15080
def HM_RST_NOTE_RD_RD : Fld := ⟨HM_RST_NOTE_RD, 0, 22⟩
/-- HM_RST_ESC (R541). -/
def HM_RST_ESC : Nat := 0x15088
def HM_RST_ESC_ENTRIES : Fld := ⟨HM_RST_ESC, 0, 14⟩
def HM_RST_ESC_EVICTS : Fld := ⟨HM_RST_ESC, 14, 16⟩
def HM_RST_ESC_TILE_ESC : Fld := ⟨HM_RST_ESC, 30, 16⟩
def HM_RST_ESC_QUAY_ESC : Fld := ⟨HM_RST_ESC, 46, 8⟩
/-- HM_RST_CNT (R541). -/
def HM_RST_CNT : Nat := 0x15090
def HM_RST_CNT_TILE_RESETS : Fld := ⟨HM_RST_CNT, 0, 24⟩
def HM_RST_CNT_QUAY_RESETS : Fld := ⟨HM_RST_CNT, 24, 12⟩
def HM_RST_CNT_HM_RESTARTS : Fld := ⟨HM_RST_CNT, 36, 8⟩
def HM_RST_CNT_LANTERNS : Fld := ⟨HM_RST_CNT, 44, 8⟩
def HM_RST_CNT_DUMPS : Fld := ⟨HM_RST_CNT, 52, 12⟩
/-- HM_RST_KICK (R540). -/
def HM_RST_KICK : Nat := 0x15098
def HM_RST_KICK_KICK : Fld := ⟨HM_RST_KICK, 0, 1⟩
/-- HM_LOG_CTL (R574). -/
def HM_LOG_CTL : Nat := 0x16040
def HM_LOG_CTL_STORE_EN : Fld := ⟨HM_LOG_CTL, 0, 1⟩
def HM_LOG_CTL_FLUSH : Fld := ⟨HM_LOG_CTL, 1, 1⟩
def HM_LOG_CTL_PORT_RETRY : Fld := ⟨HM_LOG_CTL, 2, 1⟩
def HM_LOG_CTL_THRESH : Fld := ⟨HM_LOG_CTL, 3, 20⟩
/-- HM_LOG_WSEQ (R575). -/
def HM_LOG_WSEQ : Nat := 0x16048
def HM_LOG_WSEQ_WSEQ : Fld := ⟨HM_LOG_WSEQ, 0, 64⟩
/-- HM_LOG_FSEQ (R575). -/
def HM_LOG_FSEQ : Nat := 0x16050
def HM_LOG_FSEQ_FSEQ : Fld := ⟨HM_LOG_FSEQ, 0, 64⟩
/-- HM_LOG_RMARK (R575). -/
def HM_LOG_RMARK : Nat := 0x16058
def HM_LOG_RMARK_RMARK : Fld := ⟨HM_LOG_RMARK, 0, 64⟩
/-- HM_LOG_RSEL (R575). -/
def HM_LOG_RSEL : Nat := 0x16060
def HM_LOG_RSEL_SEQ : Fld := ⟨HM_LOG_RSEL, 0, 64⟩
/-- HM_LOG_RSTAT (R575). -/
def HM_LOG_RSTAT : Nat := 0x16068
def HM_LOG_RSTAT_STATUS : Fld := ⟨HM_LOG_RSTAT, 0, 3⟩
/-- HM_LOG_RDATA (R575). -/
def HM_LOG_RDATA (n : Nat) : Nat := (0x16070 + 8 * n)
def HM_LOG_RDATA_DATA (n : Nat) : Fld := ⟨HM_LOG_RDATA n, 0, 64⟩
/-- HM_LOG_STAT (R576). -/
def HM_LOG_STAT : Nat := 0x16090
def HM_LOG_STAT_STATE : Fld := ⟨HM_LOG_STAT, 0, 3⟩
def HM_LOG_STAT_BLOCK : Fld := ⟨HM_LOG_STAT, 3, 8⟩
def HM_LOG_STAT_HOLD : Fld := ⟨HM_LOG_STAT, 11, 1⟩
def HM_LOG_STAT_BAD_BLOCKS : Fld := ⟨HM_LOG_STAT, 12, 8⟩
/-- HM_LOG_CNT (R576). -/
def HM_LOG_CNT : Nat := 0x16098
def HM_LOG_CNT_DROPPED : Fld := ⟨HM_LOG_CNT, 0, 32⟩
def HM_LOG_CNT_FLUSHES : Fld := ⟨HM_LOG_CNT, 32, 16⟩
def HM_LOG_CNT_PF_FLUSHES : Fld := ⟨HM_LOG_CNT, 48, 16⟩
/-- HM_LOG_NONCE0 (R577). -/
def HM_LOG_NONCE0 : Nat := 0x160A0
def HM_LOG_NONCE0_NONCE : Fld := ⟨HM_LOG_NONCE0, 0, 64⟩
/-- HM_LOG_NONCE1 (R577). -/
def HM_LOG_NONCE1 : Nat := 0x160A8
def HM_LOG_NONCE1_NONCE : Fld := ⟨HM_LOG_NONCE1, 0, 64⟩
/-- HM_LOG_CLR_FIRST (R577). -/
def HM_LOG_CLR_FIRST : Nat := 0x160B0
def HM_LOG_CLR_FIRST_FIRST : Fld := ⟨HM_LOG_CLR_FIRST, 0, 64⟩
/-- HM_LOG_CLR_LAST (R577). -/
def HM_LOG_CLR_LAST : Nat := 0x160B8
def HM_LOG_CLR_LAST_LAST : Fld := ⟨HM_LOG_CLR_LAST, 0, 64⟩
/-- HM_LOG_TOKEN (R577). -/
def HM_LOG_TOKEN (n : Nat) : Nat := (0x160C0 + 8 * n)
def HM_LOG_TOKEN_TOKEN (n : Nat) : Fld := ⟨HM_LOG_TOKEN n, 0, 64⟩
/-- HM_LOG_CLR (R577). -/
def HM_LOG_CLR : Nat := 0x160E0
def HM_LOG_CLR_GO : Fld := ⟨HM_LOG_CLR, 0, 1⟩
def HM_LOG_CLR_BUSY : Fld := ⟨HM_LOG_CLR, 1, 1⟩
def HM_LOG_CLR_STATUS : Fld := ⟨HM_LOG_CLR, 2, 3⟩
def HM_LOG_CLR_CLEARED : Fld := ⟨HM_LOG_CLR, 5, 32⟩
/-- HM_LOG_PORT (R578). -/
def HM_LOG_PORT : Nat := 0x160E8
def HM_LOG_PORT_WREN : Fld := ⟨HM_LOG_PORT, 0, 8⟩
def HM_LOG_PORT_WRITE : Fld := ⟨HM_LOG_PORT, 8, 8⟩
def HM_LOG_PORT_READ : Fld := ⟨HM_LOG_PORT, 16, 8⟩
def HM_LOG_PORT_DUMMY : Fld := ⟨HM_LOG_PORT, 24, 4⟩
def HM_LOG_PORT_ADDR4 : Fld := ⟨HM_LOG_PORT, 28, 1⟩
def HM_LOG_PORT_DIV : Fld := ⟨HM_LOG_PORT, 29, 3⟩
/-- HM_LOG_STORE (R578). -/
def HM_LOG_STORE : Nat := 0x160F0
def HM_LOG_STORE_BLOCKS : Fld := ⟨HM_LOG_STORE, 0, 8⟩
/-- HM_KEY_SEL (R579). -/
def HM_KEY_SEL : Nat := 0x17040
def HM_KEY_SEL_SLOT : Fld := ⟨HM_KEY_SEL, 0, 3⟩
def HM_KEY_SEL_KEY_ID : Fld := ⟨HM_KEY_SEL, 4, 12⟩
/-- HM_KEY_DATA (R579). -/
def HM_KEY_DATA (n : Nat) : Nat := (0x17048 + 8 * n)
def HM_KEY_DATA_DATA (n : Nat) : Fld := ⟨HM_KEY_DATA n, 0, 64⟩
/-- HM_KEY_OP (R579). -/
def HM_KEY_OP : Nat := 0x17068
def HM_KEY_OP_LOAD : Fld := ⟨HM_KEY_OP, 0, 1⟩
def HM_KEY_OP_ZERO : Fld := ⟨HM_KEY_OP, 1, 1⟩
def HM_KEY_OP_BUSY : Fld := ⟨HM_KEY_OP, 2, 1⟩
def HM_KEY_OP_REFUSED : Fld := ⟨HM_KEY_OP, 3, 1⟩
/-- HM_KEY_STAT (R579). -/
def HM_KEY_STAT : Nat := 0x17070
def HM_KEY_STAT_LOADED : Fld := ⟨HM_KEY_STAT, 0, 5⟩
def HM_KEY_STAT_SPREAD : Fld := ⟨HM_KEY_STAT, 5, 5⟩
def HM_KEY_STAT_CHKFAIL : Fld := ⟨HM_KEY_STAT, 10, 5⟩
/-- HM_KEY_ID (R579). -/
def HM_KEY_ID : Nat := 0x17078
def HM_KEY_ID_IDS : Fld := ⟨HM_KEY_ID, 0, 60⟩
/-- HM_TRIPLEX_STAT (R608). -/
def HM_TRIPLEX_STAT : Nat := 0x18040
def HM_TRIPLEX_STAT_PHASE : Fld := ⟨HM_TRIPLEX_STAT, 0, 3⟩
def HM_TRIPLEX_STAT_CORES : Fld := ⟨HM_TRIPLEX_STAT, 3, 3⟩
def HM_TRIPLEX_STAT_COLOUR : Fld := ⟨HM_TRIPLEX_STAT, 6, 9⟩
def HM_TRIPLEX_STAT_UPD : Fld := ⟨HM_TRIPLEX_STAT, 15, 3⟩
def HM_TRIPLEX_STAT_ABSENT : Fld := ⟨HM_TRIPLEX_STAT, 18, 1⟩
def HM_TRIPLEX_STAT_EPOCH : Fld := ⟨HM_TRIPLEX_STAT, 19, 1⟩
/-- HM_TRIPLEX_IMG (R609). -/
def HM_TRIPLEX_IMG : Nat := 0x18048
def HM_TRIPLEX_IMG_OFF : Fld := ⟨HM_TRIPLEX_IMG, 0, 24⟩
def HM_TRIPLEX_IMG_LEN : Fld := ⟨HM_TRIPLEX_IMG, 24, 21⟩
/-- HM_TRIPLEX_OP (R609). -/
def HM_TRIPLEX_OP : Nat := 0x18050
def HM_TRIPLEX_OP_OP : Fld := ⟨HM_TRIPLEX_OP, 0, 4⟩
def HM_TRIPLEX_OP_GO : Fld := ⟨HM_TRIPLEX_OP, 4, 1⟩
def HM_TRIPLEX_OP_BUSY : Fld := ⟨HM_TRIPLEX_OP, 5, 1⟩
def HM_TRIPLEX_OP_RESULT : Fld := ⟨HM_TRIPLEX_OP, 6, 4⟩
def HM_TRIPLEX_OP_REFUSED : Fld := ⟨HM_TRIPLEX_OP, 10, 1⟩
/-- HM_TRIPLEX_VER (R610). -/
def HM_TRIPLEX_VER : Nat := 0x18058
def HM_TRIPLEX_VER_RUNNING : Fld := ⟨HM_TRIPLEX_VER, 0, 16⟩
def HM_TRIPLEX_VER_STAGED : Fld := ⟨HM_TRIPLEX_VER, 16, 16⟩
def HM_TRIPLEX_VER_HO_OUT : Fld := ⟨HM_TRIPLEX_VER, 32, 16⟩
/-- HM_TRIPLEX_ID (R610). -/
def HM_TRIPLEX_ID : Nat := 0x18060
def HM_TRIPLEX_ID_WAFER : Fld := ⟨HM_TRIPLEX_ID, 0, 4⟩
def HM_TRIPLEX_ID_CORE_STEP : Fld := ⟨HM_TRIPLEX_ID, 4, 32⟩
/-- HM_TRIPLEX_HINT (R611). -/
def HM_TRIPLEX_HINT : Nat := 0x18068
def HM_TRIPLEX_HINT_XSPI_TAP : Fld := ⟨HM_TRIPLEX_HINT, 0, 6⟩
def HM_TRIPLEX_HINT_XSPI_VALID : Fld := ⟨HM_TRIPLEX_HINT, 6, 1⟩
def HM_TRIPLEX_HINT_HWX_LOOP : Fld := ⟨HM_TRIPLEX_HINT, 7, 12⟩
def HM_TRIPLEX_HINT_HWX_VALID : Fld := ⟨HM_TRIPLEX_HINT, 19, 1⟩
def HM_TRIPLEX_HINT_XSPI_FOUND : Fld := ⟨HM_TRIPLEX_HINT, 20, 6⟩
def HM_TRIPLEX_HINT_XSPI_RESULT : Fld := ⟨HM_TRIPLEX_HINT, 26, 2⟩
def HM_TRIPLEX_HINT_HWX_MISMATCH : Fld := ⟨HM_TRIPLEX_HINT, 28, 1⟩
/-- HM_TRIPLEX_OPENCHK (R612). -/
def HM_TRIPLEX_OPENCHK : Nat := 0x18070
def HM_TRIPLEX_OPENCHK_PAGE : Fld := ⟨HM_TRIPLEX_OPENCHK, 0, 6⟩
def HM_TRIPLEX_OPENCHK_QPAGE : Fld := ⟨HM_TRIPLEX_OPENCHK, 6, 1⟩
def HM_TRIPLEX_OPENCHK_QUAY : Fld := ⟨HM_TRIPLEX_OPENCHK, 7, 6⟩
def HM_TRIPLEX_OPENCHK_OFFSET : Fld := ⟨HM_TRIPLEX_OPENCHK, 13, 12⟩
def HM_TRIPLEX_OPENCHK_VALID : Fld := ⟨HM_TRIPLEX_OPENCHK, 25, 1⟩
/-- HM_TRIPLEX_OPEN (R612). -/
def HM_TRIPLEX_OPEN : Nat := 0x18078
def HM_TRIPLEX_OPEN_O : Fld := ⟨HM_TRIPLEX_OPEN, 0, 50⟩
/-- HM_TRIPLEX_STEST (R612). -/
def HM_TRIPLEX_STEST : Nat := 0x18080
def HM_TRIPLEX_STEST_DONE : Fld := ⟨HM_TRIPLEX_STEST, 0, 20⟩
def HM_TRIPLEX_STEST_FAILED : Fld := ⟨HM_TRIPLEX_STEST, 20, 16⟩
def HM_TRIPLEX_STEST_WAVE : Fld := ⟨HM_TRIPLEX_STEST, 36, 6⟩
def HM_TRIPLEX_STEST_STORE_ROWS : Fld := ⟨HM_TRIPLEX_STEST, 42, 16⟩
/-- HM_DET_PLAN (R631). -/
def HM_DET_PLAN : Nat := 0x19040
def HM_DET_PLAN_CLOCK_PLAN : Fld := ⟨HM_DET_PLAN, 0, 32⟩
def HM_DET_PLAN_POWER_PLAN : Fld := ⟨HM_DET_PLAN, 32, 32⟩
/-- HM_DET_DIGEST (R631). -/
def HM_DET_DIGEST : Nat := 0x19048
def HM_DET_DIGEST_DIGEST : Fld := ⟨HM_DET_DIGEST, 0, 64⟩
/-- HM_LOCKSTEP_CTL (R632). -/
def HM_LOCKSTEP_CTL : Nat := 0x19050
def HM_LOCKSTEP_CTL_EN : Fld := ⟨HM_LOCKSTEP_CTL, 0, 1⟩
def HM_LOCKSTEP_CTL_PEER : Fld := ⟨HM_LOCKSTEP_CTL, 1, 4⟩
def HM_LOCKSTEP_CTL_WIN : Fld := ⟨HM_LOCKSTEP_CTL, 5, 3⟩
def HM_LOCKSTEP_CTL_PEER_WIN : Fld := ⟨HM_LOCKSTEP_CTL, 8, 3⟩
def HM_LOCKSTEP_CTL_GO : Fld := ⟨HM_LOCKSTEP_CTL, 11, 1⟩
def HM_LOCKSTEP_CTL_STOP : Fld := ⟨HM_LOCKSTEP_CTL, 12, 1⟩
def HM_LOCKSTEP_CTL_DIV_HALT : Fld := ⟨HM_LOCKSTEP_CTL, 13, 1⟩
def HM_LOCKSTEP_CTL_SILENT : Fld := ⟨HM_LOCKSTEP_CTL, 14, 10⟩
/-- HM_LOCKSTEP_STAT (R633). -/
def HM_LOCKSTEP_STAT : Nat := 0x19058
def HM_LOCKSTEP_STAT_STATE : Fld := ⟨HM_LOCKSTEP_STAT, 0, 3⟩
def HM_LOCKSTEP_STAT_REASON : Fld := ⟨HM_LOCKSTEP_STAT, 3, 3⟩
def HM_LOCKSTEP_STAT_OWN_STALL : Fld := ⟨HM_LOCKSTEP_STAT, 6, 1⟩
def HM_LOCKSTEP_STAT_LAST_STEP : Fld := ⟨HM_LOCKSTEP_STAT, 7, 32⟩
/-- HM_LOCKSTEP_DIV (R633). -/
def HM_LOCKSTEP_DIV : Nat := 0x19060
def HM_LOCKSTEP_DIV_STEP : Fld := ⟨HM_LOCKSTEP_DIV, 0, 32⟩
def HM_LOCKSTEP_DIV_QUAY : Fld := ⟨HM_LOCKSTEP_DIV, 32, 6⟩
def HM_LOCKSTEP_DIV_ROW : Fld := ⟨HM_LOCKSTEP_DIV, 38, 7⟩
def HM_LOCKSTEP_DIV_ROW_VALID : Fld := ⟨HM_LOCKSTEP_DIV, 45, 1⟩
def HM_LOCKSTEP_DIV_VALID : Fld := ⟨HM_LOCKSTEP_DIV, 63, 1⟩
/-- HM_LOCKSTEP_QAREA (R633). -/
def HM_LOCKSTEP_QAREA : Nat := 0x19068
def HM_LOCKSTEP_QAREA_OFF : Fld := ⟨HM_LOCKSTEP_QAREA, 0, 24⟩
/-- HM_LOCKSTEP_CNT (R633). -/
def HM_LOCKSTEP_CNT : Nat := 0x19070
def HM_LOCKSTEP_CNT_COMPARED : Fld := ⟨HM_LOCKSTEP_CNT, 0, 48⟩
def HM_LOCKSTEP_CNT_RESENDS : Fld := ⟨HM_LOCKSTEP_CNT, 48, 16⟩
/-- HM_WIN_CFG (R634). -/
def HM_WIN_CFG (n : Nat) : Nat := (0x19100 + 16 * n)
def HM_WIN_CFG_OFF (n : Nat) : Fld := ⟨HM_WIN_CFG n, 0, 24⟩
def HM_WIN_CFG_ROWS (n : Nat) : Fld := ⟨HM_WIN_CFG n, 24, 18⟩
def HM_WIN_CFG_EN (n : Nat) : Fld := ⟨HM_WIN_CFG n, 42, 1⟩
def HM_WIN_CFG_AUTH (n : Nat) : Fld := ⟨HM_WIN_CFG n, 43, 1⟩
def HM_WIN_CFG_KEY_SEL (n : Nat) : Fld := ⟨HM_WIN_CFG n, 44, 2⟩
def HM_WIN_CFG_SETFULL (n : Nat) : Fld := ⟨HM_WIN_CFG n, 46, 1⟩
def HM_WIN_CFG_WAFERS (n : Nat) : Fld := ⟨HM_WIN_CFG n, 47, 16⟩
/-- HM_WIN_STAT (R634). -/
def HM_WIN_STAT (n : Nat) : Nat := (0x19108 + 16 * n)
def HM_WIN_STAT_LAST_SEQ (n : Nat) : Fld := ⟨HM_WIN_STAT n, 0, 32⟩
def HM_WIN_STAT_ACCEPTED (n : Nat) : Fld := ⟨HM_WIN_STAT n, 32, 16⟩
def HM_WIN_STAT_REFUSED (n : Nat) : Fld := ⟨HM_WIN_STAT n, 48, 12⟩
def HM_WIN_STAT_REASON (n : Nat) : Fld := ⟨HM_WIN_STAT n, 60, 3⟩
/-- QY_INFO (R657). -/
def QY_INFO (q : Nat) : Nat := (qyAddr q 0x0040)
def QY_INFO_QUAY (q : Nat) : Fld := ⟨QY_INFO q, 0, 6⟩
def QY_INFO_PARTNER (q : Nat) : Fld := ⟨QY_INFO q, 6, 6⟩
def QY_INFO_PARTNER_VALID (q : Nat) : Fld := ⟨QY_INFO q, 12, 1⟩
def QY_INFO_ROWS (q : Nat) : Fld := ⟨QY_INFO q, 13, 7⟩
def QY_INFO_COLS (q : Nat) : Fld := ⟨QY_INFO q, 20, 8⟩
def QY_INFO_ORIGIN_ROW (q : Nat) : Fld := ⟨QY_INFO q, 28, 10⟩
def QY_INFO_ORIGIN_COL (q : Nat) : Fld := ⟨QY_INFO q, 38, 10⟩
/-- QY_TIDE (R657). -/
def QY_TIDE (q : Nat) : Nat := (qyAddr q 0x0048)
def QY_TIDE_CYC (q : Nat) : Fld := ⟨QY_TIDE q, 0, 14⟩
def QY_TIDE_TICK (q : Nat) : Fld := ⟨QY_TIDE q, 14, 50⟩
/-- QY_JT (R657). -/
def QY_JT (q : Nat) : Nat := (qyAddr q 0x0050)
def QY_JT_JT (q : Nat) : Fld := ⟨QY_JT q, 0, 50⟩
/-- QY_RST_WDOG (R542). -/
def QY_RST_WDOG (q : Nat) : Nat := (qyAddr q 0x2040)
def QY_RST_WDOG_KICK (q : Nat) : Fld := ⟨QY_RST_WDOG q, 0, 1⟩
def QY_RST_WDOG_IDLE_TICKS (q : Nat) : Fld := ⟨QY_RST_WDOG q, 1, 3⟩
def QY_RST_WDOG_WHY (q : Nat) : Fld := ⟨QY_RST_WDOG q, 4, 2⟩
def QY_RST_WDOG_ROW (q : Nat) : Fld := ⟨QY_RST_WDOG q, 6, 7⟩
def QY_RST_WDOG_HOP (q : Nat) : Fld := ⟨QY_RST_WDOG q, 13, 8⟩
/-- QY_RST_STAT (R542). -/
def QY_RST_STAT (q : Nat) : Nat := (qyAddr q 0x2048)
def QY_RST_STAT_STATE (q : Nat) : Fld := ⟨QY_RST_STAT q, 0, 3⟩
def QY_RST_STAT_ADOPTED (q : Nat) : Fld := ⟨QY_RST_STAT q, 3, 1⟩
def QY_RST_STAT_ADOPTING (q : Nat) : Fld := ⟨QY_RST_STAT q, 4, 1⟩
def QY_RST_STAT_RESETS (q : Nat) : Fld := ⟨QY_RST_STAT q, 5, 2⟩
/-- QY_RST_CNT (R542). -/
def QY_RST_CNT (q : Nat) : Nat := (qyAddr q 0x2050)
def QY_RST_CNT_CHAIN (q : Nat) : Fld := ⟨QY_RST_CNT q, 0, 32⟩
def QY_RST_CNT_RESTARTS (q : Nat) : Fld := ⟨QY_RST_CNT q, 32, 16⟩
def QY_RST_CNT_TILE_RESETS (q : Nat) : Fld := ⟨QY_RST_CNT q, 48, 16⟩
/-- QY_BOL_SEL (R88). -/
def QY_BOL_SEL (q : Nat) : Nat := (qyAddr q 0x3040)
def QY_BOL_SEL_TILE (q : Nat) : Fld := ⟨QY_BOL_SEL q, 0, 14⟩
def QY_BOL_SEL_REG (q : Nat) : Fld := ⟨QY_BOL_SEL q, 14, 5⟩
def QY_BOL_SEL_WR (q : Nat) : Fld := ⟨QY_BOL_SEL q, 19, 1⟩
def QY_BOL_SEL_VOID (q : Nat) : Fld := ⟨QY_BOL_SEL q, 62, 1⟩
def QY_BOL_SEL_BUSY (q : Nat) : Fld := ⟨QY_BOL_SEL q, 63, 1⟩
/-- QY_BOL_DATA (R89). -/
def QY_BOL_DATA (q : Nat) : Nat := (qyAddr q 0x3048)
def QY_BOL_DATA_DATA (q : Nat) : Fld := ⟨QY_BOL_DATA q, 0, 64⟩
/-- QY_CSUM_CTL (R132). -/
def QY_CSUM_CTL (q : Nat) : Nat := (qyAddr q 0x4040)
def QY_CSUM_CTL_TTV (q : Nat) : Fld := ⟨QY_CSUM_CTL q, 0, 16⟩
def QY_CSUM_CTL_RANGE_EN (q : Nat) : Fld := ⟨QY_CSUM_CTL q, 16, 1⟩
def QY_CSUM_CTL_CAPT_EN (q : Nat) : Fld := ⟨QY_CSUM_CTL q, 17, 1⟩
/-- QY_CSUM_TOL_F (R133). -/
def QY_CSUM_TOL_F (q n : Nat) : Nat := (qyAddr q 0x4048 + 8 * n)
def QY_CSUM_TOL_F_EXTRA (q n : Nat) : Fld := ⟨QY_CSUM_TOL_F q n, 0, 8⟩
def QY_CSUM_TOL_F_USCALE (q n : Nat) : Fld := ⟨QY_CSUM_TOL_F q n, 8, 1⟩
def QY_CSUM_TOL_F_FTZ (q n : Nat) : Fld := ⟨QY_CSUM_TOL_F q n, 9, 1⟩
/-- QY_CSUM_CAPT_DESC (R134). -/
def QY_CSUM_CAPT_DESC (q : Nat) : Nat := (qyAddr q 0x4088)
def QY_CSUM_CAPT_DESC_DESC (q : Nat) : Fld := ⟨QY_CSUM_CAPT_DESC q, 0, 64⟩
/-- QY_CSUM_CAPT_ID (R135). -/
def QY_CSUM_CAPT_ID (q : Nat) : Nat := (qyAddr q 0x4090)
def QY_CSUM_CAPT_ID_LTILE (q : Nat) : Fld := ⟨QY_CSUM_CAPT_ID q, 0, 14⟩
def QY_CSUM_CAPT_ID_SEQ (q : Nat) : Fld := ⟨QY_CSUM_CAPT_ID q, 14, 8⟩
def QY_CSUM_CAPT_ID_CAUSE (q : Nat) : Fld := ⟨QY_CSUM_CAPT_ID q, 22, 16⟩
def QY_CSUM_CAPT_ID_WEIGHTED (q : Nat) : Fld := ⟨QY_CSUM_CAPT_ID q, 38, 1⟩
/-- QY_CSUM_CAPT_TICK (R136). -/
def QY_CSUM_CAPT_TICK (q : Nat) : Nat := (qyAddr q 0x4098)
def QY_CSUM_CAPT_TICK_TICK (q : Nat) : Fld := ⟨QY_CSUM_CAPT_TICK q, 0, 50⟩
def QY_CSUM_CAPT_TICK_MORE (q : Nat) : Fld := ⟨QY_CSUM_CAPT_TICK q, 50, 12⟩
def QY_CSUM_CAPT_TICK_VALID (q : Nat) : Fld := ⟨QY_CSUM_CAPT_TICK q, 63, 1⟩
/-- QY_CSUM_CAPT_RESID (R137). -/
def QY_CSUM_CAPT_RESID (q : Nat) : Nat := (qyAddr q 0x40A0)
def QY_CSUM_CAPT_RESID_RESID (q : Nat) : Fld := ⟨QY_CSUM_CAPT_RESID q, 0, 64⟩
/-- QY_CSUM_CAPT_TAU (R137). -/
def QY_CSUM_CAPT_TAU (q : Nat) : Nat := (qyAddr q 0x40A8)
def QY_CSUM_CAPT_TAU_TAU (q : Nat) : Fld := ⟨QY_CSUM_CAPT_TAU q, 0, 64⟩
/-- QY_CSUM_CAPT_MAG (R137). -/
def QY_CSUM_CAPT_MAG (q : Nat) : Nat := (qyAddr q 0x40B0)
def QY_CSUM_CAPT_MAG_MAG (q : Nat) : Fld := ⟨QY_CSUM_CAPT_MAG q, 0, 64⟩
/-- QY_CSUM_CNT (R138). -/
def QY_CSUM_CNT (q : Nat) : Nat := (qyAddr q 0x40B8)
def QY_CSUM_CNT_ALARM_TILES (q : Nat) : Fld := ⟨QY_CSUM_CNT q, 0, 32⟩
def QY_CSUM_CNT_UNCHK_NF (q : Nat) : Fld := ⟨QY_CSUM_CNT q, 32, 32⟩
/-- QY_PILOT_CTL (R173). -/
def QY_PILOT_CTL (q : Nat) : Nat := (qyAddr q 0x5040)
def QY_PILOT_CTL_EN (q : Nat) : Fld := ⟨QY_PILOT_CTL q, 0, 1⟩
def QY_PILOT_CTL_RATE_NUM (q : Nat) : Fld := ⟨QY_PILOT_CTL q, 1, 10⟩
def QY_PILOT_CTL_AUDIT_NUM (q : Nat) : Fld := ⟨QY_PILOT_CTL q, 11, 10⟩
def QY_PILOT_CTL_AMBER_NUM (q : Nat) : Fld := ⟨QY_PILOT_CTL q, 21, 10⟩
def QY_PILOT_CTL_FAR_EIGHTHS (q : Nat) : Fld := ⟨QY_PILOT_CTL q, 31, 4⟩
def QY_PILOT_CTL_FAR_XOR (q : Nat) : Fld := ⟨QY_PILOT_CTL q, 35, 6⟩
def QY_PILOT_CTL_KEEP (q : Nat) : Fld := ⟨QY_PILOT_CTL q, 41, 8⟩
def QY_PILOT_CTL_PER_SPARE (q : Nat) : Fld := ⟨QY_PILOT_CTL q, 49, 2⟩
/-- QY_PILOT_SEED (R174). -/
def QY_PILOT_SEED (q : Nat) : Nat := (qyAddr q 0x5048)
def QY_PILOT_SEED_SEED (q : Nat) : Fld := ⟨QY_PILOT_SEED q, 0, 64⟩
/-- QY_PILOT_BW (R175). -/
def QY_PILOT_BW (q : Nat) : Nat := (qyAddr q 0x5050)
def QY_PILOT_BW_BUDGET (q : Nat) : Fld := ⟨QY_PILOT_BW q, 0, 32⟩
def QY_PILOT_BW_USED (q : Nat) : Fld := ⟨QY_PILOT_BW q, 32, 32⟩
/-- QY_PILOT_BASE (R176). -/
def QY_PILOT_BASE (q : Nat) : Nat := (qyAddr q 0x5058)
def QY_PILOT_BASE_KTAB_OFF (q : Nat) : Fld := ⟨QY_PILOT_BASE q, 0, 24⟩
def QY_PILOT_BASE_DBERTH_OFF (q : Nat) : Fld := ⟨QY_PILOT_BASE q, 24, 24⟩
def QY_PILOT_BASE_CBERTH_BLK (q : Nat) : Fld := ⟨QY_PILOT_BASE q, 48, 8⟩
def QY_PILOT_BASE_KTAB_VALID (q : Nat) : Fld := ⟨QY_PILOT_BASE q, 56, 1⟩
/-- QY_PILOT_STAT (R177). -/
def QY_PILOT_STAT (q : Nat) : Nat := (qyAddr q 0x5060)
def QY_PILOT_STAT_RATE_EFF (q : Nat) : Fld := ⟨QY_PILOT_STAT q, 0, 10⟩
def QY_PILOT_STAT_FREE (q : Nat) : Fld := ⟨QY_PILOT_STAT q, 10, 9⟩
def QY_PILOT_STAT_SHADOWS (q : Nat) : Fld := ⟨QY_PILOT_STAT q, 19, 9⟩
def QY_PILOT_STAT_BERTHS (q : Nat) : Fld := ⟨QY_PILOT_STAT q, 28, 10⟩
def QY_PILOT_STAT_CAPT_BUSY (q : Nat) : Fld := ⟨QY_PILOT_STAT q, 38, 7⟩
def QY_PILOT_STAT_CAPT_BERTHS (q : Nat) : Fld := ⟨QY_PILOT_STAT q, 45, 7⟩
def QY_PILOT_STAT_CAPPED (q : Nat) : Fld := ⟨QY_PILOT_STAT q, 52, 1⟩
def QY_PILOT_STAT_STOPPED (q : Nat) : Fld := ⟨QY_PILOT_STAT q, 53, 1⟩
/-- QY_PILOT_CNT0 (R178). -/
def QY_PILOT_CNT0 (q : Nat) : Nat := (qyAddr q 0x5068)
def QY_PILOT_CNT0_SAMPLES (q : Nat) : Fld := ⟨QY_PILOT_CNT0 q, 0, 32⟩
def QY_PILOT_CNT0_MATCHES (q : Nat) : Fld := ⟨QY_PILOT_CNT0 q, 32, 32⟩
/-- QY_PILOT_CNT1 (R178). -/
def QY_PILOT_CNT1 (q : Nat) : Nat := (qyAddr q 0x5070)
def QY_PILOT_CNT1_MISMATCHES (q : Nat) : Fld := ⟨QY_PILOT_CNT1 q, 0, 16⟩
def QY_PILOT_CNT1_LATE (q : Nat) : Fld := ⟨QY_PILOT_CNT1 q, 16, 16⟩
def QY_PILOT_CNT1_BERTH_FULL (q : Nat) : Fld := ⟨QY_PILOT_CNT1 q, 32, 16⟩
def QY_PILOT_CNT1_NO_SHADOW (q : Nat) : Fld := ⟨QY_PILOT_CNT1 q, 48, 16⟩
/-- QY_PILOT_CNT2 (R178). -/
def QY_PILOT_CNT2 (q : Nat) : Nat := (qyAddr q 0x5078)
def QY_PILOT_CNT2_AUDITS (q : Nat) : Fld := ⟨QY_PILOT_CNT2 q, 0, 32⟩
def QY_PILOT_CNT2_PRED_MISSES (q : Nat) : Fld := ⟨QY_PILOT_CNT2 q, 32, 16⟩
def QY_PILOT_CNT2_PATCHES (q : Nat) : Fld := ⟨QY_PILOT_CNT2 q, 48, 16⟩
/-- QY_PILOT_CNT3 (R178). -/
def QY_PILOT_CNT3 (q : Nat) : Nat := (qyAddr q 0x5080)
def QY_PILOT_CNT3_ABORTED (q : Nat) : Fld := ⟨QY_PILOT_CNT3 q, 0, 16⟩
def QY_PILOT_CNT3_BW_DECLINED (q : Nat) : Fld := ⟨QY_PILOT_CNT3 q, 16, 16⟩
def QY_PILOT_CNT3_FAR_FALLBACK (q : Nat) : Fld := ⟨QY_PILOT_CNT3 q, 32, 16⟩
def QY_PILOT_CNT3_AUDIT_SKIPPED (q : Nat) : Fld := ⟨QY_PILOT_CNT3 q, 48, 16⟩
/-- QY_HEALTH_CNT0 (R293). -/
def QY_HEALTH_CNT0 (q : Nat) : Nat := (qyAddr q 0x6040)
def QY_HEALTH_CNT0_GREEN (q : Nat) : Fld := ⟨QY_HEALTH_CNT0 q, 0, 14⟩
def QY_HEALTH_CNT0_AMBER (q : Nat) : Fld := ⟨QY_HEALTH_CNT0 q, 14, 14⟩
def QY_HEALTH_CNT0_OCHRE (q : Nat) : Fld := ⟨QY_HEALTH_CNT0 q, 28, 14⟩
def QY_HEALTH_CNT0_VERMILION (q : Nat) : Fld := ⟨QY_HEALTH_CNT0 q, 42, 14⟩
/-- QY_HEALTH_CNT1 (R293). -/
def QY_HEALTH_CNT1 (q : Nat) : Nat := (qyAddr q 0x6048)
def QY_HEALTH_CNT1_SLATE (q : Nat) : Fld := ⟨QY_HEALTH_CNT1 q, 0, 14⟩
def QY_HEALTH_CNT1_TESTING (q : Nat) : Fld := ⟨QY_HEALTH_CNT1 q, 14, 4⟩
/-- QY_SPARE (R294). -/
def QY_SPARE (q : Nat) : Nat := (qyAddr q 0x6050)
def QY_SPARE_AVAIL (q : Nat) : Fld := ⟨QY_SPARE q, 0, 10⟩
def QY_SPARE_K (q : Nat) : Fld := ⟨QY_SPARE q, 10, 4⟩
def QY_SPARE_LENT (q : Nat) : Fld := ⟨QY_SPARE q, 14, 9⟩
def QY_SPARE_BORROWED (q : Nat) : Fld := ⟨QY_SPARE q, 23, 9⟩
def QY_SPARE_LOW (q : Nat) : Fld := ⟨QY_SPARE q, 32, 2⟩
def QY_SPARE_EMPTY (q : Nat) : Fld := ⟨QY_SPARE q, 34, 1⟩
/-- QY_MARGIN (R295). -/
def QY_MARGIN (q : Nat) : Nat := (qyAddr q 0x6058)
def QY_MARGIN_MV_STEPS (q : Nat) : Fld := ⟨QY_MARGIN q, 0, 3⟩
def QY_MARGIN_RAISE_HOLD (q : Nat) : Fld := ⟨QY_MARGIN q, 3, 1⟩
def QY_MARGIN_PMB_FAULT (q : Nat) : Fld := ⟨QY_MARGIN q, 4, 1⟩
def QY_MARGIN_VOUT_MV (q : Nat) : Fld := ⟨QY_MARGIN q, 5, 16⟩
def QY_MARGIN_QUIET (q : Nat) : Fld := ⟨QY_MARGIN q, 21, 11⟩
/-- QY_MOVE (R295). -/
def QY_MOVE (q : Nat) : Nat := (qyAddr q 0x6060)
def QY_MOVE_LCORE (q : Nat) : Fld := ⟨QY_MOVE q, 0, 20⟩
def QY_MOVE_FROM (q : Nat) : Fld := ⟨QY_MOVE q, 20, 20⟩
def QY_MOVE_TO (q : Nat) : Fld := ⟨QY_MOVE q, 40, 20⟩
def QY_MOVE_PHASE (q : Nat) : Fld := ⟨QY_MOVE q, 60, 3⟩
def QY_MOVE_BOUNDARY (q : Nat) : Fld := ⟨QY_MOVE q, 63, 1⟩
/-- QY_SPARE_ROWS0 (R296). -/
def QY_SPARE_ROWS0 (q : Nat) : Nat := (qyAddr q 0x6068)
def QY_SPARE_ROWS0_ROWS (q : Nat) : Fld := ⟨QY_SPARE_ROWS0 q, 0, 64⟩
/-- QY_SPARE_ROWS1 (R296). -/
def QY_SPARE_ROWS1 (q : Nat) : Nat := (qyAddr q 0x6070)
def QY_SPARE_ROWS1_ROWS (q : Nat) : Fld := ⟨QY_SPARE_ROWS1 q, 0, 56⟩
/-- QY_TEST_BASE (R338). -/
def QY_TEST_BASE (q : Nat) : Nat := (qyAddr q 0x7040)
def QY_TEST_BASE_OFF (q : Nat) : Fld := ⟨QY_TEST_BASE q, 0, 24⟩
def QY_TEST_BASE_SIZE (q : Nat) : Fld := ⟨QY_TEST_BASE q, 24, 7⟩
/-- QY_TEST_KERN (R338). -/
def QY_TEST_KERN (q : Nat) : Nat := (qyAddr q 0x7048)
def QY_TEST_KERN_KOFF (q : Nat) : Fld := ⟨QY_TEST_KERN q, 0, 24⟩
def QY_TEST_KERN_KLEN (q : Nat) : Fld := ⟨QY_TEST_KERN q, 24, 14⟩
def QY_TEST_KERN_VALID (q : Nat) : Fld := ⟨QY_TEST_KERN q, 38, 1⟩
/-- QY_TEST_STAT (R338). -/
def QY_TEST_STAT (q : Nat) : Nat := (qyAddr q 0x7050)
def QY_TEST_STAT_HALF (q : Nat) : Fld := ⟨QY_TEST_STAT q, 0, 1⟩
def QY_TEST_STAT_BUSY (q : Nat) : Fld := ⟨QY_TEST_STAT q, 1, 4⟩
def QY_TEST_STAT_ROTATING (q : Nat) : Fld := ⟨QY_TEST_STAT q, 5, 4⟩
def QY_TEST_STAT_OVERDUE (q : Nat) : Fld := ⟨QY_TEST_STAT q, 9, 14⟩
def QY_TEST_STAT_OLDEST (q : Nat) : Fld := ⟨QY_TEST_STAT q, 23, 16⟩
/-- QY_TEST_SLOT (R338). -/
def QY_TEST_SLOT (q n : Nat) : Nat := (qyAddr q 0x7058 + 8 * n)
def QY_TEST_SLOT_LTILE (q n : Nat) : Fld := ⟨QY_TEST_SLOT q n, 0, 14⟩
def QY_TEST_SLOT_SLICE (q n : Nat) : Fld := ⟨QY_TEST_SLOT q n, 14, 5⟩
def QY_TEST_SLOT_PURPOSE (q n : Nat) : Fld := ⟨QY_TEST_SLOT q n, 19, 3⟩
def QY_TEST_SLOT_VALID (q n : Nat) : Fld := ⟨QY_TEST_SLOT q n, 22, 1⟩
def QY_TEST_SLOT_DIAG (q n : Nat) : Fld := ⟨QY_TEST_SLOT q n, 23, 1⟩
def QY_TEST_SLOT_WAITING (q n : Nat) : Fld := ⟨QY_TEST_SLOT q n, 24, 1⟩
/-- QY_STORE_SIZE (R380). -/
def QY_STORE_SIZE (q : Nat) : Nat := (qyAddr q 0x8040)
def QY_STORE_SIZE_BANKS (q : Nat) : Fld := ⟨QY_STORE_SIZE q, 0, 6⟩
def QY_STORE_SIZE_BANK_KIB (q : Nat) : Fld := ⟨QY_STORE_SIZE q, 6, 10⟩
def QY_STORE_SIZE_SPARE_ROWS (q : Nat) : Fld := ⟨QY_STORE_SIZE q, 16, 6⟩
def QY_STORE_SIZE_BYTES (q : Nat) : Fld := ⟨QY_STORE_SIZE q, 22, 25⟩
def QY_STORE_SIZE_RESIDENT_OK (q : Nat) : Fld := ⟨QY_STORE_SIZE q, 47, 1⟩
/-- QY_STORE_CTL (R381). -/
def QY_STORE_CTL (q : Nat) : Nat := (qyAddr q 0x8048)
def QY_STORE_CTL_SCRUB_EN (q : Nat) : Fld := ⟨QY_STORE_CTL q, 0, 1⟩
def QY_STORE_CTL_FORCE_TICKS (q : Nat) : Fld := ⟨QY_STORE_CTL q, 1, 7⟩
def QY_STORE_CTL_GATHER_IDLE (q : Nat) : Fld := ⟨QY_STORE_CTL q, 8, 6⟩
def QY_STORE_CTL_TAG_WAIT_CC (q : Nat) : Fld := ⟨QY_STORE_CTL q, 14, 20⟩
def QY_STORE_CTL_CE_REPAIR (q : Nat) : Fld := ⟨QY_STORE_CTL q, 34, 2⟩
def QY_STORE_CTL_REPAIR_EN (q : Nat) : Fld := ⟨QY_STORE_CTL q, 36, 1⟩
/-- QY_STORE_BANK (R382). -/
def QY_STORE_BANK (q n : Nat) : Nat := (qyAddr q 0x8050 + 8 * n)
def QY_STORE_BANK_REQ (q n : Nat) : Fld := ⟨QY_STORE_BANK q n, 0, 2⟩
def QY_STORE_BANK_STATE (q n : Nat) : Fld := ⟨QY_STORE_BANK q n, 2, 3⟩
def QY_STORE_BANK_RESIDENT (q n : Nat) : Fld := ⟨QY_STORE_BANK q n, 5, 1⟩
def QY_STORE_BANK_INFLIGHT (q n : Nat) : Fld := ⟨QY_STORE_BANK q n, 6, 10⟩
def QY_STORE_BANK_REPAIRS (q n : Nat) : Fld := ⟨QY_STORE_BANK q n, 16, 6⟩
def QY_STORE_BANK_CE (q n : Nat) : Fld := ⟨QY_STORE_BANK q n, 22, 16⟩
def QY_STORE_BANK_UE (q n : Nat) : Fld := ⟨QY_STORE_BANK q n, 38, 8⟩
def QY_STORE_BANK_WAKES (q n : Nat) : Fld := ⟨QY_STORE_BANK q n, 46, 16⟩
/-- QY_STORE_SCRUB (R383). -/
def QY_STORE_SCRUB (q : Nat) : Nat := (qyAddr q 0x8150)
def QY_STORE_SCRUB_PASSES (q : Nat) : Fld := ⟨QY_STORE_SCRUB q, 0, 32⟩
def QY_STORE_SCRUB_FORCED (q : Nat) : Fld := ⟨QY_STORE_SCRUB q, 32, 16⟩
def QY_STORE_SCRUB_MAXPASS (q : Nat) : Fld := ⟨QY_STORE_SCRUB q, 48, 16⟩
/-- QY_STORE_ECC (R383). -/
def QY_STORE_ECC (q : Nat) : Nat := (qyAddr q 0x8158)
def QY_STORE_ECC_UE_OFF (q : Nat) : Fld := ⟨QY_STORE_ECC q, 0, 25⟩
def QY_STORE_ECC_UE_VALID (q : Nat) : Fld := ⟨QY_STORE_ECC q, 25, 1⟩
def QY_STORE_ECC_CE_TOTAL (q : Nat) : Fld := ⟨QY_STORE_ECC q, 26, 32⟩
/-- QY_STORE_REPAIR (R383). -/
def QY_STORE_REPAIR (q : Nat) : Nat := (qyAddr q 0x8160)
def QY_STORE_REPAIR_BANK (q : Nat) : Fld := ⟨QY_STORE_REPAIR q, 0, 5⟩
def QY_STORE_REPAIR_ROW (q : Nat) : Fld := ⟨QY_STORE_REPAIR q, 5, 13⟩
def QY_STORE_REPAIR_GO (q : Nat) : Fld := ⟨QY_STORE_REPAIR q, 18, 1⟩
def QY_STORE_REPAIR_BUSY (q : Nat) : Fld := ⟨QY_STORE_REPAIR q, 19, 1⟩
def QY_STORE_REPAIR_DONE (q : Nat) : Fld := ⟨QY_STORE_REPAIR q, 20, 1⟩
def QY_STORE_REPAIR_FULL (q : Nat) : Fld := ⟨QY_STORE_REPAIR q, 21, 1⟩
def QY_STORE_REPAIR_LOST (q : Nat) : Fld := ⟨QY_STORE_REPAIR q, 22, 1⟩
/-- QY_RING_CFG (R384). -/
def QY_RING_CFG (q n : Nat) : Nat := (qyAddr q 0x9040 + 16 * n)
def QY_RING_CFG_BASE (q n : Nat) : Fld := ⟨QY_RING_CFG q n, 0, 24⟩
def QY_RING_CFG_LOG2 (q n : Nat) : Fld := ⟨QY_RING_CFG q n, 24, 5⟩
def QY_RING_CFG_EN (q n : Nat) : Fld := ⟨QY_RING_CFG q n, 29, 1⟩
def QY_RING_CFG_FULL_WAIT (q n : Nat) : Fld := ⟨QY_RING_CFG q n, 30, 1⟩
/-- QY_RING_PTR (R384). -/
def QY_RING_PTR (q n : Nat) : Nat := (qyAddr q 0x9048 + 16 * n)
def QY_RING_PTR_HEAD (q n : Nat) : Fld := ⟨QY_RING_PTR q n, 0, 32⟩
def QY_RING_PTR_TAIL (q n : Nat) : Fld := ⟨QY_RING_PTR q n, 32, 32⟩
/-- QY_RING_OP (R385). -/
def QY_RING_OP (q : Nat) : Nat := (qyAddr q 0x9240)
def QY_RING_OP_RING (q : Nat) : Fld := ⟨QY_RING_OP q, 0, 5⟩
def QY_RING_OP_PUSH (q : Nat) : Fld := ⟨QY_RING_OP q, 5, 1⟩
def QY_RING_OP_POP (q : Nat) : Fld := ⟨QY_RING_OP q, 6, 1⟩
def QY_RING_OP_COUNT (q : Nat) : Fld := ⟨QY_RING_OP q, 7, 17⟩
def QY_RING_OP_REFUSED (q : Nat) : Fld := ⟨QY_RING_OP q, 24, 1⟩
/-- QY_WIN_CFG (R386). -/
def QY_WIN_CFG (q n : Nat) : Nat := (qyAddr q 0xA040 + 16 * n)
def QY_WIN_CFG_OFF (q n : Nat) : Fld := ⟨QY_WIN_CFG q n, 0, 24⟩
def QY_WIN_CFG_ROWS (q n : Nat) : Fld := ⟨QY_WIN_CFG q n, 24, 18⟩
def QY_WIN_CFG_EN (q n : Nat) : Fld := ⟨QY_WIN_CFG q n, 42, 1⟩
def QY_WIN_CFG_AUTH (q n : Nat) : Fld := ⟨QY_WIN_CFG q n, 43, 1⟩
def QY_WIN_CFG_KEY_SEL (q n : Nat) : Fld := ⟨QY_WIN_CFG q n, 44, 2⟩
def QY_WIN_CFG_SETFULL (q n : Nat) : Fld := ⟨QY_WIN_CFG q n, 46, 1⟩
def QY_WIN_CFG_WAFERS (q n : Nat) : Fld := ⟨QY_WIN_CFG q n, 47, 16⟩
/-- QY_WIN_STAT (R386). -/
def QY_WIN_STAT (q n : Nat) : Nat := (qyAddr q 0xA048 + 16 * n)
def QY_WIN_STAT_LAST_SEQ (q n : Nat) : Fld := ⟨QY_WIN_STAT q n, 0, 32⟩
def QY_WIN_STAT_ACCEPTED (q n : Nat) : Fld := ⟨QY_WIN_STAT q n, 32, 16⟩
def QY_WIN_STAT_REFUSED (q n : Nat) : Fld := ⟨QY_WIN_STAT q n, 48, 12⟩
def QY_WIN_STAT_REASON (q n : Nat) : Fld := ⟨QY_WIN_STAT q n, 60, 3⟩
/-- QY_TND_CTL (R387). -/
def QY_TND_CTL (q : Nat) : Nat := (qyAddr q 0xB040)
def QY_TND_CTL_EN (q : Nat) : Fld := ⟨QY_TND_CTL q, 0, 8⟩
def QY_TND_CTL_RESERVE_TOK (q : Nat) : Fld := ⟨QY_TND_CTL q, 8, 4⟩
/-- QY_TND_STAT (R388). -/
def QY_TND_STAT (q n : Nat) : Nat := (qyAddr q 0xB048 + 8 * n)
def QY_TND_STAT_STATE (q n : Nat) : Fld := ⟨QY_TND_STAT q n, 0, 3⟩
def QY_TND_STAT_SOURCE (q n : Nat) : Fld := ⟨QY_TND_STAT q n, 3, 1⟩
def QY_TND_STAT_BERTH (q n : Nat) : Fld := ⟨QY_TND_STAT q n, 4, 9⟩
def QY_TND_STAT_QUEUE (q n : Nat) : Fld := ⟨QY_TND_STAT q n, 13, 10⟩
def QY_TND_STAT_DONE (q n : Nat) : Fld := ⟨QY_TND_STAT q n, 23, 32⟩
/-- QY_TND_CNT0 (R389). -/
def QY_TND_CNT0 (q : Nat) : Nat := (qyAddr q 0xB088)
def QY_TND_CNT0_TRANSFERS (q : Nat) : Fld := ⟨QY_TND_CNT0 q, 0, 32⟩
def QY_TND_CNT0_ERRORS (q : Nat) : Fld := ⟨QY_TND_CNT0 q, 32, 16⟩
def QY_TND_CNT0_PAUSES (q : Nat) : Fld := ⟨QY_TND_CNT0 q, 48, 16⟩
/-- QY_TND_CNT1 (R389). -/
def QY_TND_CNT1 (q : Nat) : Nat := (qyAddr q 0xB090)
def QY_TND_CNT1_BYTES (q : Nat) : Fld := ⟨QY_TND_CNT1 q, 0, 64⟩
/-- QY_SYNC_CTL (R435). -/
def QY_SYNC_CTL (q : Nat) : Nat := (qyAddr q 0xC040)
def QY_SYNC_CTL_EN (q : Nat) : Fld := ⟨QY_SYNC_CTL q, 0, 1⟩
def QY_SYNC_CTL_RSV (q : Nat) : Fld := ⟨QY_SYNC_CTL q, 1, 5⟩
/-- QY_SYNC_SEL (R435). -/
def QY_SYNC_SEL (q : Nat) : Nat := (qyAddr q 0xC048)
def QY_SYNC_SEL_INDEX (q : Nat) : Fld := ⟨QY_SYNC_SEL q, 0, 10⟩
/-- QY_SYNC_VAL (R436). -/
def QY_SYNC_VAL (q : Nat) : Nat := (qyAddr q 0xC050)
def QY_SYNC_VAL_VALUE (q : Nat) : Fld := ⟨QY_SYNC_VAL q, 0, 64⟩
/-- QY_SYNC_CVAL (R436). -/
def QY_SYNC_CVAL (q : Nat) : Nat := (qyAddr q 0xC058)
def QY_SYNC_CVAL_COMMITTED (q : Nat) : Fld := ⟨QY_SYNC_CVAL q, 0, 64⟩
/-- QY_SYNC_WAIT (R436). -/
def QY_SYNC_WAIT (q : Nat) : Nat := (qyAddr q 0xC060)
def QY_SYNC_WAIT_WAITERS (q : Nat) : Fld := ⟨QY_SYNC_WAIT q, 0, 16⟩
def QY_SYNC_WAIT_TARGETS (q : Nat) : Fld := ⟨QY_SYNC_WAIT q, 16, 40⟩
def QY_SYNC_WAIT_TVALID (q : Nat) : Fld := ⟨QY_SYNC_WAIT q, 56, 4⟩
/-- QY_SYNC_TMIN (R436). -/
def QY_SYNC_TMIN (q : Nat) : Nat := (qyAddr q 0xC068)
def QY_SYNC_TMIN_TMIN (q : Nat) : Fld := ⟨QY_SYNC_TMIN q, 0, 64⟩
/-- QY_SYNC_WREC0 (R436). -/
def QY_SYNC_WREC0 (q : Nat) : Nat := (qyAddr q 0xC070)
def QY_SYNC_WREC0_W0 (q : Nat) : Fld := ⟨QY_SYNC_WREC0 q, 0, 20⟩
def QY_SYNC_WREC0_W1 (q : Nat) : Fld := ⟨QY_SYNC_WREC0 q, 20, 20⟩
/-- QY_SYNC_WREC1 (R436). -/
def QY_SYNC_WREC1 (q : Nat) : Nat := (qyAddr q 0xC078)
def QY_SYNC_WREC1_W2 (q : Nat) : Fld := ⟨QY_SYNC_WREC1 q, 0, 20⟩
def QY_SYNC_WREC1_W3 (q : Nat) : Fld := ⟨QY_SYNC_WREC1 q, 20, 20⟩
/-- QY_SYNC_LAST (R436). -/
def QY_SYNC_LAST (q : Nat) : Nat := (qyAddr q 0xC080)
def QY_SYNC_LAST_LCORE (q : Nat) : Fld := ⟨QY_SYNC_LAST q, 0, 20⟩
def QY_SYNC_LAST_TICK (q : Nat) : Fld := ⟨QY_SYNC_LAST q, 20, 44⟩
/-- QY_SYNC_LINK (R437). -/
def QY_SYNC_LINK (q : Nat) : Nat := (qyAddr q 0xC088)
def QY_SYNC_LINK_EN (q : Nat) : Fld := ⟨QY_SYNC_LINK q, 0, 1⟩
def QY_SYNC_LINK_Y_INDEX (q : Nat) : Fld := ⟨QY_SYNC_LINK q, 1, 10⟩
def QY_SYNC_LINK_Y_QUAY (q : Nat) : Fld := ⟨QY_SYNC_LINK q, 11, 6⟩
def QY_SYNC_LINK_BUF (q : Nat) : Fld := ⟨QY_SYNC_LINK q, 17, 16⟩
/-- QY_SYNC_MIRROR (R436). -/
def QY_SYNC_MIRROR (q : Nat) : Nat := (qyAddr q 0xC090)
def QY_SYNC_MIRROR_MIRROR (q : Nat) : Fld := ⟨QY_SYNC_MIRROR q, 0, 64⟩
/-- QY_SYNC_CNT0 (R438). -/
def QY_SYNC_CNT0 (q : Nat) : Nat := (qyAddr q 0xC098)
def QY_SYNC_CNT0_SIGNALS (q : Nat) : Fld := ⟨QY_SYNC_CNT0 q, 0, 32⟩
def QY_SYNC_CNT0_ARMS (q : Nat) : Fld := ⟨QY_SYNC_CNT0 q, 32, 32⟩
/-- QY_SYNC_CNT1 (R438). -/
def QY_SYNC_CNT1 (q : Nat) : Nat := (qyAddr q 0xC0A0)
def QY_SYNC_CNT1_FIRES (q : Nat) : Fld := ⟨QY_SYNC_CNT1 q, 0, 32⟩
def QY_SYNC_CNT1_LATE (q : Nat) : Fld := ⟨QY_SYNC_CNT1 q, 32, 16⟩
def QY_SYNC_CNT1_REFUSED (q : Nat) : Fld := ⟨QY_SYNC_CNT1 q, 48, 16⟩
/-- QY_WAKE_CNT (R439). -/
def QY_WAKE_CNT (q n : Nat) : Nat := (qyAddr q 0xD040 + 8 * n)
def QY_WAKE_CNT_FIRES (q n : Nat) : Fld := ⟨QY_WAKE_CNT q n, 0, 32⟩
def QY_WAKE_CNT_REMOTE (q n : Nat) : Fld := ⟨QY_WAKE_CNT q n, 32, 16⟩
/-- QY_WAKE_FORCE (R439). -/
def QY_WAKE_FORCE (q : Nat) : Nat := (qyAddr q 0xD0C0)
def QY_WAKE_FORCE_CH (q : Nat) : Fld := ⟨QY_WAKE_FORCE q, 0, 16⟩
/-- QY_WAKE_LAST (R439). -/
def QY_WAKE_LAST (q : Nat) : Nat := (qyAddr q 0xD0C8)
def QY_WAKE_LAST_CH (q : Nat) : Fld := ⟨QY_WAKE_LAST q, 0, 4⟩
def QY_WAKE_LAST_INDEX (q : Nat) : Fld := ⟨QY_WAKE_LAST q, 4, 10⟩
def QY_WAKE_LAST_QUAY (q : Nat) : Fld := ⟨QY_WAKE_LAST q, 14, 6⟩
def QY_WAKE_LAST_TICK (q : Nat) : Fld := ⟨QY_WAKE_LAST q, 20, 44⟩
/-- QY_CLEAR_CTL (R472). -/
def QY_CLEAR_CTL (q : Nat) : Nat := (qyAddr q 0xE040)
def QY_CLEAR_CTL_EN (q : Nat) : Fld := ⟨QY_CLEAR_CTL q, 0, 1⟩
def QY_CLEAR_CTL_BUDGET (q : Nat) : Fld := ⟨QY_CLEAR_CTL q, 1, 14⟩
def QY_CLEAR_CTL_BUCKET_MAX (q : Nat) : Fld := ⟨QY_CLEAR_CTL q, 15, 4⟩
def QY_CLEAR_CTL_T_FLOOR (q : Nat) : Fld := ⟨QY_CLEAR_CTL q, 19, 4⟩
def QY_CLEAR_CTL_HOLD_MAX (q : Nat) : Fld := ⟨QY_CLEAR_CTL q, 23, 20⟩
/-- QY_CLEAR_STAT (R473). -/
def QY_CLEAR_STAT (q : Nat) : Nat := (qyAddr q 0xE048)
def QY_CLEAR_STAT_STATE (q : Nat) : Fld := ⟨QY_CLEAR_STAT q, 0, 2⟩
def QY_CLEAR_STAT_LANTERN (q : Nat) : Fld := ⟨QY_CLEAR_STAT q, 2, 1⟩
def QY_CLEAR_STAT_T (q : Nat) : Fld := ⟨QY_CLEAR_STAT q, 3, 4⟩
def QY_CLEAR_STAT_T_THERM (q : Nat) : Fld := ⟨QY_CLEAR_STAT q, 7, 4⟩
def QY_CLEAR_STAT_T_PWR (q : Nat) : Fld := ⟨QY_CLEAR_STAT q, 11, 4⟩
def QY_CLEAR_STAT_CEIL (q : Nat) : Fld := ⟨QY_CLEAR_STAT q, 15, 14⟩
def QY_CLEAR_STAT_RISE (q : Nat) : Fld := ⟨QY_CLEAR_STAT q, 29, 10⟩
/-- QY_CLEAR_TOK (R474). -/
def QY_CLEAR_TOK (q : Nat) : Nat := (qyAddr q 0xE050)
def QY_CLEAR_TOK_HELD (q : Nat) : Fld := ⟨QY_CLEAR_TOK q, 0, 14⟩
def QY_CLEAR_TOK_BUCKETS (q : Nat) : Fld := ⟨QY_CLEAR_TOK q, 14, 14⟩
def QY_CLEAR_TOK_POOL (q : Nat) : Fld := ⟨QY_CLEAR_TOK q, 28, 14⟩
def QY_CLEAR_TOK_PENDING (q : Nat) : Fld := ⟨QY_CLEAR_TOK q, 42, 14⟩
def QY_CLEAR_TOK_TENDER (q : Nat) : Fld := ⟨QY_CLEAR_TOK q, 56, 4⟩
/-- QY_CLEAR_CNT0 (R475). -/
def QY_CLEAR_CNT0 (q : Nat) : Nat := (qyAddr q 0xE058)
def QY_CLEAR_CNT0_LOCAL (q : Nat) : Fld := ⟨QY_CLEAR_CNT0 q, 0, 32⟩
def QY_CLEAR_CNT0_QUAY (q : Nat) : Fld := ⟨QY_CLEAR_CNT0 q, 32, 32⟩
/-- QY_CLEAR_CNT1 (R475). -/
def QY_CLEAR_CNT1 (q : Nat) : Nat := (qyAddr q 0xE060)
def QY_CLEAR_CNT1_OVERHOLD (q : Nat) : Fld := ⟨QY_CLEAR_CNT1 q, 0, 16⟩
def QY_CLEAR_CNT1_BAD_CLASS (q : Nat) : Fld := ⟨QY_CLEAR_CNT1 q, 16, 16⟩
def QY_CLEAR_CNT1_STEPS (q : Nat) : Fld := ⟨QY_CLEAR_CNT1 q, 32, 16⟩
def QY_CLEAR_CNT1_PFAILS (q : Nat) : Fld := ⟨QY_CLEAR_CNT1 q, 48, 16⟩
/-- QY_CLEAR_PEAK (R475). -/
def QY_CLEAR_PEAK (q : Nat) : Nat := (qyAddr q 0xE068)
def QY_CLEAR_PEAK_HELD (q : Nat) : Fld := ⟨QY_CLEAR_PEAK q, 0, 14⟩
def QY_CLEAR_PEAK_RISE (q : Nat) : Fld := ⟨QY_CLEAR_PEAK q, 14, 10⟩
def QY_CLEAR_PEAK_WAIT (q : Nat) : Fld := ⟨QY_CLEAR_PEAK q, 24, 24⟩
/-- QY_RAIL (R475). -/
def QY_RAIL (q : Nat) : Nat := (qyAddr q 0xE070)
def QY_RAIL_IOUT (q : Nat) : Fld := ⟨QY_RAIL q, 0, 16⟩
def QY_RAIL_LOW (q : Nat) : Fld := ⟨QY_RAIL q, 16, 1⟩
def QY_RAIL_OVER (q : Nat) : Fld := ⟨QY_RAIL q, 17, 1⟩
def QY_RAIL_ALERT (q : Nat) : Fld := ⟨QY_RAIL q, 18, 1⟩
/-- QY_CLEAR_ASTAT (R473). -/
def QY_CLEAR_ASTAT (q : Nat) : Nat := (qyAddr q 0xE078)
def QY_CLEAR_ASTAT_STATE (q : Nat) : Fld := ⟨QY_CLEAR_ASTAT q, 0, 2⟩
def QY_CLEAR_ASTAT_LANTERN (q : Nat) : Fld := ⟨QY_CLEAR_ASTAT q, 2, 1⟩
def QY_CLEAR_ASTAT_T (q : Nat) : Fld := ⟨QY_CLEAR_ASTAT q, 3, 4⟩
def QY_CLEAR_ASTAT_T_THERM (q : Nat) : Fld := ⟨QY_CLEAR_ASTAT q, 7, 4⟩
def QY_CLEAR_ASTAT_T_PWR (q : Nat) : Fld := ⟨QY_CLEAR_ASTAT q, 11, 4⟩
def QY_CLEAR_ASTAT_CEIL (q : Nat) : Fld := ⟨QY_CLEAR_ASTAT q, 15, 14⟩
def QY_CLEAR_ASTAT_RISE (q : Nat) : Fld := ⟨QY_CLEAR_ASTAT q, 29, 10⟩
/-- QY_CLEAR_ATOK (R474). -/
def QY_CLEAR_ATOK (q : Nat) : Nat := (qyAddr q 0xE080)
def QY_CLEAR_ATOK_HELD (q : Nat) : Fld := ⟨QY_CLEAR_ATOK q, 0, 14⟩
def QY_CLEAR_ATOK_BUCKETS (q : Nat) : Fld := ⟨QY_CLEAR_ATOK q, 14, 14⟩
def QY_CLEAR_ATOK_POOL (q : Nat) : Fld := ⟨QY_CLEAR_ATOK q, 28, 14⟩
def QY_CLEAR_ATOK_PENDING (q : Nat) : Fld := ⟨QY_CLEAR_ATOK q, 42, 14⟩
def QY_CLEAR_ATOK_TENDER (q : Nat) : Fld := ⟨QY_CLEAR_ATOK q, 56, 4⟩
/-- QY_FAULT_ROWS0 (R512). -/
def QY_FAULT_ROWS0 (q : Nat) : Nat := (qyAddr q 0xF040)
def QY_FAULT_ROWS0_ROWS (q : Nat) : Fld := ⟨QY_FAULT_ROWS0 q, 0, 64⟩
/-- QY_FAULT_ROWS1 (R512). -/
def QY_FAULT_ROWS1 (q : Nat) : Nat := (qyAddr q 0xF048)
def QY_FAULT_ROWS1_ROWS (q : Nat) : Fld := ⟨QY_FAULT_ROWS1 q, 0, 56⟩
/-- QY_FAULT_FIRST (R512). -/
def QY_FAULT_FIRST (q : Nat) : Nat := (qyAddr q 0xF050)
def QY_FAULT_FIRST_LTILE (q : Nat) : Fld := ⟨QY_FAULT_FIRST q, 0, 14⟩
def QY_FAULT_FIRST_BITS (q : Nat) : Fld := ⟨QY_FAULT_FIRST q, 14, 16⟩
def QY_FAULT_FIRST_FORCED (q : Nat) : Fld := ⟨QY_FAULT_FIRST q, 30, 1⟩
def QY_FAULT_FIRST_TICK (q : Nat) : Fld := ⟨QY_FAULT_FIRST q, 31, 32⟩
def QY_FAULT_FIRST_VALID (q : Nat) : Fld := ⟨QY_FAULT_FIRST q, 63, 1⟩
/-- QY_FAULT_CNT (R512). -/
def QY_FAULT_CNT (q : Nat) : Nat := (qyAddr q 0xF058)
def QY_FAULT_CNT_CORRECTED (q : Nat) : Fld := ⟨QY_FAULT_CNT q, 0, 32⟩
def QY_FAULT_CNT_BOLLARD (q : Nat) : Fld := ⟨QY_FAULT_CNT q, 32, 16⟩
def QY_FAULT_CNT_QUAY (q : Nat) : Fld := ⟨QY_FAULT_CNT q, 48, 16⟩
/-- BOL_ID (R91). -/
def BOL_ID (p : Nat) : Nat := (bolAddr p 0)
def BOL_ID_PTILE (p : Nat) : Fld := ⟨BOL_ID p, 0, 20⟩
def BOL_ID_LTILE (p : Nat) : Fld := ⟨BOL_ID p, 20, 14⟩
def BOL_ID_QUAY (p : Nat) : Fld := ⟨BOL_ID p, 34, 6⟩
def BOL_ID_VERSION (p : Nat) : Fld := ⟨BOL_ID p, 40, 8⟩
def BOL_ID_TYPE (p : Nat) : Fld := ⟨BOL_ID p, 48, 8⟩
/-- BOL_POS (R92). -/
def BOL_POS (p : Nat) : Nat := (bolAddr p 1)
def BOL_POS_HOP (p : Nat) : Fld := ⟨BOL_POS p, 0, 8⟩
def BOL_POS_BYPASS (p : Nat) : Fld := ⟨BOL_POS p, 8, 1⟩
def BOL_POS_CUT (p : Nat) : Fld := ⟨BOL_POS p, 9, 1⟩
/-- BOL_CTL (R93). -/
def BOL_CTL (p : Nat) : Nat := (bolAddr p 2)
def BOL_CTL_CHECK_EN (p : Nat) : Fld := ⟨BOL_CTL p, 0, 1⟩
def BOL_CTL_GUARD (p : Nat) : Fld := ⟨BOL_CTL p, 1, 1⟩
def BOL_CTL_BW_FORCE (p : Nat) : Fld := ⟨BOL_CTL p, 2, 1⟩
def BOL_CTL_CG_HOLD (p : Nat) : Fld := ⟨BOL_CTL p, 3, 1⟩
def BOL_CTL_DIV_NEXT (p : Nat) : Fld := ⟨BOL_CTL p, 4, 2⟩
def BOL_CTL_WDOG_EN (p : Nat) : Fld := ⟨BOL_CTL p, 6, 1⟩
def BOL_CTL_ROLE (p : Nat) : Fld := ⟨BOL_CTL p, 7, 2⟩
/-- BOL_STAT (R94). -/
def BOL_STAT (p : Nat) : Nat := (bolAddr p 3)
def BOL_STAT_COLOUR (p : Nat) : Fld := ⟨BOL_STAT p, 0, 3⟩
def BOL_STAT_BW_ACTIVE (p : Nat) : Fld := ⟨BOL_STAT p, 3, 1⟩
def BOL_STAT_SLEEP (p : Nat) : Fld := ⟨BOL_STAT p, 4, 1⟩
def BOL_STAT_CDOM_ON (p : Nat) : Fld := ⟨BOL_STAT p, 5, 1⟩
def BOL_STAT_GUARD_ACTIVE (p : Nat) : Fld := ⟨BOL_STAT p, 6, 1⟩
/-- BOL_ERR (R493). -/
def BOL_ERR (p : Nat) : Nat := (bolAddr p 4)
def BOL_ERR_CHK_RESIDUE (p : Nat) : Fld := ⟨BOL_ERR p, 0, 1⟩
def BOL_ERR_CRC_DUP (p : Nat) : Fld := ⟨BOL_ERR p, 1, 1⟩
def BOL_ERR_VERDICT_LATE (p : Nat) : Fld := ⟨BOL_ERR p, 2, 1⟩
def BOL_ERR_TALLY_CE (p : Nat) : Fld := ⟨BOL_ERR p, 3, 1⟩
def BOL_ERR_TALLY_UE (p : Nat) : Fld := ⟨BOL_ERR p, 4, 1⟩
def BOL_ERR_RT_VOTE (p : Nat) : Fld := ⟨BOL_ERR p, 5, 1⟩
def BOL_ERR_JT_MISMATCH (p : Nat) : Fld := ⟨BOL_ERR p, 6, 1⟩
def BOL_ERR_TIDE_SKEW (p : Nat) : Fld := ⟨BOL_ERR p, 7, 1⟩
def BOL_ERR_HAWSER_LATE (p : Nat) : Fld := ⟨BOL_ERR p, 8, 1⟩
def BOL_ERR_RECALL_LATE (p : Nat) : Fld := ⟨BOL_ERR p, 9, 1⟩
def BOL_ERR_OUT_READBACK (p : Nat) : Fld := ⟨BOL_ERR p, 10, 1⟩
def BOL_ERR_SIDEPORT_TIMEOUT (p : Nat) : Fld := ⟨BOL_ERR p, 11, 1⟩
def BOL_ERR_MAILBOX_LATE (p : Nat) : Fld := ⟨BOL_ERR p, 12, 1⟩
def BOL_ERR_STATE_PARITY (p : Nat) : Fld := ⟨BOL_ERR p, 13, 1⟩
def BOL_ERR_BUCKET (p : Nat) : Fld := ⟨BOL_ERR p, 14, 1⟩
def BOL_ERR_SERVICE_BUS (p : Nat) : Fld := ⟨BOL_ERR p, 15, 1⟩
/-- BOL_ERR_FORCE (R498). -/
def BOL_ERR_FORCE (p : Nat) : Nat := (bolAddr p 5)
def BOL_ERR_FORCE_FORCE (p : Nat) : Fld := ⟨BOL_ERR_FORCE p, 0, 16⟩
/-- BOL_VERDICT (R90). -/
def BOL_VERDICT (p : Nat) : Nat := (bolAddr p 6)
def BOL_VERDICT_W0 (p : Nat) : Fld := ⟨BOL_VERDICT p, 0, 64⟩
/-- BOL_SIG (R90). -/
def BOL_SIG (p : Nat) : Nat := (bolAddr p 7)
def BOL_SIG_W1 (p : Nat) : Fld := ⟨BOL_SIG p, 0, 64⟩
/-- BOL_OPEN (R90). -/
def BOL_OPEN (p : Nat) : Nat := (bolAddr p 8)
def BOL_OPEN_W0 (p : Nat) : Fld := ⟨BOL_OPEN p, 0, 64⟩
/-- BOL_COMMIT (R90). -/
def BOL_COMMIT (p : Nat) : Nat := (bolAddr p 9)
def BOL_COMMIT_TICK (p : Nat) : Fld := ⟨BOL_COMMIT p, 0, 50⟩
/-- BOL_DESC (R90). -/
def BOL_DESC (p : Nat) : Nat := (bolAddr p 10)
def BOL_DESC_DESC (p : Nat) : Fld := ⟨BOL_DESC p, 0, 64⟩
/-- BOL_ADDR (R90). -/
def BOL_ADDR (p : Nat) : Nat := (bolAddr p 11)
def BOL_ADDR_ADDR (p : Nat) : Fld := ⟨BOL_ADDR p, 0, 64⟩
/-- BOL_CTX (R95). -/
def BOL_CTX (p : Nat) : Nat := (bolAddr p 12)
def BOL_CTX_OPEN (p : Nat) : Fld := ⟨BOL_CTX p, 0, 3⟩
def BOL_CTX_PANEL (p : Nat) : Fld := ⟨BOL_CTX p, 3, 9⟩
def BOL_CTX_NEXT_SEQ (p : Nat) : Fld := ⟨BOL_CTX p, 12, 8⟩
/-- BOL_PILOT (R179). -/
def BOL_PILOT (p : Nat) : Nat := (bolAddr p 13)
def BOL_PILOT_SAMP_OPEN (p : Nat) : Fld := ⟨BOL_PILOT p, 0, 3⟩
def BOL_PILOT_AUDIT_OPEN (p : Nat) : Fld := ⟨BOL_PILOT p, 3, 3⟩
def BOL_PILOT_RATE (p : Nat) : Fld := ⟨BOL_PILOT p, 6, 10⟩
def BOL_PILOT_PATCH_PEND (p : Nat) : Fld := ⟨BOL_PILOT p, 16, 1⟩
def BOL_PILOT_KERNEL (p : Nat) : Fld := ⟨BOL_PILOT p, 17, 1⟩
def BOL_PILOT_BERTH (p : Nat) : Fld := ⟨BOL_PILOT p, 18, 9⟩
def BOL_PILOT_AMBER (p : Nat) : Fld := ⟨BOL_PILOT p, 27, 1⟩
def BOL_PILOT_LCORE (p : Nat) : Fld := ⟨BOL_PILOT p, 32, 20⟩
/-- BOL_WDOG (R96). -/
def BOL_WDOG (p : Nat) : Nat := (bolAddr p 14)
def BOL_WDOG_IDLE_TICKS (p : Nat) : Fld := ⟨BOL_WDOG p, 0, 3⟩
def BOL_WDOG_LAST_STEP (p : Nat) : Fld := ⟨BOL_WDOG p, 32, 32⟩
/-- BOL_CLK (R97). -/
def BOL_CLK (p : Nat) : Nat := (bolAddr p 15)
def BOL_CLK_DIV (p : Nat) : Fld := ⟨BOL_CLK p, 0, 2⟩
def BOL_CLK_RUN (p : Nat) : Fld := ⟨BOL_CLK p, 2, 1⟩
def BOL_CLK_GATE_WHY (p : Nat) : Fld := ⟨BOL_CLK p, 3, 4⟩
/-- BOL_CLR (R471). -/
def BOL_CLR (p : Nat) : Nat := (bolAddr p 16)
def BOL_CLR_BUCKET (p : Nat) : Fld := ⟨BOL_CLR p, 0, 4⟩
def BOL_CLR_HELD (p : Nat) : Fld := ⟨BOL_CLR p, 4, 4⟩
def BOL_CLR_CORE_HOLD (p : Nat) : Fld := ⟨BOL_CLR p, 8, 1⟩
def BOL_CLR_ENG_HOLD (p : Nat) : Fld := ⟨BOL_CLR p, 9, 1⟩
def BOL_CLR_PENDING (p : Nat) : Fld := ⟨BOL_CLR p, 10, 1⟩
def BOL_CLR_BAD_CLASS (p : Nat) : Fld := ⟨BOL_CLR p, 11, 1⟩
def BOL_CLR_CLASS (p : Nat) : Fld := ⟨BOL_CLR p, 12, 2⟩
def BOL_CLR_WAIT (p : Nat) : Fld := ⟨BOL_CLR p, 14, 16⟩
def BOL_CLR_GRANTS (p : Nat) : Fld := ⟨BOL_CLR p, 30, 32⟩
/-- BOL_WAKE (R98). -/
def BOL_WAKE (p : Nat) : Nat := (bolAddr p 17)
def BOL_WAKE_MASK (p : Nat) : Fld := ⟨BOL_WAKE p, 0, 16⟩
def BOL_WAKE_PENDING (p : Nat) : Fld := ⟨BOL_WAKE p, 16, 1⟩
/-- BOL_BW (R99). -/
def BOL_BW (p : Nat) : Nat := (bolAddr p 18)
def BOL_BW_WHY (p : Nat) : Fld := ⟨BOL_BW p, 0, 5⟩
def BOL_BW_KILLED (p : Nat) : Fld := ⟨BOL_BW p, 5, 27⟩
def BOL_BW_SINCE (p : Nat) : Fld := ⟨BOL_BW p, 32, 32⟩
/-- BOL_SINK_CNT (R90). -/
def BOL_SINK_CNT (p : Nat) : Nat := (bolAddr p 19)
def BOL_SINK_CNT_CNT (p : Nat) : Fld := ⟨BOL_SINK_CNT p, 0, 64⟩
/-- BOL_RTR (R100). -/
def BOL_RTR (p : Nat) : Nat := (bolAddr p 20)
def BOL_RTR_DOWN (p : Nat) : Fld := ⟨BOL_RTR p, 0, 4⟩
def BOL_RTR_LOSSES (p : Nat) : Fld := ⟨BOL_RTR p, 4, 16⟩
def BOL_RTR_INFLIGHT_LOSSES (p : Nat) : Fld := ⟨BOL_RTR p, 20, 16⟩
def BOL_RTR_FAULT (p : Nat) : Fld := ⟨BOL_RTR p, 36, 1⟩
/-- BOL_CERR (R101). -/
def BOL_CERR (p : Nat) : Nat := (bolAddr p 21)
def BOL_CERR_SEEN (p : Nat) : Fld := ⟨BOL_CERR p, 0, 4⟩
def BOL_CERR_LM_CE (p : Nat) : Fld := ⟨BOL_CERR p, 4, 28⟩
def BOL_CERR_TICK (p : Nat) : Fld := ⟨BOL_CERR p, 32, 32⟩
/-- BOL_CDOM (R102). -/
def BOL_CDOM (p : Nat) : Nat := (bolAddr p 22)
def BOL_CDOM_PWR_EN (p : Nat) : Fld := ⟨BOL_CDOM p, 0, 1⟩
def BOL_CDOM_RST (p : Nat) : Fld := ⟨BOL_CDOM p, 1, 1⟩
def BOL_CDOM_OK (p : Nat) : Fld := ⟨BOL_CDOM p, 2, 1⟩
/-- BOL_SCAN (R330). -/
def BOL_SCAN (p : Nat) : Nat := (bolAddr p 23)
def BOL_SCAN_MODE (p : Nat) : Fld := ⟨BOL_SCAN p, 0, 2⟩
def BOL_SCAN_SLICE (p : Nat) : Fld := ⟨BOL_SCAN p, 2, 5⟩
def BOL_SCAN_START (p : Nat) : Fld := ⟨BOL_SCAN p, 7, 1⟩
def BOL_SCAN_STATE (p : Nat) : Fld := ⟨BOL_SCAN p, 8, 2⟩
def BOL_SCAN_ZERO_OK (p : Nat) : Fld := ⟨BOL_SCAN p, 10, 1⟩
def BOL_SCAN_PATTERN (p : Nat) : Fld := ⟨BOL_SCAN p, 11, 11⟩
def BOL_SCAN_INTERVAL (p : Nat) : Fld := ⟨BOL_SCAN p, 22, 4⟩
def BOL_SCAN_CHAIN (p : Nat) : Fld := ⟨BOL_SCAN p, 26, 3⟩
def BOL_SCAN_CELL (p : Nat) : Fld := ⟨BOL_SCAN p, 29, 13⟩
def BOL_SCAN_DIAG_DONE (p : Nat) : Fld := ⟨BOL_SCAN p, 42, 1⟩
/-- BOL_MBIST (R331). -/
def BOL_MBIST (p : Nat) : Nat := (bolAddr p 24)
def BOL_MBIST_OP (p : Nat) : Fld := ⟨BOL_MBIST p, 0, 3⟩
def BOL_MBIST_START (p : Nat) : Fld := ⟨BOL_MBIST p, 3, 1⟩
def BOL_MBIST_STATE (p : Nat) : Fld := ⟨BOL_MBIST p, 4, 2⟩
def BOL_MBIST_FROW (p : Nat) : Fld := ⟨BOL_MBIST p, 6, 10⟩
def BOL_MBIST_FWORD (p : Nat) : Fld := ⟨BOL_MBIST p, 16, 3⟩
def BOL_MBIST_FBIT (p : Nat) : Fld := ⟨BOL_MBIST p, 19, 7⟩
def BOL_MBIST_FROWS (p : Nat) : Fld := ⟨BOL_MBIST p, 26, 3⟩
def BOL_MBIST_REPN (p : Nat) : Fld := ⟨BOL_MBIST p, 29, 3⟩
def BOL_MBIST_REP0 (p : Nat) : Fld := ⟨BOL_MBIST p, 32, 10⟩
def BOL_MBIST_REP1 (p : Nat) : Fld := ⟨BOL_MBIST p, 42, 10⟩
def BOL_MBIST_REP2 (p : Nat) : Fld := ⟨BOL_MBIST p, 52, 10⟩
/-- BOL_LM_ADDR (R103). -/
def BOL_LM_ADDR (p : Nat) : Nat := (bolAddr p 25)
def BOL_LM_ADDR_WORD (p : Nat) : Fld := ⟨BOL_LM_ADDR p, 0, 13⟩
def BOL_LM_ADDR_WE (p : Nat) : Fld := ⟨BOL_LM_ADDR p, 13, 1⟩
def BOL_LM_ADDR_ERR (p : Nat) : Fld := ⟨BOL_LM_ADDR p, 14, 2⟩
def BOL_LM_ADDR_DONE (p : Nat) : Fld := ⟨BOL_LM_ADDR p, 16, 1⟩
/-- BOL_LM_DATA (R90). -/
def BOL_LM_DATA (p : Nat) : Nat := (bolAddr p 26)
def BOL_LM_DATA_DATA (p : Nat) : Fld := ⟨BOL_LM_DATA p, 0, 64⟩
/-- BOL_TILES (R90). -/
def BOL_TILES (p : Nat) : Nat := (bolAddr p 27)
def BOL_TILES_CNT (p : Nat) : Fld := ⟨BOL_TILES p, 0, 64⟩
/-- BOL_ALARMS (R90). -/
def BOL_ALARMS (p : Nat) : Nat := (bolAddr p 28)
def BOL_ALARMS_CNT (p : Nat) : Fld := ⟨BOL_ALARMS p, 0, 64⟩
/-- BOL_UNCHK (R90). -/
def BOL_UNCHK (p : Nat) : Nat := (bolAddr p 29)
def BOL_UNCHK_CNT (p : Nat) : Fld := ⟨BOL_UNCHK p, 0, 64⟩
/-- BOL_TALLY (R104). -/
def BOL_TALLY (p : Nat) : Nat := (bolAddr p 30)
def BOL_TALLY_FRAMES (p : Nat) : Fld := ⟨BOL_TALLY p, 0, 32⟩
def BOL_TALLY_OFFSLOT (p : Nat) : Fld := ⟨BOL_TALLY p, 32, 16⟩
def BOL_TALLY_SKIP_IN (p : Nat) : Fld := ⟨BOL_TALLY p, 48, 1⟩
/-- BOL_INVAL (R105). -/
def BOL_INVAL (p : Nat) : Nat := (bolAddr p 31)
def BOL_INVAL_TICK (p : Nat) : Fld := ⟨BOL_INVAL p, 0, 50⟩
def BOL_INVAL_SEQ (p : Nat) : Fld := ⟨BOL_INVAL p, 50, 8⟩
def BOL_INVAL_VALID (p : Nat) : Fld := ⟨BOL_INVAL p, 58, 1⟩

end Sys2Proof.Machine
end

