-- ==== Sys2Proof/Machine/CtlState.lean ====
section
/-!
DEFINITION. What the Harbourmaster's reset and fault control hold beside their registers (chapters 12 and 13): the escalation table, operations in
progress, the dump engine, and the colours of Octulo's own units.
-/

namespace Sys2Proof.Machine

/-- A moment: tide tick and core cycle in it, and by how many core cycles the ticks before it had been slewed in all (R29). -/
structure Moment where
  tick : Nat
  cyc : Nat
  dev : Int
  deriving DecidableEq, Repr

/-- The operation of HM_RST_OP in progress (R518, R519): OP, quay, rectangle, power cycle, whether its
resets have begun, and the tiles that still wait for power. -/
structure RstOp where
  op : Nat
  quay : Nat
  rowLo : Nat
  rowHi : Nat
  colLo : Nat
  colHi : Nat
  pwr : Bool
  begun : Bool
  waiting : List Nat
  deriving DecidableEq, Repr

/-- A dump that is being staged or copied (R525 to R527): kind, the kind of its contents, tile or quay, trigger (tide value, job tick),
words that timed out, bytes, whether it is staged, and whether its quay is to be reset once its reads have ended. -/
structure DumpSt where
  kind : Nat
  what : Nat
  unit : Nat
  tide : Nat
  jt : Nat
  voids : List Nat
  staged : Bool
  deriving DecidableEq, Repr

/-- A Customs unit, triplex core or harbour-store bank (R262): colour, events and corrected words of this round, quiet rounds. -/
structure UnitSt where
  colour : Nat
  events : Nat
  quiet : Nat
  deriving DecidableEq, Repr

def UnitSt.idle : UnitSt := ⟨0, 0, 0⟩

/-- Reset and fault control. -/
structure ResetSt where
  /-- Tide ticks of the last two counted resets, latest first, by tile, or by 2^20 plus quay (R524). -/
  esc : Tab (List Nat)
  op : Option RstOp
  /-- A move of the partition reset in progress has been abandoned (R519). -/
  opStop : Bool
  /-- Power cycles in progress: tile, and when its CDOM_OK fell; PWR_EN rises 2,200 cc later (R518). -/
  power : List (Nat × Option Moment)
  dump : Option DumpSt
  /-- When Lantern mode was entered, and the key slots that must be loaded again before it is left (R530). -/
  lanternTick : Nat
  keysWanted : List Nat
  /-- Bollards restarted by the chain watchdog (R515): tile; 0 did not answer, 1 answered, 2 restarted and its frame is awaited. -/
  restarted : List (Nat × Nat)
  /-- Adoptions ordered and not yet made (quay, moment of the decision), quays without a controller (R520, R523), quays to be taken back at
  the next restart, and quays whose recall is due at the next commit (R522). -/
  orders : List (Nat × Moment)
  lost : List Nat
  reclaim : List Nat
  reclaimDue : List Nat
  /-- Units: 0 to 3 Customs, 4 to 6 triplex cores, 8 to 11 harbour-store banks. -/
  units : Tab UnitSt
  deriving DecidableEq, Repr

def ResetSt.idle : ResetSt := ⟨[], none, false, [], none, 0, [], [], [], [], [], [], []⟩

end Sys2Proof.Machine
end

