-- ==== Sys2Proof/Machine/TestState.lean ====
section
/-!
DEFINITION. What testing in service holds (chapter 08): the test engines of the Bollards, the quays' test slots, the pattern library, and the operation
of the pattern port.
-/

namespace Sys2Proof.Machine

/-- A Bollard's test engine: when ZEROISE was pulsed and ZERO_DONE is still awaited (R80, R305), what runs (0 nothing, 1 a scan slice, 2 memory BIST, 3 a
functional slice), intervals or patterns done, STEP beats of the functional slice, the first vector that set a cause, and the failing rows of the
last memory BIST. -/
structure Engine where
  zeroAt : Option Moment
  /-- The pattern generator and the signature register (R308), and the generator's state at the start of the interval that failed (R309). -/
  prpg : BitVec 256
  misr : BitVec 64
  saved : BitVec 256
  /-- When the run in progress started (R299). -/
  since : Moment
  running : Nat
  done : Nat
  steps : Nat
  bad : Option Nat
  deriving DecidableEq, Repr

def Engine.idle : Engine := ⟨none, 0, 0, 0, ⟨0, 0, 0⟩, 0, 0, 0, none⟩

/-- A test slot of a quay (R301): tile, logical core served before a rotation (0xFFFFF otherwise), purpose (R316), place in the plan (R298), whether the
repair rerun has been used, whether a repair has been made in the slice and it is to run again, phase (0 waits for the rotation's switch, 1 waits
for a slice start or its clearance, 2 a slice runs, 3 waits for a diagnosis partner, 4 for the zeroisations of the diagnosis, 5 diagnosis), since when, the tide tick of the test's start, the
content half of the slice, slices run, the host's abort, the diagnosis partner, the failing rows, word and bit of the last memory BIST, the divider
of the tile's colour, and the vectors of the functional slice that have been copied (R313). -/
structure TSlot where
  p : Nat
  lcore : Nat
  purpose : Nat
  pos : Nat
  reran : Bool
  again : Bool
  phase : Nat
  since : Moment
  started : Nat
  half : Nat
  ran : Nat
  abort : Bool
  partner : Option Nat
  rows : List Nat
  word : Nat
  bitNo : Nat
  div : Nat
  sent : Nat
  deriving DecidableEq, Repr

/-- An accepted segment of the library (R317, R319): type, SEQ, flash address, items, PATS, payload. -/
structure Seg where
  ty : Nat
  seq : Nat
  addr : Nat
  items : Nat
  pats : Nat
  payload : List (BitVec 8)
  deriving DecidableEq, Repr

/-- The content of one half of a quay's test area (R320): SEQ, items and PATS of its logic segments, and its vectors (offset in the vector set, bytes,
SEQ of the segment). -/
structure LibSet where
  seq1 : Nat
  items1 : Nat
  pats1 : Nat
  seq2 : Nat
  items2 : Nat
  pats2 : Nat
  vecs : List (Nat × Nat × Nat)
  deriving DecidableEq, Repr

def LibSet.empty : LibSet := ⟨0, 0, 0, 0, 0, 0, []⟩

/-- The operation of HM_XSPI_OP in progress (R322): OP, target address, image, sectors, stage (0 erasing, 1 programming, 2 reading back, 3 scanning),
sectors or pages done in the stage. -/
structure Flash where
  op : Nat
  addr : Nat
  len : Nat
  image : List (BitVec 8)
  stage : Nat
  done : Nat
  deriving DecidableEq, Repr

/-- Testing: engines by tile, slots by quay * 8 + slot, the tile named by HM_TEST_OP, content by quay * 2 + half and the quays whose inactive half
awaits its turn, accepted segments, the flash operation, and a rescan that waits for it (R329). -/
structure TestSt where
  engines : Tab Engine
  slots : Tab (Option TSlot)
  next : Option Nat
  sets : Tab LibSet
  waiting : List Nat
  segs : List Seg
  flash : Option Flash
  rescan : Bool
  deriving DecidableEq, Repr

def TestSt.idle : TestSt := ⟨[], [], none, [], [], [], none, false⟩

end Sys2Proof.Machine
end

