-- ==== Sys2Proof/Machine/AuxState.lean ====
section
/-!
DEFINITION. What the Logbook's writer and flusher, the key store, start-up, updates, lockstep and the command page hold beside their registers (chapters 14
to 18).
-/

namespace Sys2Proof.Machine

/-- A record (R544). -/
structure Rec where
  code : Nat
  flags : Nat
  rep : Nat
  tide : Nat
  src : Nat
  p0 : Nat
  p1 : Nat
  p2 : Nat
  p3 : Nat
  deriving DecidableEq, Repr

/-- The empty slot (R544). -/
def Rec.empty : Rec := ⟨0, 0, 0, 0, 0, 0, 0, 0, 0⟩

/-- A block write of the flusher (R553, R554): power-fail or trickle, its first sequence number, its records, whether it is the retry, and the tide at its start. -/
structure BlockWr where
  pf : Bool
  first : Nat
  len : Nat
  retry : Bool
  tide : Nat
  deriving DecidableEq, Repr

/-- A clear in progress (R561): its range, the token, the log key with its KEY_ID held at GO, the nonce where a valid one was held, and whether the clear
has been verified. -/
structure ClearSt where
  first : Nat
  last : Nat
  token : BitVec 256
  key : Option (BitVec 256)
  keyId : Nat
  nonce : Option (BitVec 128)
  verified : Bool
  deriving DecidableEq, Repr

/-- The Logbook (R551 to R562): the buffer by slot, the block write in progress, the power-fail flush (when it
was started), a trigger that has not cleared (1 PFAIL_N, 2 bus sample), blocks marked bad, how many were bad in a row, the trailer scan at power-up,
the nonce and the tick it was drawn in, clears refused with STATUS 1 in this round, the clear, the record being fetched,
the first sequence number of this power-up (older records stand in the store only), the writer's last admission and the cycles it takes (R548),
and the record merged last, and when (R557). -/
structure LogSt where
  buf : Tab Rec
  wr : Option BlockWr
  pf : Option Moment
  trigger : Nat
  bad : List Nat
  badRun : Nat
  scan : Bool
  nonce : Option (BitVec 128 × Nat)
  refusals : Nat
  clear : Option ClearSt
  fetch : Option Nat
  base : Nat
  taken : Option (Moment × Nat)
  merged : Option (Moment × Rec)
  deriving DecidableEq, Repr

def LogSt.idle : LogSt := ⟨[], none, none, 0, [], 0, false, none, 0, none, none, 0, none, none⟩

/-- The key store (R566, R567): the slots as voted, the triplex cores that hold good copies, the window keys in force at the quays by slot, those on
their way and the tick they take force in (none until every quay holds them), and the slot of the operation in progress. -/
structure KeySt where
  keys : Tab (Option (BitVec 256))
  quayKeys : Tab (Option (BitVec 256))
  coming : Option (Nat × BitVec 256)
  /-- Triplex cores whose own copies have been zeroised and not yet refilled (R306, R568). -/
  blank : List Nat
  /-- Quays whose tag checker's copies of the window keys have been zeroised and not yet refilled (R568, R691). -/
  quayBlank : List Nat
  deriving DecidableEq, Repr

def KeySt.idle : KeySt := ⟨[], [], none, [], []⟩

/-- What start-up keeps of an image (R584): Rinol version, and the handover versions it writes and reads at least. -/
structure Image where
  version : Nat
  hoOut : Nat
  hoMin : Nat
  deriving DecidableEq, Repr

/-- The start test (R592, R593): since when, tiles that wait by quay, tiles that failed once by quay, tiles that failed once and are tested again, waves by quay. -/
structure StartTest where
  since : Moment
  todo : Tab (List Nat)
  failed : Tab (List Nat)
  again : List Nat
  waves : Tab Nat
  deriving DecidableEq, Repr

/-- Start-up and updates (R580 to R602, R669 to R672, R690 to R692): power domains (0 off, 1 switched on and not yet good, 2 on) and when they were last switched, quays that passed and quays that failed self-test,
the image running and the one being loaded, what PREPARE waits for (bit 0 the library scan, bit 1 the regulators; bit 2 it has
completed once, bit 3 it runs), EPOCH waits, the start test, the opening in progress (0 none, 1 waits for the ring, 2 the tick is chosen, 3 waits for segments to close) and the tick since
which it waits, the step of the update (0 none, 1 to leave, 2 loading, 3 loaded, 4 handed over, 5 to rejoin, 6 aborted and to rejoin) and the RESULT it will
end with, the core that is to rejoin, the pause of the triplex (1 handover, 2 rejoin, and since when), operations written to Harbourmaster pages during a pause,
the quay next reloaded and the tick of the last reload, CLOSE waits for the halt (the reason it will record), test segments open, and PORST_N is low. -/
structure StartSt where
  domains : Tab Nat
  switched : Tab (Option Moment)
  quaysOk : List Nat
  quaysBad : List Nat
  image : Image
  loading : Option Image
  prep : Nat
  epoch : Bool
  stest : Option StartTest
  opening : Nat
  waitFrom : Nat
  upd : Nat
  result : Nat
  rejoin : Option Nat
  pause : Option (Nat × Moment)
  deferred : List Instr
  reload : Nat
  reloadAt : Option Nat
  closing : Nat
  segments : List Nat
  held : Bool
  deriving DecidableEq, Repr

def StartSt.idle : StartSt := ⟨[], [], [], [], ⟨0, 0, 0⟩, none, 0, false, none, 0, 0, 0, 0, none, none, [], 0, none, 0, [], false⟩

/-- A row's shares of one step at a home quay (R621): committed XOR and count, and the shares of uncommitted job ticks (tick, XOR, count). -/
structure RowShare where
  x : BitVec 64
  n : Nat
  shares : List (Nat × BitVec 64 × Nat)
  deriving DecidableEq, Repr

def RowShare.zero : RowShare := ⟨0, 0, []⟩

/-- A contribution on its way to its home quay (R620): logical core, step, K, job tick. -/
structure Contrib where
  lcore : Nat
  step : Nat
  k : BitVec 64
  tick : Nat
  deriving DecidableEq, Repr

/-- Lockstep (R619 to R630): SIGACC by tile with its values at the ends of the last four job ticks, contributions in flight, rows by
(quay * 2^32 + step) * 128 + row, each quay's lowest step not complete, quay digests on their way (quay, step, digest) and received by step * 64 + quay, the job tick and the tide tick at which
a step completed, the next step to compare and the next to send, the next sequence number and the tide tick of the last packet sent, steps of the peer that have arrived and when,
since when a drill-down runs, a stop that a contribution has asked for, the peer's START digest, whether the peer's drill-down has arrived, the extended HW2 start awaited,
packets to send again, and by quay the lowest step whose row digests its store still holds (R625). -/
structure LockSt where
  acc : Tab (BitVec 64)
  accHist : Tab (List (Nat × BitVec 64))
  contribs : List Contrib
  rows : Tab RowShare
  lowest : Tab Nat
  digests : List (Nat × Nat × BitVec 64)
  own : Tab (Option (BitVec 64))
  doneAt : Tab (Nat × Nat)
  next : Nat
  sendNext : Nat
  seq : Nat
  sentAt : Nat
  arrived : List (Nat × Nat)
  drillAt : Option Nat
  stall : Bool
  started : Nat
  peerStart : Option (BitVec 64)
  drillIn : Bool
  hw2 : Bool
  resend : List (Nat × Nat × List (List (BitVec 64)))
  histFrom : Tab Nat
  deriving DecidableEq, Repr

def LockSt.idle : LockSt := ⟨[], [], [], [], [], [], [], [], 0, 0, 0, 0, [], none, false, 0, none, false, false, [], []⟩

/-- The command in flight (R652): code, arguments, result and ARG4 to ARG7 once served. -/
structure CmdSt where
  op : Nat
  args : List Nat
  result : Option Nat
  res : List Nat
  deriving DecidableEq, Repr

end Sys2Proof.Machine
end

