-- ==== Sys2Proof/Machine/Numeric.lean ====
section
/-!
DEFINITION. The arithmetic of the checks: dyadic numbers with infinities and NaN, one rounding to a binary format (R110), the element
formats of R6, the tile weights of R108, and the CRC-64 of R64 and CRC-32 of R552.
-/

namespace Sys2Proof.Machine

/-- A value of the check arithmetic: `m · 2^e`, an infinity, or NaN. -/
inductive Num where
  | fin (m : Int) (e : Int)
  | inf (neg : Bool)
  | nan
  deriving DecidableEq, Repr

/-- Zero. -/
def Num.zero : Num := .fin 0 0

/-- `m · 2^k` for an integer, `k` at least 0. -/
def shl (m : Int) (k : Int) : Int := m * (2 : Int) ^ k.toNat

/-- A binary format: precision in bits and exponent range (R110). -/
structure FpFmt where
  prec : Nat
  emin : Int
  emax : Int
  deriving DecidableEq, Repr

/-- FP64, the 106-bit extended format, and FP32. -/
def fp64 : FpFmt := ⟨53, -1022, 1023⟩
def ext106 : FpFmt := ⟨106, -1022, 1023⟩
def fp32 : FpFmt := ⟨24, -126, 127⟩

/-- Bits of a natural number. -/
def bitLen (n : Nat) : Nat := if n = 0 then 0 else Nat.log2 n + 1

/-- Round a magnitude right by `k` bits: to nearest, ties to even, or up when `up` says the direction goes away from zero and down otherwise. -/
def roundMag (a k : Nat) (nearest away : Bool) : Nat :=
  let q := a >>> k
  let r := a % 2 ^ k
  if r = 0 then q
  else if nearest then
    if 2 * r > 2 ^ k then q + 1 else if 2 * r < 2 ^ k then q else q + q % 2
  else if away then q + 1 else q

/-- One rounding to a format, to nearest even (`up = false`) or toward +∞ (`up = true`); beyond the largest finite value it is an infinity
of its sign (R110). -/
def Num.round (f : FpFmt) (up : Bool) : Num → Num
  | .fin m e =>
    if m = 0 then .zero
    else
      let a := m.natAbs
      let lead := e + (bitLen a : Int) - 1
      let q := max (lead - f.prec + 1) (f.emin - f.prec + 1)
      let neg := decide (m < 0)
      let r : Nat := if q ≤ e then a * 2 ^ (e - q).toNat else roundMag a (q - e).toNat (!up) (up && !neg)
      if (r : Int) ≥ shl 1 (f.emax + 1 - q) then .inf neg
      else if r = 0 then .zero
      else .fin (if neg then -(r : Int) else r) q
  | x => x

/-- The exact sum. -/
def Num.add : Num → Num → Num
  | .fin m1 e1, .fin m2 e2 => let e := min e1 e2; .fin (shl m1 (e1 - e) + shl m2 (e2 - e)) e
  | .nan, _ => .nan
  | _, .nan => .nan
  | .inf a, .inf b => if a = b then .inf a else .nan
  | .inf a, _ => .inf a
  | _, .inf b => .inf b

/-- The exact product. -/
def Num.mul : Num → Num → Num
  | .fin m1 e1, .fin m2 e2 => .fin (m1 * m2) (e1 + e2)
  | .nan, _ => .nan
  | _, .nan => .nan
  | .inf a, .inf b => .inf (a ^^ b)
  | .inf a, .fin m _ => if m = 0 then .nan else .inf (a ^^ decide (m < 0))
  | .fin m _, .inf b => if m = 0 then .nan else .inf (b ^^ decide (m < 0))

/-- Negation and absolute value. -/
def Num.neg : Num → Num
  | .fin m e => .fin (-m) e | .inf a => .inf (!a) | .nan => .nan
def Num.abs : Num → Num
  | .fin m e => .fin m.natAbs e | .inf _ => .inf false | .nan => .nan

/-- Finite. -/
def Num.isFin : Num → Bool
  | .fin _ _ => true | _ => false

/-- `x ≤ y`; a NaN is not ordered. -/
def Num.le : Num → Num → Bool
  | .fin m1 e1, .fin m2 e2 => let e := min e1 e2; decide (shl m1 (e1 - e) ≤ shl m2 (e2 - e))
  | .nan, _ => false
  | _, .nan => false
  | .inf true, _ => true
  | _, .inf false => true
  | _, _ => false

/-- A whole number. -/
def Num.ofInt (i : Int) : Num := .fin i 0

/-- ⌊x / y · 2^16⌋ of two finite numbers, the divisor positive, saturating at 0xFFFF_FFFF (R128). -/
def ratio16 (x y : Num) : Nat :=
  match x, y with
  | .fin m1 e1, .fin m2 e2 =>
    if m2 ≤ 0 then (if m1 = 0 then 0 else 0xFFFFFFFF)
    else
      let e := min (e1 + 16) e2
      min ((shl m1.natAbs (e1 + 16 - e)) / (shl m2 (e2 - e))).toNat 0xFFFFFFFF
  | _, _ => 0xFFFFFFFF

/-- The bits of a value already rounded to a format with `eb` exponent bits. A NaN's bits are a free constant. -/
def encodeFp (f : FpFmt) (eb : Nat) (nanBits : Nat) : Num → Nat
  | .nan => nanBits
  | .inf neg => (if neg then 2 ^ (eb + f.prec - 1) else 0) + (2 ^ eb - 1) * 2 ^ (f.prec - 1)
  | .fin m e =>
    let sign := if m < 0 then 2 ^ (eb + f.prec - 1) else 0
    let a := m.natAbs
    if a = 0 then 0
    else
      let lead := e + (bitLen a : Int) - 1
      if lead < f.emin then sign + (shl a (e - (f.emin - f.prec + 1))).toNat
      else
        let sig := (shl a (max 0 (e - (lead - f.prec + 1)))).toNat >>> ((lead - f.prec + 1) - e).toNat
        sign + ((lead - f.emin + 1).toNat) * 2 ^ (f.prec - 1) + (sig - 2 ^ (f.prec - 1))

/-- FP64 bits of a value, rounded to nearest or toward +∞ (R137). -/
def toFp64 (up : Bool) (x : Num) : BitVec 64 :=
  BitVec.ofNat 64 (encodeFp fp64 11 Config.nanBits.toNat (x.round fp64 up))

/-- FP32 bits of a value, rounded to nearest or toward +∞ (R129). -/
def toFp32 (up : Bool) (x : Num) : Nat :=
  encodeFp fp32 8 (Config.nanBits.toNat % 2 ^ 32) (x.round fp32 up) % 2 ^ 32

/-! ### Element formats (R6, R61) -/

/-- Decode an IEEE-style code with `eb` exponent and `mb` fraction bits. -/
def decIeee (eb mb : Nat) (c : Nat) : Num :=
  let neg := c.testBit (eb + mb)
  let x := c / 2 ^ mb % 2 ^ eb
  let f := c % 2 ^ mb
  let bias : Int := 2 ^ (eb - 1) - 1
  let sg : Int := if neg then -1 else 1
  if x = 2 ^ eb - 1 then (if f = 0 then .inf neg else .nan)
  else if x = 0 then .fin (sg * f) (1 - bias - mb)
  else .fin (sg * (2 ^ mb + f)) ((x : Int) - bias - mb)

/-- FP8 E4M3: no infinity, the all-ones code is NaN. -/
def decE4m3 (c : Nat) : Num :=
  let sg : Int := if c.testBit 7 then -1 else 1
  let x := c / 8 % 16
  let f := c % 8
  if x = 15 ∧ f = 7 then .nan
  else if x = 0 then .fin (sg * f) (-9)
  else .fin (sg * (8 + f)) ((x : Int) - 10)

/-- E2M1. -/
def decE2m1 (c : Nat) : Num :=
  let sg : Int := if c.testBit 3 then -1 else 1
  let x := c / 2 % 4
  let f := c % 2
  if x = 0 then .fin (sg * f) (-1) else .fin (sg * (2 + f)) ((x : Int) - 2)

/-- E8M0 block scale; 0xFF is NaN (R116). -/
def decE8m0 (c : Nat) : Num := if c % 256 = 255 then .nan else .fin 1 ((c % 256 : Nat) - (127 : Int))

/-- A two's complement integer of `w` bits. -/
def decInt (w c : Nat) : Num := .ofInt (if c % 2 ^ w < 2 ^ (w - 1) then (c % 2 ^ w : Nat) else ((c % 2 ^ w : Nat) : Int) - 2 ^ w)

/-- Number format codes (R6). -/
def fmtFp64 : Nat := 0
def fmtMxfp4 : Nat := 6
def fmtInt8 : Nat := 7

/-- Element bits of an operand beat (R61). -/
def elemBits (fmt : Nat) : Nat :=
  match fmt with
  | 0 => 64 | 1 => 32 | 2 => 16 | 3 => 16 | 4 => 8 | 5 => 8 | 6 => 4 | _ => 8

/-- Result bits of a write-back beat (R61). -/
def resBits (fmt : Nat) : Nat := if fmt = fmtFp64 then 64 else 32

/-- The value of an operand element. -/
def decElem (fmt c : Nat) : Num :=
  match fmt with
  | 0 => decIeee 11 52 c | 1 => decIeee 8 23 c | 2 => decIeee 8 7 c | 3 => decIeee 5 10 c
  | 4 => decE4m3 c | 5 => decIeee 5 2 c | 6 => decE2m1 c | _ => decInt 8 c

/-- The value of a result. -/
def decRes (fmt c : Nat) : Num :=
  if fmt = fmtFp64 then decIeee 11 52 c else if fmt = fmtInt8 then decInt 32 c else decIeee 8 23 c

/-- The check format of a tile (R61, R110). -/
def checkFmt (fmt : Nat) : FpFmt := if fmt = fmtFp64 then ext106 else fp64

/-- Reduce an integer sum modulo 2^32 (R114). -/
def mod32 : Num → Num
  | .fin m e => .fin (shl m (max e 0) % 2 ^ 32) 0
  | x => x

/-- One addition in the check arithmetic of a format. -/
def ckAdd (fmt : Nat) (up : Bool) (x y : Num) : Num :=
  if fmt = fmtInt8 then mod32 (x.add y) else (x.add y).round (checkFmt fmt) up

/-- One product in the check arithmetic of a format. -/
def ckMul (fmt : Nat) (up : Bool) (x y : Num) : Num :=
  if fmt = fmtInt8 then mod32 (x.mul y) else (x.mul y).round (checkFmt fmt) up

/-! ### Weights (R108) -/

/-- One shift of the register. -/
def lfsrStep (s : Nat) : Nat × Nat := (if s % 2 = 1 then (s / 2) ^^^ 0x80200003 else s / 2, s % 2)

/-- Eight shifts: the next state and the eight bits shifted out, first bit highest. -/
def lfsr8 : Nat → Nat → Nat → Nat × Nat
  | 0, s, r => (s, r)
  | n + 1, s, r => let (s', b) := lfsrStep s; lfsr8 n s' (2 * r + b)

/-- `n` weights from a state. -/
def weightList : Nat → Nat → List Nat
  | 0, _ => []
  | n + 1, s => let (s', r) := lfsr8 8 s 0; (2 * r + 1) :: weightList n s'

/-- The seed of a tile: tick of its DESC beat and SEQ. -/
def weightSeed (t seq : Nat) : Nat :=
  let s := (t % 2 ^ 32) ^^^ (seq * 0x01010101 % 2 ^ 32)
  if s = 0 then 1 else s

/-- Row weight w(i) and column weight v(j). -/
def rowWeight (wt : List Nat) (i : Nat) : Int := (wt.getD i 1 : Nat)
def colWeight (wt : List Nat) (j : Nat) : Int := (wt.getD (256 + j) 1 : Nat)

/-! ### CRCs -/

/-- One byte into a reflected CRC with the reflected polynomial `poly`. -/
def crcBits (poly : Nat) : Nat → Nat → Nat
  | 0, c => c
  | n + 1, c => crcBits poly n (if c % 2 = 1 then (c / 2) ^^^ poly else c / 2)

def crcBytes (poly : Nat) (c : Nat) (l : List Nat) : Nat := l.foldl (fun c b => crcBits poly 8 (c ^^^ (b % 256))) c

/-- CRC-64/XZ (R64); 0xC96C_5795_D787_0F42 is the ECMA-182 polynomial reflected. -/
def crc64 (l : List Nat) : Nat := crcBytes 0xC96C5795D7870F42 0xFFFFFFFFFFFFFFFF l ^^^ 0xFFFFFFFFFFFFFFFF

/-- CRC-32 of IEEE 802.3 (R552), reflected. -/
def crc32 (l : List Nat) : Nat := crcBytes 0xEDB88320 0xFFFFFFFF l ^^^ 0xFFFFFFFF

/-- The bytes of a number, least significant first. -/
def bytesOf (n : Nat) : Nat → List Nat
  | 0 => []
  | k + 1 => n % 256 :: bytesOf (n / 256) k

/-- A number from bytes, least significant first. -/
def ofBytes : List Nat → Nat
  | [] => 0
  | b :: t => b % 256 + 256 * ofBytes t

end Sys2Proof.Machine
end

