-- ==== Sys2Proof/Machine/SyncState.lean ====
section
/-!
DEFINITION. What the hawsers and the sync engines hold (chapter 10): a Bollard's slots, sync objects, the group table, the ring extension and the
messages in flight between quays.
-/

namespace Sys2Proof.Machine

/-- A job slot at one Bollard (R392, R395, R396): the group table entry it is a member of, its arrival bit, the round's sense, a pending arrival,
and whether the round's release has been broadcast and not yet received. -/
structure Slot where
  entry : Option Nat
  b : Bool
  sense : Bool
  pend : Bool
  due : Bool
  deriving DecidableEq, Repr

/-- A slot at reset: the sense is 0 (R431) and the Bollard, no member, has not arrived. -/
def Slot.idle : Slot := ⟨none, true, false, false, false⟩

/-- A counter with its committed value and the increments of the uncommitted job ticks (R401, R402). -/
structure Counter where
  value : Nat
  committed : Nat
  shares : List (Nat × Nat)
  deriving DecidableEq, Repr

def Counter.zero : Counter := ⟨0, 0, []⟩

/-- A sync object (R401, R407, R411, R423). `mirror` counts the updates received of its linked object and `floor` is the
value of the last realignment; `tmin` is the lowest armed target, `smin` the lowest armed with SPACE; `targets` are pairs of quay
and channel; `wrec` the logical cores of the first four arms since the last fire; `link` is its QY_SYNC_LINK word. -/
structure SyncObj where
  cnt : Counter
  mirror : Counter
  floor : Nat
  tmin : Option Nat
  smin : Option Nat
  targets : List (Nat × Nat)
  waiters : Nat
  wrec : List Nat
  lastCore : Nat
  lastTick : Nat
  link : Nat
  deriving DecidableEq, Repr

def SyncObj.idle : SyncObj := ⟨Counter.zero, Counter.zero, 0, none, none, [], 0, [], 0, 0, 0⟩

/-- A group request (R413, R414): requester tile and logical core, tick, slot, whether it frees, quay mask, group, LO, HI. -/
structure GroupReq where
  p : Nat
  lcore : Nat
  tick : Nat
  slot : Nat
  free : Bool
  mask : Nat
  group : Nat
  lo : Nat
  hi : Nat
  deriving DecidableEq, Repr

/-- A live group (R413, R433): MODE 1 physical, 2 fallback, 3 ring; the fallback object; members; effective tick; the sense of its rounds;
and the tick from which it is to be freed, once no round is open. -/
structure Group where
  group : Nat
  slot : Nat
  mode : Nat
  quay : Nat
  idx : Nat
  members : Nat
  mask : Nat
  lo : Nat
  hi : Nat
  eff : Nat
  sense : Bool
  freeAt : Option Nat
  deriving DecidableEq, Repr

def Group.none : Group := ⟨0, 0, 0, 0, 0, 0, 0, 0, 0, 0, false, Option.none⟩

/-- An extended line (R420): the sense of the wafer's own complete round, the sense of the gather frames being received, copy 0 of the release
received and good, copy 0 lost, and whether the release has been sent or forwarded. -/
structure LineExt where
  own : Option Bool
  gather : Option Bool
  copy0 : Bool
  lost0 : Bool
  deriving DecidableEq, Repr

def LineExt.idle : LineExt := ⟨none, none, false, false⟩

/-- A fire of channel `ch` on the wake bus of `quay` (R405, R429): when it fired, and how many cycles later the bus drives it. -/
structure WakeFire where
  quay : Nat
  ch : Nat
  fired : Moment
  delay : Nat
  deriving DecidableEq, Repr

/-- The hawsers as a whole: requests awaiting their epoch, the group table, extended lines, the purpose of the HW2 round in progress
(0 none, 1 epoch, 2 lockstep start, 3 opening, 4 realignment), calibration (position pinged, when, round trips measured), the senses at the ends of the last job ticks (tick, SENSE,
senses of the groups), and messages between quays: wakes (quay, channel, object, owner), channels on the wake bus,
forwarded signals (owner quay of y, index of y, quay of x, index of x, increment, tick); and the tide tick of the last realignment (R412). -/
structure HawserSt where
  reqs : List GroupReq
  groups : Tab Group
  lines : Tab LineExt
  hw2 : Nat
  calPos : Nat
  calSent : Moment
  calTrips : List Nat
  hist : List (Nat × Nat × List (Nat × Bool))
  wakes : List (Nat × Nat × Nat × Nat)
  bus : List WakeFire
  forwards : List (Nat × Nat × Nat × Nat × Nat × Nat)
  realigned : Option Nat
  deriving DecidableEq, Repr

def HawserSt.idle : HawserSt := ⟨[], [], [], 0, 0, ⟨0, 0, 0⟩, [], [], [], [], [], none⟩

end Sys2Proof.Machine
end

