-- ==== Sys2Proof/Machine/State.lean ====
section
/-!
DEFINITION. The state of the block as plain data: every register of every page and Bollard in one register file, the stores,
the timebase, what each Bollard, quay and the Harbourmaster hold beside their registers, the messages in flight, the Logbook,
the keys, the pins, and the queue of waiting commands. Also the two stop reasons and the state after reset.
-/

namespace Sys2Proof.Machine

/-- The reasons a step could fault. No command of this block faults: what goes wrong in the hardware is latched in its fault words
(R483 to R493) and is the command's effect. The one constructor is kept for an index that names no unit; no meaning raises it.
It would be safe. -/
inductive Fault where
  | noSuchUnit
  deriving DecidableEq, Repr

/-- The reasons a step refuses. `notModelled` is raised only by an arm of `exec` whose command has no meaning yet; it is safe. -/
inductive Refusal where
  | notModelled (mnemonic : String)
  deriving DecidableEq, Repr

/-! ### What the integrator fixes -/

/-- The four configurations of R4. -/
inductive Variant where
  | w64 | w16 | w4 | w1
  deriving DecidableEq, Repr

/-- Design-time values that registers report (R642 to R649); no command writes them. -/
structure Straps where
  variant : Variant
  stepping : Nat
  grade : Nat
  version : Nat
  chainLen : Nat
  lmSpareRows : Nat
  flashSectors : Nat
  flitHdrW : Nat
  rspW : Nat
  securePages : Nat
  deriving DecidableEq, Repr

/-! ### Time -/

/-- The timebase beside its registers (R21 to R33). -/
structure TimeSt where
  /-- Tide tick (R24), and the core cycle of the command just executed in it. -/
  tick : Nat
  cyc : Nat
  /-- The device epoch has been passed (R591); before it the counter counts cycles of the AO domain only. -/
  epoch : Bool
  /-- The accumulator of R29. -/
  acc : Int
  /-- Cycles added to (or taken from) the tick in progress, once decided (R29, R30). -/
  slew : Int
  /-- Consecutive accepted edges with |phase| at most 64 cc (R31). -/
  nearEdges : Nat
  /-- Phases of the consecutive edges outside the window since HOLDOVER was entered, latest first (R31). -/
  strays : List Int
  /-- HOLDOVER has been in force since the last LOCKED (R31: "after holdover"). -/
  afterHold : Bool
  /-- A new reference has been taken and its phase is still being corrected (R31, PPS_REACQUIRE). -/
  reacquired : Bool
  /-- By how many core cycles the ticks so far have differed from their nominal length in all (R29, R32). -/
  dev : Int
  /-- Length of the tick before, slew included (an edge stamped before cycle 0 falls in it, R28). -/
  prevLen : Nat
  /-- An ALIGN is waiting for its edge (R32). -/
  alignReq : Bool
  /-- The tick strobe is due 3 cc after the aligning edge, and its tick is the second base (R32). -/
  alignNow : Bool
  deriving DecidableEq, Repr

/-! ### Pulls, commits and recalls (chapter 06) -/

/-- One pull of HW1 on its way to the root (R225, R252). -/
structure Pull where
  /-- 0 Bollard, 1 quay, 2 root, 3 host. -/
  kind : Nat
  quay : Nat
  ltile : Nat
  cause : Nat
  reason : Nat
  /-- The halt code a halting pull carries (R236, R242), 0 for none, and the target of a suspect halt is the last commit. -/
  halt : Nat
  /-- When it was launched. -/
  at_ : Moment
  deriving DecidableEq, Repr

/-- One move of a logical core to a spare during a recall (R231, R278). -/
structure Migration where
  lcore : Nat
  src : Nat
  dst : Nat
  /-- The trigger code that takes `src` out of service, 0 for none (R257, R259). -/
  code : Nat
  /-- The copy has completed. -/
  done : Bool
  /-- When the move started (R297), and the restart tick that its latest map update carries (R275). -/
  start : Moment
  told : Nat
  deriving DecidableEq, Repr

/-- The recall in progress (R226 to R230). -/
structure RecallSt where
  target : Nat
  reason : Nat
  /-- Launch of the first pull, and its arrival at the root. -/
  a : Moment
  s : Moment
  drained : Bool
  /-- A cause LINK waits for the reroute (R234). -/
  needReroute : Bool
  rerouted : Bool
  /-- The latest RTR_LINK_DOWN edge of the pulls with cause LINK (R227, R235). -/
  edge : Moment
  moves : List Migration
  /-- Spares that raised a core cause while a move took them (R247). -/
  spoilt : List Nat
  /-- Quays that have received the recall (R227). -/
  received : List Nat
  /-- The halt code, 0 when the recall ends in a restart (R236). -/
  halt : Nat
  /-- The logical core the halt names (R256). -/
  haltCore : Nat
  /-- The restart tide tick, once announced (R228). -/
  p : Option Nat
  /-- The mailboxes have been written (R227), and tiles whose mailbox was late. -/
  mailed : Bool
  mailLate : List Nat
  /-- The restart resumes a halted job (R237). -/
  resumed : Bool
  /-- Logical cores that a boundary move abandoned by this recall had announced elsewhere, with their tiles (R283). -/
  back : List (Nat × Nat)
  deriving DecidableEq, Repr

/-- Commit and recall state of the root and the Harbourmaster beside HM_COMMIT registers. -/
structure CommitSt where
  /-- Pulls launched and not yet at the root, oldest first. -/
  pulls : List Pull
  /-- Quays that have let go of their HW0 share in this tide tick, and the moment of the last release. -/
  released : List Nat
  releasedAt : Option Moment
  /-- The tick whose commit has been broadcast and not yet applied everywhere (R224). -/
  pend : Option Nat
  /-- Participants that hold the broadcast commit. -/
  pendQuays : List Nat
  inRecall : Option RecallSt
  /-- The recall that halted the job, while it is halted (R236). -/
  halted : Option RecallSt
  /-- Replays counted per target (R233). -/
  replayTarget : Nat
  replays : Nat
  /-- Recalls since the harbour opened (R216). -/
  recallsOpen : Nat
  /-- The opening tick (R596), and the triplex's last kick (R514). -/
  openTick : Nat
  kickAt : Moment
  deriving DecidableEq, Repr

/-! ### The Logbook's producers (chapter 14) -/

/-- A producer's queue of claims, each a record or a pair of records (R547, R548), and what it dropped (R550). -/
structure ProdQ where
  claims : List (List Rec)
  dropped : Nat
  firstCode : Nat
  lastCode : Nat
  firstTick : Nat
  deriving DecidableEq, Repr

/-- An idle producer. -/
def ProdQ.idle : ProdQ := ⟨[], 0, 0, 0, 0⟩

/-! ### What leaves the block -/

/-- Pulses, answers and messages the last command drove at the block's ports. -/
inductive Out where
  /-- EGC_STB of quay `q` (R222). -/
  | egcStb (q : Nat)
  /-- EGC_RECALL of quay `q` (R227). -/
  | egcRecall (q : Nat)
  /-- The recall mailbox written at tile `p` (R216). -/
  | mailbox (p : Nat) (words : List (BitVec 64))
  /-- WAKE at tile `p` (R73). -/
  | wake (p : Nat)
  /-- CLR_GNT at tile `p` (R74). -/
  | clrGnt (p : Nat)
  /-- HWC_RELEASE of slot `line` at tile `p` (R396). -/
  | hwcRelease (p line : Nat)
  /-- ZEROISE at tile `p` (R80). -/
  | zeroise (p : Nat)
  /-- HARBOUR_CLOSED sent by tile `p` with the packet's source and tag (R79). -/
  | harbourClosed (p source tag : Nat)
  /-- A side-port request of tile `p` (R53). -/
  | lmReq (p : Nat) (we : Bool) (word : Nat) (data : BitVec 64)
  /-- An answer to a sync request of tile `p`: op, status, object or group, value (R399). -/
  | syncAnswer (p op status idx : Nat) (value : BitVec 64)
  /-- MBIST_CTL of tile `p` (R310): START with OP, ROW and SLOT. -/
  | mbist (p op row slot : Nat)
  /-- HANSWER to tile `p` (R415): status, slot, effective job tick, members. -/
  | hanswer (p status slot eff members : Nat)
  /-- A map update: logical core, tile that serves it, first tick (R283). -/
  | mapUpdate (lcore tile tick : Nat)
  /-- The answer of HPORT: response (0 OK, 1 DECODE, 2 REFUSED) and read data (R639). -/
  | hport (rsp : Nat) (data : BitVec 64)
  /-- A PMBus transaction of quay `q`'s regulator: command, write?, data (R680). -/
  | pmbus (q cmd : Nat) (wr : Bool) (data : Nat)
  /-- XSPI_RESET_N pulsed low (R687). -/
  | xspiReset
  /-- A flash access: kind (0 erase, 1 program, 2 read), address, length (R322). -/
  | flash (kind addr len : Nat)
  /-- A block write of the log store begun: block, first sequence number, records (R553, R554). -/
  | logWrite (block first len : Nat) (pf : Bool)
  /-- The trailer of a block of the log store (R552): block and the four words. -/
  | logTrailer (block : Nat) (words : List (BitVec 64))
  /-- A frame sent on hawser extension lane `lane` (R420). -/
  | hwx (lane kind value : Nat)
  /-- A remote write packet sent to wafer `wafer`, window `win` (R623). -/
  | remote (wafer win off : Nat) (words : List (BitVec 64))
  /-- A packet answered at a quay window: 0 accepted, else the refusal reason (R363). -/
  | winAnswer (q win reason : Nat)
  deriving DecidableEq, Repr

/-! ### The whole state -/

/-- A panel of a tile that has had a beat and is not closed (R60, R106, R109): its counts, end marks and running sums
(plain, weighted, magnitude, weighted magnitude; of A, of B). -/
structure PanelSt where
  l : Nat
  aCnt : Nat
  bCnt : Nat
  aEnd : Bool
  bEnd : Bool
  a : Num
  aw : Num
  al : Num
  alw : Num
  b : Num
  bw : Num
  be : Num
  bew : Num
  deriving DecidableEq, Repr

/-- An open tile (R57): descriptor, address beat, the job tick of its DESC beat, how it is being run, its panels and scales,
its sums, and what its write-back has delivered. -/
structure OpenTile where
  desc : BitVec 64
  addr : Option (BitVec 64)
  tick : Nat
  /-- The reason it was found invalid (R58), 0 while valid. -/
  bad : Nat
  /-- It was found invalid at one beat and is not judged again; a repeat runs unchecked (R58). -/
  judged : Bool
  unchecked : Bool
  /-- Cause COUNT was set on this tile. -/
  miscount : Bool
  touched : Bool
  panels : List PanelSt
  closedPanels : Nat
  /-- Closed panel numbers, so that a beat of one of them counts as a violation. -/
  donePanels : List Nat
  /-- The moment of the last fold, E, E_W, M and M_W before the panels that closed in that cycle, and those panels (R110: panels that close in
  one cycle are folded in ascending l). -/
  foldAt : Moment
  foldBase : Num × Num × Num × Num
  foldNow : List PanelSt
  scaleA : Tab (Nat × Nat)
  scaleB : Tab (Nat × Nat)
  taintRows : List Nat
  taintCols : List Nat
  e : Num
  ew : Num
  m : Num
  mw : Num
  sc : Num
  sw : Num
  wb : Nat
  outOfRange : Bool
  nfResults : List Nat
  sig : BitVec 64
  /-- Its output signature will be reported as sample number n of the tick (R142). -/
  sample : Option Nat
  deriving DecidableEq, Repr

/-- The refused-tile slot (R694): the open tiles still ahead of it, its reason (R58), its element and scale counts and its results. -/
structure RefusedTile where
  desc : BitVec 64
  tick : Nat
  after : Nat
  bad : Nat
  addrDue : Bool
  repeated : Bool
  aCnt : Nat
  bCnt : Nat
  sA : Nat
  sB : Nat
  wb : Nat
  deriving DecidableEq, Repr

/-- A message of R127 from a Bollard to its quay. -/
structure AlarmMsg where
  p : Nat
  desc : BitVec 64
  tick : Nat
  seq : Nat
  causes : Nat
  weighted : Bool
  resid : BitVec 64
  tau : BitVec 64
  mag : BitVec 64
  ratio : Nat
  resid32 : Nat
  tau32 : Nat
  broken : Nat
  /-- Reason of DESC_INVALID (R58), of TILE_UNCHECKED_NF (R128), 0 for none. -/
  badReason : Nat
  nfReason : Nat
  /-- DESC_REPEAT, with the tick of the first occurrence. -/
  repeatTick : Option Nat
  deriving DecidableEq, Repr

/-- What a command leaves for the others of its cycle, which the spec takes as simultaneous: W1C bits an event has set (R85, R660), a wake channel
that reached a Bollard, a SLEEP beat with the mask before it, whether it put the core to sleep and the progress before it (R82), an alarm message at
its quay (R125), what a register held at the start of the cycle (R199, R374, R378), and how a tag and a row of a store stood then (R372). -/
inductive Coin where
  | set (a : Nat) (bits : BitVec 64)
  | woke (p ch : Nat)
  | slept (p mask : Nat) (gated prog : Bool)
  | alarm (m : AlarmMsg)
  | held (a : Nat) (w : BitVec 64)
  | tag (q row : Nat) (full : Bool)
  | row (a : Nat) (bytes : List (BitVec 8))
  | cmd (op : Nat) (args : List (BitVec 64)) (flagged : Bool)
  deriving DecidableEq, Repr

/-! ### Sampling (chapter 04) -/

/-- A step whose tile has closed and which awaits its closing beat (R139): descriptor, address beat, tick of the DESC beat, tick of the close,
tap signature, and the berth it was granted. -/
structure StepSt where
  desc : BitVec 64
  addr : BitVec 64
  tick : Nat
  closed : Nat
  sig : BitVec 64
  berth : Option Nat
  deriving DecidableEq, Repr

/-- A sample request (R151): origin tile, descriptor, address beat, tick of the DESC beat, far decision, when it was sent. -/
structure SampReq where
  p : Nat
  desc : BitVec 64
  addr : BitVec 64
  tick : Nat
  far : Bool
  /-- Bytes of held A and held B (R56). -/
  heldA : Nat
  heldB : Nat
  sent : Moment
  deriving DecidableEq, Repr

/-- A descriptor berth (R149, R150) with what its quay knows of it. -/
structure Berth where
  desc : BitVec 64
  addr : BitVec 64
  tick : Nat
  /-- STATE of R150. -/
  st : Nat
  far : Bool
  origin : Nat
  shadow : Nat
  lcore : Nat
  delta : Nat
  tapO : Option (BitVec 64)
  tapS : Option (BitVec 64)
  outO : Option (BitVec 64)
  outS : Option (BitVec 64)
  outLen : Nat
  /-- Bytes of held A and B, and bytes its transfer copies without the kernel. -/
  heldA : Nat
  heldB : Nat
  copy : Nat
  /-- A far placement has been asked for and not answered (R148). -/
  farAsk : Option Moment
  /-- Its copy: 0 not begun, 1 a tender copies, 2 the shadow has been woken. A berth that becomes LATE before the wake is copied all the same (R157). -/
  copyAt : Nat
  /-- When disputed: the dispute's kind (R185), late, and the capture berth. -/
  kind : Nat
  late : Bool
  capt : Option Nat
  deriving DecidableEq, Repr

/-- A free berth. -/
def Berth.free : Berth :=
  ⟨0, 0, 0, 0, false, 0, 0, 0, 0, none, none, none, none, 0, 0, 0, 0, none, 0, 0, false, none⟩

/-- A beat record of a capture (R159): metadata and data. -/
structure Beat where
  info : BitVec 64
  data : BitVec 256
  deriving DecidableEq, Repr

/-- A capture berth in use (R158, R163): the descriptor berth it serves, its passes, its streams, or the patch it holds. -/
structure Capt where
  berth : Nat
  /-- The descriptor berth at the time of dispute (R159). -/
  words : List (BitVec 64)
  passes : Nat
  /-- The kernel and the inputs stand in the witness (R158). -/
  copied : Bool
  witnessSince : Moment
  witnessNone : Bool
  /-- Tap signatures the passes on the shadow reported, and the witness's tap and output signature. -/
  sigs : List (BitVec 64)
  witSig : BitVec 64
  witOut : BitVec 64
  done : Bool
  s0 : List Beat
  s1 : List Beat
  s2 : List Beat
  s3 : List Beat
  /-- The truncated streams as flagged in the stream table, and the bytes written. -/
  truncs : Nat
  bytes : Nat
  patch : Bool
  deriving DecidableEq, Repr

/-- No capture. -/
def Capt.free : Capt := ⟨0, [], 0, false, ⟨0, 0, 0⟩, false, [], 0, 0, false, [], [], [], [], 0, 0, false⟩

/-- A dense make-up of a step (R163, R170): the step, the spare that runs it, the capture berth that holds its output, and the output. -/
structure MakeUp where
  p : Nat
  lcore : Nat
  desc : BitVec 64
  tick : Nat
  /-- The job tick the step belongs to. -/
  n : Nat
  spare : Option Nat
  capt : Option Nat
  /-- The spare has run the step: its output is `data`. -/
  ran : Bool
  /-- The output stands in the capture berth. -/
  ready : Bool
  data : List (BitVec 64)
  /-- C_ADDR of the held step (R56). -/
  addr : Nat
  /-- The core is held at the closed step and waits for the patch. -/
  held : Bool
  applied : Bool
  /-- A recall has come since the miss: the step is due in the replay. -/
  due : Bool
  deriving DecidableEq, Repr

/-- A skip audit in progress (R161). -/
structure Audit where
  p : Nat
  desc : BitVec 64
  tick : Nat
  /-- The job tick in which the tile closed, once the step is closed. -/
  n : Option Nat
  /-- It has been recorded as AUDIT_LATE. -/
  late : Bool
  deriving DecidableEq, Repr

/-- A dispute message to Customs (R185, R186). -/
structure DispMsg where
  quay : Nat
  berth : Nat
  capt : Option Nat
  kind : Nat
  far : Bool
  witnessNone : Bool
  late : Bool
  desc : BitVec 64
  tick : Nat
  n : Nat
  origin : Nat
  shadow : Nat
  lcore : Nat
  deriving DecidableEq, Repr

/-! ### The quay store and the tenders (chapter 09) -/

/-- A gather entry (R347): row, bytes written (number in the row and value, latest first), last write. -/
structure Gather where
  row : Nat
  bytes : List (Nat × BitVec 8)
  last : Moment
  deriving DecidableEq, Repr

/-- A tagged access that waits (R351, R352): client index of R344, mode (0 PEEK, 1 TAKE, 2 FILL, 3 SET), offset, data to write, since when. -/
structure TagWait where
  client : Nat
  mode : Nat
  off : Nat
  data : List (BitVec 64)
  since : Moment
  deriving DecidableEq, Repr

/-- A transfer of a tender (R356): a berth's copy, a make-up's copy or patch, or a ring descriptor. -/
inductive Work where
  | berth (b : Nat)
  | makeup (n : Nat)
  | patch (n : Nat)
  /-- The inputs of a disputed step, from its shadow: to the witness of a capture berth, or to the referee of a queue entry (R158, R192). -/
  | witness (c : Nat)
  | referee (slot : Nat)
  | ring (words : List (BitVec 64))
  /-- A functional slice's kernel and batch of vectors, from local-memory address 0 of tile `p` (R313). -/
  | test (p : Nat) (words : List (BitVec 64))
  /-- A ring transfer that is over but for its completion record: ring, slot content (R355, R360). -/
  | report (cring : Nat) (words : List (BitVec 64))
  deriving DecidableEq, Repr

/-- A tender (R356): its berth queue, the transfer it runs, background work it has paused, and copies for tests, which give way to all else (R325). -/
structure Tender where
  queue : List Work
  cur : Option Work
  paused : Option Work
  tests : List Work
  deriving DecidableEq, Repr

/-- An idle tender. -/
def Tender.idle : Tender := ⟨[], none, none, []⟩

/-! ### Health and the Manifest (chapter 07) -/

/-- A boundary move (R276): logical core, tile X, spare Y once chosen, phase of QY_MOVE, what asked for it (1 rotation test, 2 code 7,
3 host, 4 partition, 5 a detect-only trigger), the colour and trigger code X takes at the switch, its moments, and a request that came while the move, abandoned,
waits for its core to return to service (what asks for it, colour, code). -/
structure Move where
  lcore : Nat
  src : Nat
  dst : Option Nat
  phase : Nat
  why : Nat
  colour : Nat
  code : Nat
  asked : Nat
  start : Moment
  sent : Moment
  switchAt : Option Nat
  next : Option (Nat × Nat × Nat)
  deriving DecidableEq, Repr

/-! ### Clearance, power and temperature (chapter 11) -/

/-- A clearance request that waits at its quay (R448): tile, test engine or core, class (0, 1, 2 scan, 3 memory BIST), since when. -/
structure ClrReq where
  p : Nat
  engine : Bool
  cls : Nat
  since : Moment
  deriving DecidableEq, Repr

/-- A temperature channel (R453): level, quiet evaluations, the valid reading of the last evaluation, and whether its warn level has been reported. -/
structure Chan where
  level : Nat
  quiet : Nat
  prev : Option Int
  warned : Bool
  deriving DecidableEq, Repr

/-- A channel at reset. -/
def Chan.idle : Chan := ⟨0, 0, none, false⟩

/-- A PMBus transaction that waits or runs (R680): quay, command code, write, data, and what it is for (0 housekeeping, 1 margin write,
2 margin readback, 3 alert, 4 start-up, 5 the host's command). -/
structure PmTx where
  quay : Nat
  cmd : Nat
  wr : Bool
  data : Nat
  why : Nat
  deriving DecidableEq, Repr

/-- Power and temperature state of the Harbourmaster beside its registers. -/
structure PowerSt where
  chans : Tab Chan
  /-- Lowest bus sample of the round (10 mV), highest input power of the round (W). -/
  vLow : Option Nat
  pinHigh : Nat
  /-- Consecutive samples of 46 V or more (R455). -/
  good : Nat
  /-- The tide tick of the last round boundary, and whether the round in progress still has its evaluation to come (R452, R459). -/
  roundAt : Option Nat
  evalDue : Bool
  /-- The last reference check of the housekeeping ADC failed (R460, R492 bit 21). -/
  refBad : Bool
  pm : List PmTx
  deriving DecidableEq, Repr

/-- A report frame on a tally chain (R66): its six words, and whether it was launched in its slot. -/
structure Frame where
  p : Nat
  tick : Nat
  words : List (BitVec 64)
  onTime : Bool
  deriving DecidableEq, Repr

/-- What Customs decides (R193): verdict and subclass as coded in R196, whether the faulty run is the shadow, whether both cores are named, whether the
referee's signature is the odd one of three, and the reason of an UNRESOLVED. -/
structure Ruling where
  verdict : Nat
  sub : Nat
  shadow : Bool
  both : Bool
  refOdd : Bool
  reason : Nat
  deriving DecidableEq, Repr

/-- An accumulator of an exact unit (R181, R183): 68 limbs of 64 bits in two's complement, bit 0 of weight 2^-2176; its three flags; and the residue
modulo 2^61 - 1 kept beside it. -/
structure Limbs where
  val : BitVec 4352
  isNan : Bool
  pInf : Bool
  nInf : Bool
  residue : Nat
  deriving DecidableEq, Repr

def Limbs.zero : Limbs := ⟨0, false, false, false, 0⟩

/-- The four accumulators of a unit (R181). -/
structure CusUnit where
  x : Limbs
  u : Limbs
  d : Limbs
  t : Limbs
  deriving DecidableEq, Repr

def CusUnit.idle : CusUnit := ⟨Limbs.zero, Limbs.zero, Limbs.zero, Limbs.zero⟩

/-- Customs beside its registers (chapter 05). One queue entry (R186): the dispute, its tide value, the unit that serves it, its phase (0 waits, 1 fetching,
2 evaluating, 3 awaiting a referee), units it has failed on, the referee's request, tile and signatures, what the unit fetched, when evaluation
started, and a verdict kept while Customs does not run (R203). -/
structure CusEntry where
  msg : DispMsg
  tide : Nat
  id : Nat
  unit : Option Nat
  phase : Nat
  failed : List Nat
  refAsked : Option Moment
  refTile : Option Nat
  refSig : Option (BitVec 64 × BitVec 64)
  berth : Berth
  capt : Capt
  captLost : Bool
  start : Moment
  /-- The referee's inputs stand in it (R192), and the cycles the last evaluation took (R210). -/
  refReady : Bool
  cycles : Nat
  kept : Option Ruling
  deriving DecidableEq, Repr

/-- The queue in arrival order, the next entry number, NONDET verdicts per quay and misses per logical core in this round, and the quays refused a
message in this tick. -/
structure CustomsSt where
  queue : List CusEntry
  /-- The accumulators of the units as the last evaluation left them. -/
  units : Tab CusUnit
  nextId : Nat
  nondet : Tab Nat
  misses : Tab Nat
  refusedNow : List Nat
  deriving DecidableEq, Repr

def CustomsSt.idle : CustomsSt := ⟨[], [], 0, [], [], []⟩

/-- What one Bollard and its tile hold beside the Bollard file. -/
structure TileSt where
  /-- The core is asleep on a wake channel, parked, held by a hawser slot or by an overrun (R72, R73, R396, R397, R409). -/
  asleep : Bool
  parked : Bool
  hawserHold : Bool
  overrun : Bool
  /-- Progress seen in the tick in progress (R75). -/
  progress : Bool
  /-- The core is frozen by a recall (R227); the last tick in which FLIT_OUT_KILL was high (R52, R76). -/
  frozen : Bool
  killTick : Option Nat
  /-- BOL_COMMIT was reset with the link domain while its quay held this count, and shows 0 until the count moves (R90). -/
  commitReset : Option Nat
  /-- The commit that a Bollard has not seen with its quay (R38). -/
  commitLag : Option Nat
  /-- The divider's last step back has been commanded: the tile is Green when it stands at 1/1 (R257, R263). -/
  greenDue : Bool
  /-- Open tiles, oldest first, and the refused-tile slot (R57, R694). -/
  opens : List OpenTile
  refused : Option RefusedTile
  /-- XOR of the signatures of the tiles closed in the tick in progress, and its sampled tiles (SEQ, signature) (R66). -/
  sigAcc : BitVec 64
  samples : List (Nat × BitVec 64)
  /-- The words of the previous tick's frame, until its slot (R67). -/
  frame : List (BitVec 64)
  /-- Recalls since opening when BOL_INVAL was loaded: a repeat is a later run of the same tick (R58). -/
  invalRun : Nat
  /-- Closed tiles whose step has not closed (R139). -/
  steps : List StepSt
  /-- The rate in force in each of the last four job ticks that ran, latest first, and whether it was the Amber rate (R143); and BOL_WAKE.PENDING at the end
  of each (R410). -/
  rates : List (Nat × Nat × Bool)
  pendings : List (Nat × Bool)
  /-- As a shadow: the steps assigned (origin quay, berth), in order; the core cycle since tick 0 at which their work is expected to end;
  and the tick and count of R147's limit. -/
  hosts : List (Nat × Nat)
  busyTill : Nat
  hostTick : Nat
  hostCount : Nat
  /-- The kernel image a shadow holds (KOFF), if any (R152). -/
  kernel : Option Nat
  /-- Held for a witness (R158). -/
  witness : Bool
  /-- Logical cores that a dispute took from this tile in this run (R194). -/
  lost : List Nat
  /-- USE and STRIKES of the Manifest (R272). -/
  use : Nat
  strikes : Nat
  /-- Matched samples since the tile entered Amber, quiet rounds, the tick of the last trigger, corrections this round (R257). -/
  matched : Nat
  quiet : Nat
  trigTick : Option Nat
  ceRound : Nat
  /-- The first job tick of the present service, and of the last on-time match (R240). -/
  serviceFrom : Nat
  lastMatch : Nat
  /-- The last committed tick when the tile last left its logical core (R240), and the job tick of its last cause HANG (R158). -/
  leftAt : Nat
  hangTick : Option Nat
  /-- Tokens granted in the sub-tick in progress (R447); when the core's clearance was granted and whether its over-hold is recorded (R445). -/
  clrUsed : Nat
  clrSince : Moment
  clrOver : Bool
  /-- CLR_REQ is high with a class that is never granted (R443). -/
  clrBad : Bool
  /-- A park beat has been seen for a requested move and waits for the open tiles to close (R276). -/
  parkSeen : Bool
  /-- Job slots, and the slots with the senses at the ends of the last four job ticks (R392, R422). -/
  slots : Tab Slot
  slotHist : List (Nat × Tab Slot)
  deriving DecidableEq, Repr

/-- A Bollard at reset. -/
def TileSt.idle : TileSt := ⟨false, false, false, false, false, false, none, none, none, false, [], none, 0, [], [], 0, [], [], [], [], 0, 0, 0, none, false, [], 1, 0, 0, 0, none, 0, 0, 0, 0, none, 0, ⟨0, 0, 0⟩, false, false, false, [], []⟩
--ENDTILE

--BEGINQUAY
/-- What one quay holds beside its pages. -/
structure QuaySt where
  /-- Alarm tiles recorded in full in this tick, those beyond sixteen, and those beyond sixteen of the tick before (R130). -/
  alarmsNow : Nat
  floodNow : Nat
  floodLast : Nat
  /-- Local tiles whose frame of the previous tick has arrived (R68). -/
  got : List Nat
  /-- Local tiles whose frames of a job tick were not clean, LATE or missing (R239, R256). A tick is listed as soon as one of its checks is not clean. -/
  unclean : List (Nat × List Nat)
  /-- Consecutive ticks each position has missed its frame (R515): local tile and count. -/
  missed : List (Nat × Nat)
  /-- Descriptor berths, capture berths, requests that wait for a berth, make-ups and audits (chapter 04). -/
  berths : Tab Berth
  capts : Tab Capt
  waiting : List SampReq
  /-- The first cycle in which a further berth may be granted (R151). -/
  grantAt : Moment
  /-- RATE_EFF of the next tick (R143, R146). -/
  nextRate : Nat
  makeups : Tab MakeUp
  audits : List Audit
  /-- Dispute messages the Harbourmaster refused, to be sent again (R188). -/
  refusedMsgs : List DispMsg
  /-- Declines of this tick: BERTH_FULL, NO_SHADOW, BW_DECLINED (R180); KiB·hops charged (R153); TILES summed and frames tallied (R146). -/
  declFull : Nat
  declNone : Nat
  declBw : Nat
  bwUsed : Nat
  tilesNow : Nat
  tilesLast : Nat
  /-- Tenders, gather buffer, waiting tagged accesses, full tags by row (chapter 09). -/
  tenders : Tab Tender
  gather : List Gather
  tagWaits : List TagWait
  tags : Tab Bool
  /-- Accesses of the control core that wait at the sync alias, the one that a slot's tag stops first (R352, R353). -/
  coreWait : List CoreAct
  /-- When each bank entered its state (R369), the last row repair (R367), and the tick after a bank's last slot of the scrubber: key bank * 2, plus 1 for
  forced slots (R366). -/
  bankAt : Tab Moment
  repairAt : Option Moment
  scrubSlots : Tab Nat
  /-- Rows repaired, per bank: (bank, row); consecutive scrub visits with a corrected error; uncorrectable words by offset (R365 to R367). -/
  repairs : List (Nat × Nat)
  ceRuns : Tab Nat
  badWords : Tab Bool
  /-- The scrubber's next row and its last slot per bank, and the tick and counts of the pass in progress (R366, R390). -/
  scrubRow : Tab Nat
  scrubTick : Tab Nat
  passStart : Nat
  passForced : Nat
  passFixed : Nat
  passBanks : List Nat
  /-- Banks with a request that waits for the end of a wake or an initialisation (R379). -/
  bankLate : List Nat
  /-- The quay's colour (R262), quiet rounds since its last event, tiles that met triggers in this round, REGION flag (R266). -/
  colour : Nat
  quiet : Nat
  hitTiles : List Nat
  regionFlag : Bool
  /-- Requests that wait for clearance, the tender reserve, held at the sub-tick's start, the peaks of the round (R447, R475). -/
  clrPend : List ClrReq
  reserve : Nat
  /-- Tide tick and sub-tick of the last redistribution (R447, R466). -/
  subAt : Option (Nat × Nat)
  heldSub : Nat
  peakHeld : Nat
  peakRise : Nat
  peakWait : Nat
  /-- Why the throttle last stepped (R482); the host floor last seen; T_RAIL, its quiet count, and readings of this round (R457). -/
  tWhy : Nat
  floorSeen : Nat
  tRail : Nat
  railQuiet : Nat
  railRead : Bool
  alertSeen : Bool
  /-- VOUT_MODE as read at start-up (R264, R588), and the margin write that awaits its readback (R267). -/
  voutMode : Nat
  marginWait : Bool
  /-- Rail steps commanded; MV_STEPS shows those that a readback has confirmed (R267, R295). -/
  cmdSteps : Nat
  /-- The round just ended asks for a rail step (R266). -/
  marginUp : Bool
  /-- Sync objects (R401), the partner's copy of their COMMITTED values (R404), and whether the
  objects await the copy at the next restart. -/
  objs : Tab SyncObj
  objCopy : Tab Nat
  objsLost : Bool
  /-- EGC_HALT, high while the harbour is closed, and EGC_DONLY (R221, R236, R239, R594). -/
  egcHalt : Bool
  egcDonly : Bool
  /-- EGC_TICK (R221); the last kick and the ticks since it (R514); control-core mismatches of this round (R491); PG_VOTE at the round's start (R262). -/
  egcTick : Nat
  kickAt : Moment
  mismatches : Nat
  voteBase : Nat
  deriving DecidableEq, Repr

/-- A quay at reset. -/
def QuaySt.idle : QuaySt :=
  { alarmsNow := 0, floodNow := 0, floodLast := 0, got := [], unclean := [], missed := [], berths := [], capts := [], waiting := [], grantAt := ⟨0, 0, 0⟩, nextRate := 0, makeups := [],
    audits := [], refusedMsgs := [], declFull := 0, declNone := 0, declBw := 0, bwUsed := 0, tilesNow := 0, tilesLast := 0, tenders := [], gather := [],
    tagWaits := [], tags := [], coreWait := [], bankAt := [], repairAt := none, scrubSlots := [], repairs := [], ceRuns := [], badWords := [], scrubRow := [], scrubTick := [], passStart := 0,
    passForced := 0, passFixed := 0, passBanks := [], bankLate := [], colour := 0, quiet := 0, hitTiles := [], regionFlag := false,
    clrPend := [], reserve := 0, subAt := none, heldSub := 0, peakHeld := 0, peakRise := 0, peakWait := 0, tWhy := 0, floorSeen := 0, tRail := 0,
    railQuiet := 0, railRead := false, alertSeen := false, voutMode := 0, marginWait := false, cmdSteps := 0, marginUp := false, objs := [], objCopy := [], objsLost := false, egcHalt := true, egcDonly := false, egcTick := 0, kickAt := ⟨0, 0, 0⟩, mismatches := 0, voteBase := 0 }
--ENDQUAY

--BEGINSTATE
/-- The state of the block. -/
structure State where
  sp : Straps
  /-- Commands waiting, first in, first out. -/
  pending : List Instr
  /-- Every register, by place (RegTable). -/
  regs : Tab (BitVec 64)
  /-- What an upset has flipped in copy c of an RT register: key place * 4 + c (R18). -/
  rtDev : Tab (BitVec 64)
  /-- The harbour store and the quay stores, by HPORT address (R635). -/
  mem : List Host.Cell
  /-- Rows of the harbour store that a window packet has marked full (R363, R634). -/
  hmTags : Tab Bool
  time : TimeSt
  commit : CommitSt
  power : PowerSt
  hawser : HawserSt
  rst : ResetSt
  customs : CustomsSt
  test : TestSt
  log : LogSt
  keys : KeySt
  start : StartSt
  lock : LockSt
  cmd : Option CmdSt
  tiles : Tab TileSt
  quays : Tab QuaySt
  /-- The Logbook's producers: 0 the Harbourmaster, 1 + q quay q (R548). -/
  prods : Tab ProdQ
  /-- Injections armed by a force bit: key place of the status word * 64 + bit (R498). -/
  armed : List Nat
  /-- Alarm messages on the row service buses (R127), and report frames on the tally chains (R66). -/
  alarms : List AlarmMsg
  frames : List Frame
  /-- A producer's fault messages on their way up: Bollard messages (tile, bits, forced), quay messages (quay, bit, forced). -/
  bolMsgs : List (Nat × Nat × Bool × Nat)
  quayMsgs : List (Nat × Nat × Bool)
  /-- Sample requests on the row service buses, output signatures of origins (tile, berth, OUT_LEN), shadows' signatures (shadow tile,
  origin quay, berth, tap signature), dispute messages on their way (R151, R155, R185). -/
  sampReqs : List SampReq
  outSigs : List (Nat × Nat × Nat)
  shadowSigs : List (Nat × Nat × Nat × BitVec 64)
  disputes : List DispMsg
  /-- Shadows told to stop (shadow tile, origin quay, berth) (R150). -/
  stops : List (Nat × Nat × Nat)
  /-- The Manifest's map entries by logical core (R271), whether it has been built, the boundary moves, and the tiles that a recall
  must move with the trigger code (R259). -/
  l2p : Tab Nat
  built : Bool
  moves : List Move
  demands : List (Nat × Nat)
  /-- Detections in detect-only mode that await the commit of their tick: tile, logical core, tick, cause of R240 (R239). -/
  detections : List (Nat × Nat × Nat × Nat)
  /-- What the last command drove at the ports. -/
  out : List Out
  /-- What the commands of the cycle in progress have left for each other. -/
  coins : List (Moment × Coin)
  /-- Answers given while the harbour is closed, by answer code (R594). -/
  closed : Tab Nat
  /-- How many free values have been drawn (the model's own field). -/
  freeCount : Nat
  deriving DecidableEq, Repr

/-! ### Reset (R3, R20, R672) -/

/-- The reference wafer (R4): W64, chains of 2,048 flops and three spare rows (R307, R310), a pattern flash of 2 Gbit (R317). The other design-time
values the spec leaves to the integrator are 0 (DESIGN CHOICE, log entry 3). -/
def Straps.reference : Straps :=
  { variant := .w64, stepping := 0, grade := 0, version := 0, chainLen := 2048, lmSpareRows := 3, flashSectors := 4096, flitHdrW := 0, rspW := 0, securePages := 0 }

/-- The block at reset release (R3, R20): every register at its reset value, the stores blank, D75 alone on (R669), the Logbook's trailer scan due
(R556), no command waiting. -/
def State.reset : State :=
  { sp := Straps.reference
    pending := []
    regs := []
    rtDev := []
    mem := []
    hmTags := []
    time := { tick := 0, cyc := 0, epoch := false, acc := 0, slew := 0, nearEdges := 0, strays := [], afterHold := false, reacquired := false, dev := 0,
              prevLen := 8800, alignReq := false, alignNow := false }
    commit := { pulls := [], released := [], releasedAt := none, pend := none, pendQuays := [], inRecall := none, halted := none,
                replayTarget := 0, replays := 0, recallsOpen := 0, openTick := 0, kickAt := ⟨0, 0, 0⟩ }
    power := { chans := [], vLow := none, pinHigh := 0, good := 0, roundAt := none, evalDue := false, refBad := false, pm := [] }
    hawser := HawserSt.idle
    rst := ResetSt.idle
    customs := CustomsSt.idle
    test := TestSt.idle
    log := { LogSt.idle with scan := true }
    keys := KeySt.idle
    start := { StartSt.idle with domains := [(75, 2)] }
    lock := LockSt.idle
    cmd := none
    tiles := []
    quays := []
    prods := []
    armed := []
    alarms := []
    frames := []
    bolMsgs := []
    quayMsgs := []
    sampReqs := []
    outSigs := []
    shadowSigs := []
    disputes := []
    stops := []
    l2p := []
    built := false
    moves := []
    demands := []
    detections := []
    out := []
    coins := []
    closed := []
    freeCount := 0 }
--ENDSTATE

end Sys2Proof.Machine
end

