-- ==== Sys2Proof/Machine/Ops.lean ====
section
/-!
DEFINITION. The named operations over the state: geometry of the wafer, the register file and its fields, the tide, the Logbook's producers,
pulls of HW1, and the latching of Octulo's own faults with the reaction of their class.
-/

namespace Sys2Proof.Machine

/-! ### Geometry (R4, R7) -/

/-- Quays of a configuration (R4). -/
def Variant.quays : Variant → Nat
  | .w64 => 64 | .w16 => 16 | .w4 => 4 | .w1 => 1

/-- The code OC_CONFIG.CONFIG reports (R648). -/
def Variant.code : Variant → Nat
  | .w64 => 0 | .w16 => 1 | .w4 => 2 | .w1 => 3

/-- Customs units of a configuration (R4). -/
def Variant.customs : Variant → Nat
  | .w64 => 4 | .w16 => 2 | .w4 => 2 | .w1 => 1

/-- Quay store size in MiB (R4). -/
def Variant.storeMib : Variant → Nat
  | .w64 => 8 | .w16 => 8 | .w4 => 4 | .w1 => 4

/-- Rows and columns of tiles in a region, and tiles in it (R5). -/
def regionRows : Nat := 120
def regionCols : Nat := 128
def regionTiles : Nat := 15360

/-- Row and column of physical tile `p` (R7). -/
def tileRow (p : Nat) : Nat := p / 1024
def tileCol (p : Nat) : Nat := p % 1024

/-- The quay whose region holds tile `p` (R7). -/
def quayOf (p : Nat) : Nat := 8 * (tileRow p / 120) + tileCol p / 128

/-- The local index of tile `p` in its region (R7, R88). -/
def localOf (p : Nat) : Nat := 128 * (tileRow p % 120) + tileCol p % 128

/-- The physical tile of local index `l` in the region of quay `q` (R7). -/
def tileOf (q l : Nat) : Nat := 1024 * (120 * (q / 8) + l / 128) + 128 * (q % 8) + l % 128

/-- The partner quay (R4, R7). -/
def partnerOf (q : Nat) : Nat := if q % 2 = 0 then q + 1 else q - 1

/-- Hop distance of tile `p` on its row's chain: on the reference wafer the quay lies on the low-column edge (R67, worked example). -/
def hopOf (p : Nat) : Nat := tileCol p % 128 + 1

def State.nQuays (s : State) : Nat := s.sp.variant.quays

def State.quayList (s : State) : List Nat := List.range s.nQuays

/-- There is a partner quay (R4: none in W1). -/
def State.hasPartner (s : State) : Bool := decide (s.sp.variant ≠ .w1)

/-! ### The register file -/

/-- The place of header offset `o` (0x000 to 0x03F) of a Harbourmaster page (R642). -/
def hmHdr (page o : Nat) : Nat := page * 0x1000 + o

/-- The place of header offset `o` of a page of quay `q`. -/
def qyHdr (q page o : Nat) : Nat := qyAddr q (page * 0x1000 + o)

/-- What a strapped, design or configuration field holds: ORed onto the table's reset word (R642, R643, R648, R649, R657, R91, R92, R177, R205, R380). -/
def strapWord (sp : Straps) (a : Nat) : Nat :=
  if 0x100000000 ≤ a then
    let p := (a - 0x100000000) / 32
    match (a - 0x100000000) % 32 with
    | 0 => p + localOf p * 2 ^ 20 + quayOf p * 2 ^ 34 + sp.version * 2 ^ 40
    | 1 => hopOf p
    | _ => 0
  else if 0x100000 ≤ a then
    let q := (a - 0x100000) / 0x10000
    let page := (a - 0x100000) % 0x10000 / 0x1000
    match (a - 0x100000) % 0x1000 with
    | 0x000 => if page = 1 then 0 else q + sp.version * 2 ^ 16 + 2 * 2 ^ 24
    | 0x004 => if page = 1 then 0 else page + 64 + sp.variant.code * 2 ^ 7
    | 0x040 =>
      if page = 0 then
        q + (if sp.variant = .w1 then 0x3F else partnerOf q) * 2 ^ 6 + (if sp.variant = .w1 then 0 else 1) * 2 ^ 12
          + 120 * 2 ^ 13 + 128 * 2 ^ 20 + 120 * (q / 8) * 2 ^ 28 + 128 * (q % 8) * 2 ^ 38
      else if page = 8 then
        sp.variant.storeMib * 2 + sp.variant.storeMib * 1048576 * 2 ^ 22
      else 0
    | 0x060 => if page = 5 then (if 8 ≤ sp.variant.storeMib then 64 else 32) * 2 ^ 45 else 0
    | _ => 0
  else
    let page := a / 0x1000
    match a % 0x1000 with
    | 0x000 => if (hmPageRows page).isEmpty then 0 else sp.version * 2 ^ 16 + 2 ^ 24
    | 0x004 =>
      if (hmPageRows page).isEmpty then 0
      else page + sp.variant.code * 2 ^ 7 + (if page ∈ [1, 14, 15, 16, 21, 22, 23, 24] then 2 ^ 9 else 0)
    | 0x040 =>
      if page = 0 then sp.stepping % 2 ^ 16 + sp.grade % 2 ^ 8 * 2 ^ 16 + sp.variant.code * 2 ^ 24 + sp.variant.quays * 2 ^ 26
        + sp.variant.customs * 2 ^ 33 + sp.variant.storeMib * 2 ^ 36
      else 0
    | 0x048 =>
      if page = 0 then sp.chainLen % 2 ^ 13 + sp.lmSpareRows % 4 * 2 ^ 13 + sp.flitHdrW % 2 ^ 8 * 2 ^ 15 + sp.rspW % 2 ^ 8 * 2 ^ 23
      else if page = 12 then (2 ^ sp.variant.customs - 1) * 2 ^ 13 + (2 ^ sp.variant.customs - 1) * 2 ^ 17
      else 0
    | 0x050 => if page = 0 then sp.securePages else 0
    | _ => 0

/-- The table row of a page that holds offset `o` (R646: header offsets are the same on every page). -/
def findRow : List RegRow → Nat → Option RegRow
  | [], _ => none
  | r :: t, o =>
    if r.off ≤ o ∧ o < r.off + r.count * r.stride ∧ (o - r.off) % r.stride = 0 then some r else findRow t o

/-- The table row of the register at place `a`, if there is a register. -/
def regRow (a : Nat) : Option RegRow :=
  if 0x100000000 ≤ a then findRow bolFile ((a - 0x100000000) % 32)
  else
    let o := a % 0x1000
    let rows := if 0x100000 ≤ a then qyPageRows ((a - 0x100000) % 0x10000 / 0x1000) else hmPageRows (a / 0x1000)
    if rows.isEmpty then none else if o < 0x40 then findRow pgHeader o else findRow rows o

/-- The reset word of a table row. -/
def rowReset : List FldRow → Nat
  | [] => 0
  | f :: t => f.rst % 2 ^ f.w * 2 ^ f.lo + rowReset t

/-- The value of the register at place `a` after reset: the table's reset value, with the strapped fields (R20). -/
def resetWord (sp : Straps) (a : Nat) : Word :=
  BitVec.ofNat 64 ((match regRow a with | some r => rowReset r.fields | none => 0) + strapWord sp a)

/-- The register at place `a`. -/
def State.word (s : State) (a : Nat) : Word := tabGet (resetWord s.sp) s.regs a

/-- Set the register at place `a`. -/
def State.setWord (s : State) (a : Nat) (w : Word) : State := { s with regs := tabSet (resetWord s.sp) s.regs a w }

/-- Bits `[lo + w - 1 : lo]` of a word. -/
def fieldOf (x : Word) (lo w : Nat) : Nat := (x.toNat >>> lo) % 2 ^ w

/-- A word with bits `[lo + w - 1 : lo]` replaced. -/
def withField (x : Word) (lo w v : Nat) : Word :=
  BitVec.ofNat 64 (x.toNat % 2 ^ lo + v % 2 ^ w * 2 ^ lo + x.toNat >>> (lo + w) * 2 ^ (lo + w))

/-- The value of a field. -/
def State.get (s : State) (f : Fld) : Nat := fieldOf (s.word f.reg) f.lo f.w

/-- A one-bit field as a truth value. -/
def State.flag (s : State) (f : Fld) : Bool := decide (s.get f ≠ 0)

/-- Set a field. -/
def State.put (s : State) (f : Fld) (v : Nat) : State := s.setWord f.reg (withField (s.word f.reg) f.lo f.w v)

/-- Add to a counter that saturates (the counts of the register pages saturate). -/
def State.count (s : State) (f : Fld) (n : Nat) : State := s.put f (min (s.get f + n) (2 ^ f.w - 1))

/-- Add to a counter that wraps. -/
def State.bump (s : State) (f : Fld) (n : Nat) : State := s.put f (s.get f + n)

/-- A truth value as a bit. -/
def bit (b : Bool) : Nat := if b then 1 else 0

/-- A field's value read in two's complement. -/
def signedOf (v w : Nat) : Int := if v < 2 ^ (w - 1) then v else (v : Int) - 2 ^ w

/-- An integer as a two's complement field value. -/
def toField (i : Int) (w : Nat) : Nat := (i % 2 ^ w).toNat

/-- Set bit `n` of a mask. -/
def setBitN (m n : Nat) : Nat := m ||| 2 ^ n

/-- Clear bit `n` of a mask. -/
def clrBitN (m n : Nat) : Nat := if m.testBit n then m - 2 ^ n else m

/-- A free value (Config.freeWord), drawn by the counter of free values. -/
def State.free (s : State) : Word × State := (Config.freeWord s.freeCount, { s with freeCount := s.freeCount + 1 })

/-- Drive something at the ports. -/
def State.emit (s : State) (o : Out) : State := { s with out := s.out ++ [o] }

/-! ### Time (R21, R24, R35) -/

/-- Tick length in core cycles (R21). -/
def tickLenOf (code : Nat) : Nat := 4400 * 2 ^ code

/-- Tide granule (R21). -/
def granuleOf (code : Nat) : Nat := match code with | 0 => 1 | 1 => 1 | 2 => 2 | _ => 4

def State.tickLen (s : State) : Nat := tickLenOf (s.get HM_TIME_CTL_TICK_LEN)
def State.granule (s : State) : Nat := granuleOf (s.get HM_TIME_CTL_TICK_LEN)

/-- The report window, two sub-ticks (R35, R67). -/
def State.window (s : State) : Nat := s.tickLen / 8

/-- The tally arrival bound (R35). -/
def State.tallyBound (s : State) : Nat := s.window + 511

/-- Quay, root and commit deadlines (R35). -/
def State.commitAt (s : State) : Nat := s.tickLen / 4
def State.rootAt (s : State) : Nat := s.commitAt - 176
def State.quayAt (s : State) : Nat := s.commitAt - 352

/-- The command falls at core cycle `c` of the tick in progress; time does not run backward. -/
def State.at_ (s : State) (c : Nat) : State := { s with time.cyc := max s.time.cyc c }

/-- The tide value (R24): before the device epoch it is not defined by the spec and reads as the model's 0. -/
def State.tide (s : State) : Nat :=
  if s.time.epoch then s.time.tick % 2 ^ 50 * 2 ^ 14 + s.time.cyc / s.granule % 2 ^ 14 else 0

/-- The TIDE of a record (R544): before the epoch the AO_CLK count with bit 63 set (R582). -/
def State.recTide (s : State) : Nat :=
  if s.time.epoch then s.tide else Config.aoCycles s.time.cyc % 2 ^ 63 + 2 ^ 63

/-- The moment of the command. -/
def State.now (s : State) : Moment := ⟨s.time.tick, s.time.cyc, s.time.dev⟩

/-- Core cycles from one moment to another, the slews between them included (R29). -/
def State.since (s : State) (m : Moment) : Int :=
  ((s.time.tick : Int) - m.tick) * s.tickLen + s.time.cyc - m.cyc + (s.time.dev - m.dev)

/-- The job tick in progress (R211). -/
def State.jt (s : State) : Nat := s.get HM_COMMIT_JT_JT

/-- Tide tick bits [31:0], as most records carry them. -/
def State.tick32 (s : State) : Nat := s.time.tick % 2 ^ 32

/-- R17: the winner among claimants (fixed indices below `n`), the origin being the job tick mod `n` (R212). -/
def rotWinner (origin n : Nat) (claims : List Nat) : Option Nat :=
  claims.foldl (fun best c =>
    match best with
    | none => some c
    | some b => if (c + n - origin % n) % n < (b + n - origin % n) % n then some c else some b) none

/-! ### What happens in one cycle (R82, R85, R125, R660) -/

/-- Leave something for the other commands of this cycle. -/
def State.coin (s : State) (x : Coin) : State := { s with coins := (s.now, x) :: s.coins }

/-- What has been left in this cycle. -/
def State.coinsNow (s : State) : List Coin := (s.coins.filter (fun x => decide (x.1 = s.now))).map (·.2)

/-- The bits of the register at place `a` that an event has set in this cycle: a W1C write does not clear them (R85, R660). -/
def State.setNow (s : State) (a : Nat) : BitVec 64 :=
  s.coinsNow.foldl (fun m x => match x with | .set b w => if b = a then m ||| w else m | _ => m) 0

/-- The register at place `a` as it stood when the cycle began, where a write of this cycle has kept it (R199). -/
def State.held (s : State) (a : Nat) : BitVec 64 :=
  (s.coinsNow.findSome? (fun x => match x with | .held b w => if b = a then some w else none | _ => none)).getD (s.word a)

/-- A field of it. -/
def State.getHeld (s : State) (f : Fld) : Nat := fieldOf (s.held f.reg) f.lo f.w

/-- Keep it. -/
def State.hold (s : State) (a : Nat) : State := s.coin (.held a (s.held a))

/-! ### Bollards -/

/-- What tile `p` holds beside its register file. -/
def State.tile (s : State) (p : Nat) : TileSt := tabGet (fun _ => TileSt.idle) s.tiles p

/-- Set it. -/
def State.setTile (s : State) (p : Nat) (t : TileSt) : State := { s with tiles := tabSet (fun _ => TileSt.idle) s.tiles p t }

/-- Change it. -/
def State.modTile (s : State) (p : Nat) (f : TileSt → TileSt) : State := s.setTile p (f (s.tile p))

/-- What quay `q` holds beside its pages. -/
def State.quay (s : State) (q : Nat) : QuaySt := tabGet (fun _ => QuaySt.idle) s.quays q

/-- Set it. -/
def State.setQuay (s : State) (q : Nat) (t : QuaySt) : State := { s with quays := tabSet (fun _ => QuaySt.idle) s.quays q t }

/-- Change it. -/
def State.modQuay (s : State) (q : Nat) (f : QuaySt → QuaySt) : State := s.setQuay q (f (s.quay q))

/-- The physical tiles one of whose registers is not at its reset value, in rising order. A JOB, SHADOW or TEST tile is among them,
because BOL_CTL.ROLE resets to IDLE (R93). -/
def tilesIn : Tab (BitVec 64) → List Nat
  | [] => []
  | (k, _) :: t =>
    let r := tilesIn t
    if 0x100000000 ≤ k then
      let p := (k - 0x100000000) / 32
      if r.head? = some p then r else p :: r
    else r

def State.touchedTiles (s : State) : List Nat := tilesIn s.regs

/-- Roles of BOL_CTL.ROLE (R93). -/
def roleJob : Nat := 0
def roleShadow : Nat := 1
def roleIdle : Nat := 2
def roleTest : Nat := 3

def State.role (s : State) (p : Nat) : Nat := s.get (BOL_CTL_ROLE p)

/-- The tiles whose ROLE is JOB. -/
def State.jobTiles (s : State) : List Nat := s.touchedTiles.filter (fun p => s.role p = roleJob)

/-- The JOB tiles of a region. -/
def State.jobTilesOf (s : State) (q : Nat) : List Nat := s.jobTiles.filter (fun p => quayOf p = q)

/-- CRST_N of tile `p` is high: BOL_CDOM.RST is 0 (R102). -/
def State.crstHigh (s : State) (p : Nat) : Bool := s.get (BOL_CDOM_RST p) = 0

/-- CDOM_OK of tile `p` (R102). -/
def State.cdomOk (s : State) (p : Nat) : Bool := s.flag (BOL_CDOM_OK p)

/-- Recompute the fields of a Bollard that follow from its other state: the ingress guard (R79, R94), the gate reasons and CG_EN (R72, R97),
sleep and compute-domain status (R94). -/
def State.refreshTile (s : State) (p : Nat) : State :=
  let t := s.tile p
  let down := !(s.cdomOk p && s.crstHigh p)
  let slp := t.asleep || t.parked || t.hawserHold
  let why := bit (s.flag (BOL_CTL_CG_HOLD p)) + 2 * bit slp + 4 * bit t.overrun + 8 * bit down
  let guard := s.flag (BOL_CTL_GUARD p) || down || decide (s.role p = roleTest)
  let s := s.put (BOL_STAT_SLEEP p) (bit t.asleep)
  let s := s.put (BOL_STAT_CDOM_ON p) (bit (!down))
  let s := s.put (BOL_STAT_GUARD_ACTIVE p) (bit guard)
  let s := s.put (BOL_CLK_GATE_WHY p) why
  s.put (BOL_CLK_RUN p) (bit (decide (why = 0)))

/-- Apply the tile Breakwater for reason bit `why` of BOL_BW.WHY (R76, R99). -/
def State.breakwater (s : State) (p why : Nat) : State :=
  let s := if s.flag (BOL_STAT_BW_ACTIVE p) then s else s.put (BOL_BW_SINCE p) (s.jt % 2 ^ 32)
  let s := s.put (BOL_BW_WHY p) (setBitN (s.get (BOL_BW_WHY p)) why)
  s.put (BOL_STAT_BW_ACTIVE p) 1

/-! ### Logbook producers (R544 to R550) -/

/-- Block types of SOURCE (R546). -/
def tyHm : Nat := 1
def tyQuay : Nat := 2
def tyBol : Nat := 3
def tyCustoms : Nat := 4
def tyTriplex : Nat := 5
def tyBank : Nat := 6

/-- The SOURCE word (R546). -/
def srcWord (ty quay unit : Nat) : Nat := ty % 16 + quay % 64 * 2 ^ 4 + unit % 2 ^ 20 * 2 ^ 10

/-- The codes whose repeats are merged (R570). -/
def repeatCodes : List Nat :=
  [0x0242, 0x0243, 0x0302, 0x030C, 0x0402, 0x0404, 0x0508, 0x050B, 0x050C, 0x0605, 0x0609, 0x060C, 0x0701, 0x0705, 0x0707,
   0x0801, 0x0807, 0x0808, 0x0809, 0x0902, 0x0907, 0x0908, 0x0A01, 0x0A0C, 0x0A0D, 0x0A0F, 0x0B01, 0x0C01, 0x0C05, 0x0C0A, 0x0E06]

/-- The codes whose records are never cleared (R545). -/
def keepCodes : List Nat := [0x0D01, 0x0D02, 0x0D07, 0x0D08, 0x0D0F]

/-- Lantern mode is in force (R538). -/
def State.lantern (s : State) : Bool := s.flag HM_RST_STAT_LANTERN

/-- FLAGS of a record (R545). -/
def recFlags (next cont forced lantern keep : Bool) : Nat :=
  bit next + 2 * bit cont + 4 * bit forced + 8 * bit lantern + 16 * bit keep

/-- A record of now. -/
def State.mkRec (s : State) (code src : Nat) (forced : Bool) (p0 p1 p2 p3 : Nat) : Rec :=
  ⟨code, recFlags false false forced s.lantern (keepCodes.contains code), 1, s.recTide, src,
   p0 % 2 ^ 32, p1 % 2 ^ 32, p2 % 2 ^ 32, p3 % 2 ^ 32⟩

/-- Two records that merge (R549): code, source and forced flag agree, and the code is repeat-counted. -/
def mergeable (a b : Rec) : Bool :=
  repeatCodes.contains a.code && decide (a.code = b.code) && decide (a.src = b.src)
    && (a.flags.testBit 2 == b.flags.testBit 2) && decide (a.rep < 255)

/-- Queue room of a producer: 256 records at the Harbourmaster, 64 at a quay (R548). -/
def prodRoom (prod : Nat) : Nat := if prod = 0 then 256 else 64

/-- Records a queue holds. -/
def queued (l : List (List Rec)) : Nat := (l.map List.length).sum

/-- The last claim of a queue merged with a record, if they merge (R549). -/
def mergeLast : List (List Rec) → Rec → Option (List (List Rec))
  | [], _ => none
  | [[a]], r => if mergeable a r then some [[{ a with rep := a.rep + 1 }]] else none
  | [_], _ => none
  | c :: t, r => (mergeLast t r).map (c :: ·)

/-- The producer of a claim: 0 the Harbourmaster, 1 + q quay q. -/
def State.prod (s : State) (i : Nat) : ProdQ := tabGet (fun _ => ProdQ.idle) s.prods i

def State.setProd (s : State) (i : Nat) (q : ProdQ) : State := { s with prods := tabSet (fun _ => ProdQ.idle) s.prods i q }

/-- Queue a claim at a producer: merge it, queue it, or drop and count it (R548 to R550). -/
def State.enqueue (s : State) (i : Nat) (claim : List Rec) : State :=
  let q := s.prod i
  let merged := match claim with | [r] => mergeLast q.claims r | _ => none
  match merged with
  | some l => s.setProd i { q with claims := l }
  | none =>
    if queued q.claims + claim.length ≤ prodRoom i then s.setProd i { q with claims := q.claims ++ [claim] }
    else
      let code := match claim with | r :: _ => r.code | [] => 0
      let s := s.count HM_LOG_CNT_DROPPED claim.length
      s.setProd i { q with
        dropped := q.dropped + claim.length, lastCode := code
        firstCode := if q.dropped = 0 then code else q.firstCode
        firstTick := if q.dropped = 0 then s.tick32 else q.firstTick }

/-- Record an event that names the Harbourmaster. -/
def State.logHm (s : State) (code p0 p1 p2 p3 : Nat) : State :=
  s.enqueue 0 [s.mkRec code (srcWord tyHm 0 0) false p0 p1 p2 p3]

/-- Record an event of the Harbourmaster that names a unit of type `ty` (R546). -/
def State.logUnit (s : State) (ty unit code p0 p1 p2 p3 : Nat) : State :=
  s.enqueue 0 [s.mkRec code (srcWord ty 0 unit) false p0 p1 p2 p3]

/-- Record an event of quay `q` that names the quay. -/
def State.logQuay (s : State) (q code p0 p1 p2 p3 : Nat) : State :=
  s.enqueue (1 + q) [s.mkRec code (srcWord tyQuay q 0) false p0 p1 p2 p3]

/-- Record an event of the quay of tile `p` that names the quay and the physical tile (R546). -/
def State.logTile (s : State) (p code p0 p1 p2 p3 : Nat) : State :=
  s.enqueue (1 + quayOf p) [s.mkRec code (srcWord tyQuay (quayOf p) p) false p0 p1 p2 p3]

/-- Record an event of the Harbourmaster that names a tile. -/
def State.logHmTile (s : State) (p code p0 p1 p2 p3 : Nat) : State :=
  s.enqueue 0 [s.mkRec code (srcWord tyHm 0 p) false p0 p1 p2 p3]

/-- A silent-data-corruption report: a record and its continuation (R547). -/
def State.logPair (s : State) (prod src code p0 p1 p2 p3 c0 c1 c2 c3 : Nat) : State :=
  let r := s.mkRec code src false p0 p1 p2 p3
  let c := s.mkRec code src false c0 c1 c2 c3
  s.enqueue prod [{ r with flags := r.flags + 1 }, { c with flags := c.flags + 2 }]

/-! ### Error words of pages (R488 to R490) -/

/-- Set a low bit of the PG_ERR of the page that holds place `a` (R488). -/
def State.pageErr (s : State) (a b : Nat) : State :=
  let hdr := a / 0x1000 * 0x1000 + 0x10
  s.setWord hdr (s.word hdr ||| BitVec.ofNat 64 (2 ^ b))

def errLocked : Nat := 0
def errBusy : Nat := 1
def errConflict : Nat := 2
def errDenied : Nat := 3
def errAperture : Nat := 4
def errBolBusy : Nat := 5
def errBolRange : Nat := 6
def errBolLocked : Nat := 7

/-- The place that holds a block's fault word [31:8], mask [31:8], first-fault word and vote count: header of page 0 (R490: once per block). -/
def hmBlk (o : Nat) : Nat := o
def qyBlk (q o : Nat) : Nat := qyAddr q o

/-! ### Pulls of HW1 (R40, R225) -/

/-- Launch a pull of HW1. -/
def State.pullHw1 (s : State) (kind quay ltile cause reason : Nat) : State :=
  { s with commit.pulls := s.commit.pulls ++ [⟨kind, quay, ltile, cause, reason, 0, s.now⟩] }

/-- A quay's pull. -/
def State.pullQuay (s : State) (q reason : Nat) : State := s.pullHw1 1 q 0 0 reason

/-- Cause bits of R65. -/
def cCsum : Nat := 1
def cWsum : Nat := 2
def cNonfin : Nat := 3
def cCount : Nat := 4
def cDesc : Nat := 5
def cCore : Nat := 6
def cLink : Nat := 7
def cRouter : Nat := 8
def cHang : Nat := 9
def cLmue : Nat := 10
def cSelf : Nat := 11
def cReset : Nat := 12

/-- The Bollard reports in full (R695). -/
def State.reportsFull (s : State) (p : Nat) : Bool :=
  s.flag (BOL_CTL_CHECK_EN p) && (decide (s.role p = roleJob) || decide (s.role p = roleShadow))

/-- The causes that take a serving tile out of service (R257 code 8). -/
def moveCauses : List Nat := [cCsum, cWsum, cNonfin, cCount, cCore, cHang, cLmue]

/-- A detection in job tick `n` in detect-only mode, for the report of R239. One that concerns no tile names tile 0xFFFFF, with its quay (64 for the
Harbourmaster) above it. -/
def State.detect (s : State) (p l n why : Nat) : State :=
  if s.flag HM_COMMIT_STAT_DETECT_ONLY then { s with detections := s.detections ++ [(p, l, n, why)] } else s

/-- What a Bollard's test engine holds (chapter 08). -/
def State.engine (s : State) (p : Nat) : Engine := tabGet (fun _ => Engine.idle) s.test.engines p

def State.setEngine (s : State) (p : Nat) (e : Engine) : State := { s with test.engines := tabSet (fun _ => Engine.idle) s.test.engines p e }

/-- A run of the test engine begins now. -/
def State.startEngine (s : State) (p running : Nat) (prpg : BitVec 256) : State :=
  s.setEngine p { Engine.idle with running := running, prpg := prpg, since := s.now }

/-- The repairs of BOL_MBIST are loaded with OP 3, one slot after the other (R311): before every release of CRST_N. -/
def State.loadRepairs (s : State) (p : Nat) : State :=
  ([s.get (BOL_MBIST_REP0 p), s.get (BOL_MBIST_REP1 p), s.get (BOL_MBIST_REP2 p)].take (s.get (BOL_MBIST_REPN p))).zipIdx.foldl
    (fun s x => s.emit (.mbist p 3 x.1 x.2)) s

/-- CRST_N is released. -/
def State.releaseCore (s : State) (p : Nat) : State := (s.loadRepairs p).put (BOL_CDOM_RST p) 0

/-- A cause met while the tile runs a functional slice is the vector's result (R300, R314). -/
def State.testCause (s : State) (p : Nat) : State :=
  let e := s.engine p
  if s.role p = roleTest ∧ e.running = 3 ∧ e.bad = none then s.setEngine p { e with bad := some e.steps } else s

/-- The tile meets a trigger of R266. -/
def State.regionHit (s : State) (p : Nat) : State :=
  s.modQuay (quayOf p) (fun t => { t with hitTiles := if t.hitTiles.contains p then t.hitTiles else p :: t.hitTiles })

/-- A move of the recall in progress takes tile `p`. -/
def State.migratesTo (s : State) (p : Nat) : Bool :=
  match s.commit.inRecall with | some r => r.moves.any (fun m => m.dst = p) | none => false

/-- Causes `l` met at once at tile `p`: latched in BOL_OPEN. A cause bit that is set pulls HW1 once on a tile that reports in full, RESET only on a
JOB tile (R65, R84, R695). On a JOB tile the causes of R257 code 8 ask for the tile's move (R259). -/
def State.causes (s : State) (p : Nat) (l : List Nat) : State :=
  let old := s.word (BOL_OPEN p)
  -- W0 layout: CLEAN is 0 once a cause is set (R66, R90)
  let s := if l.isEmpty then s else s.setWord (BOL_OPEN p) (BitVec.ofNat 64 (clrBitN (old ||| BitVec.ofNat 64 (l.foldl setBitN 0)).toNat 0))
  let job := decide (s.role p = roleJob)
  let s := if l.isEmpty then s else s.testCause p
  -- Rinol moves the core whether or not the health state machine runs (R231, R288)
  let s := if job && l.any (fun c => moveCauses.contains c) && !s.demands.contains (p, 8) then
      { (if s.flag HM_HEALTH_CTL_EN then s.regionHit p else s) with demands := s.demands ++ [(p, 8)] }
    else s
  let fresh := l.filter (fun c => !old.toNat.testBit c && (decide (c ≠ cReset) || job))
  if s.reportsFull p && !fresh.isEmpty then
    let link := fresh.all (fun c => decide (c = cLink))
    let s := s.detect p (s.get (BOL_PILOT_LCORE p)) s.jt (if link then 4 else 3)
    s.pullHw1 0 (quayOf p) (localOf p) (s.get (BOL_OPEN_W0 p) % 2 ^ 16) (if link then 6 else 1)
  -- a spare that a recall's move takes joins the recall with a core cause (R247)
  else if s.migratesTo p && fresh.any (fun c => moveCauses.contains c) then
    s.pullHw1 0 (quayOf p) (localOf p) (s.get (BOL_OPEN_W0 p) % 2 ^ 16) 1
  else s

/-- One cause at tile `p`. -/
def State.cause (s : State) (p c : Nat) : State := s.causes p [c]

/-! ### Octulo's own faults (R483 to R504) -/

/-- Reaction classes (R489); the two summary bits have none. -/
inductive FClass where
  | c | r | u | l | o | summary
  deriving DecidableEq, Repr

/-- The class number records carry (R513). -/
def FClass.code : FClass → Nat
  | .c => 0 | .r => 1 | .u => 2 | .l => 3 | .o => 4 | .summary => 0

/-- Passed upward: the uncorrected classes (R486, R489). -/
def FClass.up : FClass → Bool
  | .c => false | _ => true

/-- Class of a quay's fault bit (R491); STORE_UE takes the class its owner's reaction gives it. -/
def quayClass (b : Nat) : FClass :=
  match b with
  | 8 | 10 | 13 | 14 | 15 | 18 | 22 | 23 | 25 => .r
  | 11 | 24 => .o
  | 16 => .summary
  | _ => .c

/-- How many of three cores a mask names. -/
def coreCount (m : Nat) : Nat := m % 2 + m / 2 % 2 + m / 4 % 2

/-- Class of a Harbourmaster fault bit with `cores` triplex cores in service (R492). -/
def hmClass (cores b : Nat) : FClass :=
  match b with
  | 8 => .u
  | 9 => .l
  | 11 => if cores < 3 then .l else .u
  | 13 => .r
  | 14 => .u
  | 18 => .summary
  | _ => .c

/-- Class of a BOL_ERR bit (R493). -/
def bolClass (b : Nat) : FClass :=
  match b with
  | 3 | 5 | 8 | 9 | 15 => .c
  | _ => .r

/-- The uncorrected bits of BOL_ERR as a mask. -/
def bolUncorrected : Nat := 0xFFFF - 2 ^ 3 - 2 ^ 5 - 2 ^ 8 - 2 ^ 9 - 2 ^ 15

/-- The bits of a quay's fault word that are passed upward (R486). -/
def quayUp : Nat := ((List.range 32).filter (fun b => decide (8 ≤ b) && (quayClass b).up && decide (b ≤ 26))).foldl setBitN 0

/-- The bits of the Harbourmaster's fault word that assert IRQ_N[0] (R496). -/
def hmUp (cores : Nat) : Nat :=
  ((List.range 26).filter (fun b => decide (8 ≤ b) && (hmClass cores b).up && decide (b ≠ 18))).foldl setBitN 0

/-- Latch bit `b` in a block's fault word, where a clear of this cycle leaves it (R502), and load PG_ERR_FIRST when it was all zero (R490). -/
def State.latchWord (s : State) (blk b : Nat) (forced : Bool) : State :=
  let w := (s.word (blk + 0x10)).toNat
  let s := if w / 256 = 0 then
      s.setWord (blk + 0x1C) (BitVec.ofNat 64 (b % 32 + 32 + 64 * bit forced + s.time.tick % 2 ^ 25 * 128))
    else s
  (s.setWord (blk + 0x10) (BitVec.ofNat 64 (setBitN w b))).coin (.set (blk + 0x10) (BitVec.ofNat 64 (2 ^ b)))

/-- Raise or drop a quay's summary wire; the Harbourmaster's summary bit latches while any is raised (R486, R488, R490, R509). -/
def State.refreshSummary (s : State) (q : Nat) : State :=
  let w := (s.word (qyBlk q 0x10)).toNat &&& quayUp
  let m := (s.word (qyBlk q 0x14)).toNat
  let high := decide (w - (w &&& m) ≠ 0)
  let sum := s.get HM_FAULT_SUM_QUAYS
  let s := s.put HM_FAULT_SUM_QUAYS (if high then setBitN sum q else clrBitN sum q)
  if s.flag HM_FAULT_SUM_QUAYS && !(s.word (hmBlk 0x10)).toNat.testBit 18 then s.latchWord (hmBlk 0) 18 false else s

/-- Count a vote disagreement of a block in PG_VOTE (R490). -/
def State.vote (s : State) (blk n : Nat) : State :=
  s.setWord (blk + 0x20) (BitVec.ofNat 64 (min ((s.word (blk + 0x20)).toNat + n) 0xFFFFFFFF))

/-- Record a fault event (R513) from a producer. -/
def State.logFault (s : State) (prod src blkType b : Nat) (cls : FClass) (forced : Bool) (synd : Nat) : State :=
  match cls with
  | .c => s.enqueue prod [s.mkRec 0x0B01 src forced blkType b synd s.tick32]
  | .summary => s
  | k => s.enqueue prod [s.mkRec 0x0B02 src forced blkType b k.code s.tick32]

/-- A quay latches fault bit `b` of class `cls`: word, counts, record, summary wire and message (R486, R487, R490, R511, R512). -/
def State.latchQuayAs (s : State) (q b : Nat) (cls : FClass) (forced : Bool) (synd : Nat) : State :=
  let gained := !(s.word (qyBlk q 0x10)).toNat.testBit b
  let s := s.latchWord (qyBlk q 0) b forced
  let s := s.logFault (1 + q) (srcWord tyQuay q 0) tyQuay b cls forced synd
  let s := match cls with
    | .c => (s.count (QY_FAULT_CNT_CORRECTED q) 1).count HM_FAULT_CNT0_CORRECTED 1
    | .summary => s
    | _ => (s.count (QY_FAULT_CNT_QUAY q) 1).count HM_FAULT_CNT0_UNCORRECTED 1
  let masked := ((s.word (qyBlk q 0x14)).toNat).testBit b
  let s := if cls.up && !masked && gained then { s with quayMsgs := s.quayMsgs ++ [(q, b, forced)] } else s
  s.refreshSummary q

/-- The same at the class of R491, with the pull of a class R bit (R489). -/
def State.latchQuay (s : State) (q b : Nat) (forced : Bool) (synd : Nat) : State :=
  let s := s.latchQuayAs q b (quayClass b) forced synd
  if quayClass b = .r then (s.detect (0xFFFFF + q * 2 ^ 20) 0xFFFFF s.jt 3).pullQuay q 8 else s

/-- The Harbourmaster latches fault bit `b` (R490, R492, R511); class R pulls HW1 with reason OCTULO. -/
def State.latchHm (s : State) (b : Nat) (forced : Bool) (synd : Nat) : State :=
  let cls := hmClass (coreCount (s.get HM_TRIPLEX_STAT_CORES)) b
  let s := s.latchWord (hmBlk 0) b forced
  let s := s.logFault 0 (srcWord tyHm 0 0) tyHm b cls forced synd
  let s := match cls with
    | .c => s.count HM_FAULT_CNT0_CORRECTED 1
    | .summary => s
    | _ => s.count HM_FAULT_CNT0_UNCORRECTED 1
  if cls = .r then (s.detect (0xFFFFF + 64 * 2 ^ 20) 0xFFFFF s.jt 3).pullHw1 2 0 0 0 8 else s

/-! ### Escalation (R524) -/

/-- The escalation window in tide ticks. -/
def State.escWindow (s : State) : Nat := 600 * s.get HM_TIME_TPS_TPS

def State.recentResets (s : State) (key : Nat) : List Nat :=
  (tabGet (fun _ => []) s.rst.esc key).filter (fun t => decide (s.time.tick ≤ t + s.escWindow))

/-- Keep the table: entries outside the window are freed, and a full tile table gives up the entry whose later reset is oldest. -/
def State.escSet (s : State) (key : Nat) (l : List Nat) : State :=
  let live := s.rst.esc.filter (fun e => e.2.any (fun t => decide (s.time.tick ≤ t + s.escWindow)))
  let tilesIn := live.filter (fun e => decide (e.1 < 2 ^ 20))
  let full := decide (key < 2 ^ 20) && decide (8192 ≤ tilesIn.length) && !tilesIn.any (fun e => decide (e.1 = key))
  let old := tilesIn.foldl (fun (b : Option (Nat × List Nat)) e =>
    match b with | none => some e | some x => if e.2.getD 0 0 < x.2.getD 0 0 then some e else b) none
  let s := { s with rst.esc := live }
  let s := match full, old with
    | true, some e =>
      ({ s with rst.esc := tabDel e.1 live }.count HM_RST_ESC_EVICTS 1).enqueue (1 + quayOf key)
        [s.mkRec 0x0C0A (srcWord tyQuay (quayOf key) key) false e.1 key 0 s.tick32]
    | _, _ => s
  let s := { s with rst.esc := tabSet (fun _ => []) s.rst.esc key l }
  s.put HM_RST_ESC_ENTRIES (s.rst.esc.filter (fun e => decide (e.1 < 2 ^ 20))).length

/-- Count a corrective reset of a unit; gives how many lie in the window, this one included. A forced one is not applied while FORCE_NOCOLOUR is 1 (R500). -/
def State.countReset (s : State) (key : Nat) (forced : Bool) : State × Nat :=
  let recent := s.recentResets key
  if forced && s.flag HM_FAULT_CTL_FORCE_NOCOLOUR then (s, recent.length)
  else (s.escSet key ((s.time.tick :: recent).take 2), recent.length + 1)

end Sys2Proof.Machine
end

