-- ==== Sys2Proof/Machine/Pins.lean ====
section
/-!
DEFINITION. What follows from the state at the end of every command: the alarm causes that clear, ALARM_N, and the interrupt pins
(R496, R497, R559, R650). Also how a meaning begins and ends, and the gate every host write to a page passes (R640, R644).
-/

namespace Sys2Proof.Machine

/-- Values of HM_TRIPLEX_STAT.PHASE (R580). -/
def phSelftest : Nat := 0
def phWaitImage : Nat := 1
def phLoading : Nat := 2
def phConfig : Nat := 3
def phTesting : Nat := 4
def phReady : Nat := 5
def phOpen : Nat := 6
def phFailed : Nat := 7

def State.phaseNo (s : State) : Nat := s.get HM_TRIPLEX_STAT_PHASE

/-- The harbour is open (R580). -/
def State.isOpen (s : State) : Bool := decide (s.phaseNo = phOpen)

/-- The condition of an alarm cause still holds (R497). -/
def State.alarmHolds (s : State) (c : Nat) : Bool :=
  match c with
  | 0 => s.quayList.any (fun q => decide (s.get (QY_CLEAR_STAT_STATE q) = 1))
  | 1 => s.flag HM_PWR_BUS_HIGH
  | 3 => s.lantern
  | _ => false

/-- Latch an alarm cause: a new occurrence is unacknowledged (R497). -/
def State.alarm (s : State) (c : Nat) : State :=
  ((s.put HM_FAULT_ALARM_CAUSE (setBitN (s.get HM_FAULT_ALARM_CAUSE) c)).put HM_FAULT_ALARM_ACKED (clrBitN (s.get HM_FAULT_ALARM_ACKED) c)).coin
    (.set HM_FAULT_ALARM (BitVec.ofNat 64 (2 ^ c)))

/-- Clear acknowledged causes whose condition has ended (R497). -/
def State.clearAlarms (s : State) : State :=
  let keep := (List.range 6).filter (fun c =>
    (s.get HM_FAULT_ALARM_CAUSE).testBit c && (!(s.get HM_FAULT_ALARM_ACKED).testBit c || s.alarmHolds c))
  let m := keep.foldl setBitN 0
  (s.put HM_FAULT_ALARM_CAUSE m).put HM_FAULT_ALARM_ACKED (s.get HM_FAULT_ALARM_ACKED &&& m)

/-- IRQ_N[0] is asserted (R496). -/
def State.irq0 (s : State) : Bool :=
  let err := (s.word (hmBlk 0x10)).toNat &&& hmUp (coreCount (s.get HM_TRIPLEX_STAT_CORES))
  decide (s.get HM_FAULT_SUM_QUAYS ≠ 0) || decide (err - (err &&& (s.word (hmBlk 0x14)).toNat) ≠ 0)
    || decide (s.get HM_FAULT_ALARM_CAUSE - (s.get HM_FAULT_ALARM_CAUSE &&& s.get HM_FAULT_ALARM_ACKED) ≠ 0)

/-- IRQ_N[1] and IRQ_N[3]: an unmasked latched bit of [7:0], of [20:16] (R650). -/
def State.irqEvents (s : State) (lo w : Nat) : Bool :=
  let e := fieldOf (s.word HM_IRQ_STAT) lo w
  decide (e - (e &&& fieldOf (s.word HM_IRQ_MASK) lo w) ≠ 0)

/-- IRQ_N[2]: unread records at the threshold, or the log port failed (R555, R559). -/
def State.irq2 (s : State) : Bool :=
  decide (s.get HM_LOG_CTL_THRESH ≤ (s.get HM_LOG_WSEQ_WSEQ - s.get HM_LOG_RMARK_RMARK)) || decide (s.get HM_LOG_STAT_STATE = 3)

/-- Set the pins from the state: bit n of HM_IRQ_STAT.PINS is IRQ_N[n] asserted, HM_FAULT_ALARM.PIN is ALARM_N asserted. -/
def State.drivePins (s : State) : State :=
  let pins := bit s.irq0 + 2 * bit (s.irqEvents 0 8) + 4 * bit s.irq2 + 8 * bit (s.irqEvents 16 5)
  (s.put HM_FAULT_ALARM_PIN (bit (decide (s.get HM_FAULT_ALARM_CAUSE ≠ 0)))).put HM_IRQ_STAT_PINS pins

/-- The end of every command. -/
def State.settle (s : State) : State := s.clearAlarms.drivePins

/-- Set an event bit of HM_IRQ_STAT (R650). -/
def State.irq (s : State) (b : Nat) : State :=
  (s.setWord HM_IRQ_STAT (s.word HM_IRQ_STAT ||| BitVec.ofNat 64 (2 ^ b))).coin (.set HM_IRQ_STAT (BitVec.ofNat 64 (2 ^ b)))

def irqCmd : Nat := 0
def irqTriplex : Nat := 1
def irqXspi : Nat := 2
def irqHealth : Nat := 3
def irqTest : Nat := 4
def irqRst : Nat := 5
def irqLogClr : Nat := 6
def irqKey : Nat := 7
def irqQuayColour : Nat := 16
def irqUnitColour : Nat := 17
def irqSpareLow : Nat := 18
def irqNote : Nat := 19
def irqTileColour : Nat := 20

/-- What the commands of earlier cycles left is gone. -/
def State.freshCoins (s : State) : State := { s with coins := s.coins.filter (fun x => decide (x.1 = s.now)) }

/-- A command begins: nothing is driven yet, and it falls at core cycle `c`. -/
def State.begin_ (s : State) (c : Nat) : State := ({ s with out := [] }.at_ c).freshCoins

/-- A command's outcome: its effect, then what follows from it. -/
def ran (s : State) : Host.Outcome State Fault Refusal := .next s.settle

/-- The outcome of a command with effect `f` at core cycle `c`. While PORST_N is low every domain is held in reset and nothing else happens (R672).
No command touches the queue of waiting commands or the design-time values. -/
def run (s : State) (c : Nat) (f : State → State) : Host.Outcome State Fault Refusal :=
  ran (if s.start.held then { s with out := [] } else { f (s.begin_ c) with pending := s.pending, sp := s.sp })

/-! ### The gate of a host write -/

/-- The page of the register at place `a` is served (R640, R645). -/
def State.pageReady (s : State) (a : Nat) : Bool := (s.word (a / 0x1000 * 0x1000 + 0xC)).toNat.testBit 0

/-- PG_CTL.EN and PG_CTL.LOCK of the page of place `a` (R644). -/
def State.pageEn (s : State) (a : Nat) : Bool := (s.word (a / 0x1000 * 0x1000 + 0x8)).toNat.testBit 0
def State.pageLock (s : State) (a : Nat) : Bool := (s.word (a / 0x1000 * 0x1000 + 0x8)).toNat.testBit 1

/-- A host write to the register at place `a` (offset 0x040 or above): REFUSED while the page is not served (R640), ignored with HOST_DENIED
while PG_CTL.EN is 0 (R644), else its effect; the answer leaves on HPORT (R639). -/
def State.hostWrite (s : State) (a : Nat) (k : State → State) : State :=
  if !s.pageReady a then s.emit (.hport 2 0)
  else if !s.pageEn a then (s.pageErr a errDenied).emit (.hport 0 0)
  else (k s).emit (.hport 0 0)

end Sys2Proof.Machine
end

