-- ==== Sys2Proof/Machine/Time.lean ====
section
/-!
DEFINITION. The timebase (chapter 01): the PPS edge with acceptance, discipline, lock and alignment, holdover and the slew decision.
The tick strobe, which also runs every other chapter's tick-boundary effects, stands in Tick.lean.
-/

namespace Sys2Proof.Machine

/-- States of HM_TIME_STAT.STATE (R31). -/
def tsFree : Nat := 0
def tsAcquire : Nat := 1
def tsLocked : Nat := 2
def tsHoldover : Nat := 3

/-- HM_TIME_STAT.PHASE and HM_TIME_SLEW as integers (R47, R48). -/
def State.phase (s : State) : Int := signedOf (s.get HM_TIME_STAT_PHASE) 20
def State.drift (s : State) : Int := signedOf (s.get HM_TIME_SLEW_DRIFT) 32
def State.owed (s : State) : Int := signedOf (s.get HM_TIME_SLEW_OWED) 32

/-- A record of the time group: P0 holds PHASE, P1 DRIFT (R49). -/
def State.logTime (s : State) (code : Nat) : State :=
  s.logHm code (toField s.phase 32) (toField s.drift 32) 0 0

/-- Enter a state of R31 and record the change where R49 names a record for it. -/
def State.enterTime (s : State) (st : Nat) : State :=
  if s.get HM_TIME_STAT_STATE = st then s
  else
    let s := s.put HM_TIME_STAT_STATE st
    if st = tsLocked then
      { s.logTime 0x0101 with time.afterHold := false, time.reacquired := false, time.strays := [] }
    else if st = tsHoldover then
      { s.logTime 0x0102 with time.afterHold := true, time.nearEdges := 0, time.strays := [] }
    else { s with time.nearEdges := 0, time.strays := [], time.afterHold := false, time.reacquired := false }

/-- Clamp to ±m. -/
def clampAbs (i : Int) (m : Nat) : Int := max (-(m : Int)) (min i m)

/-- Ticks per second times the granule: the most that a second can be slewed (R27, R29). -/
def State.slewCap (s : State) : Nat := s.get HM_TIME_TPS_TPS * s.granule

/-- The stamp of an edge seen at cycle `c` of the tick in progress: 3 cc earlier (R28), which may lie in the tick before. -/
def State.stampOf (s : State) (c : Nat) : Moment :=
  if 3 ≤ c then ⟨s.time.tick, c - 3, s.time.dev⟩ else ⟨s.time.tick - 1, s.time.prevLen + c - 3, s.time.dev - (s.time.prevLen - s.tickLen)⟩

/-- The position of a stamp for its phase: in the added granule of a lengthened tick the edge counts as one granule past the nominal end (R33). -/
def State.phasePos (s : State) (c : Nat) : Nat := if s.tickLen ≤ c then s.tickLen else c

/-- The phase of a stamp (R28): cycles past the nearest expected second boundary. -/
def State.phaseOf (s : State) (m : Moment) : Int :=
  let tps := s.get HM_TIME_TPS_TPS
  let d := ((m.tick : Int) - s.get HM_TIME_SEC_BASE_BASE) % tps
  let x := d * s.tickLen + s.phasePos m.cyc
  if 2 * x > (tps : Int) * s.tickLen then x - tps * s.tickLen else x

/-- Largest and smallest of a list agree within `w` (R31). -/
def agreeWithin (w : Nat) (l : List Int) : Bool :=
  l.all (fun a => l.all (fun b => decide (a - b ≤ w)))

/-- The discipline of R29 on an accepted edge. A phase that does not fit the 20 bits of PHASE (a reference taken anew far outside the window) is stored
modulo 2^20 (R47 gives no other; DESIGN CHOICE, notes/assumptions/118.md). -/
def State.discipline (s : State) (phase : Int) : State :=
  let drift := s.drift + phase.tdiv 8
  let s := s.put HM_TIME_STAT_PHASE (toField phase 20)
  let s := s.put HM_TIME_SLEW_DRIFT (toField drift 32)
  let s := s.put HM_TIME_SLEW_OWED (toField (clampAbs (phase + drift) s.slewCap) 32)
  { s with time.acc := 0 }

/-- The captured tide value of an edge (R28, R46). -/
def State.capture (s : State) (m : Moment) : State :=
  (s.put HM_TIME_PPS_CAPT_TICK m.tick).put HM_TIME_PPS_CAPT_CYC (s.phasePos m.cyc / s.granule)

/-- An accepted edge (R28, R29, R31). -/
def State.acceptEdge (s : State) (m : Moment) (phase : Int) : State :=
  let s := (s.capture m).discipline phase
  let near := if phase.natAbs ≤ 64 then s.time.nearEdges + 1 else 0
  let s := { s with time.nearEdges := near, time.strays := [],
                    time.reacquired := s.time.reacquired && decide (132000 < phase.natAbs) }
  if 2 ≤ near then s.enterTime tsLocked else s

/-- An edge outside the window (R28), and the third of three agreeing ones after holdover (R31). -/
def State.strayEdge (s : State) (m : Moment) (phase : Int) : State :=
  let l := (phase :: s.time.strays).take 3
  if s.time.afterHold && decide (l.length = 3) && agreeWithin 1100 l then
    let s := (s.capture m).discipline phase
    let s := s.logTime 0x0104
    { s with time.strays := [], time.nearEdges := 0, time.reacquired := true }
  else
    let s := (s.count HM_TIME_STAT_SPURIOUS 1).logTime 0x0103
    { s with time.strays := l }

/-- PPS_EDGE (R28 to R33): `falling` is the edge's polarity. Only before the harbour opens does an edge align (R32). After PPS_REACQUIRE every edge is
accepted whatever its phase until the phase is inside the window again (R31 leaves this open; DESIGN CHOICE, notes/assumptions/119.md). -/
def State.ppsEdge (s : State) (falling : Bool) : State :=
  if s.flag HM_TIME_CTL_PPS_POL ≠ falling then s
  else if s.time.alignReq && !s.isOpen then
    -- R32: the tick in progress ends early, the next starts 3 cc after the edge
    let s := s.capture (s.stampOf s.time.cyc)
    let s := (s.put HM_TIME_SEC_BASE_BASE (s.time.tick + 1)).put HM_TIME_STAT_ALIGNED 1
    let s := ((s.put HM_TIME_STAT_PHASE 0).put HM_TIME_SLEW_DRIFT 0).put HM_TIME_SLEW_OWED 0
    let s := { s with time.alignReq := false, time.alignNow := true, time.acc := 0, time.nearEdges := 0 }
    s.logTime 0x0105
  else if s.get HM_TIME_STAT_STATE = tsFree then s
  else
    let m := s.stampOf s.time.cyc
    let phase := s.phaseOf m
    if phase.natAbs ≤ 132000 || s.time.reacquired then s.acceptEdge m phase else s.strayEdge m phase

/-- SLEW_DECISION (R29, R30): at cc TICK_LEN − g − 1. With TPS = 0, which R44 forbids, no slew is made (DESIGN CHOICE, notes/assumptions/120.md). -/
def State.slewDecide (s : State) : State :=
  let g := s.granule
  let s := s.at_ (s.tickLen - g - 1)
  if s.get HM_TIME_STAT_STATE = tsFree then { s with time.slew := 0 }
  else
    let acc := s.time.acc + s.owed.natAbs
    if acc ≥ s.slewCap ∧ 0 < s.slewCap then
      { s with time.acc := acc - s.slewCap, time.slew := if 0 < s.owed then (g : Int) else -(g : Int) }
    else { s with time.acc := acc, time.slew := 0 }

end Sys2Proof.Machine
end

