-- ==== Sys2Proof/Machine/Store.lean ====
section
/-!
DEFINITION. The quay store and the harbour store (chapter 09): cells, banks and their sleep, the gather buffer, slot tags, rings, remote
windows, and which region owns a row.
-/

namespace Sys2Proof.Machine

/-! ### Cells (R340 to R342, R635) -/

/-- The HPORT address of offset `o` of quay `q`'s store (R342). -/
def qsAddr (q o : Nat) : Nat := 0x40000000 + q * 0x1000000 + o

/-- The HPORT address of offset `o` of the harbour store (R635). -/
def hsAddr (o : Nat) : Nat := 0x1000000 + o

/-- What a byte of a store that nothing has written reads as: a bank is written with zeros before it is served (R369). -/
def blankByte : Nat → BitVec 8 := fun _ => 0

/-- Memory in its canonical form. -/
abbrev memWf (m : List Host.Cell) : Prop := tabWf blankByte m = true

def State.byte (s : State) (a : Nat) : BitVec 8 := tabGet blankByte s.mem a

def State.setByte (s : State) (a : Nat) (v : BitVec 8) : State := { s with mem := tabSet blankByte s.mem a v }

/-- A list of bytes from address `a` up. -/
def State.readBytes (s : State) (a : Nat) : Nat → List (BitVec 8)
  | 0 => []
  | n + 1 => s.byte a :: s.readBytes (a + 1) n

def State.writeBytes (s : State) (a : Nat) : List (BitVec 8) → State
  | [] => s
  | b :: t => (s.setByte a b).writeBytes (a + 1) t

/-- The bytes of a word, lowest first. -/
def wordBytes (w : BitVec 64) : List (BitVec 8) := (List.range 8).map (fun i => BitVec.ofNat 8 (w.toNat / 2 ^ (8 * i)))

/-- The number a byte list holds, lowest byte first. -/
def bytesNat : List (BitVec 8) → Nat
  | [] => 0
  | b :: t => b.toNat + 256 * bytesNat t

def State.readW (s : State) (a : Nat) : BitVec 64 := BitVec.ofNat 64 (bytesNat (s.readBytes a 8))

def State.writeW (s : State) (a : Nat) (w : BitVec 64) : State := s.writeBytes a (wordBytes w)

def State.readWords (s : State) (a n : Nat) : List (BitVec 64) := (List.range n).map (fun i => s.readW (a + 8 * i))

def State.writeWords (s : State) (a : Nat) (l : List (BitVec 64)) : State := s.writeBytes a (l.flatMap wordBytes)

/-- A byte of a store as it stood when the cycle began, where a write of this cycle has kept its row (R372). -/
def State.byteHeld (s : State) (a : Nat) : BitVec 8 :=
  (s.coinsNow.findSome? (fun x => match x with | .row b l => if b = a / 64 * 64 then l[a % 64]? else none | _ => none)).getD (s.byte a)

/-- Keep the row of address `a`. -/
def State.holdRow (s : State) (a : Nat) : State := s.coin (.row (a / 64 * 64) ((List.range 64).map (fun i => s.byteHeld (a / 64 * 64 + i))))

/-- Forget the cells of `[lo, hi)`: they read as blank. -/
def State.dropCells (s : State) (lo hi : Nat) : State :=
  { s with mem := s.mem.filter (fun c => decide (c.1 < lo) || decide (hi ≤ c.1)) }

/-! ### Banks (R340, R341, R369, R370) -/

def bankBytes : Nat := 524288
def bankOf (o : Nat) : Nat := o / bankBytes
def rowOf (o : Nat) : Nat := o / 64

def State.banks (s : State) (q : Nat) : Nat := s.get (QY_STORE_SIZE_BANKS q)
def State.storeBytes (s : State) (q : Nat) : Nat := s.get (QY_STORE_SIZE_BYTES q)

def bkOn : Nat := 0
def bkDrain : Nat := 1
def bkRetain : Nat := 2
def bkOff : Nat := 3
def bkWake : Nat := 4
def bkInit : Nat := 5

def State.bankState (s : State) (q b : Nat) : Nat := s.get (QY_STORE_BANK_STATE q b)

/-- Change a bank's state and record it (R369, R390). -/
def State.setBank (s : State) (q b st : Nat) : State :=
  let old := s.bankState q b
  if old = st then s
  else
    let s := s.modQuay q (fun t => { t with bankAt := tabSet (fun _ => ⟨0, 0, 0⟩) t.bankAt b s.now })
    (s.put (QY_STORE_BANK_STATE q b) st).logQuay q 0x0806 b old st (s.get (QY_STORE_BANK_INFLIGHT q b))

/-- A bank enters OFF: contents and tags are lost; the repair map survives (R369). -/
def State.bankOff (s : State) (q b : Nat) : State :=
  let s := s.setBank q b bkOff
  let s := s.dropCells (qsAddr q (b * bankBytes)) (qsAddr q ((b + 1) * bankBytes))
  s.modQuay q (fun t => { t with
    tags := t.tags.filter (fun x => decide (x.1 / 8192 ≠ b))
    badWords := t.badWords.filter (fun x => decide (bankOf x.1 ≠ b)) })

/-- What a request does in the bank's present state (R369, R379). A retained bank that is to be switched off wakes first, since RETAIN
is left only for WAKE. -/
def State.bankApply (s : State) (q b : Nat) : State :=
  let req := s.get (QY_STORE_BANK_REQ q b)
  match s.bankState q b with
  | 0 => if req = 2 ∨ req = 3 then s.setBank q b bkDrain else s
  | 2 => if req = 0 then s.setBank q b bkWake
    else if req = 3 then (s.setBank q b bkWake).modQuay q (fun t => { t with bankLate := b :: t.bankLate.erase b }) else s
  | 3 => if req = 0 then s.setBank q b bkInit else s
  | 4 | 5 => s.modQuay q (fun t => { t with bankLate := b :: t.bankLate.erase b })
  | _ => s

/-- A write to QY_STORE_BANK.REQ (R369, R382). -/
def State.bankRequest (s : State) (q b req : Nat) : State :=
  if s.banks q ≤ b ∨ req % 4 = 1 then s else (s.put (QY_STORE_BANK_REQ q b) req).bankApply q b

/-- BANK_DRAIN_DONE: INFLIGHT has reached 0 (R369, R370). A request for ON made meanwhile wakes the retained bank. -/
def State.bankDrained (s : State) (q b : Nat) : State :=
  if s.bankState q b ≠ bkDrain ∨ s.get (QY_STORE_BANK_INFLIGHT q b) ≠ 0 then s
  else
    match s.get (QY_STORE_BANK_REQ q b) with
    | 3 => s.bankOff q b
    | 2 => s.setBank q b bkRetain
    | _ => (s.setBank q b bkRetain).bankApply q b

/-- Core cycles a wake, or a power-up with its initialisation, takes (R369). -/
def bankTime (from_ : Nat) : Nat := if from_ = bkInit then 1100 + 8224 else 220

/-- BANK_WAKE_DONE and BANK_INIT_DONE: the bank is ON, and a request that waited takes effect (R369, R379). -/
def State.bankUp (s : State) (q b from_ : Nat) : State :=
  if s.bankState q b ≠ from_ ∨ s.since (tabGet (fun _ => ⟨0, 0, 0⟩) (s.quay q).bankAt b) < bankTime from_ then s
  else
    let s := s.setBank q b bkOn
    if (s.quay q).bankLate.contains b then
      (s.modQuay q (fun t => { t with bankLate := t.bankLate.erase b })).bankApply q b
    else s

/-- Wake a retained bank for an access (R369). -/
def State.bankWake (s : State) (q b : Nat) : State :=
  if s.bankState q b = bkRetain then (s.setBank q b bkWake).count (QY_STORE_BANK_WAKES q b) 1 else s

/-- A bank serves an access: at once, or after it has woken or been initialised (R369). -/
def State.bankServes (s : State) (q b : Nat) : Bool :=
  decide (b < s.banks q) && ([bkOn, bkRetain, bkWake, bkInit].contains (s.bankState q b))

/-- STORE_BANK_OFF (R370, R390): source 0 tender, 1 remote, 2 control core, 3 host. -/
def State.bankRefused (s : State) (q src o : Nat) : State :=
  s.logQuay q 0x0805 (bankOf o) src o (s.bankState q (bankOf o))

/-- A writer is counted in, or out of, a bank (R370). -/
def State.countIn (s : State) (q b : Nat) : State := s.count (QY_STORE_BANK_INFLIGHT q b) 1
def State.countOut (s : State) (q b : Nat) : State :=
  s.put (QY_STORE_BANK_INFLIGHT q b) (s.get (QY_STORE_BANK_INFLIGHT q b) - 1)

/-! ### The gather buffer (R347, R348, R375) -/

/-- Words of the store that are written whole read well again (R365). -/
def State.wordsWritten (s : State) (q o n : Nat) : State :=
  if (s.quay q).badWords = [] then s
  else s.modQuay q (fun t => { t with badWords := t.badWords.filter (fun x => decide (¬ (o ≤ x.1 ∧ x.1 + 8 ≤ o + n))) })

/-- The words of an entry that its bytes cover whole. -/
def Gather.words (g : Gather) : List Nat :=
  (List.range 8).filter (fun w => (List.range 8).all (fun i => g.bytes.any (fun x => x.1 = 8 * w + i)))

/-- Write the bytes an entry holds into its bank, oldest write first. -/
def State.gatherDrain (s : State) (q : Nat) (g : Gather) : State :=
  let s := if (s.quay q).badWords = [] then s else g.words.foldl (fun s w => s.wordsWritten q (g.row * 64 + 8 * w) 8) s
  let s := g.bytes.reverse.foldl (fun s x => s.setByte (qsAddr q (g.row * 64 + x.1)) x.2) s
  s.countOut q (bankOf (g.row * 64))

/-- Flush the entries that satisfy a test. -/
def State.gatherFlush (s : State) (q : Nat) (test : Gather → Bool) : State :=
  let l := (s.quay q).gather
  let s := s.modQuay q (fun t => { t with gather := l.filter (fun g => !test g) })
  (l.filter test).foldl (fun s g => s.gatherDrain q g) s

/-- Flush the entry of a row, as a wide access or a host access does (R347, R348). -/
def State.gatherRow (s : State) (q row : Nat) : State := s.gatherFlush q (fun g => decide (g.row = row))

/-- All 64 byte enables of an entry are set. -/
def Gather.full (g : Gather) : Bool := (List.range 64).all (fun i => g.bytes.any (fun x => x.1 = i))

/-- A narrow write of one byte by the control core (R347). -/
def State.gatherWrite (s : State) (q o : Nat) (v : BitVec 8) : State :=
  let row := rowOf o
  if (s.quay q).gather.any (fun g => g.row = row) then
    let put := fun (g : Gather) => if g.row = row then { g with bytes := (o % 64, v) :: g.bytes, last := s.now } else g
    (s.modQuay q (fun t => { t with gather := t.gather.map put })).gatherFlush q Gather.full
  else if !s.bankServes q (bankOf o) then s.bankRefused q 2 o
  else
    let s := s.bankWake q (bankOf o)
    let s := if (s.quay q).gather.length < 8 then s
      else match (s.quay q).gather with
        | g :: _ => s.gatherRow q g.row
        | [] => s
    (s.countIn q (bankOf o)).modQuay q (fun t => { t with gather := t.gather ++ [⟨row, [(o % 64, v)], s.now⟩] })

/-- GATHER_IDLE_FLUSH (R347). -/
def State.gatherIdle (s : State) (q : Nat) : State :=
  s.gatherFlush q (fun g => decide ((s.get (QY_STORE_CTL_GATHER_IDLE q) : Int) ≤ s.since g.last))

/-! ### Slot tags (R351, R352, R372) -/

def State.tag (s : State) (q row : Nat) : Bool := tabGet (fun _ => false) (s.quay q).tags row
def State.setTag (s : State) (q row : Nat) (v : Bool) : State :=
  s.modQuay q (fun t => { t with tags := tabSet (fun _ => false) t.tags row v })

/-- The tag as it stood when the cycle began (R372), and a change of it that keeps it. -/
def State.tagHeld (s : State) (q row : Nat) : Bool :=
  (s.coinsNow.findSome? (fun x => match x with | .tag k r v => if k = q ∧ r = row then some v else none | _ => none)).getD (s.tag q row)
def State.tagChange (s : State) (q row : Nat) (v : Bool) : State := (s.coin (.tag q row (s.tagHeld q row))).setTag q row v

/-- A tagged access must wait (R351): a read on an empty slot, FILL on a full one. -/
def tagBlocks (mode : Nat) (full : Bool) : Bool :=
  match mode with
  | 0 | 1 => !full
  | 2 => full
  | _ => false

/-- What an access that succeeds leaves in the tag (R351). -/
def State.tagAfter (s : State) (q row mode : Nat) : State :=
  match mode with
  | 1 => s.tagChange q row false
  | 2 | 3 => s.tagChange q row true
  | _ => s

/-! ### The control core's accesses (R347, R352, R353) -/

/-- The tag that stops an access at the sync alias: its mode and offset. A store waits while the slot is full, a load while it is empty. -/
def State.coreStops (s : State) (q : Nat) : CoreAct → Option (Nat × Nat)
  | .syncStore o _ => if s.bankServes q (bankOf o) && s.tagHeld q (rowOf o) then some (2, o) else none
  | .syncLoad o => if s.bankServes q (bankOf o) && !s.tagHeld q (rowOf o) then some (1, o) else none
  | _ => none

/-- The access of word `w` is of the slot's last word. -/
def lastWord (o : Nat) : Bool := decide (o % 64 / 8 = 7)

/-- An access that nothing stops. -/
def State.coreDo (s : State) (q : Nat) : CoreAct → State
  | .store o v => s.gatherWrite q o v
  | .syncStore o w =>
    if !s.bankServes q (bankOf o) then s.bankRefused q 2 o
    else
      let s := (wordBytes w).zipIdx.foldl (fun s x => s.gatherWrite q (o / 8 * 8 + x.2) x.1) s
      if lastWord o then (s.gatherRow q (rowOf o)).setTag q (rowOf o) true else s
  | .syncLoad o =>
    if !s.bankServes q (bankOf o) then s.bankRefused q 2 o
    else
      let s := s.bankWake q (bankOf o)
      if lastWord o then (s.gatherRow q (rowOf o)).setTag q (rowOf o) false else s
  | .fence => s.gatherFlush q (fun _ => true)

/-- Accesses in the core's order; one that is stopped holds the core, and those after it wait with it. -/
def State.coreActs (s : State) (q : Nat) : List CoreAct → State
  | [] => s
  | a :: t =>
    match s.coreStops q a with
    | some (m, o) => s.modQuay q (fun y => { y with coreWait := a :: t, tagWaits := y.tagWaits ++ [⟨2, m, o, [], s.now⟩] })
    | none => (s.coreDo q a).coreActs q t

/-- The core's further accesses: behind the ones that wait. -/
def State.coreRun (s : State) (q : Nat) (l : List CoreAct) : State :=
  if (s.quay q).coreWait = [] then s.coreActs q l else s.modQuay q (fun y => { y with coreWait := y.coreWait ++ l })

/-- The stopped access has its slot, or has ended without it; the core goes on. -/
def State.coreGoes (s : State) (q : Nat) (l : List CoreAct) : State :=
  (s.modQuay q (fun y => { y with coreWait := [], tagWaits := y.tagWaits.filter (fun w => decide (w.client ≠ 2)) })).coreActs q l

/-! ### Rings (R354, R355, R374, R384, R385) -/

def ringSize (log2 : Nat) : Nat := 2 ^ (if log2 = 0 then 1 else min log2 16)
def State.ringSlots (s : State) (q n : Nat) : Nat := ringSize (s.get (QY_RING_CFG_LOG2 q n))
def State.ringOcc (s : State) (q n : Nat) : Nat :=
  (s.get (QY_RING_PTR_TAIL q n) + 2 ^ 32 - s.get (QY_RING_PTR_HEAD q n)) % 2 ^ 32
/-- A push and a pop of one ring in one cycle are each judged on the other's counter as it stood when the cycle began (R374). -/
def State.ringPushOcc (s : State) (q n : Nat) : Nat := (s.get (QY_RING_PTR_TAIL q n) + 2 ^ 32 - s.getHeld (QY_RING_PTR_HEAD q n)) % 2 ^ 32
def State.ringPopOcc (s : State) (q n : Nat) : Nat := (s.getHeld (QY_RING_PTR_TAIL q n) + 2 ^ 32 - s.get (QY_RING_PTR_HEAD q n)) % 2 ^ 32
def State.ringPush (s : State) (q n k : Nat) : State := (s.hold (QY_RING_PTR q n)).bump (QY_RING_PTR_TAIL q n) k
def State.ringPop (s : State) (q n k : Nat) : State := (s.hold (QY_RING_PTR q n)).bump (QY_RING_PTR_HEAD q n) k
def State.ringSlot (s : State) (q n i : Nat) : Nat := s.get (QY_RING_CFG_BASE q n) + 64 * (i % s.ringSlots q n)

/-- A write of QY_RING_OP by the control core: RING and COUNT are written, and PUSH or POP is judged (R354, R374). -/
def State.ringOp (s : State) (q ring count : Nat) (push : Bool) : State :=
  let s := (s.put (QY_RING_OP_RING q) ring).put (QY_RING_OP_COUNT q) count
  let r := ring % 32
  let n := if count % 2 ^ 17 = 0 then 1 else count % 2 ^ 17
  if push then
    if s.ringSlots q r < s.ringPushOcc q r + n then s.put (QY_RING_OP_REFUSED q) 1
    else (s.ringPush q r n).put (QY_RING_OP_REFUSED q) 0
  else if s.ringPopOcc q r < n then s.put (QY_RING_OP_REFUSED q) 1
  else (s.ringPop q r n).put (QY_RING_OP_REFUSED q) 0

/-! ### Owners (R343, R365, R641) -/

/-- The kernel table entry of a TAG (R141), 128 bits. -/
def State.ktab (s : State) (q tag : Nat) : Nat :=
  bytesNat (s.readBytes (qsAddr q (s.get (QY_PILOT_BASE_KTAB_OFF q) + 16 * tag)) 16)
def ktKoff (e : Nat) : Nat := e % 2 ^ 32
def ktKlen (e : Nat) : Nat := e / 2 ^ 32 % 2 ^ 14
def ktExclude (e : Nat) : Bool := e.testBit 46
def ktOutLen (e : Nat) : Nat := e / 2 ^ 48 % 2 ^ 16
def ktXaddr (e : Nat) : Nat := e / 2 ^ 64 % 2 ^ 16
def ktXlen (e : Nat) : Nat := e / 2 ^ 80 % 2 ^ 16
def ktEpi (e : Nat) : Nat := e / 2 ^ 96 % 2 ^ 16

/-- Capture berths of a configuration (R158). -/
def State.captBerths (s : State) (q : Nat) : Nat := s.get (QY_PILOT_STAT_CAPT_BERTHS q)

def within (o base len : Nat) : Bool := decide (base ≤ o) && decide (o < base + len)

/-- A kernel image named by the table holds offset `o`. -/
def State.inKernel (s : State) (q o : Nat) : Bool :=
  within o (s.get (QY_PILOT_BASE_KTAB_OFF q)) 4096
    || (s.flag (QY_PILOT_BASE_KTAB_VALID q)
        && (List.range 256).any (fun t => let e := s.ktab q t; decide (ktKlen e ≠ 0) && within o (ktKoff e) (ktKlen e)))

/-- The owner code of offset `o` (R390): 1 descriptor berth, 2 capture berth, 3 kernel, 4 test area, 5 ring, 6 window, 7 resident, 8 other. -/
def State.owner (s : State) (q o : Nat) : Nat :=
  if within o (s.get (QY_PILOT_BASE_DBERTH_OFF q)) 32768 then 1
  else if within o (65536 * s.get (QY_PILOT_BASE_CBERTH_BLK q)) (65536 * s.captBerths q) then 2
  else if s.inKernel q o then 3
  else if within o (s.get (QY_TEST_BASE_OFF q)) (65536 * s.get (QY_TEST_BASE_SIZE q)) then 4
  else if (List.range 32).any (fun n => s.flag (QY_RING_CFG_EN q n) && within o (s.get (QY_RING_CFG_BASE q n)) (64 * s.ringSlots q n)) then 5
  else if (List.range 16).any (fun n => s.flag (QY_WIN_CFG_EN q n) && within o (s.get (QY_WIN_CFG_OFF q n)) (64 * s.get (QY_WIN_CFG_ROWS q n))) then 6
  else if s.flag (QY_STORE_BANK_RESIDENT q (bankOf o)) then 7
  else 8

/-! ### Errors (R365) -/

/-- A corrected word (R365): counts and record. -/
def State.storeCe (s : State) (q o synd : Nat) : State :=
  let s := (s.count (QY_STORE_BANK_CE q (bankOf o)) 1).count (QY_STORE_ECC_CE_TOTAL q) 1
  s.logQuay q 0x0801 o synd (s.get (QY_STORE_BANK_CE q (bankOf o))) 0

/-- An uncorrectable word is reported (R365): counts, UE_OFF and record; the owner's consequence follows elsewhere. -/
def State.storeUeNote (s : State) (q o client : Nat) : State :=
  let s := s.count (QY_STORE_BANK_UE q (bankOf o)) 1
  let s := (s.put (QY_STORE_ECC_UE_OFF q) o).put (QY_STORE_ECC_UE_VALID q) 1
  let s := s.modQuay q (fun t => { t with badWords := tabSet (fun _ => false) t.badWords (o / 8 * 8) true })
  s.logQuay q 0x0802 o (s.owner q o) client s.tick32

/-- A row repair is in progress: it takes 2 cc (R367, R383). -/
def State.repairing (s : State) (q : Nat) : Bool := match (s.quay q).repairAt with | some m => decide (s.since m < 2) | none => false

/-- STORE_REPAIR (R367, R368, R383). -/
def State.storeRepair (s : State) (q bank row : Nat) : State :=
  if s.repairing q then s.pageErr (qyAddr q 0x8000) errBusy
  else
  let s := s.modQuay q (fun t => { t with repairAt := some s.now })
  let s := (s.put (QY_STORE_REPAIR_BANK q) bank).put (QY_STORE_REPAIR_ROW q) row
  let bank := bank % 32
  let row := row % 2 ^ 13
  let base := bank * bankBytes + 64 * row
  let used := ((s.quay q).repairs.filter (fun x => decide (x.1 = bank))).length
  if 32 ≤ used then ((s.put (QY_STORE_REPAIR_FULL q) 1).put (QY_STORE_REPAIR_DONE q) 1).logQuay q 0x0804 bank row 0 0
  else
    let lost := (List.range 8).any (fun i => tabGet (fun _ => false) (s.quay q).badWords (base + 8 * i))
    let s := if lost then (s.dropCells (qsAddr q base) (qsAddr q (base + 64))).setTag q (rowOf base) false else s
    let s := s.modQuay q (fun t => { t with
      repairs := t.repairs ++ [(bank, row)]
      badWords := t.badWords.filter (fun x => decide (rowOf x.1 ≠ rowOf base))
      ceRuns := tabSet (fun _ => 0) t.ceRuns (rowOf base) 0 })
    let s := (s.put (QY_STORE_BANK_REPAIRS q bank) (used + 1)).put (QY_STORE_REPAIR_FULL q) 0
    let s := (s.put (QY_STORE_REPAIR_LOST q) (bit lost)).put (QY_STORE_REPAIR_DONE q) 1
    s.logQuay q 0x0803 bank row used (bit lost)

/-! ### Rings of the harbour store: notes (R198, R531) -/

/-- Write `words` at the ring's write offset; gives the new offset, or none where the free space, (RD − WR − 64) mod size, is smaller. -/
def State.ringPut (s : State) (base size wr rd : Nat) (words : List (BitVec 64)) : State × Option Nat :=
  let len := 8 * words.length
  let room := (rd + 2 * size - wr - 64) % size
  if room < len then (s, none)
  else (s.writeWords (hsAddr (base + wr)) words, some ((wr + len) % size))

/-- The notifier (R531): a note of kind `kind` that names quay, partner, tile, logical core and detail. -/
def State.note (s : State) (kind quay partner p l detail : Nat) : State :=
  let w0 := kind + s.get HM_TRIPLEX_ID_WAFER * 2 ^ 8 + quay % 64 * 2 ^ 16 + partner % 64 * 2 ^ 22
  let words := [w0, s.tide, s.jt, p % 2 ^ 20 + l % 2 ^ 20 * 2 ^ 20, detail, 0, 0, 0].map (BitVec.ofNat 64)
  let size := 65536 * s.get HM_RST_NOTE_BASE_SIZE
  let wr := s.get HM_RST_NOTE_WR_WR
  let rd := s.getHeld HM_RST_NOTE_RD_RD
  match s.ringPut (s.get HM_RST_NOTE_BASE_OFF) size wr rd words with
  | (s, some w) =>
    let s := s.put HM_RST_NOTE_WR_WR w
    if s.flag HM_RST_CTL_NOTE_IRQ then s.irq irqNote else s
  | (s, none) => s.logHm 0x0C11 kind ((rd + 2 * size - wr - 64) % size) 0 s.tick32

/-! ### Remote windows (R362, R363) -/

/-- A remote write packet. -/
structure Packet where
  wafer : Nat
  win : Nat
  off : Nat
  seq : Nat
  tag : BitVec 64
  rows : List (List (BitVec 64))
  deriving DecidableEq, Repr

/-- The message a packet's tag is computed over (R362): wafer ID, window, offset, row count, sequence number and data. The spec gives the
order of the parts and not their widths; the model uses whole bytes, lowest first. -/
def Packet.message (k : Packet) : List (BitVec 8) :=
  let num := fun (v n : Nat) => (List.range n).map (fun i => BitVec.ofNat 8 (v / 2 ^ (8 * i)))
  num k.wafer 1 ++ num k.win 1 ++ num k.off 4 ++ num k.rows.length 1 ++ num k.seq 4 ++ k.rows.flatMap (fun r => r.flatMap wordBytes)

/-- The first 64 bits of HMAC-SHA-256 under a window key (R362). -/
def Packet.mac (k : Packet) (key : BitVec 256) : BitVec 64 :=
  BitVec.ofNat 64 ((Config.hmacSha256 key k.message).toNat / 2 ^ 192)

/-- The sequence check of R363: (SEQ − LAST_SEQ) mod 2³² between 1 and 2³¹. -/
def seqOk (seq last : Nat) : Bool :=
  let d := (seq % 2 ^ 32 + 2 ^ 32 - last % 2 ^ 32) % 2 ^ 32
  decide (1 ≤ d) && decide (d ≤ 2 ^ 31)

/-- The first failing check of R363 at window `k.win` of quay `q`, 0 for none, under the settings the cycle began with (R378); `key` is the window key KEY_SEL names, if one is held. -/
def State.winReason (s : State) (q : Nat) (k : Packet) (key : Option (BitVec 256)) : Nat :=
  let w := k.win % 16
  let base := s.getHeld (QY_WIN_CFG_OFF q w)
  let lo := base + k.off
  if s.getHeld (QY_WIN_CFG_EN q w) = 0 then 1
  else if !(s.getHeld (QY_WIN_CFG_WAFERS q w)).testBit k.wafer then 2
  else if 64 * s.getHeld (QY_WIN_CFG_ROWS q w) < k.off + 64 * k.rows.length then 3
  else if !(List.range (k.rows.length)).all (fun i => [bkOn, bkRetain].contains (s.bankState q (bankOf (lo + 64 * i)))) then 4
  else if !seqOk k.seq (s.get (QY_WIN_STAT_LAST_SEQ q w)) then 5
  else if decide (s.getHeld (QY_WIN_CFG_AUTH q w) ≠ 0) && (match key with | some x => decide (k.mac x ≠ k.tag) | none => true) then 6
  else 0

/-- A packet at a quay window (R363, R373): written whole, or refused with a reason. -/
def State.winPacket (s : State) (q : Nat) (k : Packet) (key : Option (BitVec 256)) : State :=
  let w := k.win % 16
  let r := s.winReason q k key
  let lo := s.getHeld (QY_WIN_CFG_OFF q w) + k.off
  if r ≠ 0 then
    let s := (s.count (QY_WIN_STAT_REFUSED q w) 1).put (QY_WIN_STAT_REASON q w) r
    let s := s.logQuay q 0x0809 w k.wafer r k.seq
    let s := if r = 4 then s.bankRefused q 1 lo else s
    s.emit (.winAnswer q w r)
  else
    let s := (k.rows.zipIdx).foldl (fun s x =>
      let o := lo + 64 * x.2
      let s := (s.bankWake q (bankOf o)).gatherRow q (rowOf o)
      let s := (s.holdRow (qsAddr q o)).writeWords (qsAddr q o) (x.1.take 8)
      if s.getHeld (QY_WIN_CFG_SETFULL q w) ≠ 0 then s.tagChange q (rowOf o) true else s) s
    let s := (s.put (QY_WIN_STAT_LAST_SEQ q w) k.seq).count (QY_WIN_STAT_ACCEPTED q w) 1
    s.emit (.winAnswer q w 0)

end Sys2Proof.Machine
end

