-- ==== Sys2Proof/Machine/Areas.lean ====
section
/-!
DEFINITION. The regions that registers place in the harbour store and in the quay stores (R343, R641, R655): a page, the offset of the register that
places the region, the region's byte offset and its length.
-/

namespace Sys2Proof.Machine

/-- A placed region. -/
structure Area where
  page : Nat
  reg : Nat
  base : Nat
  len : Nat
  deriving DecidableEq, Repr

/-- Byte offset `o` lies in the region. -/
def Area.has (a : Area) (o : Nat) : Bool := decide (a.base ≤ o) && decide (o < a.base + a.len)

/-- Two regions overlap. -/
def Area.meets (a b : Area) : Bool :=
  decide (0 < a.len) && decide (0 < b.len) && decide (a.base < b.base + b.len) && decide (b.base < a.base + a.len)

/-- Physical tile numbers run below this (R7). -/
def State.tileSpan (s : State) : Nat := 1024 * 120 * ((s.nQuays + 7) / 8)

/-- Logical cores (R269). -/
def State.logicals (s : State) : Nat :=
  let rows := ((List.range 120).filter (fun r =>
    if r < 64 then (s.get (QY_SPARE_ROWS0_ROWS 0)).testBit r else (s.get (QY_SPARE_ROWS1_ROWS 0)).testBit (r - 64))).length
  s.nQuays * (15360 - 128 * rows)

/-- Regions of the harbour store (R641): Customs queue and harvest ring, Manifest, test results, group table, dump staging, notes, windows. -/
def State.hmAreas (s : State) : List Area :=
  [ ⟨12, 0x050, s.get HM_CUS_QBASE_QOFF, 16384⟩,
    ⟨12, 0x058, s.get HM_CUS_HARV_BASE_OFF, 65536 * s.get HM_CUS_HARV_BASE_SIZE⟩,
    ⟨14, 0x050, s.get HM_MANIFEST_BASE_L2P_OFF, 4 * s.logicals⟩,
    ⟨14, 0x050, s.get HM_MANIFEST_BASE_TILE_OFF, 4 * s.tileSpan⟩,
    ⟨14, 0x058, s.get HM_DEFECT_BASE_OFF, 16 * s.get HM_DEFECT_BASE_MAX⟩,
    ⟨15, 0x050, s.get HM_TEST_RES_BASE_OFF, 65536 * s.get HM_TEST_RES_BASE_SIZE⟩,
    ⟨17, 0x090, s.get HM_HAWSER_GTAB_OFF, 2048⟩,
    ⟨21, 0x060, s.get HM_RST_DUMP_OFF, 2097152⟩,
    ⟨21, 0x070, s.get HM_RST_NOTE_BASE_OFF, 65536 * s.get HM_RST_NOTE_BASE_SIZE⟩ ]
  ++ ((List.range 8).filter (fun w => s.flag (HM_WIN_CFG_EN w))).map (fun w => ⟨25, 0x100 + 16 * w, s.get (HM_WIN_CFG_OFF w), 64 * s.get (HM_WIN_CFG_ROWS w)⟩)

/-- Kernel images named by a quay's kernel table (R141, R176). -/
def State.images (s : State) (q : Nat) : List Area :=
  if s.flag (QY_PILOT_BASE_KTAB_VALID q) then
    (List.range 256).filterMap (fun t =>
      let e := s.ktab q t
      if ktKlen e = 0 then none else some ⟨5, 0x058, ktKoff e, ktKlen e⟩)
  else []

/-- Regions of a quay store that host writes must leave alone while the harbour is open (R641), but for the kernel images. -/
def State.quayAreas (s : State) (q : Nat) : List Area :=
  [ ⟨5, 0x058, s.get (QY_PILOT_BASE_KTAB_OFF q), 4096⟩,
    ⟨5, 0x058, s.get (QY_PILOT_BASE_DBERTH_OFF q), 32768⟩,
    ⟨5, 0x058, 65536 * s.get (QY_PILOT_BASE_CBERTH_BLK q), 65536 * s.captBerths q⟩,
    ⟨7, 0x040, s.get (QY_TEST_BASE_OFF q), 65536 * s.get (QY_TEST_BASE_SIZE q)⟩ ]
  ++ ((List.range 32).filter (fun n => s.flag (QY_RING_CFG_EN q n))).map (fun n => ⟨9, 0x040 + 16 * n, s.get (QY_RING_CFG_BASE q n), 64 * s.ringSlots q n⟩)
  ++ ((List.range 16).filter (fun n => s.flag (QY_WIN_CFG_EN q n))).map (fun n => ⟨10, 0x040 + 16 * n, s.get (QY_WIN_CFG_OFF q n), 64 * s.get (QY_WIN_CFG_ROWS q n)⟩)
  ++ (if s.flag HM_LOCKSTEP_CTL_EN then [⟨10, 0x068, s.get HM_LOCKSTEP_QAREA_OFF, 245760⟩] else [])

/-- A bank is resident: only in W64 (R371). -/
def State.resident (s : State) (q b : Nat) : Bool := decide (s.sp.variant = .w64) && s.flag (QY_STORE_BANK_RESIDENT q b)

/-- The resident banks as regions (R343). -/
def State.residents (s : State) (q : Nat) : List Area :=
  ((List.range (s.banks q)).filter (fun b => s.resident q b)).map (fun b => ⟨8, 0x050 + 8 * b, bankBytes * b, bankBytes⟩)

/-- The first region of quay `q` that extends past the store or overlaps another (R343); two TAGs may share an image. -/
def State.badArea (s : State) (q : Nat) : List Area :=
  let l := (s.quayAreas q ++ s.residents q).zipIdx
  let k := s.images q
  let bad := fun (x : Area × Nat) =>
    decide (s.storeBytes q < x.1.base + x.1.len) || l.any (fun y => decide (y.2 ≠ x.2) && x.1.meets y.1) || k.any (fun y => x.1.meets y)
  (l.filter bad).map (·.1) ++ k.filter (fun y => decide (s.storeBytes q < y.base + y.len))

/-- The bank holds part of a configured region (R371). -/
def State.bankUsed (s : State) (q b : Nat) : Bool :=
  (s.quayAreas q ++ s.images q).any (fun a => a.meets ⟨8, 0, bankBytes * b, bankBytes⟩)

end Sys2Proof.Machine
end

