-- ==== Sys2Proof/Machine/Checksum.lean ====
section
/-!
DEFINITION. The tile checksums (chapter 03): the descriptor's fields, the panel sums, the result sums, the tolerances and the decision
when a checked tile closes. Pure functions of one open tile.
-/

namespace Sys2Proof.Machine

/-! ### The descriptor (R55) -/

def dM (d : BitVec 64) : Nat := d.toNat % 256 + 1
def dN (d : BitVec 64) : Nat := d.toNat / 2 ^ 8 % 256 + 1
def dK (d : BitVec 64) : Nat := d.toNat / 2 ^ 16 % 512 + 1
def dFmt (d : BitVec 64) : Nat := d.toNat / 2 ^ 25 % 16
def dChk (d : BitVec 64) : Bool := d.toNat.testBit 29
def dPred (d : BitVec 64) : Bool := d.toNat.testBit 30
def dSparse (d : BitVec 64) : Bool := d.toNat.testBit 31
def dSeq (d : BitVec 64) : Nat := d.toNat / 2 ^ 32 % 256
def dTag (d : BitVec 64) : Nat := d.toNat / 2 ^ 40 % 256

/-- The reason found at the DESC beat among the first, second, third and sixth cases of R58, the lowest number first; 0 for none. -/
def descReason (d : BitVec 64) (full : Bool) : Nat :=
  if 8 ≤ dFmt d then 1
  else if d.toNat / 2 ^ 48 ≠ 0 then 2
  else if dFmt d = fmtMxfp4 ∧ dK d % 32 ≠ 0 then 3
  else if full then 6 else 0

/-- The fourth case, judged at the ADDR beat (R56, R58). -/
def addrBad (d w : BitVec 64) : Bool :=
  let f := fun i => w.toNat / 2 ^ (16 * i) % 2 ^ 16
  let bad := fun a => decide (a % 8 ≠ 0) || decide (0xFF80 ≤ a)
  bad (f 0) || bad (f 1) || bad (f 2) || bad (f 3) || (!dPred d && decide (f 3 ≠ 0))

/-- A tile just opened. -/
def OpenTile.start (d : BitVec 64) (tick bad : Nat) (unchecked : Bool) : OpenTile :=
  { desc := d, addr := none, tick := tick, bad := bad, judged := decide (bad ≠ 0) || unchecked, unchecked := unchecked || !dChk d,
    miscount := false, touched := false, panels := [], closedPanels := 0, donePanels := [], foldAt := ⟨0, 0, 0⟩,
    foldBase := (.zero, .zero, .zero, .zero), foldNow := [], scaleA := [], scaleB := [],
    taintRows := [], taintCols := [], e := .zero, ew := .zero, m := .zero, mw := .zero, sc := .zero, sw := .zero, wb := 0,
    outOfRange := false, nfResults := [], sig := 0, sample := none }

/-- A panel before its first beat. -/
def PanelSt.start (l : Nat) : PanelSt :=
  ⟨l, 0, 0, false, false, .zero, .zero, .zero, .zero, .zero, .zero, .zero, .zero⟩

/-- Lane `t` of a beat of elements `w` bits wide. -/
def lane (data : BitVec 256) (w t : Nat) : Nat := data.toNat / 2 ^ (w * t) % 2 ^ w

/-- One element of A or B folded into its panel: plain, weighted and magnitude sums (R106, R109); a non-finite element enters no
magnitude (R117). -/
def PanelSt.addElem (pn : PanelSt) (fmt : Nat) (isB : Bool) (w : Int) (x : Num) : PanelSt :=
  let wx := (Num.ofInt w).mul x
  let ax := x.abs
  let wax := wx.abs
  if isB then
    { pn with bCnt := pn.bCnt + 1, b := ckAdd fmt false pn.b x, bw := ckAdd fmt false pn.bw wx,
              be := if x.isFin then ckAdd fmt true pn.be ax else pn.be, bew := if x.isFin then ckAdd fmt true pn.bew wax else pn.bew }
  else
    { pn with aCnt := pn.aCnt + 1, a := ckAdd fmt false pn.a x, aw := ckAdd fmt false pn.aw wx,
              al := if x.isFin then ckAdd fmt true pn.al ax else pn.al, alw := if x.isFin then ckAdd fmt true pn.alw wax else pn.alw }

/-- Fold a closed panel into E, E_W, M and M_W (R110). -/
def foldOne (fmt : Nat) (x : Num × Num × Num × Num) (pn : PanelSt) : Num × Num × Num × Num :=
  (ckAdd fmt false x.1 (ckMul fmt false pn.a pn.b),
   ckAdd fmt false x.2.1 (ckMul fmt false pn.aw pn.bw),
   if fmt = fmtInt8 then x.2.2.1 else ckAdd fmt true x.2.2.1 (ckMul fmt true pn.al pn.be),
   if fmt = fmtInt8 then x.2.2.2 else ckAdd fmt true x.2.2.2 (ckMul fmt true pn.alw pn.bew))

/-- Insert a panel before the first with a larger l. -/
def insPanel (pn : PanelSt) : List PanelSt → List PanelSt
  | [] => [pn]
  | x :: t => if pn.l < x.l then pn :: x :: t else x :: insPanel pn t

/-- A panel closes at moment `now`: it is folded with the panels that closed in the same cycle, in ascending l (R110). -/
def OpenTile.foldPanel (t : OpenTile) (now : Moment) (pn : PanelSt) : OpenTile :=
  let again := decide (t.foldAt = now) && !t.foldNow.isEmpty
  let base := if again then t.foldBase else (t.e, t.ew, t.m, t.mw)
  let pans := if again then insPanel pn t.foldNow else [pn]
  let r := pans.foldl (foldOne (dFmt t.desc)) base
  { t with e := r.1, ew := r.2.1, m := r.2.2.1, mw := r.2.2.2, foldAt := now, foldBase := base, foldNow := pans,
           closedPanels := t.closedPanels + 1, donePanels := pn.l :: t.donePanels }

/-- The tile is past its operand phase: all k panels are closed. -/
def OpenTile.operandsDone (t : OpenTile) : Bool := decide (dK t.desc ≤ t.closedPanels)

/-- A scale beat (R62): up to 32 scales, for rows or columns from `idx`, for the block of panel `l`. -/
def OpenTile.scaleBeat (t : OpenTile) (isB : Bool) (data : BitVec 256) (lanes l idx : Nat) : OpenTile :=
  let put := fun (tb : Tab (Nat × Nat)) =>
    (List.range (min lanes 32)).foldl (fun tb i => tabSet (fun _ => (512, 0)) tb (idx + i) (l / 32, lane data 8 i)) tb
  if isB then { t with scaleB := put t.scaleB } else { t with scaleA := put t.scaleA }

/-- The value of element `i` of a beat: scaled for MXFP4 (R116); `none` when its block has no scale (R62). -/
def OpenTile.elem (t : OpenTile) (isB : Bool) (l i c : Nat) : Option Num :=
  let x := decElem (dFmt t.desc) c
  if dFmt t.desc = fmtMxfp4 then
    let (blk, code) := tabGet (fun _ => (512, 0)) (if isB then t.scaleB else t.scaleA) i
    if blk = l / 32 then some (x.mul (decE8m0 code)) else none
  else some x

/-- An element beat of panel `l` at moment `now` (R60). Gives the tile and whether the beat broke a count. A panel counts as open from its first beat
to its close (DESIGN CHOICE, notes/assumptions/123.md). -/
def OpenTile.elemBeat (t : OpenTile) (now : Moment) (isB : Bool) (data : BitVec 256) (lanes l idx : Nat) (lend : Bool) : OpenTile × Bool :=
  let d := t.desc
  let wt := weightList 512 (weightSeed t.tick (dSeq d))
  let late := t.panels.any (fun pn => decide (pn.l + 4 ≤ l)) || t.donePanels.contains l || decide (dK d ≤ l)
  if late then (t, true)
  else
    let pn := (t.panels.find? (fun pn => pn.l = l)).getD (PanelSt.start l)
    let r := (List.range lanes).foldl (fun (acc : OpenTile × PanelSt × Bool) k =>
      let (t, pn, miss) := acc
      let i := idx + k
      match t.elem isB l i (lane data (elemBits (dFmt d)) k) with
      | none => (t, pn.addElem (dFmt d) isB 0 .zero, true)
      | some x =>
        let w := if isB then colWeight wt i else rowWeight wt i
        let t := if x.isFin then t
          else if isB then { t with taintCols := i :: t.taintCols.erase i } else { t with taintRows := i :: t.taintRows.erase i }
        (t, pn.addElem (dFmt d) isB w x, miss)) (t, pn, false)
    let t := r.1
    let pn := if isB then { r.2.1 with bEnd := r.2.1.bEnd || lend } else { r.2.1 with aEnd := r.2.1.aEnd || lend }
    let others := t.panels.filter (fun x => x.l ≠ l)
    if pn.aEnd && pn.bEnd then
      ({ t with panels := others }.foldPanel now pn, r.2.2 || decide (pn.aCnt ≠ dM d) || decide (pn.bCnt ≠ dN d))
    else ({ t with panels := others ++ [pn] }, r.2.2)

/-- The 36-byte message of a write-back beat (R64). -/
def wbBytes (fmt : Nat) (data : BitVec 256) (lanes i j : Nat) : List Nat :=
  bytesOf (i % 256 + j % 256 * 2 ^ 8 + lanes % 16 * 2 ^ 16) 4 ++ bytesOf (data.toNat % 2 ^ (resBits fmt * lanes)) 32

/-- The signature contribution of a write-back beat (R64). -/
def wbSig (fmt : Nat) (data : BitVec 256) (lanes i j : Nat) : BitVec 64 := BitVec.ofNat 64 (crc64 (wbBytes fmt data lanes i j))

/-- A write-back beat added to S_C and S_W, the range check and the pattern of non-finite results (R106, R109, R115, R117).
Lanes past m × n are not taken (R63). -/
def OpenTile.wbBeat (t : OpenTile) (data : BitVec 256) (lanes i j : Nat) : OpenTile :=
  let d := t.desc
  let fmt := dFmt d
  let wt := weightList 512 (weightSeed t.tick (dSeq d))
  let t := { t with sig := t.sig ^^^ wbSig fmt data lanes i j }
  (List.range lanes).foldl (fun t k =>
    if dM d * dN d ≤ t.wb then t
    else
      let c := decRes fmt (lane data (resBits fmt) k)
      let w := rowWeight wt i * colWeight wt (j + k)
      let lo : Int := -16256 * dK d
      let hi : Int := 16384 * dK d
      let out := decide (fmt = fmtInt8) && !(Num.le (.ofInt lo) c && Num.le c (.ofInt hi))
      { t with
        wb := t.wb + 1
        sc := ckAdd fmt false t.sc c
        sw := ckAdd fmt false t.sw ((Num.ofInt w).mul c)
        outOfRange := t.outOfRange || out
        nfResults := if c.isFin then t.nfResults else (i * 256 + (j + k)) :: t.nfResults }) t

/-! ### The tile decision -/

/-- ⌈log₂ n⌉ (R111). -/
def ceilLog2 (n : Nat) : Nat := if n ≤ 1 then 0 else Nat.log2 (n - 1) + 1

/-- The tolerance fields of R133. -/
structure TolFld where
  extra : Nat
  uscale : Nat
  ftz : Bool
  deriving DecidableEq, Repr

/-- τ (or τ_W with `wf` = 261,121): the operations of R111 from left to right, each rounded toward +∞ (R110). -/
def tolerance (d : BitVec 64) (tol : TolFld) (wf : Nat) (m : Num) : Num :=
  let fmt := dFmt d
  let up := fun x y => ckMul fmt true x y
  let u : Num := .fin 1 (if fmt = fmtFp64 then -53 else -24)
  let emin : Int := if fmt = fmtFp64 then -1022 else -126
  let a := up (up (up (.ofInt ((dK d + ceilLog2 (dM d * dN d) + 4 + tol.extra : Nat))) (.fin 1 tol.uscale)) u) m
  if tol.ftz then
    let b := if wf = 1 then up (up (.ofInt (dM d)) (.ofInt (dN d))) (.ofInt (dK d))
      else up (up (up (.ofInt wf) (.ofInt (dM d))) (.ofInt (dN d))) (.ofInt (dK d))
    ckAdd fmt true a (up b (.fin 1 emin))
  else a

/-- Half of the largest finite value of the accumulator format (R117, R118). -/
def halfOmega (fmt : Nat) : Num := if fmt = fmtFp64 then .fin (2 ^ 53 - 1) 970 else .fin (2 ^ 24 - 1) 103

/-- What the decision gives: tile causes, the reason of TILE_UNCHECKED_NF, and what the message carries. -/
structure Verdict where
  causes : List Nat
  nfReason : Nat
  broken : Nat
  weighted : Bool
  resid : Num
  tau : Num
  mag : Num
  deriving DecidableEq, Repr

/-- Results that break the pattern of R117: finite ones in a tainted row or column, and, unless overflow is possible, non-finite ones elsewhere. -/
def OpenTile.brokenCount (t : OpenTile) (overflow : Bool) : Nat :=
  let tainted := fun x => t.taintRows.contains (x / 256) || t.taintCols.contains (x % 256)
  let clean := (dM t.desc - t.taintRows.length) * (dN t.desc - t.taintCols.length)
  let expected := dM t.desc * dN t.desc - clean
  let nfIn := (t.nfResults.filter tainted).length
  let nfOut := t.nfResults.length - nfIn
  (expected - nfIn) + (if overflow then 0 else nfOut)

/-- A numeric test fails: its residual is not at most its tolerance (R112). -/
def testFails (s e resid tau : Num) : Bool :=
  !(s.isFin && e.isFin && resid.isFin && resid.abs.le tau)

/-- The tile decision (R112 to R119), with the DESC or COUNT the tile already has. A tile that alarms with DESC or COUNT alone reports S_C - E, τ and M of
the sums as they stand (DESIGN CHOICE, notes/assumptions/128.md). -/
def OpenTile.decision (t : OpenTile) (tol : TolFld) (rangeEn : Bool) : Verdict :=
  let d := t.desc
  let fmt := dFmt d
  let res := ckAdd fmt false t.sc t.e.neg
  let resW := ckAdd fmt false t.sw t.ew.neg
  let tau := if fmt = fmtInt8 then .zero else tolerance d tol 1 t.m
  let tauW := if fmt = fmtInt8 then .zero else tolerance d tol 261121 t.mw
  let plain : Verdict := ⟨[], 0, 0, false, res, tau, t.m⟩
  let pre := (if t.bad ≠ 0 then [5] else []) ++ (if t.miscount then [4] else [])
  if pre ≠ [] then { plain with causes := pre }
  else if t.unchecked then plain
  else if fmt = fmtInt8 then
    let cs := (rangeEn && t.outOfRange) || decide (res ≠ .zero)
    let ws := decide (resW ≠ .zero)
    { plain with
      causes := (if cs then [1] else []) ++ (if ws then [2] else [])
      weighted := ws && !cs
      resid := if ws && !cs then resW else res }
  else if t.taintRows ≠ [] ∨ t.taintCols ≠ [] then
    let n := t.brokenCount (!t.m.le (halfOmega fmt))
    { plain with causes := if n = 0 then [] else [3], nfReason := 1, broken := n }
  else if t.nfResults ≠ [] then
    if !t.m.le (halfOmega fmt) then { plain with nfReason := 2 }
    else { plain with causes := [3], broken := t.nfResults.length }
  else if !t.m.isFin then { plain with nfReason := 4 }
  else
    let cs := testFails t.sc t.e res tau
    let ws := t.mw.isFin && testFails t.sw t.ew resW tauW
    let v : Verdict := { plain with
      causes := (if cs then [1] else []) ++ (if ws then [2] else []), nfReason := if t.mw.isFin then 0 else 3 }
    if ws && !cs then { v with weighted := true, resid := resW, tau := tauW, mag := t.mw } else v

end Sys2Proof.Machine
end

