-- ==== Sys2Proof/Machine/Bollard.lean ====
section
/-!
DEFINITION. The Bollard (chapter 02): the tile sideband and the taps, the tick verdict and the report frame, core and router errors, the compute
domain, wake and sleep, the ingress guard and the side-port.
-/

namespace Sys2Proof.Machine

/-! ### Fields of BOL_OPEN in the layout of W0 (R66) -/

def openClean (p : Nat) : Fld := ⟨BOL_OPEN p, 0, 1⟩
def openCauses (p : Nat) : Fld := ⟨BOL_OPEN p, 0, 16⟩
def openTilesCnt (p : Nat) : Fld := ⟨BOL_OPEN p, 16, 12⟩
def openNsamp (p : Nat) : Fld := ⟨BOL_OPEN p, 28, 3⟩
def openProg (p : Nat) : Fld := ⟨BOL_OPEN p, 31, 1⟩
def openSeq (p n : Nat) : Fld := ⟨BOL_OPEN p, 32 + 8 * n, 8⟩

/-- A mark of progress (R75). -/
def State.progressAt (s : State) (p : Nat) : State :=
  (s.modTile p (fun t => { t with progress := true })).put (openProg p) 1

/-- Show the open tiles in BOL_CTX (R95). With no tile in its operand phase, or no panel open, PANEL shows 0 (DESIGN CHOICE,
notes/assumptions/125.md). -/
def State.showCtx (s : State) (p : Nat) : State :=
  let t := s.tile p
  let cur := t.opens.find? (fun o => !o.operandsDone)
  let panel := match cur with
    | some o => (o.panels.map (·.l)).foldl min (if o.panels.isEmpty then 0 else 511)
    | none => 0
  (s.put (BOL_CTX_OPEN p) t.opens.length).put (BOL_CTX_PANEL p) panel

/-- Replace the open tile at position `n`. -/
def State.setOpen (s : State) (p n : Nat) (o : OpenTile) : State :=
  s.modTile p (fun t => { t with opens := t.opens.set n o })

/-- The tolerance settings a Bollard holds: those of its quay's checksum page (R131, R133). -/
def State.tol (s : State) (p fmt : Nat) : TolFld :=
  let q := quayOf p
  ⟨s.get (QY_CSUM_TOL_F_EXTRA q fmt), s.get (QY_CSUM_TOL_F_USCALE q fmt), s.flag (QY_CSUM_TOL_F_FTZ q fmt)⟩

/-- The alarm message of a tile (R127). -/
def mkAlarm (p : Nat) (o : OpenTile) (v : Verdict) : AlarmMsg :=
  let i8 := decide (dFmt o.desc = fmtInt8)
  { p := p, desc := o.desc, tick := o.tick, seq := dSeq o.desc
    causes := (v.causes.map (fun c => 2 ^ c)).sum
    weighted := v.weighted
    resid := if i8 then (match v.resid with | .fin m _ => BitVec.ofInt 64 m | _ => 0) else toFp64 false v.resid
    tau := if i8 then 0 else toFp64 true v.tau
    mag := if i8 then 0 else toFp64 true v.mag
    ratio := if i8 then 0xFFFFFFFF else ratio16 v.resid.abs v.tau
    resid32 := if i8 then (match v.resid with | .fin m _ => m.toNat % 2 ^ 32 | _ => 0) else toFp32 false v.resid
    tau32 := if i8 then 0 else toFp32 true v.tau
    broken := v.broken, badReason := o.bad, nfReason := v.nfReason, repeatTick := none }

/-- A message goes out whatever the Bollard's ROLE and CHECK_EN are (DESIGN CHOICE, notes/assumptions/130.md). -/
def State.sendAlarm (s : State) (m : AlarmMsg) : State := { s with alarms := s.alarms ++ [m] }

/-- A message that carries no numeric result: residual, τ and M are 0 (DESIGN CHOICE, notes/assumptions/128.md). -/
def bareAlarm (p : Nat) (desc : BitVec 64) (tick seq causes bad : Nat) (rep : Option Nat) : AlarmMsg :=
  ⟨p, desc, tick, seq, causes, false, 0, 0, 0, 0, 0, 0, 0, bad, 0, rep⟩

/-- A beat that cannot be attributed: discarded, cause COUNT, and a COUNT_FAULT with descriptor 0 and SEQ 0xFF (R693). -/
def State.strayBeat (s : State) (p : Nat) : State :=
  (s.cause p cCount).sendAlarm (bareAlarm p 0 s.jt 0xFF (2 ^ cCount) 0 none)

/-- An invalid descriptor (R58): a repeat of the tick's earlier run is run unchecked, otherwise cause DESC. Gives whether it is a repeat. -/
def State.invalid (s : State) (p : Nat) (d : BitVec 64) : State × Bool :=
  let rep := s.flag (BOL_INVAL_VALID p) && decide (s.get (BOL_INVAL_TICK p) = s.jt) && decide (s.get (BOL_INVAL_SEQ p) = dSeq d)
    && decide ((s.tile p).invalRun ≠ s.commit.recallsOpen)
  if rep then (s.sendAlarm (bareAlarm p d s.jt (dSeq d) 0 0 (some (s.get (BOL_INVAL_TICK p)))), true)
  else
    let s := s.cause p cDesc
    let s := ((s.put (BOL_INVAL_TICK p) s.jt).put (BOL_INVAL_SEQ p) (dSeq d)).put (BOL_INVAL_VALID p) 1
    (s.modTile p (fun t => { t with invalRun := s.commit.recallsOpen }), false)

/-- SIDEBAND_DESC (R54, R57, R58, R694). An invalid descriptor that opens a tile is loaded into BOL_DESC as well (DESIGN CHOICE, notes/assumptions/126.md). -/
def State.descBeat (s : State) (p : Nat) (d : BitVec 64) : State :=
  if !s.cdomOk p then s
  else
    let full := decide (4 ≤ (s.tile p).opens.length)
    let reason := descReason d full
    let s := s.put (BOL_CTX_NEXT_SEQ p) (dSeq d + 1)
    if full then
      let (s, rep) := s.invalid p d
      match (s.tile p).refused with
      | some _ => s.cause p cCount
      | none => s.modTile p (fun t => { t with refused := some ⟨d, s.jt, t.opens.length, reason, true, rep, 0, 0, 0, 0, 0⟩ })
    else
      let (s, rep) := if reason = 0 then (s, false) else s.invalid p d
      let s := s.setWord (BOL_DESC p) d
      let o := OpenTile.start d s.jt (if rep then 0 else reason) rep
      (s.modTile p (fun t => { t with opens := t.opens ++ [o] })).showCtx p

/-- The tile that awaits its address beat: the most recently opened one, when it has none (R693). -/
def TileSt.awaitsAddr (t : TileSt) : Option Nat :=
  match t.opens.getLast? with
  | some o => if o.addr.isNone then some (t.opens.length - 1) else none
  | none => none

/-- The refused tile, when no tile has been opened after it. -/
def TileSt.lastRefused (t : TileSt) : Option RefusedTile :=
  match t.refused with
  | some r => if t.opens.length ≤ r.after then some r else none
  | none => none

/-- SIDEBAND_ADDR, the Bollard's own part (R56, R58, R693, R694). Gives the index of the tile it belongs to. -/
def State.addrBeat (s : State) (p : Nat) : State × Option Nat :=
  let t := s.tile p
  match t.lastRefused with
  | some r =>
    if r.addrDue then (s.modTile p (fun t => { t with refused := some { r with addrDue := false } }), none)
    else (s.strayBeat p, none)
  | none =>
    match t.awaitsAddr with
    | none => (s.strayBeat p, none)
    | some n => (s, some n)

/-- The address beat taken by open tile `n`. -/
def State.takeAddr (s : State) (p n : Nat) (w : BitVec 64) : State :=
  match (s.tile p).opens[n]? with
  | none => s
  | some o =>
    let s := s.setWord (BOL_ADDR p) w
    if !o.judged && addrBad o.desc w then
      let (s, rep) := s.invalid p o.desc
      s.setOpen p n { o with addr := some w, judged := true, bad := if rep then 0 else 4, unchecked := o.unchecked || rep }
    else s.setOpen p n { o with addr := some w }

/-- The fifth case of R58, judged at the first tap beat. -/
def State.firstTouch (s : State) (p n : Nat) : State :=
  match (s.tile p).opens[n]? with
  | none => s
  | some o =>
    if o.touched then s
    else if !o.judged && o.addr.isNone then
      let (s, rep) := s.invalid p o.desc
      s.setOpen p n { o with touched := true, judged := true, bad := if rep then 0 else 5, unchecked := o.unchecked || rep }
    else s.setOpen p n { o with touched := true }

/-- The element and scale counts of the refused tile's operands (R694): m·k and k·n elements, and for MXFP4 one scale for each row or column and
block of 32. -/
def RefusedTile.cap (r : RefusedTile) (isB scale : Bool) : Nat :=
  let rows := if isB then dN r.desc else dM r.desc
  if !scale then rows * dK r.desc else if dFmt r.desc = fmtMxfp4 then rows * ((dK r.desc + 31) / 32) else 0

def RefusedTile.cnt (r : RefusedTile) (isB scale : Bool) : Nat :=
  if scale then (if isB then r.sB else r.sA) else (if isB then r.bCnt else r.aCnt)

/-- All its operand elements have been counted. -/
def RefusedTile.operandsDone (r : RefusedTile) : Bool := decide (r.cap false false ≤ r.aCnt) && decide (r.cap true false ≤ r.bCnt)

/-- Count an operand beat of `lanes` lanes. -/
def RefusedTile.countBeat (r : RefusedTile) (isB scale : Bool) (lanes : Nat) : RefusedTile :=
  let n := min (r.cap isB scale) (r.cnt isB scale + lanes)
  if scale then (if isB then { r with sB := n } else { r with sA := n }) else (if isB then { r with bCnt := n } else { r with aCnt := n })

/-- The tile in its operand phase, in the order of their DESC beats (R57, R693, R694): an open tile's index, or the refused tile. -/
def TileSt.operandTile (t : TileSt) : Option (Nat ⊕ RefusedTile) :=
  let n := t.opens.findIdx? (fun o => !o.operandsDone)
  match t.refused with
  | some r => if !r.operandsDone && (match n with | some i => decide (r.after ≤ i) | none => true) then some (.inr r) else n.map .inl
  | none => n.map .inl

/-- OPERAND_TAP_BEAT (R57, R60, R62, R116, R693, R694): an element or scale beat on the A or B tap. -/
def State.operandBeat (s : State) (p : Nat) (isB scale : Bool) (data : BitVec 256) (lanes l idx : Nat) (lend : Bool) : State :=
  if !s.cdomOk p then s
  else
    match (s.tile p).operandTile with
    | some (.inl n) =>
      let s := s.firstTouch p n
      match (s.tile p).opens[n]? with
      | none => s
      | some o =>
        if scale then s.setOpen p n (o.scaleBeat isB data lanes l idx)
        else
          let (o', bad) := o.elemBeat s.now isB data lanes l idx lend
          let s := (s.setOpen p n { o' with miscount := o'.miscount || bad }).showCtx p
          if bad then s.cause p cCount else s
    | some (.inr r) =>
      if r.cap isB scale ≤ r.cnt isB scale then s.strayBeat p
      else s.modTile p (fun t => { t with refused := some (r.countBeat isB scale lanes) })
    | none => s.strayBeat p

/-- A tile has closed: counts of the tick and of the file (R66, R90). -/
def State.countTile (s : State) (p : Nat) (sig : BitVec 64) (checked unchecked : Bool) : State :=
  let s := (s.count (openTilesCnt p) 1).progressAt p
  let s := if checked then s.bump (BOL_TILES_CNT p) 1 else s
  let s := if unchecked then s.bump (BOL_UNCHK_CNT p) 1 else s
  s.modTile p (fun t => { t with sigAcc := t.sigAcc ^^^ sig })

/-- A sampled tile of this tick enters the frame: SEQ and signature, at most four (R66, R142). -/
def State.noteSample (s : State) (p seq : Nat) (sig : BitVec 64) : State :=
  let n := (s.tile p).samples.length
  if n < 4 then
    let s := (s.put (openSeq p n) seq).count (openNsamp p) 1
    s.modTile p (fun t => { t with samples := t.samples ++ [(seq, sig)] })
  else s

/-- TILE_CLOSE and VERDICT_CLOSE (R57, R59, R64, R112, R123, R127): the oldest open tile has delivered m × n results. -/
def State.closeTile (s : State) (p : Nat) (o : OpenTile) : State :=
  let q := quayOf p
  let v := o.decision (s.tol p (dFmt o.desc)) (s.flag (QY_CSUM_CTL_RANGE_EN q))
  let s := s.modTile p (fun t => { t with opens := t.opens.drop 1, refused := t.refused.map (fun r => { r with after := r.after - 1 }) })
  let unck := o.unchecked || [1, 2, 4].contains v.nfReason
  let s := s.countTile p o.sig (!o.unchecked) unck
  let s := s.modTile p (fun t => { t with steps := t.steps ++ [⟨o.desc, o.addr.getD 0, o.tick, s.jt, o.sig, o.sample⟩] })
  let s := if o.sample.isSome then s.noteSample p (dSeq o.desc) o.sig else s
  let s := s.causes p (v.causes.filter (fun c => decide (c ≤ 3)))
  let s := if v.causes ≠ [] ∨ v.nfReason ≠ 0 then s.sendAlarm (mkAlarm p o v) else s
  s.showCtx p

/-- The signature contribution of a beat; for a reserved format the spec gives no lane width, so the value is free (R61, R64). -/
def State.beatSig (s : State) (fmt : Nat) (data : BitVec 256) (lanes i j : Nat) : State × BitVec 64 :=
  if 8 ≤ fmt then let (w, s) := s.free; (s, w) else (s, wbSig fmt data lanes i j)

/-- The refused tile awaits write-back: every tile ahead of it has closed (R57, R694). -/
def TileSt.refusedNext (t : TileSt) : Option RefusedTile :=
  match t.refused with
  | some r => if r.after = 0 then some r else none
  | none => none

/-- A write-back beat of the refused tile: counted, and its CRC enters the tick signature (R694). -/
def State.refusedBack (s : State) (p : Nat) (r : RefusedTile) (data : BitVec 256) (lanes i j : Nat) : State :=
  let cap := dM r.desc * dN r.desc
  let (s, sig) := s.beatSig (dFmt r.desc) data lanes i j
  let wb := min cap (r.wb + lanes)
  if cap ≤ wb then
    let s := s.modTile p (fun t => { t with refused := none, sigAcc := t.sigAcc ^^^ sig })
    let s := s.countTile p 0 false r.repeated
    if r.repeated then s else s.sendAlarm (bareAlarm p r.desc r.tick (dSeq r.desc) (2 ^ cDesc) r.bad none)
  else s.modTile p (fun t => { t with refused := some { r with wb := wb }, sigAcc := t.sigAcc ^^^ sig })

/-- WRITEBACK_BEAT (R57, R60, R63, R64, R693, R694): beats belong to tiles in the order of their DESC beats. A tile that its last result closes with a
panel short, open or never presented breaks R60. -/
def State.writeBack (s : State) (p : Nat) (data : BitVec 256) (lanes i j : Nat) : State :=
  if !s.cdomOk p then s
  else
    match (s.tile p).refusedNext with
    | some r => s.refusedBack p r data lanes i j
    | none =>
      if (s.tile p).opens.isEmpty then s.strayBeat p
      else
        let s := s.firstTouch p 0
        match (s.tile p).opens with
        | [] => s
        | o :: _ =>
          let past := decide (dM o.desc * dN o.desc < o.wb + lanes)
          let (s, sig) := s.beatSig (dFmt o.desc) data lanes i j
          let o := { o.wbBeat data lanes i j with sig := o.sig ^^^ sig }
          let full := decide (dM o.desc * dN o.desc ≤ o.wb)
          let bad := past || (full && !o.operandsDone)
          let o := { o with miscount := o.miscount || bad }
          let s := s.setOpen p 0 o
          let s := if bad then s.cause p cCount else s
          if full then s.closeTile p o else s

/-! ### The report frame (R65 to R70, R695) -/

/-- The words of the frame of the tick that ends (R66, R695). -/
def State.frameWords (s : State) (p : Nat) : List (BitVec 64) :=
  if s.reportsFull p then
    let w := (s.word (BOL_OPEN p)).toNat
    let causes := w % 2 ^ 16 / 2 * 2
    let causes := if s.role p = roleJob then causes else clrBitN causes cReset
    let w0 := w / 2 ^ 16 * 2 ^ 16 + causes + (if causes = 0 then 1 else 0)
    let t := s.tile p
    let sg := fun n => ((t.samples[n]?).map (·.2)).getD 0
    [BitVec.ofNat 64 w0, t.sigAcc, sg 0, sg 1, sg 2, sg 3]
  else [1, 0, 0, 0, 0, 0]

/-- At a tick boundary the verdict of the tick in progress becomes the frame to be sent, and a new verdict opens (R65, R66). -/
def State.turnVerdict (s : State) (p : Nat) : State :=
  let t := s.tile p
  -- a core that has slept through the tick made progress (R75)
  let s := if t.asleep || t.parked || t.hawserHold || t.progress then s.progressAt p else s
  let f := s.frameWords p
  let s := s.modTile p (fun t => { t with frame := f, sigAcc := 0, samples := [], progress := false })
  s.setWord (BOL_OPEN p) 1

/-- The launch slot and the first arrival cycle of the Bollard at hop `h` (R67). -/
def State.launchSlot (s : State) (h : Nat) : Nat := s.window - 262 + 2 * h
def State.arriveSlot (s : State) (h : Nat) : Nat := s.window - 262 + 6 * h

/-- Two adjacent bypassed positions lie between tile `p` and its quay: the chain is cut before it (R70). -/
def State.chainCut (s : State) (p : Nat) : Bool :=
  let c := localOf p % 128
  (List.range (c - 1)).any (fun x => s.flag (BOL_POS_BYPASS (p - c + x)) && s.flag (BOL_POS_BYPASS (p - c + x + 1)))

/-- The position sends no frame to its quay: bypassed, or beyond a cut (R69, R70). -/
def State.offChain (s : State) (p : Nat) : Bool := s.flag (BOL_POS_BYPASS p) || s.flag (BOL_POS_CUT p) || s.chainCut p

/-- W0 of a frame whose verdict is not closed at its slot: CLEAN 0 and cause SELF (R68). -/
def openVerdict (w : BitVec 64) : BitVec 64 := BitVec.ofNat 64 (setBitN (clrBitN w.toNat 0) cSelf)

/-- BOLLARD_REPORT_LAUNCH (R66 to R68): `cyc` is the cycle at which word 0 leaves; `closed` says that the verdict is closed. -/
def State.reportLaunch (s : State) (p : Nat) (closed : Bool) : State :=
  if s.offChain p then s
  else
    let words := if (s.tile p).frame.isEmpty then [1, 0, 0, 0, 0, 0] else (s.tile p).frame
    let words := if !closed && s.reportsFull p then openVerdict (words.getD 0 0) :: words.drop 1 else words
    let s := s.setWord (BOL_VERDICT p) (words.getD 0 0)
    let s := s.setWord (BOL_SIG p) (words.getD 1 0)
    let s := if (words.getD 0 0).toNat % 2 = 0 then s.bump (BOL_ALARMS_CNT p) 1 else s
    let s := s.modTile p (fun t => { t with frame := [] })
    { s with frames := s.frames ++ [⟨p, s.jt - 1, words, decide (s.time.cyc = s.launchSlot (s.get (BOL_POS_HOP p)))⟩] }

/-! ### Core, router and compute-domain events -/

/-- CORE_ERROR (R65, R76, R83, R101): a CERR edge with the bits seen. -/
def State.coreError (s : State) (p bits : Nat) : State :=
  if !s.cdomOk p || bits % 16 = 0 then s
  else
    let s := if s.get (BOL_CERR_SEEN p) = 0 then s.put (BOL_CERR_TICK p) (s.jt % 2 ^ 32) else s
    let s := (s.put (BOL_CERR_SEEN p) (s.get (BOL_CERR_SEEN p) ||| bits % 16)).coin (.set (BOL_CERR p) (BitVec.ofNat 64 (bits % 16)))
    (s.breakwater p 1).cause p cCore

/-- LINK_DOWN (R52, R78, R100): `links` is what RTR_LINK_DOWN now shows, `inflight` which links had traffic in flight. A link that shows up again
only leaves DOWN. -/
def State.linkDown (s : State) (p links inflight : Nat) : State :=
  let now := links % 16
  let old := s.get (BOL_RTR_DOWN p)
  let lost := now - (now &&& old)
  let hot := lost &&& inflight
  let cold := lost - hot
  let s := s.put (BOL_RTR_DOWN p) now
  let pop := fun m : Nat => ((List.range 4).filter (fun i => m.testBit i)).length
  if lost = 0 then s
  else
    let s := s.count (BOL_RTR_LOSSES p) (pop cold)
    let s := s.count (BOL_RTR_INFLIGHT_LOSSES p) (pop hot)
    let s := s.logTile p 0x050B (s.jt % 2 ^ 32) lost hot 0
    if hot = 0 then s else s.cause p cLink

/-- ROUTER_FAULT (R65, R100). -/
def State.routerFault (s : State) (p : Nat) : State := (s.put (BOL_RTR_FAULT p) 1).cause p cRouter

/-- Discard every open tile (R84, R227). -/
def State.discardTiles (s : State) (p : Nat) : State :=
  (s.modTile p (fun t => { t with opens := [], refused := none })).showCtx p

/-- A zeroisation is void, and a slice in progress fails (R80, R327). -/
def State.engineDown (s : State) (p : Nat) : State :=
  let e := s.engine p
  let s := s.put (BOL_SCAN_ZERO_OK p) 0
  let s := if e.running = 1 then s.put (BOL_SCAN_STATE p) 3 else if e.running = 2 then s.put (BOL_MBIST_STATE p) 3 else s
  s.setEngine p { e with zeroAt := none, bad := if e.running = 3 ∧ e.bad = none then some e.steps else e.bad }

/-- CRST_N goes low, or CDOM_OK falls: open tiles are discarded with cause RESET, and a zeroisation is void (R80, R84). -/
def State.computeDown (s : State) (p : Nat) : State :=
  let had := !(s.tile p).opens.isEmpty || (s.tile p).refused.isSome
  let s := if had then s.cause p cReset else s
  (s.engineDown p).discardTiles p

/-- The core sleeps no more (R73). -/
def State.wakeCore (s : State) (p : Nat) : State :=
  (s.modTile p (fun t => { t with asleep := false })).refreshTile p

/-- A SLEEP beat of this cycle: the mask before it, whether it gated the core, and the progress before it. -/
def State.sleptNow (s : State) (p : Nat) : Option (Nat × Bool × Bool) :=
  s.coinsNow.findSome? (fun x => match x with | .slept r m g pr => if r = p then some (m, g, pr) else none | _ => none)

/-- A wake channel that reached the Bollard in this cycle and is in mask `m`. -/
def State.wokeNow (s : State) (p m : Nat) : Bool :=
  s.coinsNow.any (fun x => match x with | .woke r ch => decide (r = p) && m.testBit ch | _ => false)

/-- A wake-channel event at one core (R73): a channel in the mask wakes a sleeping core, or sets PENDING. With a SLEEP beat in the same cycle the
pending bit is set first and that sleep finds it set, so the core does not sleep (R82). -/
def State.wakeAt (s : State) (p ch : Nat) : State :=
  let s := s.coin (.woke p ch)
  let mask := s.get (BOL_WAKE_MASK p)
  match s.sleptNow p with
  | some (old, gated, prog) =>
    if gated && (s.tile p).asleep && (mask.testBit ch || old.testBit ch) then
      ((s.wakeCore p).modTile p (fun t => { t with progress := prog })).put (openProg p) (bit prog)
    else s
  | none =>
    if mask.testBit ch then
      if (s.tile p).asleep then ((s.wakeCore p).progressAt p).emit (.wake p)
      else s.put (BOL_WAKE_PENDING p) 1
    else s

/-- A SLEEP beat with a mask that is not 0 (R73, R82). -/
def State.sleepBeat (s : State) (p mask : Nat) : State :=
  let pend := s.flag (BOL_WAKE_PENDING p) || s.wokeNow p mask
  let s := (s.coin (.slept p (s.get (BOL_WAKE_MASK p)) (!pend) (s.tile p).progress)).put (BOL_WAKE_MASK p) mask
  if pend then s.put (BOL_WAKE_PENDING p) 0
  else ((s.modTile p (fun t => { t with asleep := true })).refreshTile p).progressAt p

/-- INGRESS_SINK (R79, R594): an incoming packet for the core; `source` is absent when it carries no source field. -/
def State.ingress (s : State) (p : Nat) (source : Option Nat) (tag : Nat) : State :=
  if s.flag (BOL_STAT_GUARD_ACTIVE p) then
    let s := s.bump (BOL_SINK_CNT_CNT p) 1
    match source with
    | some src => s.emit (.harbourClosed p src tag)
    | none => s
  else s

/-- BOLLARD_WATCHDOG (R75): the expiry of a JOB core's watchdog. -/
def State.hang (s : State) (p : Nat) : State :=
  if s.flag (BOL_CTL_WDOG_EN p) && decide (s.role p = roleJob) && decide (4 ≤ s.get (BOL_WDOG_IDLE_TICKS p)) then
    ((s.modTile p (fun t => { t with hangTick := some s.jt })).breakwater p 2).cause p cHang
  else s

/-- The watchdog's count at a tick boundary (R75, R516): only a JOB core with WDOG_EN counts; progress or a hold clears it. -/
def State.watchTick (s : State) (p : Nat) : State :=
  let t := s.tile p
  if s.flag (BOL_CTL_WDOG_EN p) && decide (s.role p = roleJob) then
    -- a core frozen by a recall, held in reset or for a patch, or waiting for clearance makes progress (R516)
    let held := s.flag (BOL_CTL_CG_HOLD p) || s.flag (BOL_CDOM_RST p) || s.flag (BOL_CLR_PENDING p)
    if t.progress || t.asleep || t.parked || t.hawserHold || held then s.put (BOL_WDOG_IDLE_TICKS p) 0
    else s.put (BOL_WDOG_IDLE_TICKS p) (min 4 (s.get (BOL_WDOG_IDLE_TICKS p) + 1))
  else s.put (BOL_WDOG_IDLE_TICKS p) 0

/-! ### Alarm messages at the quay (R123, R127 to R130, R134 to R138) -/

/-- The first code of the order DESC, COUNT, NONFIN, CSUM, WSUM (R123, R128), with its P2. -/
def AlarmMsg.codeP2 (m : AlarmMsg) : Nat × Nat :=
  let f := dFmt m.desc % 8
  if m.causes.testBit 5 then (0x0241, m.badReason)
  else if m.causes.testBit 4 then (0x0240, 0)
  else if m.causes.testBit 3 then (0x0230 + f, min m.broken 0xFFFFFFFF)
  else if m.causes.testBit 1 then (0x0210 + f, m.ratio)
  else (0x0220 + f, m.ratio)

/-- Region temperature and rail of a continuation record (R129). -/
def State.regionTemp (s : State) (q : Nat) : Nat := toField (signedOf (s.get (HM_THERM_VAL_TEMP (24 + q))) 16) 32
def State.regionRail (s : State) (q : Nat) : Nat := s.get (QY_MARGIN_VOUT_MV q)

/-- Record an alarm tile in full (R128, R129). -/
def State.recordAlarm (s : State) (m : AlarmMsg) : State :=
  let q := quayOf m.p
  let (code, p2) := m.codeP2
  let d := m.desc.toNat
  let p3 := if code = 0x0241 then m.seq else m.seq + m.causes % 2 ^ 16 * 2 ^ 8
  if code = 0x0241 ∨ code = 0x0240 then s.logTile m.p code d (d / 2 ^ 32) p2 p3
  else
    s.logPair (1 + q) (srcWord tyQuay q m.p) code d (d / 2 ^ 32) p2 p3 (s.regionTemp q) (s.regionRail q) m.tau32 m.resid32

/-- Load the capture (R134 to R137). -/
def State.loadCapture (s : State) (m : AlarmMsg) : State :=
  let q := quayOf m.p
  let s := s.setWord (QY_CSUM_CAPT_DESC q) m.desc
  let s := ((s.put (QY_CSUM_CAPT_ID_LTILE q) (localOf m.p)).put (QY_CSUM_CAPT_ID_SEQ q) m.seq).put (QY_CSUM_CAPT_ID_CAUSE q) m.causes
  let s := s.put (QY_CSUM_CAPT_ID_WEIGHTED q) (bit m.weighted)
  let s := ((s.put (QY_CSUM_CAPT_TICK_TICK q) m.tick).put (QY_CSUM_CAPT_TICK_MORE q) 0).put (QY_CSUM_CAPT_TICK_VALID q) 1
  let s := s.coin (.set (QY_CSUM_CAPT_TICK q) (BitVec.ofNat 64 (2 ^ 63)))
  ((s.setWord (QY_CSUM_CAPT_RESID q) m.resid).setWord (QY_CSUM_CAPT_TAU q) m.tau).setWord (QY_CSUM_CAPT_MAG q) m.mag

/-- An alarm meets the capture: MORE counts it while the capture holds one, else it is captured if CAPT_EN is 1 (R132, R136). -/
def State.captureAlarm (s : State) (m : AlarmMsg) : State :=
  let q := quayOf m.p
  if s.flag (QY_CSUM_CAPT_TICK_VALID q) then (s.count (QY_CSUM_CAPT_TICK_MORE q) 1).coin (.alarm m)
  else if s.flag (QY_CSUM_CTL_CAPT_EN q) then s.loadCapture m
  else s

/-- VALID has been written 1 in the cycle in which an alarm message met a full capture: the arrival wins (R125). -/
def State.recapture (s : State) (q : Nat) : State :=
  let m := s.coinsNow.findSome? (fun x => match x with | .alarm m => if quayOf m.p = q then some m else none | _ => none)
  match m with
  | some m => if !s.flag (QY_CSUM_CAPT_TICK_VALID q) && s.flag (QY_CSUM_CTL_CAPT_EN q) then s.loadCapture m else s
  | none => s

/-- ALARM_MESSAGE (R127 to R130): the oldest message of tile `p` reaches its quay. While a partner runs the region its messages still go to the page and the
Logbook queue of the region's own quay (DESIGN CHOICE, notes/assumptions/129.md). -/
def State.alarmMessage (s : State) (p : Nat) : State :=
  match s.alarms.find? (fun m => m.p = p) with
  | none => s
  | some m =>
    let q := quayOf p
    let s := { s with alarms := s.alarms.erase m }
    let d := m.desc.toNat
    let s := match m.repeatTick with
      | some t => s.logTile p 0x0242 d (d / 2 ^ 32) t m.seq
      | none => s
    let s := if m.nfReason = 0 then s
      else (s.logTile p 0x0243 d (d / 2 ^ 32) m.nfReason m.seq).count (QY_CSUM_CNT_UNCHK_NF q) 1
    if m.causes = 0 then s
    else
      let s := (s.count (QY_CSUM_CNT_ALARM_TILES q) 1).captureAlarm m
      if (s.quay q).alarmsNow < 16 then (s.modQuay q (fun t => { t with alarmsNow := t.alarmsNow + 1 })).recordAlarm m
      else s.modQuay q (fun t => { t with floodNow := t.floodNow + 1 })

/-- A tick begins: alarm tiles are counted anew, and those beyond sixteen of the tick before await their record (R130). -/
def State.alarmTick (s : State) (q : Nat) : State :=
  let t := s.quay q
  if t.alarmsNow = 0 ∧ t.floodNow = 0 ∧ t.floodLast = 0 then s
  else s.setQuay q { t with alarmsNow := 0, floodNow := 0, floodLast := t.floodNow }

/-- CSUM_FLOOD (R130): at cycle 0 of the next tick the alarm tiles beyond sixteen are summed into one record. -/
def State.csumFlood (s : State) (q : Nat) : State :=
  let n := (s.quay q).floodLast
  let s := s.modQuay q (fun t => { t with floodLast := 0 })
  if n = 0 then s else s.logQuay q 0x0244 n ((s.jt - 1) % 2 ^ 32) 0 0

/-! ### Frames at the quay (R38, R68, R224) -/

/-- Job tick `n` is not clean at quay `q`; `l` are the local tiles of frames that were not clean, late or missing. -/
def QuaySt.addUnclean (t : QuaySt) (n : Nat) (l : List Nat) : QuaySt :=
  let old := ((t.unclean.find? (fun x => x.1 = n)).map (·.2)).getD []
  { t with unclean := (n, old ++ l.filter (fun x => !old.contains x)) :: t.unclean.filter (fun x => decide (x.1 ≠ n)) }

/-- The frame arrived in its slot (R67, R68). -/
def State.inSlot (s : State) (p : Nat) : Bool :=
  let a := s.arriveSlot (s.get (BOL_POS_HOP p))
  decide (a ≤ s.time.cyc) && decide (s.time.cyc ≤ a + 5)

/-- The stages nearer to the quay forward the frame of `p` (R69, R104); its six words count as off their slot when it was not launched in it. -/
def State.forwarded (s : State) (p : Nat) (onTime : Bool) : State :=
  let c := localOf p % 128
  (List.range c).foldl (fun s x =>
    let y := p - c + x
    if s.offChain y then s
    else
      let s := s.bump (BOL_TALLY_FRAMES y) 1
      if onTime then s else s.count (BOL_TALLY_OFFSLOT y) 6) s

/-- REPORT_FRAME, the tally (R68): a frame reaches its quay; outside its slot it is LATE, pulls HW1 and is recorded.
Gives the frame. -/
def State.reportFrame (s : State) (p : Nat) : State × Option Frame :=
  match s.frames.find? (fun f => f.p = p) with
  | none => (s, none)
  | some f =>
    let q := quayOf p
    let s := ({ s with frames := s.frames.erase f } : State).forwarded p f.onTime
    let late := !(f.onTime && s.inSlot p)
    let clean := decide ((f.words.getD 0 0).toNat % 2 = 1)
    let s := s.modQuay q (fun t => { t with got := localOf p :: t.got, missed := t.missed.filter (fun x => decide (x.1 ≠ localOf p)) })
    let s := if clean && !late then s else s.modQuay q (fun t => t.addUnclean f.tick [localOf p])
    let s := if late then s.detect p (s.get (BOL_PILOT_LCORE p)) f.tick 3 else s
    let s := if late then (s.pullQuay q 2).logTile p 0x0508 (f.tick % 2 ^ 32) (localOf p) s.time.cyc 0 else s
    (s, some f)

/-- The local tiles of region `q` that send a frame: not bypassed and not beyond a cut (R69, R70). -/
def State.reporting (s : State) (q : Nat) : List Nat :=
  (List.range regionTiles).filter (fun l => !s.offChain (tileOf q l))

/-- TALLY_TIMEOUT (R38): at the cycle after the tally bound, frames still missing make the quay pull HW1. -/
def State.tallyTimeout (s : State) (q : Nat) : State :=
  let s := s.at_ (s.tallyBound + 1)
  let miss := (s.reporting q).filter (fun l => !(s.quay q).got.contains l)
  match miss with
  | [] => s
  | l :: _ =>
    let n := s.jt - 1
    let s := s.modQuay q (fun t => { t.addUnclean n miss with
      missed := (miss.map (fun x => (x, 1 + ((t.missed.find? (fun y => y.1 = x)).map (·.2)).getD 0))) })
    let s := s.detect (tileOf q l) (s.get (BOL_PILOT_LCORE (tileOf q l))) n 3
    (s.pullQuay q 2).logQuay q 0x0509 (n % 2 ^ 32) miss.length l 0

end Sys2Proof.Machine
end

