-- ==== Sys2Proof/Machine/Pool.lean ====
section
/-!
DEFINITION. The Manifest and the spare pool (chapter 07): tile entries and map entries with their place in the harbour store, colours, the counts
that follow from them, distances, the choice of a spare, the defect list, and the COMMITTED_SUSPECT report (chapter 06).
-/

namespace Sys2Proof.Machine

/-! ### Colours and uses (R94, R272) -/

def green : Nat := 0
def amber : Nat := 1
def ochre : Nat := 2
def vermilion : Nat := 3
def slate : Nat := 4

def useServes : Nat := 0
def useIdle : Nat := 1
def useShadow : Nat := 2
def useTest : Nat := 3
def useRetest : Nat := 4
def useNone : Nat := 5

def State.colour (s : State) (p : Nat) : Nat := s.get (BOL_STAT_COLOUR p)
def State.use (s : State) (p : Nat) : Nat := (s.tile p).use
def State.lcore (s : State) (p : Nat) : Nat := s.get (BOL_PILOT_LCORE p)

/-- Local row `r` of quay `q` is a spare row (R269, R296). -/
def State.spareRow (s : State) (q r : Nat) : Bool :=
  if r < 64 then (s.get (QY_SPARE_ROWS0_ROWS q)).testBit r else (s.get (QY_SPARE_ROWS1_ROWS q)).testBit (r - 64)

/-- Spare rows of a region, and its logical cores (R269). -/
def State.spareRows (s : State) (q : Nat) : Nat := ((List.range regionRows).filter (fun r => s.spareRow q r)).length
def State.logicalPer (s : State) : Nat := regionTiles - regionCols * s.spareRows 0

/-- The home quay of a logical core (R269). -/
def State.homeQuay (s : State) (l : Nat) : Nat := if s.logicalPer = 0 then 0 else l / s.logicalPer

/-- The tile entry of R272. -/
def State.tileEntry (s : State) (p : Nat) : Nat :=
  s.colour p + s.use p * 2 ^ 3 + (s.tile p).strikes % 4 * 2 ^ 6 + bit (s.spareRow (quayOf p) (localOf p / regionCols)) * 2 ^ 8
    + s.get (BOL_POS_BYPASS p) * 2 ^ 9 + s.lcore p * 2 ^ 10

/-- A 32-bit store write. -/
def State.write32 (s : State) (a v : Nat) : State :=
  s.writeBytes a ((List.range 4).map (fun i => BitVec.ofNat 8 (v / 2 ^ (8 * i))))

/-- Keep the Manifest's copy of a tile in step (R272). -/
def State.syncTile (s : State) (p : Nat) : State :=
  if s.built then s.write32 (hsAddr (s.get HM_MANIFEST_BASE_TILE_OFF + 4 * p)) (s.tileEntry p) else s

def State.setUse (s : State) (p u : Nat) : State := (s.modTile p (fun t => { t with use := u })).syncTile p

/-- A map entry (R271): tile, BORROWED and MOVING, kept and written to the store. -/
def State.setMap (s : State) (l p : Nat) (moving : Bool) : State :=
  let e := p + bit (decide (quayOf p ≠ s.homeQuay l)) * 2 ^ 20 + bit moving * 2 ^ 21
  { s with l2p := tabSet (fun _ => 0) s.l2p l e }.write32 (hsAddr (s.get HM_MANIFEST_BASE_L2P_OFF + 4 * l)) e

/-- The tile that serves logical core `l`. -/
def State.server (s : State) (l : Nat) : Nat := tabGet (fun _ => 0) s.l2p l % 2 ^ 20

/-! ### Lists -/

/-- Insert by key, before the first larger one. -/
def insBy (key : Nat → Nat) (x : Nat) : List Nat → List Nat
  | [] => [x]
  | y :: t => if key x < key y then x :: y :: t else y :: insBy key x t

/-- Order by key, equal keys in their given order. -/
def orderBy (key : Nat → Nat) (l : List Nat) : List Nat := l.foldl (fun acc x => insBy key x acc) []

/-- The element of least key, the first among equals. -/
def leastBy (key : Nat → Nat) : List Nat → Option Nat
  | [] => none
  | x :: t =>
    match leastBy key t with
    | none => some x
    | some y => if key y < key x then some y else some x

/-- Mesh hops between two tiles: rows plus columns. -/
def hopsBetween (a b : Nat) : Nat :=
  ((tileRow a : Int) - tileRow b).natAbs + ((tileCol a : Int) - tileCol b).natAbs

/-- The nearest candidate to tile `x`, ties settled under R17 with the local tile index and origin `o`. -/
def nearestAt (o x : Nat) (cands : List Nat) : Option Nat :=
  leastBy (fun c => hopsBetween x c * regionTiles + (localOf c + regionTiles - o % regionTiles) % regionTiles) cands

/-- Its origin in service is the job tick (R212). -/
def State.nearest (s : State) (x : Nat) (cands : List Nat) : Option Nat := nearestAt s.jt x cands

/-- The quay that runs the region of tile `p`: its own, or the partner that has adopted it (R521). -/
def State.runner (s : State) (p : Nat) : Nat := if s.flag (QY_RST_STAT_ADOPTED (quayOf p)) then partnerOf (quayOf p) else quayOf p

/-- The tiles of a region, in local index order. -/
def regionOf (q : Nat) : List Nat := (List.range regionTiles).map (tileOf q)

/-! ### The pool (R146, R281, R291, R293, R294) -/

/-- The tile is in the pool: Green or Amber, serving no logical core. -/
def State.inPool (s : State) (p : Nat) : Bool :=
  decide (s.colour p ≤ amber) && [useIdle, useShadow, useTest].contains (s.use p)

def State.avail (s : State) (q : Nat) : Nat := ((regionOf q).filter (fun p => s.inPool p)).length

/-- A move, a boundary move or one of a recall, takes the tile. -/
def State.movesTo (s : State) (p : Nat) : Bool :=
  s.moves.any (fun m => m.dst = some p) || s.migratesTo p

/-- A spare that may run shadows and counts in free: Green, idle or shadowing, hosting no step but of the quay that runs its region, held for no witness,
taken by no move (R146, R280, R521). -/
def State.isFree (s : State) (p : Nat) : Bool :=
  decide (s.colour p = green) && [useIdle, useShadow].contains (s.use p)
    && (s.tile p).hosts.all (fun h => h.1 = s.runner p) && !(s.tile p).witness && !s.movesTo p

def State.freeSpares (s : State) (q : Nat) : Nat := ((regionOf q).filter (fun p => s.isFree p)).length

/-- Show a quay's free, and the engine's sum of them (R146, R177, R291). -/
def State.showFree (s : State) (q f : Nat) : State :=
  (s.put HM_SPARE_STAT_FREE (s.get HM_SPARE_STAT_FREE + f - s.get (QY_PILOT_STAT_FREE q))).put (QY_PILOT_STAT_FREE q) f

/-- The level of R294 for a pool size. -/
def lowLevel (a : Nat) : Nat := if 72 ≤ a then 0 else if 40 ≤ a then 1 else if 16 ≤ a then 2 else 3

/-- Rotations allowed at once (R281). -/
def rotationsFor (a : Nat) : Nat := if 72 ≤ a then 8 else if 40 ≤ a then 2 else 0

/-- Thresholds of R282 crossed between two pool sizes. -/
def crossed (old new : Nat) : List Nat :=
  [72, 40, 16, 0].filter (fun t => if t = 0 then decide ((old = 0) ≠ (new = 0)) else decide ((old < t) ≠ (new < t)))

/-- Recompute the region's tiles by colour (R293). -/
def State.showColours (s : State) (q : Nat) : State :=
  let cnt := fun c => ((regionOf q).filter (fun p => s.colour p = c)).length
  let s := ((s.put (QY_HEALTH_CNT0_GREEN q) (cnt 0)).put (QY_HEALTH_CNT0_AMBER q) (cnt 1)).put (QY_HEALTH_CNT0_OCHRE q) (cnt 2)
  (s.put (QY_HEALTH_CNT0_VERMILION q) (cnt 3)).put (QY_HEALTH_CNT1_SLATE q) (cnt 4)

/-- Recompute the pool's counts of quay `q`; a crossed threshold is recorded and raises IRQ_N[3] (R282). -/
def State.refreshPool (s : State) (q : Nat) : State :=
  let s := s.showColours q
  if !s.built then s
  else
    let old := s.get (QY_SPARE_AVAIL q)
    let oldEmpty := s.flag (QY_SPARE_EMPTY q)
    let a := s.avail q
    let f := s.freeSpares q
    let s := (s.put HM_SPARE_STAT_AVAIL (s.get HM_SPARE_STAT_AVAIL + a - old)).showFree q f
    let s := (s.put (QY_SPARE_AVAIL q) a).put (QY_SPARE_LOW q) (lowLevel a)
    let s := s.put (QY_SPARE_EMPTY q) (bit (decide (a = 0)))
    let s := s.put HM_SPARE_STAT_ZERO_QUAYS (s.get HM_SPARE_STAT_ZERO_QUAYS + bit (decide (a = 0)) - bit oldEmpty)
    (crossed old a).foldl (fun s t => (s.logQuay q 0x0609 q a t (bit (decide (a < old)))).irq irqSpareLow) s

/-! ### The defect list (R273) -/

def kindCompute : Nat := 1
def kindLink : Nat := 2
def kindRow : Nat := 3
def kindQuay : Nat := 4
def kindUnit : Nat := 5

/-- Append an entry; when the list has reached MAX, FULL is set and an entry is recorded only (R273). -/
def State.addDefect (s : State) (prod src what kind origin reason detail : Nat) : State :=
  let w0 := what % 2 ^ 20 + kind * 2 ^ 20 + origin * 2 ^ 24 + reason % 2 ^ 16 * 2 ^ 32 + detail % 2 ^ 16 * 2 ^ 48
  let n := s.get HM_DEFECT_CNT_TOTAL
  let max_ := s.get HM_DEFECT_BASE_MAX
  let s := if max_ ≤ n then s
    else
      let a := hsAddr (s.get HM_DEFECT_BASE_OFF + 16 * n)
      let s := (s.writeW a (BitVec.ofNat 64 w0)).writeW (a + 8) (BitVec.ofNat 64 (s.time.tick % 2 ^ 50))
      s.put HM_DEFECT_CNT_TOTAL (n + 1)
  let full := decide (max_ ≤ s.get HM_DEFECT_CNT_TOTAL)
  let s := if full then s.put HM_DEFECT_CNT_FULL 1 else s
  s.enqueue prod [s.mkRec 0x060B src false w0 (w0 / 2 ^ 32) (s.get HM_DEFECT_CNT_TOTAL) (bit full)]

/-- A defect entry of a tile. -/
def State.tileDefect (s : State) (p kind origin reason detail : Nat) : State :=
  s.addDefect (1 + quayOf p) (srcWord tyQuay (quayOf p) p) p kind origin reason detail

/-! ### Bypassed positions (R69, R70, R104) -/

/-- Position of tile `p` is bypassed: the stage next nearer to the quay takes its input through the delay line. -/
def State.bypass (s : State) (p : Nat) : State :=
  let s := s.put (BOL_POS_BYPASS p) 1
  if localOf p % 128 = 0 then s else s.put (BOL_TALLY_SKIP_IN (p - 1)) 1

/-- The tiles that a bypass of `p` cuts off: those beyond a pair of adjacent bypassed positions of its row, if they are not cut already. -/
def State.cutBeyond (s : State) (p : Nat) : List Nat :=
  let c := localOf p % 128
  let by_ := fun x => decide (x < 128) && s.flag (BOL_POS_BYPASS (p - c + x))
  let first := if decide (0 < c) && by_ (c - 1) then c + 1 else if by_ (c + 1) then c + 2 else 128
  ((List.range 128).filter (fun x => decide (first ≤ x))).map (fun x => p - c + x) |>.filter (fun y => !s.flag (BOL_POS_CUT y))

/-! ### Colour changes (R257, R258, R297) -/

/-- Change a tile's colour under trigger `code`, with the record, STRIKES, the interrupt, the next use and the defect entry. -/
def State.setColour (s : State) (p new code origin : Nat) : State :=
  let from_ := s.colour p
  let serving := decide (s.use p = useServes)
  -- a tile at a divider other than 1/1 is Ochre (R263)
  let s := if from_ = ochre ∧ vermilion ≤ new then (s.put (BOL_CTL_DIV_NEXT p) 0).modTile p (fun t => { t with greenDue := false }) else s
  let s := s.put (BOL_STAT_COLOUR p) new
  let s := s.logTile p 0x0601 (from_ + new * 8 + code * 64) p (if serving then s.lcore p else 0) (s.jt % 2 ^ 32)
  let s := s.modTile p (fun t => { t with matched := 0, quiet := 0, trigTick := if [12, 13, 14].contains code then t.trigTick else some s.time.tick })
  let s :=
    if new = vermilion then
      ((s.modTile p (fun t => { t with strikes := min 3 (t.strikes + 1) })).irq irqTileColour).setUse p (if serving then useServes else useRetest)
    else if new = slate then
      ((s.irq irqTileColour).setUse p (if serving then useServes else useNone)).tileDefect p (if s.flag (BOL_POS_BYPASS p) || s.flag (BOL_POS_CUT p) then kindLink else kindCompute) origin code 0
    else if new = green ∧ from_ = vermilion then s.setUse p useIdle
    else s.syncTile p
  s.refreshPool (quayOf p)

/-- COLOUR_CHANGE of a quay or a unit (R262, R297): block type `ty`, unit number. -/
def State.logColour (s : State) (prod src from_ new unit : Nat) : State :=
  s.enqueue prod [s.mkRec 0x0601 src false (from_ + new * 8) unit 0 (s.jt % 2 ^ 32)]

/-- A quay changes colour (R262): it is shown in PG_STAT of its pages and raises IRQ_N[3]. -/
def State.setQuayColour (s : State) (q new : Nat) : State :=
  let from_ := (s.quay q).colour
  if from_ = new then s
  else
    let s := if vermilion ≤ new then s.alarm 4 else s
    let s := if new = slate then s.addDefect 0 (srcWord tyQuay q 0) q kindQuay 4 0 0 else s
    ((s.modQuay q (fun t => { t with colour := new, quiet := 0 })).irq irqQuayColour).logColour 0 (srcWord tyQuay q 0) from_ new q

/-- An event that sets a Green quay Amber (R262). -/
def State.quayAmber (s : State) (q : Nat) : State :=
  let s := s.modQuay q (fun t => { t with quiet := 0 })
  if (s.quay q).colour = green then s.setQuayColour q amber else s

/-! ### Dumps (R525 to R527) -/

def dkTile : Nat := 1
def dkQuay : Nat := 2
def dkLantern : Nat := 3
def dkHost : Nat := 4

/-- Priority of a kind: Lantern, quay, tile, host (R527). -/
def dumpPrio (k : Nat) : Nat := match k with | 3 => 4 | 2 => 3 | 1 => 2 | _ => 1

/-- A dump is triggered: it is taken, or skipped for one that is held or in progress with no lower priority. Gives whether it is taken. -/
def State.startDump (s : State) (kind what unit : Nat) : State × Bool :=
  let held := match s.rst.dump with
    | some d => d.kind
    | none => if s.flag HM_RST_DUMP_HELD then s.get HM_RST_DUMP_KIND else 0
  if held ≠ 0 ∧ dumpPrio kind ≤ dumpPrio held then (s.logHm 0x0C0C kind held 0 s.tick32, false)
  else ({ s with rst.dump := some ⟨kind, what, unit, s.tide, s.jt, [], false⟩ }, true)

/-! ### The choice of a spare (R278 to R280) -/

/-- The tile lies in the rectangle of the partition reset in progress (R519). -/
def State.inPartition (s : State) (p : Nat) : Bool :=
  match s.rst.op with
  | some o =>
    let r := localOf p / 128
    let c := localOf p % 128
    decide (o.op = 2) && decide (quayOf p = o.quay) && decide (o.rowLo ≤ r) && decide (r ≤ o.rowHi) && decide (o.colLo ≤ c) && decide (c ≤ o.colHi)
  | none => false

/-- The tile keeps the inputs of a step whose berth is DISPUTED (R158). -/
def State.keepsInputs (s : State) (p : Nat) : Bool :=
  (s.tile p).hosts.any (fun h => decide ((tabGet (fun _ => Berth.free) (s.quay h.1).berths h.2).st = 6))

/-- The tile raised a core cause while a move of the recall in progress took it (R247). -/
def State.spoilt (s : State) (p : Nat) : Bool := match s.commit.inRecall with | some r => r.spoilt.contains p | none => false

/-- The tile may be claimed at all. -/
def State.claimable (s : State) (p : Nat) : Bool :=
  !s.inPartition p && !(s.tile p).witness && !s.movesTo p && !s.keepsInputs p && !s.spoilt p

/-- The candidate of quay `q` for tile `x`, class by class (R278), ties settled under R17 with origin `o`. A tile that lost the logical core never gets it
back (R194, R259). -/
def State.spareIn (s : State) (o q x : Nat) : Option Nat :=
  let l := (regionOf q).filter (fun p => s.claimable p && decide (p ≠ x) && !(s.tile p).lost.contains (s.lcore x))
  let pick := fun col u => nearestAt o x (l.filter (fun p => decide (s.colour p = col) && decide (s.use p = u)))
  match pick green useIdle with
  | some p => some p
  | none =>
    match pick green useShadow with
    | some p => some p
    | none => pick amber useIdle

/-- The quays in the order they are tried (R278). -/
def State.quayOrder (s : State) (o q : Nat) : List Nat :=
  let n := s.nQuays
  if n ≤ 1 then [0]
  else if !s.flag HM_HEALTH_CTL_BORROW_EN then [q]
  else
    let dist := fun k => ((k / 8 : Nat) - (q / 8 : Nat) : Int).natAbs + ((k % 8 : Nat) - (q % 8 : Nat) : Int).natAbs
    [q, partnerOf q] ++ orderBy (fun k => dist k * 64 + (k + n - o % n) % n)
      ((List.range n).filter (fun k => decide (k ≠ q) && decide (k ≠ partnerOf q)))

/-- The first candidate over a list of quays. -/
def State.firstSpare (s : State) (o q x : Nat) (all : Bool) : List Nat → Option Nat
  | [] => none
  | k :: t =>
    if all || decide (k = q) || decide (s.get (QY_PILOT_CTL_KEEP k) < s.freeSpares k) then
      match s.spareIn o k x with
      | some p => some p
      | none => s.firstSpare o q x all t
    else s.firstSpare o q x all t

/-- The spare for the logical core of tile `x` (R278), ties settled with origin `o`. -/
def State.chooseSpareAt (s : State) (o x : Nat) : Option Nat :=
  let q := quayOf x
  match s.firstSpare o q x false (s.quayOrder o q) with
  | some p => some p
  | none => s.firstSpare o q x true (s.quayOrder o q)

/-- In service the origin is the job tick (R212). -/
def State.chooseSpare (s : State) (x : Nat) : Option Nat := s.chooseSpareAt s.jt x

/-- OUT_OF_SPARES with its continuation (R282, R297). -/
def State.outOfSpares (s : State) (l q : Nat) (inRecall : Bool) : State :=
  (s.logPair (1 + q) (srcWord tyQuay q 0) 0x060A l q (s.jt % 2 ^ 32) (bit inRecall)
    (toField (signedOf (s.get (HM_THERM_VAL_TEMP (24 + q))) 16) 32) (s.get (QY_MARGIN_VOUT_MV q)) 0 0).put HM_SPARE_STAT_OUT 1 |>.note 10 q 0 0 l 0

/-- The counts of lending when a logical core goes from tile `x` to tile `y` (R279, R291, R294). -/
def State.lend (s : State) (l x y : Nat) : State :=
  let h := s.homeQuay l
  let back := fun (s : State) (p : Nat) =>
    if quayOf p = h then s
    else
      let s := s.put (QY_SPARE_LENT (quayOf p)) (s.get (QY_SPARE_LENT (quayOf p)) - 1)
      (s.put (QY_SPARE_BORROWED h) (s.get (QY_SPARE_BORROWED h) - 1)).put HM_SPARE_STAT_LENT (s.get HM_SPARE_STAT_LENT - 1)
  let s := back s x
  if quayOf y = h then s
  else
    let s := ((s.bump (QY_SPARE_LENT (quayOf y)) 1).bump (QY_SPARE_BORROWED h) 1).bump HM_SPARE_STAT_LENT 1
    (s.count HM_HEALTH_CNT_BORROWS 1).logQuay h 0x0608 l h (quayOf y) y

/-- A map update is sent (R274): logical core `l` is served by tile `p` from tide tick `t`. -/
def State.sendMap (s : State) (l p t : Nat) : State := s.emit (.mapUpdate l p t)

/-! ### Detect-only mode and suspects (R238 to R242, R255, R256) -/

/-- HM_COMMIT_STAT.STATE (R249). -/
def cmClosed : Nat := 0
def cmRun : Nat := 1
def cmRecall : Nat := 2
def cmDrain : Nat := 3
def cmRestart : Nat := 4
def cmHalted : Nat := 5

def State.cmState (s : State) : Nat := s.get HM_COMMIT_STAT_STATE
def State.ctick (s : State) : Nat := s.get HM_COMMIT_STAT_CTICK

/-- Detect-only mode is in force. -/
def State.donly (s : State) : Bool := s.flag HM_COMMIT_STAT_DETECT_ONLY

/-- A halting pull (R236, R242): the recall it causes, or joins, halts the job with `code`. -/
def State.haltPull (s : State) (kind quay reason code : Nat) : State :=
  { s with commit.pulls := s.commit.pulls ++ [⟨kind, quay, 0, 0, reason, code, s.now⟩] }

/-- A COMMITTED_SUSPECT report by producer `prod` (R240, R255, R256), and the halt of R242. -/
def State.suspect (s : State) (prod src q l p cause first last e : Nat) : State :=
  let s := (s.put HM_SUSPECT_FIRST_FIRST first).put HM_SUSPECT_LAST_LAST last
  let s := ((s.put HM_SUSPECT_INFO_LCORE l).put HM_SUSPECT_INFO_PTILE p).put HM_SUSPECT_INFO_CAUSE cause
  let s := (s.put HM_SUSPECT_INFO_VALID 1).count HM_COMMIT_CNT_SUSPECTS 1
  let s := s.logPair prod src 0x0503 first last l cause
    (toField (signedOf (s.get (HM_THERM_VAL_TEMP (24 + q))) 16) 32) (s.get (QY_MARGIN_VOUT_MV q)) e p
  let s := s.note 12 q 0 p l (first % 2 ^ 32 + last % 2 ^ 32 * 2 ^ 32)
  if s.flag HM_COMMIT_CTL_SUSPECT_HALT && !s.donly then s.haltPull 2 0 8 4 else s

/-- A suspect report of tile `p`'s quay about one job tick `n` (causes 2 to 4). -/
def State.suspectTile (s : State) (p n cause : Nat) : State :=
  s.suspect (1 + quayOf p) (srcWord tyQuay (quayOf p) p) (quayOf p) (s.lcore p) p cause n n (n - 1)

end Sys2Proof.Machine
end

