-- ==== Sys2Proof/Machine/Clearance.lean ====
section
/-!
DEFINITION. Clearance (chapter 11, R441 to R450, R464 to R466): tokens, the Bollards' buckets, a region's account, grants, returns and the redistribution
at each sub-tick, with the governor's states.
-/

namespace Sys2Proof.Machine

/-- Governor states (R455). -/
def gvRun : Nat := 0
def gvCritical : Nat := 1
def gvPfail : Nat := 2

/-- Cost of a class: matrix burst, shadow tile, scan slice, memory BIST slice (R442). -/
def clrCost (cls : Nat) : Nat := match cls with | 0 => 2 | 1 => 2 | 2 => 6 | _ => 3

def State.govState (s : State) (q : Nat) : Nat := s.get (QY_CLEAR_STAT_STATE q)

/-- Bucket limit (R472: 0 acts as 8). -/
def State.bucketMax (s : State) (q : Nat) : Nat :=
  let m := s.get (QY_CLEAR_CTL_BUCKET_MAX q)
  if m = 0 then 8 else min m 8

/-- ceil and rise for throttle level `t` (R446). -/
def State.clrCeil (s : State) (q t : Nat) : Nat := s.get (QY_CLEAR_CTL_BUDGET q) * (16 - t) / 16
def State.clrRise (s : State) (q : Nat) : Nat :=
  s.get (QY_CLEAR_CTL_BUDGET q) / (if s.get HM_TIME_CTL_TICK_LEN = 0 then 32 else 16)

/-- Tokens held, with the peak (R475). -/
def State.setHeld (s : State) (q n : Nat) : State :=
  let s := s.put (QY_CLEAR_TOK_HELD q) n
  s.modQuay q (fun t => { t with peakHeld := max t.peakHeld n, peakRise := max t.peakRise (n - t.heldSub) })

/-- Change a governor's state (R455). -/
def State.setGov (s : State) (q new : Nat) : State :=
  let old := s.govState q
  if old = new then s
  else
    let s := (s.put (QY_CLEAR_STAT_STATE q) new).logQuay q 0x0A0E q old new s.tick32
    let s := s.put HM_THERM_STAT_CRIT_ANY (bit (s.quayList.any (fun q => decide (s.govState q = gvCritical))))
    if new = gvPfail then s.count (QY_CLEAR_CNT1_PFAILS q) 1 else s

/-! ### Grants (R443, R447, R448) -/

/-- Some request of the tile waits at its quay (R471). -/
def State.clrWaits (s : State) (p : Nat) : Bool := (s.quay (quayOf p)).clrPend.any (fun r => decide (r.p = p))

/-- The wait so far of a request that waits (R471, R475). -/
def State.showWait (s : State) (r : ClrReq) : State :=
  let w := (s.since r.since).toNat
  (s.put (BOL_CLR_WAIT r.p) (min w 0xFFFF)).modQuay (quayOf r.p) (fun t => { t with peakWait := max t.peakWait w })

/-- Grant a request: from the bucket, or from the quay. -/
def State.clrGrant (s : State) (r : ClrReq) (local_ : Bool) : State :=
  let p := r.p
  let q := quayOf p
  let c := clrCost r.cls
  let s := s.put (BOL_CLR_HELD p) (s.get (BOL_CLR_HELD p) + c)
  let s := if r.engine then s.put (BOL_CLR_ENG_HOLD p) 1 else (s.put (BOL_CLR_CORE_HOLD p) 1).put (BOL_CLR_CLASS p) r.cls
  let s := (s.put (BOL_CLR_PENDING p) (bit (s.clrWaits p))).count (BOL_CLR_GRANTS p) 1
  let s := if local_ then s.count (QY_CLEAR_CNT0_LOCAL q) 1 else (s.count (QY_CLEAR_CNT0_QUAY q) 1).showWait r
  let s := s.modTile p (fun t => { t with
    clrUsed := t.clrUsed + c, clrSince := if r.engine then t.clrSince else s.now, clrOver := if r.engine then t.clrOver else false })
  let s := s.setHeld q (s.get (QY_CLEAR_TOK_HELD q) + c)
  if r.engine then s else s.emit (.clrGnt p)

/-- Requests pending are counted (R474). -/
def State.countPending (s : State) (q : Nat) : State := s.put (QY_CLEAR_TOK_PENDING q) (s.quay q).clrPend.length

/-- Serve pending requests from the pool in the order of arrival (R448). -/
def State.poolServe (s : State) (q : Nat) : List ClrReq → State
  | [] => s.countPending q
  | r :: t =>
    let c := clrCost r.cls
    if s.flag (QY_CLEAR_CTL_EN q) && decide (s.govState q ≠ gvPfail) && decide (c ≤ s.get (QY_CLEAR_TOK_POOL q)) then
      let s := s.put (QY_CLEAR_TOK_POOL q) (s.get (QY_CLEAR_TOK_POOL q) - c)
      ((s.modQuay q (fun x => { x with clrPend := x.clrPend.erase r })).clrGrant r false).poolServe q t
    else s.poolServe q t

/-- Cycle 0 of a sub-tick whose redistribution quay `q` has still to make (R466). -/
def State.beforeShare (s : State) (q : Nat) : Bool :=
  let len := s.tickLen / 16
  s.time.epoch && decide (s.time.cyc % len = 0) && decide ((s.quay q).subAt ≠ some (s.time.tick, s.time.cyc / len))

/-- CLR_REQ of the core, or the engine's request, is high already: a further rise of it is a change of class, which is ignored (R443). -/
def State.clrBusy (s : State) (p : Nat) (engine : Bool) : Bool :=
  (if engine then s.flag (BOL_CLR_ENG_HOLD p) else s.flag (BOL_CLR_CORE_HOLD p) || (s.tile p).clrBad)
    || (s.quay (quayOf p)).clrPend.any (fun r => decide (r.p = p) && (r.engine == engine))

/-- A request of the core (class 0 to 3) or of the test engine (R443, R448). One made in cycle 0 of a sub-tick waits for the redistribution (R466). -/
def State.clrRequest (s : State) (p : Nat) (engine : Bool) (cls : Nat) : State :=
  let q := quayOf p
  if s.clrBusy p engine then s
  else if !engine && decide (2 ≤ cls) then
    let s := s.modTile p (fun t => { t with clrBad := true })
    ((s.put (BOL_CLR_BAD_CLASS p) 1).count (QY_CLEAR_CNT1_BAD_CLASS q) 1).logTile p 0x0A0D p cls 0 s.tick32
  else
    let r : ClrReq := ⟨p, engine, cls, s.now⟩
    let c := clrCost cls
    if s.beforeShare q then ((s.put (BOL_CLR_PENDING p) 1).modQuay q (fun t => { t with clrPend := t.clrPend ++ [r] })).countPending q
    else
    let open_ := s.flag (QY_CLEAR_CTL_EN q) && decide (s.govState q ≠ gvPfail)
    if open_ && decide (c ≤ s.get (BOL_CLR_BUCKET p)) then
      let s := s.put (BOL_CLR_BUCKET p) (s.get (BOL_CLR_BUCKET p) - c)
      ((s.put (QY_CLEAR_TOK_BUCKETS q) (s.get (QY_CLEAR_TOK_BUCKETS q) - c)).clrGrant r true)
    else
      let s := (s.put (BOL_CLR_PENDING p) 1).modQuay q (fun t => { t with clrPend := t.clrPend ++ [r] })
      let s := if engine then s else s.modTile p (fun t => { t with progress := true })
      (s.poolServe q [r])

/-! ### Requests of one cycle (R74, R448) -/

/-- Items in the order of R17 among `n` claimants. -/
def State.rotated {α : Type} (s : State) (n : Nat) (idx : α → Nat) (l : List α) : List α :=
  let key := fun i => (i + n - s.jt % n) % n
  let rec ins (x : α) : List α → List α
    | [] => [x]
    | y :: t => if key (idx x) < key (idx y) then x :: y :: t else y :: ins x t
  l.foldl (fun acc x => ins x acc) []

/-- Items in the order of R17 with the local tile index as claimant. -/
def State.inRotation {α : Type} (s : State) (idx : α → Nat) (l : List α) : List α := s.rotated regionTiles idx l

/-- CLEARANCE_REQUEST: the requests (tile, test engine or core, class) of one cycle. At a Bollard the core is claimant 0 and the engine 1 (R74); at a quay the
tiles come in the order of their local index (R448). -/
def State.clrRequests (s : State) (l : List (Nat × Bool × Nat)) : State :=
  let l := s.inRotation (fun x => localOf x.1) (s.rotated 2 (fun x => bit x.2.1) l)
  -- a core's request passes the clamp of its Bollard (R50)
  (l.filter (fun x => decide (quayOf x.1 < s.nQuays) && (x.2.1 || s.cdomOk x.1))).foldl (fun s x => s.clrRequest x.1 x.2.1 (x.2.2 % 4)) s

/-! ### Returns (R444, R449, R465) -/

/-- The waiting request of the core or of the engine is withdrawn. -/
def State.clrWithdraw (s : State) (p : Nat) (engine : Bool) : State :=
  let q := quayOf p
  let mine := fun (r : ClrReq) => decide (r.p = p) && (r.engine == engine)
  let s := ((s.quay q).clrPend.filter mine).foldl State.showWait s
  let s := s.modQuay q (fun t => { t with clrPend := t.clrPend.filter (fun r => !mine r) })
  (s.put (BOL_CLR_PENDING p) (bit (s.clrWaits p))).countPending q

/-- How many of `n` returned tokens the account may keep. -/
def State.keepable (s : State) (q n : Nat) : Nat :=
  let used := s.get (QY_CLEAR_TOK_HELD q) + s.get (QY_CLEAR_TOK_BUCKETS q) + s.get (QY_CLEAR_TOK_POOL q) + (s.quay q).reserve
  min n (s.get (QY_CLEAR_STAT_CEIL q) - used)

/-- Return `n` tokens of tile `p`: into its bucket, the excess into the pool, as far as the account keeps them. -/
def State.giveBack (s : State) (p n : Nat) : State :=
  let q := quayOf p
  let s := s.put (BOL_CLR_HELD p) (s.get (BOL_CLR_HELD p) - n)
  let s := s.put (QY_CLEAR_TOK_HELD q) (s.get (QY_CLEAR_TOK_HELD q) - n)
  let k := if s.govState q = gvPfail then 0 else s.keepable q n
  let b := min k (s.bucketMax q - s.get (BOL_CLR_BUCKET p))
  let s := (s.put (BOL_CLR_BUCKET p) (s.get (BOL_CLR_BUCKET p) + b)).put (QY_CLEAR_TOK_BUCKETS q) (s.get (QY_CLEAR_TOK_BUCKETS q) + b)
  let s := s.put (QY_CLEAR_TOK_POOL q) (s.get (QY_CLEAR_TOK_POOL q) + (k - b))
  -- a request of this cycle is judged after the release (R465)
  let s := match (s.quay q).clrPend.find? (fun r => decide (r.p = p) && decide (r.since = s.now)) with
    | some r => (s.modQuay q (fun t => { t with clrPend := t.clrPend.erase r })).clrRequest p r.engine r.cls
    | none => s
  s.poolServe q ((s.quay q).clrPend.filter (fun r => !(s.beforeShare q && decide (r.since = s.now))))

/-- The core's or the engine's clearance ends, or its pending request is withdrawn (R443, R444). -/
def State.clrRelease (s : State) (p : Nat) (engine : Bool) : State :=
  if engine then
    let n := s.get (BOL_CLR_HELD p) - (if s.flag (BOL_CLR_CORE_HOLD p) then 2 else 0)
    if s.flag (BOL_CLR_ENG_HOLD p) then (s.put (BOL_CLR_ENG_HOLD p) 0).giveBack p n else s.clrWithdraw p true
  else
    let s := s.modTile p (fun t => { t with clrBad := false })
    if s.flag (BOL_CLR_CORE_HOLD p) then (s.put (BOL_CLR_CORE_HOLD p) 0).giveBack p 2 else s.clrWithdraw p false

/-- CRST_N goes low, or CDOM_OK falls: the core's tokens return (R444), BAD_CLASS clears (R471), open tiles are discarded (R84). -/
def State.coreReset (s : State) (p : Nat) : State :=
  (((s.computeDown p).clrRelease p false).put (BOL_CLR_BAD_CLASS p) 0).refreshTile p

/-- CLEARANCE_OVERHOLD (R445). -/
def State.overhold (s : State) (p : Nat) : State :=
  let q := quayOf p
  let t := s.tile p
  let held := (s.since t.clrSince).toNat
  if !s.flag (BOL_CLR_CORE_HOLD p) || t.clrOver || decide (held ≤ s.get (QY_CLEAR_CTL_HOLD_MAX q)) then s
  else
    let s := (s.modTile p (fun t => { t with clrOver := true })).count (QY_CLEAR_CNT1_OVERHOLD q) 1
    s.logTile p 0x0A0C p (s.get (BOL_CLR_CLASS p)) (min held 0xFFFFFFFF) s.tick32

/-! ### Tender tokens (R359, R449) -/

/-- A tender takes a token from the reserve. Gives whether it got one. -/
def State.tenderTake (s : State) (q : Nat) : State × Bool :=
  if s.flag (QY_CLEAR_CTL_EN q) && decide (s.govState q ≠ gvPfail) && decide (0 < (s.quay q).reserve) then
    let s := s.modQuay q (fun t => { t with reserve := t.reserve - 1 })
    let s := s.put (QY_CLEAR_TOK_TENDER q) (s.get (QY_CLEAR_TOK_TENDER q) + 1)
    (s.setHeld q (s.get (QY_CLEAR_TOK_HELD q) + 1), true)
  else (s, false)

/-- A tender's token goes back to the reserve. -/
def State.tenderReturn (s : State) (q : Nat) : State :=
  let s := s.put (QY_CLEAR_TOK_TENDER q) (s.get (QY_CLEAR_TOK_TENDER q) - 1)
  let s := s.put (QY_CLEAR_TOK_HELD q) (s.get (QY_CLEAR_TOK_HELD q) - 1)
  let k := if s.govState q = gvPfail then 0 else s.keepable q 1
  s.modQuay q (fun t => { t with reserve := t.reserve + k })

/-! ### The redistribution (R446, R447, R451) -/

/-- Serve a list of pending requests out of `allow`. -/
def State.allowServe (s : State) (q allow : Nat) : List ClrReq → State × Nat
  | [] => (s, allow)
  | r :: t =>
    let c := clrCost r.cls
    if c ≤ allow then ((s.modQuay q (fun x => { x with clrPend := x.clrPend.erase r })).clrGrant r false).allowServe q (allow - c) t
    else s.allowServe q allow t

/-- Fill the buckets of a list of tiles, each with the tokens granted to it in the sub-tick before, out of `allow`. -/
def State.fillBuckets (s : State) (q allow total : Nat) : List (Nat × Nat) → State × Nat × Nat
  | [] => (s, allow, total)
  | (p, used) :: t =>
    let b := min (s.bucketMax q) (min used allow)
    (s.put (BOL_CLR_BUCKET p) b).fillBuckets q (allow - b) (total + b) t

/-- T takes effect at a sub-tick's cycle 0 (R451). -/
def State.takeT (s : State) (q : Nat) : State :=
  let floor := s.get (QY_CLEAR_CTL_T_FLOOR q)
  let t := max (max (s.get (QY_CLEAR_STAT_T_THERM q)) (s.get (QY_CLEAR_STAT_T_PWR q))) floor
  let t := if s.govState q = gvCritical then 15 else t
  let old := s.get (QY_CLEAR_STAT_T q)
  let why := if (s.quay q).floorSeen ≠ floor then 10 else (s.quay q).tWhy
  let s := s.modQuay q (fun x => { x with floorSeen := floor })
  let s := ((s.put (QY_CLEAR_STAT_T q) t).put (QY_CLEAR_STAT_CEIL q) (s.clrCeil q t)).put (QY_CLEAR_STAT_RISE q) (s.clrRise q)
  if old = t then s else (s.count (QY_CLEAR_CNT1_STEPS q) 1).logQuay q 0x0A01 q (old + t * 16) why s.tick32

/-- Cycle 0 of sub-tick `k` has come, and quay `q` has not made its redistribution. -/
def State.shareDue (s : State) (q k : Nat) : Bool :=
  decide (s.time.cyc ≤ k % 16 * (s.tickLen / 16)) && decide ((s.quay q).subAt ≠ some (s.time.tick, k % 16))

/-- SUBTICK_REDISTRIBUTE (R446, R447, R466): at cycle 0 of sub-tick `k`. A request of that cycle is judged after it. -/
def State.redistribute (s : State) (q k : Nat) : State :=
  if !s.shareDue q k then s
  else
  let s := (s.at_ (k % 16 * (s.tickLen / 16))).takeT q
  let s := s.modQuay q (fun t => { t with subAt := some (s.time.tick, k % 16) })
  let tiles := s.touchedTiles.filter (fun p => quayOf p = q)
  let s := tiles.foldl (fun s p => s.put (BOL_CLR_BUCKET p) 0) s
  let s := (s.put (QY_CLEAR_TOK_BUCKETS q) 0).put (QY_CLEAR_TOK_POOL q) 0
  let held := s.get (QY_CLEAR_TOK_HELD q)
  let s := s.modQuay q (fun t => { t with heldSub := held })
  let allow := if s.govState q = gvPfail ∨ ¬ s.flag (QY_CLEAR_CTL_EN q) then 0
    else min (s.get (QY_CLEAR_STAT_RISE q)) (s.get (QY_CLEAR_STAT_CEIL q) - held)
  let r := min allow (s.get (QY_TND_CTL_RESERVE_TOK q) - s.get (QY_CLEAR_TOK_TENDER q))
  let s := s.modQuay q (fun t => { t with reserve := r })
  let pend := (s.quay q).clrPend.filter (fun r => r.since ≠ s.now)
  let core := s.inRotation (fun r : ClrReq => localOf r.p) (pend.filter (fun r => decide (r.cls ≤ 1)))
  let eng := s.inRotation (fun r : ClrReq => localOf r.p) (pend.filter (fun r => decide (2 ≤ r.cls)))
  -- a grant made here belongs to the sub-tick that starts (R447: used is of the sub-tick before)
  let used := tiles.map (fun p => (p, (s.tile p).clrUsed))
  let s := tiles.foldl (fun s p => s.modTile p (fun x => { x with clrUsed := 0 })) s
  let (s, allow) := s.allowServe q (allow - r) core
  let (s, allow) := s.allowServe q allow eng
  let (s, allow, total) := s.fillBuckets q allow 0 (s.inRotation (fun x : Nat × Nat => localOf x.1) used)
  let s := (s.put (QY_CLEAR_TOK_BUCKETS q) total).put (QY_CLEAR_TOK_POOL q) allow
  let s := (s.quay q).clrPend.foldl State.showWait s
  let here := (s.quay q).clrPend.filter (fun r => r.since = s.now)
  let s := s.modQuay q (fun t => { t with clrPend := t.clrPend.filter (fun r => r.since ≠ s.now) })
  (here.foldl (fun s r => s.clrRequest r.p r.engine r.cls) (s.countPending q))

/-- A tick in which a core's request waits counts as a tick of sleep (R445). -/
def State.clrTick (s : State) (q : Nat) : State :=
  (s.quay q).clrPend.foldl (fun s r => if r.engine then s else s.modTile r.p (fun t => { t with progress := true })) s

/-- PEAK covers the last complete housekeeping round (R475). -/
def State.clrRound (s : State) (q : Nat) : State :=
  let t := s.quay q
  let s := ((s.put (QY_CLEAR_PEAK_HELD q) t.peakHeld).put (QY_CLEAR_PEAK_RISE q) (min t.peakRise 1023)).put (QY_CLEAR_PEAK_WAIT q)
    (min t.peakWait (2 ^ 24 - 1))
  s.modQuay q (fun t => { t with peakHeld := s.get (QY_CLEAR_TOK_HELD q), peakRise := 0, peakWait := 0 })

end Sys2Proof.Machine
end

