-- ==== Sys2Proof/Machine/Pilot.lean ====
section
/-!
DEFINITION. Pilot sampling and shadow execution (chapter 04): the hash and the decisions at the ADDR beat, eligibility, the rate, placement, the descriptor
berths and their states, the compare, captures, audits, make-ups and patches.
-/

namespace Sys2Proof.Machine

def ceilDiv (a b : Nat) : Nat := (a + b - 1) / b

/-! ### The decision (R142 to R145) -/

/-- The finalised hash of R142. -/
def pilotHash (seed : BitVec 64) (lcore t seq : Nat) : BitVec 64 :=
  let x := seed ^^^ BitVec.ofNat 64 (lcore * 0x9E3779B97F4A7C15)
  let x := x ^^^ BitVec.ofNat 64 (t * 0xC5A31F7B92D4E861) ^^^ BitVec.ofNat 64 (seq * 0x8B4F2A17D3C659E5)
  let x := (x ^^^ (x >>> 30)) * 0xBF58476D1CE4E5B9#64
  let x := (x ^^^ (x >>> 27)) * 0x94D049BB133111EB#64
  x ^^^ (x >>> 31)

/-- Operand and write-back lanes of a full beat (R61). -/
def opLanes (fmt : Nat) : Nat := 256 / elemBits fmt
def wbLanes (fmt : Nat) : Nat := 256 / resBits fmt

/-- Dense bytes of the two operands (R56, R144). -/
def denseA (d : BitVec 64) : Nat := dM d * dK d * elemBits (dFmt d) / 8
def denseB (d : BitVec 64) : Nat := dK d * dN d * elemBits (dFmt d) / 8

/-- The result buffer (R144). -/
def resultBytes (d : BitVec 64) : Nat := dM d * dN d * (resBits (dFmt d) / 8)

/-- Beats of a step when every beat is full (R144). -/
def opBeats (d : BitVec 64) : Nat :=
  let l := opLanes (dFmt d)
  dK d * (ceilDiv (dM d) l + ceilDiv (dN d) l)
    + (if dFmt d = fmtMxfp4 then dK d / 32 * (ceilDiv (dM d) 32 + ceilDiv (dN d) 32) else 0)
def wbBeats (d : BitVec 64) : Nat := dM d * ceilDiv (dN d) (wbLanes (dFmt d))

/-- The copy size without the kernel (R146): held A, held B, skip map, X. -/
def copyBytes (d : BitVec 64) (heldA heldB xlen : Nat) : Nat := heldA + heldB + (if dPred d then 32 else 0) + xlen

/-- FMA rate per cycle of a format (R145). -/
def fmaRate (fmt : Nat) : Nat :=
  match fmt with
  | 0 => 4 | 1 => 16 | 2 | 3 => 64 | 6 => 256 | _ => 128

/-- T_est without the far term (R145). -/
def tEst (d : BitVec 64) (copyK e : Nat) : Nat :=
  128 + ceilDiv copyK 8 + ceilDiv (dM d * dN d * dK d) (fmaRate (dFmt d)) + ktEpi e + ceilDiv (ktOutLen e) 8

/-- SHADOW_MAX (R144). -/
def State.shadowMax (s : State) : Nat := s.tickLen + s.window - 800

/-- Samples counted under the four-sample rule (R144): open sampled tiles and those closed in this tick. -/
def TileSt.sampCount (t : TileSt) : Nat := (t.opens.filter (fun o => o.sample.isSome)).length + t.samples.length

/-- Eligibility of a step at its ADDR beat (R144). -/
def State.eligible (s : State) (p : Nat) (o : OpenTile) (heldA heldB : Nat) : Bool :=
  let q := s.runner p
  let d := o.desc
  let e := s.ktab q (dTag d)
  let a := if dSparse d then heldA else denseA d
  let b := if dSparse d then heldB else denseB d
  decide (o.bad = 0) && !o.judged
    && s.flag (QY_PILOT_CTL_EN q) && s.flag (QY_PILOT_BASE_KTAB_VALID q)
    && !ktExclude e && decide (ktOutLen e ≤ resultBytes d)
    && decide ((dM d * dK d + dK d * dN d) * elemBits (dFmt d) ≤ 49152 * 8)
    && decide (ktKlen e + copyBytes d a b (ktXlen e) + resultBytes d + 128 ≤ 65536)
    && decide (40 * (opBeats d + wbBeats d) ≤ 61440)
    && decide (tEst d (copyBytes d a b (ktXlen e) + ktKlen e) e ≤ s.shadowMax)
    && decide ((s.tile p).sampCount < 4)

/-- The rate in force for the core in job tick `n` when none is kept (R143). -/
def State.rateFor (s : State) (p : Nat) : Nat :=
  let r := s.get (QY_PILOT_STAT_RATE_EFF (s.runner p))
  if s.colour p = amber then (if r = 0 then 0 else max (s.get (QY_PILOT_CTL_AMBER_NUM (s.runner p))) r) else r

/-- The rate in force for the core in the job tick in progress, and whether it is the Amber rate: the kept ones of a replayed job tick, else those that the
broadcast of the tick before and the colour give (R143). -/
def State.rateNow (s : State) (p : Nat) : Nat × Bool :=
  (((s.tile p).rates.find? (fun x => x.1 = s.jt)).map (·.2)).getD (s.rateFor p, decide (s.colour p = amber) && decide (s.rateFor p ≠ 0))

/-- BOL_PILOT shows the rate in force (R143, R179). -/
def State.showRate (s : State) (p : Nat) : State :=
  ((s.put (BOL_PILOT_AMBER p) (bit (s.rateNow p).2)).put (BOL_PILOT_RATE p) (s.rateNow p).1).put (BOL_PILOT_SAMP_OPEN p) (s.tile p).sampCount

/-- A job tick runs: its rate takes effect at cycle 0, and is kept (R143). -/
def State.turnRate (s : State) (p : Nat) : State :=
  (s.modTile p (fun t => { t with rates := ((s.jt, s.rateNow p) :: t.rates.filter (fun x => decide (x.1 ≠ s.jt))).take 4 })).showRate p

/-- The sample, audit and far decisions at the ADDR beat of open tile `n` (R142, R161). -/
def State.decide_ (s : State) (p n heldA heldB : Nat) : State :=
  match (s.tile p).opens[n]? with
  | none => s
  | some o =>
    if s.role p ≠ roleJob then s
    else
      let q := s.runner p
      let x := (pilotHash (s.word (QY_PILOT_SEED q)) (s.lcore p) o.tick (dSeq o.desc)).toNat
      let sample := s.eligible p o heldA heldB && decide (x / 2 ^ 54 < s.get (BOL_PILOT_RATE p))
      let audit := dPred o.desc && s.flag (QY_PILOT_CTL_EN q) && decide (x / 2 ^ 44 % 2 ^ 10 < s.get (QY_PILOT_CTL_AUDIT_NUM q))
      let far := sample && decide (x / 2 ^ 41 % 8 < s.get (QY_PILOT_CTL_FAR_EIGHTHS q)) && decide (s.sp.variant ≠ .w1)
      let s :=
        if audit then
          if dSparse o.desc then s.count (QY_PILOT_CNT3_AUDIT_SKIPPED q) 1
          else (s.modQuay q (fun t => { t with audits := t.audits ++ [⟨p, o.desc, o.tick, none, false⟩] })).bump (BOL_PILOT_AUDIT_OPEN p) 1
        else s
      if sample then { s with sampReqs := s.sampReqs ++ [⟨p, o.desc, o.addr.getD 0, o.tick, far,
        if dSparse o.desc then heldA else denseA o.desc, if dSparse o.desc then heldB else denseB o.desc, s.now⟩] } else s

/-! ### The rate (R146) -/

/-- A rate has been computed for the next tick, from `total` tiles (R146): every change is recorded. -/
def State.setRate (s : State) (q rate total : Nat) : State :=
  let num := s.get (QY_PILOT_CTL_RATE_NUM q)
  let free := s.freeSpares q
  let old := (s.quay q).nextRate
  let wasStopped := s.flag (QY_PILOT_STAT_STOPPED q)
  let s := (s.showFree q free).modQuay q (fun t => { t with nextRate := rate })
  let s := (s.put (QY_PILOT_STAT_CAPPED q) (bit (decide (rate < num)))).put (QY_PILOT_STAT_STOPPED q) (bit (decide (rate = 0)))
  let s := if rate = old then s else s.logQuay q 0x0305 rate num free total
  if rate = 0 ∧ ¬ wasStopped then s.logQuay q 0x0306 free total 0 0 else s

/-- At cycle 0 of a tick the quay's broadcast takes effect (R143). -/
def State.rateTick (s : State) (q : Nat) : State := s.put (QY_PILOT_STAT_RATE_EFF q) (s.quay q).nextRate

/-- RATE_UPDATE: the rate for the next tick. -/
def State.rateUpdate (s : State) (q : Nat) : State :=
  let s := s.at_ (s.commitAt + 1)
  let complete := decide ((s.reporting q).length ≤ (s.quay q).got.length)
  let s := if complete then s.modQuay q (fun t => { t with tilesLast := t.tilesNow }) else s
  let slots := s.get (QY_PILOT_CTL_PER_SPARE q) * (s.freeSpares q - s.get (QY_PILOT_CTL_KEEP q))
  let num := s.get (QY_PILOT_CTL_RATE_NUM q)
  let total := (s.quay q).tilesLast
  s.setRate q (if s.lantern then 0 else if total = 0 then (if 0 < slots then num else 0) else min num (1024 * slots / total)) total

/-! ### Berths (R149, R150) -/

def State.berth (s : State) (q b : Nat) : Berth := tabGet (fun _ => Berth.free) (s.quay q).berths b

/-- The eight words of a berth (R149). -/
def Berth.words (x : Berth) : List (BitVec 64) :=
  [x.desc, x.addr,
   BitVec.ofNat 64 (x.tick % 2 ^ 50 + dSeq x.desc * 2 ^ 50 + x.st % 8 * 2 ^ 58 + bit x.far * 2 ^ 61),
   BitVec.ofNat 64 (x.origin % 2 ^ 20 + x.shadow % 2 ^ 20 * 2 ^ 20 + x.lcore % 2 ^ 20 * 2 ^ 40 + x.delta % 16 * 2 ^ 60),
   x.tapO.getD 0, x.tapS.getD 0, x.outO.getD 0, x.outS.getD 0]

/-- Write a berth, in the quay's registers and in the store (R149, R177). -/
def State.setBerth (s : State) (q b : Nat) (x : Berth) : State :=
  let s := s.modQuay q (fun t => { t with berths := tabSet (fun _ => Berth.free) t.berths b x })
  let s := s.writeWords (qsAddr q (s.get (QY_PILOT_BASE_DBERTH_OFF q) + 64 * b)) x.words
  s.put (QY_PILOT_STAT_BERTHS q) ((s.quay q).berths.filter (fun y => decide (y.2.st ≠ 0))).length

/-- States of R150. -/
def btFree : Nat := 0
def btTaken : Nat := 1
def btCopying : Nat := 2
def btRunning : Nat := 3
def btReturned : Nat := 4
def btLate : Nat := 5
def btDisputed : Nat := 6
def btAborting : Nat := 7

/-- The tick a berth's step belongs to: known once the original's frame gave DELTA, else the tick in progress (R149, R167). -/
def State.belongs (s : State) (x : Berth) : Nat := if x.tapO.isSome then x.tick + x.delta else s.jt

/-- The lowest free index below `n` of a table of slots. -/
def lowestFree {α : Type} (t : Tab α) (n : Nat) : Option Nat := (List.range n).find? (fun i => !t.any (fun x => x.1 = i))

/-- Put a spare into service as a shadow (R154). -/
def State.makeShadow (s : State) (p : Nat) : State :=
  if s.use p = useShadow then s
  else
    let s := s.setUse p useShadow
    let s := (s.put (BOL_CTL_ROLE p) roleShadow).put (BOL_CTL_CHECK_EN p) 1
    let s := ((s.put (BOL_CTL_GUARD p) 1).put (BOL_CTL_BW_FORCE p) 1).breakwater p 0
    let s := (s.put (BOL_CTL_CG_HOLD p) 0).releaseCore p
    ((s.bump (QY_PILOT_STAT_SHADOWS (quayOf p)) 1)).refreshTile p

/-- A shadow's work for a berth has ended: with none left it is idle again. -/
def State.releaseShadow (s : State) (p q b : Nat) : State :=
  let s := s.modTile p (fun t => { t with hosts := t.hosts.filter (fun h => decide (h ≠ (q, b))) })
  if s.use p = useShadow ∧ (s.tile p).hosts = [] then
    let s := (s.put (BOL_CTL_ROLE p) roleIdle).setUse p useIdle
    (s.put (QY_PILOT_STAT_SHADOWS (quayOf p)) (s.get (QY_PILOT_STAT_SHADOWS (quayOf p)) - 1)).refreshTile p
  else s

/-! ### Placement (R147, R148, R153) -/

/-- Core cycles since tick 0 at the nominal tick length. -/
def State.absNow (s : State) : Nat := s.time.tick * s.tickLen + s.time.cyc

/-- The free spares of region `q` that qualify for a shadow of estimate `est` (R147). -/
def State.qualified (s : State) (q est : Nat) : List Nat :=
  (regionOf q).filter (fun p =>
    let t := s.tile p
    s.isFree p && s.claimable p
      && decide ((if t.hostTick = s.time.tick then t.hostCount else 0) < s.get (QY_PILOT_CTL_PER_SPARE q))
      && decide (max s.absNow t.busyTill + est ≤ (s.time.tick + 2) * s.tickLen + s.window))

/-- Tender `b mod 8` serves berth `b` (R152). -/
def State.queueWork (s : State) (q t : Nat) (w : Work) : State :=
  let x := tabGet (fun _ => Tender.idle) (s.quay q).tenders t
  let x := { x with queue := x.queue ++ [w] }
  (s.modQuay q (fun y => { y with tenders := tabSet (fun _ => Tender.idle) y.tenders t x })).put (QY_TND_STAT_QUEUE q t) x.queue.length

/-- Give spare `p` the step of berth `b` of quay `q` (R147, R152). -/
def State.assign (s : State) (q b p est : Nat) (x : Berth) : State :=
  let s := s.makeShadow p
  let s := s.modTile p (fun t => { t with
    hosts := t.hosts ++ [(q, b)], busyTill := max s.absNow t.busyTill + est
    hostCount := (if t.hostTick = s.time.tick then t.hostCount else 0) + 1, hostTick := s.time.tick })
  let s := s.put (BOL_PILOT_BERTH p) b
  (s.setBerth q b { x with shadow := p, farAsk := none, st := btTaken }).queueWork q (b % 8) (.berth b)

/-- The KiB·hops a copy of `copy` bytes without the kernel from tile `src` to tile `p` is charged (R153): the kernel is copied unless the tile holds it. -/
def State.charge (s : State) (q src p copy : Nat) (desc : BitVec 64) : Nat :=
  let e := s.ktab q (dTag desc)
  let c := copy + (if (s.tile p).kernel = some (ktKoff e) then 0 else ktKlen e)
  ceilDiv c 1024 * hopsBetween src p

/-- A copy that is made whatever the budget, charged to its origin quay all the same (R153): a make-up's, a witness's, a referee's. -/
def State.chargeCopy (s : State) (q src p copy : Nat) (desc : BitVec 64) : State :=
  let c := s.charge q src p copy desc
  s.modQuay q (fun t => { t with bwUsed := t.bwUsed + c })

/-- What a placement gives: placed, no shadow, or no bandwidth. -/
inductive Placed where
  | yes | noShadow | noBandwidth
  deriving DecidableEq, Repr

/-- Place berth `b` on a spare of region `at_` (R147, R153). -/
def State.placeOn (s : State) (q b at_ est : Nat) (x : Berth) : State × Placed :=
  match s.nearest x.origin (s.qualified at_ est) with
  | none => (s, .noShadow)
  | some p =>
    let c := s.charge q x.origin p x.copy x.desc
    if s.get (QY_PILOT_BW_BUDGET q) < (s.quay q).bwUsed + c then (s, .noBandwidth)
    else ((s.modQuay q (fun t => { t with bwUsed := t.bwUsed + c })).assign q b p est x, .yes)

/-- Count a declined sample (R178, R180). -/
def State.declined (s : State) (q : Nat) (why : Placed) : State :=
  match why with
  | .noShadow => (s.count (QY_PILOT_CNT1_NO_SHADOW q) 1).modQuay q (fun t => { t with declNone := t.declNone + 1 })
  | .noBandwidth => (s.count (QY_PILOT_CNT3_BW_DECLINED q) 1).modQuay q (fun t => { t with declBw := t.declBw + 1 })
  | .yes => s

/-- The origin's Bollard learns that its sample has berth `b` (R151): the open tile, or the step already closed, is marked. -/
def State.grantTo (s : State) (r : SampReq) (b : Nat) : State :=
  let p := r.p
  let hit := fun (d : BitVec 64) (t : Nat) => decide (d = r.desc) && decide (t = r.tick)
  let t := s.tile p
  let s :=
    if t.opens.any (fun o => hit o.desc o.tick) then
      s.modTile p (fun t => { t with opens := t.opens.map (fun o => if hit o.desc o.tick then { o with sample := some b } else o) })
    else
      match t.steps.find? (fun st => hit st.desc st.tick) with
      | some st =>
        let s := if st.closed = s.jt then s.noteSample p (dSeq st.desc) st.sig else s
        s.modTile p (fun t => { t with steps := t.steps.map (fun o => if hit o.desc o.tick then { o with berth := some b } else o) })
      | none => s
  (s.put (BOL_PILOT_BERTH p) b).put (BOL_PILOT_SAMP_OPEN p) (s.tile p).sampCount

/-- Estimates of a berth: without and with the far term (R145). -/
def State.estOf (s : State) (q : Nat) (x : Berth) : Nat :=
  let e := s.ktab q (dTag x.desc)
  tEst x.desc (x.copy + ktKlen e) e

/-- A row that the TAG of a descriptor uses, in the kernel table or in its image, holds an uncorrectable word (R365). -/
def State.kernelBad (s : State) (q tag : Nat) : Bool :=
  let l := (s.quay q).badWords
  if l = [] then false
  else
    let e := s.ktab q tag
    let entry := s.get (QY_PILOT_BASE_KTAB_OFF q) + 16 * tag
    l.any (fun x => decide (rowOf x.1 = rowOf entry) || (decide (rowOf (ktKoff e) ≤ rowOf x.1) && decide (64 * rowOf x.1 < ktKoff e + ktKlen e)))

/-- Grant berth `b` to a request and place its shadow (R147, R148, R151). Gives whether the berth was granted. -/
def State.grant (s : State) (q b : Nat) (r : SampReq) : State × Bool :=
  let e := s.ktab q (dTag r.desc)
  let x : Berth := { Berth.free with
    desc := r.desc, addr := r.addr, tick := r.tick, st := btTaken, far := r.far, origin := r.p, lcore := s.lcore r.p
    outLen := ktOutLen e, heldA := r.heldA, heldB := r.heldB, copy := copyBytes r.desc r.heldA r.heldB (ktXlen e) }
  let est := s.estOf q x
  let fq := q ^^^ s.get (QY_PILOT_CTL_FAR_XOR q)
  if s.kernelBad q (dTag r.desc) then (s.declined q .noShadow, false)
  else if r.far && decide (est + 400 ≤ s.shadowMax) && decide (fq < s.nQuays) then
    (((s.setBerth q b { x with farAsk := some s.now }).count (QY_PILOT_CNT0_SAMPLES q) 1).grantTo r b, true)
  else
    let s := if r.far then s.count (QY_PILOT_CNT3_FAR_FALLBACK q) 1 else s
    let (s, ok) := s.placeOn q b (quayOf r.p) est { x with far := false }
    match ok with
    | .yes => ((s.count (QY_PILOT_CNT0_SAMPLES q) 1).grantTo r b, true)
    | why => (s.declined q why, false)

/-- The moment `n` cycles after another of the same tick. -/
def Moment.plus (m : Moment) (n : Nat) : Moment := ⟨m.tick, m.cyc + n, m.dev⟩

/-- The cycle of this tick in which the quay may grant its next berth: at most one a cycle (R151). -/
def State.grantCyc (s : State) (q : Nat) : Nat :=
  let m := (s.quay q).grantAt
  if m.tick = s.time.tick then max m.cyc s.time.cyc else s.time.cyc

/-- Serve waiting requests while berths are free, in the order of R17 and one berth a cycle (R151); each grant is made as of its own cycle. -/
def State.serveWaiting (s : State) (q : Nat) : Nat → State
  | 0 => s
  | k + 1 =>
    let w := (s.quay q).waiting
    match lowestFree (s.quay q).berths 512, rotWinner s.jt regionTiles (w.map (fun r => localOf r.p)) with
    | some b, some l =>
      match w.find? (fun r => localOf r.p = l) with
      | some r =>
        let now := s.time.cyc
        let c := s.grantCyc q
        let s := (s.modQuay q (fun t => { t with waiting := t.waiting.erase r })).at_ c
        let (s, ok) := s.grant q b r
        let s := if ok then s.modQuay q (fun t => { t with grantAt := s.now.plus 1 }) else s
        State.serveWaiting { s with time.cyc := now } q k
      | none => s
    | _, _ => s

/-- Serve all that wait at a quay. -/
def State.serveAll (s : State) (q : Nat) : State := s.serveWaiting q (s.quay q).waiting.length

/-- A berth becomes FREE, and a request that waits may take it. -/
def State.freeBerth (s : State) (q b : Nat) : State :=
  let x := s.berth q b
  let s := if x.farAsk.isNone && decide (x.st ≠ 0) then s.releaseShadow x.shadow q b else s
  (s.setBerth q b Berth.free).serveAll q

/-- The oldest request of tile `p` reaches its quay. -/
def State.requestIn (s : State) (p : Nat) : State :=
  match s.sampReqs.find? (fun r => r.p = p) with
  | none => s
  | some r => { s with sampReqs := s.sampReqs.erase r }.modQuay (s.runner p) (fun t => { t with waiting := t.waiting ++ [r] })

/-- SAMPLE_REQUEST (R151): the requests of tiles `ps` reach their quays in one cycle. -/
def State.sampleRequest (s : State) (ps : List Nat) : State :=
  let ps := ps.filter (fun p => decide (quayOf p < s.nQuays))
  ((ps.map s.runner).eraseDups).foldl (fun s q => s.serveAll q) (ps.foldl (fun s p => s.requestIn p) s)

/-- BERTH_FULL (R151): a request of tile `p` not granted within 512 cc is declined. -/
def State.berthFull (s : State) (p : Nat) : State :=
  let q := s.runner p
  match (s.quay q).waiting.find? (fun r => decide (r.p = p) && decide (512 ≤ s.since r.sent)) with
  | none => s
  | some r =>
    (s.modQuay q (fun t => { t with waiting := t.waiting.erase r, declFull := t.declFull + 1 })).count (QY_PILOT_CNT1_BERTH_FULL q) 1

/-- The far quay has no spare, or did not answer: the sample is placed near (R148). -/
def State.farFallback (s : State) (q b : Nat) (x : Berth) : State :=
  let s := s.count (QY_PILOT_CNT3_FAR_FALLBACK q) 1
  let (s, ok) := s.placeOn q b (quayOf x.origin) (s.estOf q x) { x with far := false, farAsk := none }
  match ok with
  | .yes => s
  | why => ((s.setBerth q b { x with farAsk := some s.now }).freeBerth q b).declined q why

/-- FAR_PLACEMENT_ANSWER (R148). -/
def State.farAnswer (s : State) (q b : Nat) : State :=
  let x := s.berth q b
  if x.farAsk.isNone then s
  else
    let (s, ok) := s.placeOn q b (q ^^^ s.get (QY_PILOT_CTL_FAR_XOR q)) (s.estOf q x + 400) x
    match ok with
    | .yes => s
    | .noShadow => s.farFallback q b x
    | why => (s.freeBerth q b).declined q why

/-- FAR_PLACEMENT_TIMEOUT (R148). -/
def State.farTimeout (s : State) (q b : Nat) : State :=
  let x := s.berth q b
  match x.farAsk with
  | some m => if 256 ≤ s.since m then s.farFallback q b x else s
  | none => s

/-! ### Aborts (R150, R167, R168) -/

/-- A transfer of a berth leaves its tender (R361). -/
def State.stopTransfer (s : State) (q b : Nat) : State :=
  let t := b % 8
  let x := tabGet (fun _ => Tender.idle) (s.quay q).tenders t
  let run := decide (x.cur = some (.berth b))
  let x := { x with queue := x.queue.filter (fun w => decide (w ≠ .berth b)), cur := if run then none else x.cur }
  let s := s.modQuay q (fun y => { y with tenders := tabSet (fun _ => Tender.idle) y.tenders t x })
  let s := s.put (QY_TND_STAT_QUEUE q t) x.queue.length
  if run then (s.put (QY_TND_STAT_STATE q t) 0).tenderReturn q else s

/-- A berth from TAKEN to LATE moves to ABORTING (reason 1 recall, 2 remap; 0 for the expiry of R157, which is recorded as SHADOW_HUNG). One that still
awaits a far quay's answer has no shadow to stop and is FREE at once. -/
def State.abortBerth (s : State) (q b reason : Nat) : State :=
  let x := s.berth q b
  if x.st = btFree ∨ btDisputed ≤ x.st then s
  else
    let s := if reason = 0 then s else s.logTile x.origin 0x0304 b (s.belongs x % 2 ^ 32) reason x.shadow
    let s := if reason = 2 then s.count (QY_PILOT_CNT3_ABORTED q) 1 else s
    if x.farAsk.isSome then s.freeBerth q b
    else
      let s := (s.setBerth q b { x with st := btAborting }).stopTransfer q b
      { s with stops := s.stops ++ [(x.shadow, q, b)] }

/-- SHADOW_STOP_CONFIRM (R150). -/
def State.stopConfirm (s : State) (q b : Nat) : State :=
  let x := s.berth q b
  if x.st ≠ btAborting then s
  else
    let s := { s with stops := s.stops.filter (fun y => decide (y ≠ (x.shadow, q, b))),
                      shadowSigs := s.shadowSigs.filter (fun y => decide (¬ (y.2.1 = q ∧ y.2.2.1 = b))) }
    (s.discardTiles x.shadow).freeBerth q b

/-- Numbers of a shadow's work beyond the berths: a make-up of its quay, and the referee run of a Customs queue slot (R163, R192). -/
def hostMakeup (i : Nat) : Nat := 512 + i
def hostReferee (slot : Nat) : Nat := 8192 + slot

/-- A spare loses the make-up or the referee run it had: another spare is to run it. -/
def State.dropWork (s : State) (p q b : Nat) : State :=
  let s := s.releaseShadow p q b
  if 8192 ≤ b then
    { s with customs.queue := s.customs.queue.map (fun (e : CusEntry) => if hostReferee e.id = b ∧ e.refTile = some p then { e with refTile := none, refReady := false } else e) }
  else
    s.modQuay q (fun t => { t with makeups := t.makeups.map (fun (m : Nat × MakeUp) =>
      if hostMakeup m.1 = b ∧ m.2.spare = some p ∧ !m.2.ran then (m.1, { m.2 with spare := none }) else m) })

/-- A move takes spare `p`: every step it runs as a shadow is aborted (R168). -/
def State.takeFromShadow (s : State) (p : Nat) : State :=
  (s.tile p).hosts.foldl (fun s h => if h.2 < 512 then s.abortBerth h.1 h.2 2 else s.dropWork p h.1 h.2) s

/-! ### Disputes and captures (R156, R158 to R160, R170, R185) -/

def State.capt (s : State) (q c : Nat) : Capt := tabGet (fun _ => Capt.free) (s.quay q).capts c

def State.setCapt (s : State) (q c : Nat) (x : Capt) : State :=
  let s := s.modQuay q (fun t => { t with capts := tabSet (fun _ => Capt.free) t.capts c x })
  s.put (QY_PILOT_STAT_CAPT_BUSY q) (s.quay q).capts.length

/-- Free a capture berth. -/
def State.freeCapt (s : State) (q c : Nat) : State := s.setCapt q c Capt.free

/-- Send the dispute message of a berth (R185, R186). -/
def State.sendDispute (s : State) (q b : Nat) (witnessNone : Bool) : State :=
  let x := s.berth q b
  let m : DispMsg := ⟨q, b, x.capt, x.kind, x.far, witnessNone, x.late, x.desc, x.tick, x.tick + x.delta, x.origin, x.shadow, x.lcore⟩
  { s with disputes := s.disputes ++ [m] }

/-- SAMPLE_MISMATCH with its continuation (R180). -/
def State.logMismatch (s : State) (q b : Nat) (tap out : Bool) : State :=
  let x := s.berth q b
  let d := x.desc.toNat
  s.logPair (1 + q) (srcWord tyQuay q x.origin) 0x0301 d (d / 2 ^ 32) (b + dSeq x.desc * 2 ^ 9) x.shadow
    (s.regionTemp q) (s.regionRail q) x.lcore (bit tap + 2 * bit out + 4 * bit x.far + 8 * bit x.late)

/-- A berth enters DISPUTED (R156, R157): the capture berth is taken, or the dispute goes without one (R170). -/
def State.dispute (s : State) (q b kind : Nat) (late tap out : Bool) : State :=
  let x := s.berth q b
  let s := s.count (QY_PILOT_CNT1_MISMATCHES q) 1
  let s := s.setBerth q b { x with st := btDisputed, kind := kind, late := late }
  let s := s.logMismatch q b tap out
  let s := s.modTile x.origin (fun t => { t with witness := true })
  let s :=
    if late then s
    else
      let s := s.detect x.origin x.lcore (s.belongs x) 3
      let s := (s.modQuay q (fun t => t.addUnclean (s.belongs x) [])).pullQuay q 3
      if s.use x.origin = useServes ∧ s.lcore x.origin = x.lcore ∧ ¬ s.demands.contains (x.origin, 0) then
        { s with demands := s.demands ++ [(x.origin, 0)] }
      else s
  match lowestFree (s.quay q).capts (s.captBerths q) with
  | some c =>
    (s.setBerth q b { s.berth q b with capt := some c }).setCapt q c { Capt.free with berth := b, words := (s.berth q b).words, witnessSince := s.now }
  | none =>
    let s := s.logTile x.origin 0x0309 b (s.jt % 2 ^ 32) 0 0
    (s.modTile x.origin (fun t => { t with witness := false })).sendDispute q b true

/-- E of R240 for cause 1. -/
def State.lateE (s : State) (x : Berth) (n : Nat) : Nat :=
  let t := s.tile x.origin
  min (n - 1) (max (max t.lastMatch (t.serviceFrom - 1)) (s.commit.openTick - 1))

/-- A late mismatch raises COMMITTED_SUSPECT (R157, R240). -/
def State.lateSuspect (s : State) (q : Nat) (x : Berth) (n : Nat) : State :=
  let t := s.tile x.origin
  let serving := decide (t.use = useServes) && decide (s.lcore x.origin = x.lcore)
  let e := s.lateE x n
  let last := max n (if serving then s.get HM_COMMIT_STAT_CTICK else t.leftAt)
  s.suspect (1 + q) (srcWord tyQuay q x.origin) q x.lcore x.origin 1 (e + 1) last e

/-- The compare, made as soon as all required signatures are present (R150, R155 to R157, R169). -/
def State.compare (s : State) (q b : Nat) : State :=
  let x := s.berth q b
  let outsIn := decide (x.outLen = 0) || (x.outO.isSome && x.outS.isSome)
  if !(x.tapO.isSome && x.tapS.isSome && outsIn) || !([btRunning, btReturned, btLate].contains x.st) then s
  else
    let n := x.tick + x.delta
    let tap := decide (x.tapO ≠ x.tapS)
    let out := decide (x.outLen ≠ 0) && decide (x.outO ≠ x.outS)
    let late := decide (x.st = btLate)
    if !tap && !out then
      let s := s.count (QY_PILOT_CNT0_MATCHES q) 1
      let s := if late then s
        else s.modTile x.origin (fun t => { t with matched := t.matched + (if s.colour x.origin = amber then 1 else 0), lastMatch := max t.lastMatch n })
      s.freeBerth q b
    else
      let s := s.dispute q b (if late then 5 else if tap then 1 else 2) late tap out
      if late then s.lateSuspect q x n else s

/-- Write make-up `i` of a quay. -/
def State.setMakeup (s : State) (q i : Nat) (m : MakeUp) : State :=
  s.modQuay q (fun t => { t with makeups := tabIns i m (tabDel i t.makeups) })

/-- Make-up `i` of a quay. -/
def State.makeup (s : State) (q i : Nat) : Option MakeUp := ((s.quay q).makeups.find? (fun m => m.1 = i)).map (·.2)

/-- The patch entry that is due for a step of tile `p`: the quay that keeps it, its number and itself (R163, R172). -/
def State.patchFor (s : State) (p : Nat) (st : StepSt) : Option (Nat × Nat × MakeUp) :=
  (List.range s.nQuays).findSome? (fun h =>
    ((s.quay h).makeups.find? (fun m => decide (m.2.lcore = s.lcore p) && decide (m.2.n = st.closed)
      && decide (dSeq m.2.desc = dSeq st.desc) && !m.2.applied && m.2.due)).map (fun m => (h, m.1, m.2)))

/-- A patch entry is held for logical core `l` (R163, R179). -/
def State.patchHeld (s : State) (l : Nat) : Bool :=
  (List.range s.nQuays).any (fun h => (s.quay h).makeups.any (fun m => m.2.lcore = l))

/-- A beat that closes the steps of tile `p` (R139, R154, R155, R163). -/
def State.closeSteps (s : State) (p : Nat) : State :=
  let steps := (s.tile p).steps
  let s := s.modTile p (fun t => { t with steps := [] })
  if s.role p = roleShadow then
    steps.foldl (fun s st =>
      match (s.tile p).hosts.find? (fun h => let x := s.berth h.1 h.2
          x.st = btRunning ∨ x.st = btLate ∧ x.copyAt = 2 ∧ x.tapS = none ∨ x.st = btDisputed ∧ x.tapS = none) with
      | some h => { s with shadowSigs := s.shadowSigs ++ [(p, h.1, h.2, st.sig)] }
      | none => s) s
  else if s.role p = roleJob then
    let q := s.runner p
    steps.foldl (fun s st =>
      let s := match st.berth with
        | some b => if (s.berth q b).outLen = 0 then s else { s with outSigs := s.outSigs ++ [(p, b, (s.berth q b).outLen)] }
        | none => s
      let s := if (s.quay q).audits = [] then s
        else s.modQuay q (fun t => { t with audits := t.audits.map (fun (a : Audit) =>
          if a.p = p ∧ a.desc = st.desc ∧ a.tick = st.tick then { a with n := some st.closed } else a) })
      match s.patchFor p st with
      | some (h, i, m) =>
        let s := (s.put (BOL_CTL_CG_HOLD p) 1).refreshTile p
        let s := s.setMakeup h i { m with held := true, p := p, addr := st.addr.toNat / 2 ^ 32 % 2 ^ 16 }
        if m.ready then s.queueWork h (localOf p % 8) (.patch i) else s
      | none => s) s
  else s

/-- OUTPUT_SIGNATURE (R155): the origin's output bytes as they stood when the step closed. -/
def State.outputSignature (s : State) (p : Nat) (out : List (BitVec 8)) : State :=
  match s.outSigs.find? (fun x => x.1 = p) with
  | none => s
  | some m =>
    let q := s.runner p
    let b := m.2.1
    let s := { s with outSigs := s.outSigs.erase m }
    let x := s.berth q b
    if x.origin ≠ p ∨ x.st = btFree ∨ x.st = btAborting then s
    else (s.setBerth q b { x with outO := some (BitVec.ofNat 64 (crc64 ((out.take m.2.2).map BitVec.toNat))) }).compare q b

/-- SHADOW_SIGNATURES (R154, R155): the oldest message of shadow tile `p`, with the output bytes it read. -/
def State.shadowSignatures (s : State) (p : Nat) (out : List (BitVec 8)) : State :=
  match s.shadowSigs.find? (fun x => x.1 = p) with
  | none => s
  | some m =>
    let q := m.2.1
    let b := m.2.2.1
    let s := { s with shadowSigs := s.shadowSigs.erase m }
    let x := s.berth q b
    if x.shadow ≠ p ∨ ¬ (x.st = btRunning ∨ x.st = btLate ∨ x.st = btDisputed) then s
    else
      let sig := if x.outLen = 0 then none else some (BitVec.ofNat 64 (crc64 ((out.take x.outLen).map BitVec.toNat)))
      let s := s.setBerth q b { x with tapS := some m.2.2.2, outS := sig, st := if x.st = btRunning then btReturned else x.st }
      s.compare q b

/-- The samples of a report frame reach their berths (R66, R155). -/
def State.frameSamples (s : State) (f : Frame) : State :=
  let q := s.runner f.p
  let w0 := (f.words.getD 0 0).toNat
  let n := w0 / 2 ^ 28 % 8
  (List.range (min n 4)).foldl (fun s i =>
    let seq := w0 / 2 ^ (32 + 8 * i) % 256
    let hit := fun (kv : Nat × Berth) => decide (kv.2.origin = f.p) && decide (dSeq kv.2.desc = seq) && kv.2.tapO.isNone
      && decide (kv.2.tick ≤ f.tick) && decide (f.tick - kv.2.tick < 16) && !([btFree, btAborting].contains kv.2.st)
    match (s.quay q).berths.find? hit with
    | none => s
    | some (b, x) => (s.setBerth q b { x with tapO := some (f.words.getD (2 + i) 0), delta := f.tick - x.tick }).compare q b) s

/-- A checksum-group cause on a shadow's tile disputes the berth it serves (R156). -/
def State.shadowAlarm (s : State) (p : Nat) : State :=
  match (s.tile p).hosts.find? (fun h => (s.berth h.1 h.2).st = btRunning ∨ (s.berth h.1 h.2).st = btLate ∧ (s.berth h.1 h.2).copyAt = 2) with
  | none => s
  | some h =>
    let x := s.berth h.1 h.2
    let late := decide (x.st = btLate)
    let s := s.dispute h.1 h.2 3 late false false
    if late then s.lateSuspect h.1 x (s.belongs x) else s

/-- The report of tick `n` is overdue (R157, R162): it is later than cycle W of job tick n + 2. -/
def State.overdue (s : State) (n : Nat) : Bool :=
  decide (n + 2 < s.jt) || (decide (n + 2 = s.jt) && decide (s.window < s.time.cyc))

/-- SHADOW_LATE (R157): at n+2.W+1 a berth that lacks a signature leaves the commit decision. -/
def State.shadowLate (s : State) (q b : Nat) : State :=
  let x := s.berth q b
  let n := s.belongs x
  if !([btTaken, btCopying, btRunning, btReturned].contains x.st) || !s.overdue n then s
  else
    let d := x.desc.toNat
    ((s.setBerth q b { x with st := btLate }).count (QY_PILOT_CNT1_LATE q) 1).logTile x.origin 0x0302 d (d / 2 ^ 32) (n % 2 ^ 32) x.shadow

/-- SHADOW_HUNG (R157): a berth LATE at n+4.0 is aborted, and the shadow spare is set Amber under code 18. -/
def State.shadowHung (s : State) (q b : Nat) : State :=
  let x := s.berth q b
  let n := s.belongs x
  if x.st ≠ btLate ∨ s.jt < n + 4 then s
  else
    let s := (s.abortBerth q b 0).logTile x.origin 0x0303 b (n % 2 ^ 32) 0 x.shadow
    if x.farAsk.isNone ∧ s.colour x.shadow = green ∧ s.flag HM_HEALTH_CTL_EN then s.setColour x.shadow amber 18 4 else s

/-! ### Capture passes (R158 to R160) -/

def Beat.kind (b : Beat) : Nat := b.info.toNat % 8
def Beat.index (b : Beat) : Nat := b.info.toNat / 2 ^ 36 % 2 ^ 16

/-- Insert a beat by its index. -/
def insBeat (x : Beat) : List Beat → List Beat
  | [] => [x]
  | y :: t => if x.index < y.index then x :: y :: t else y :: insBeat x t

/-- The original core can run as the witness (R158). -/
def State.witnessRuns (s : State) (x : Berth) : Bool :=
  decide (s.colour x.origin ≠ slate) && s.cdomOk x.origin && !s.flag (BOL_POS_BYPASS x.origin) && !s.flag (BOL_POS_CUT x.origin)
    && decide ((s.tile x.origin).hangTick ≠ some (x.tick + x.delta))

/-- Sizes of a stream in the two forms (R160). -/
def denseSize (l : List Beat) : Nat := 40 * l.length
def elidedSize (l : List Beat) : Nat := 64 * ceilDiv l.length 512 + 8 * l.length + 32 * (l.filter (fun b => decide (b.data ≠ 0))).length

/-- 256 data bits as four words. -/
def dataWords (d : BitVec 256) : List (BitVec 64) := (List.range 4).map (fun i => BitVec.ofNat 64 (d.toNat / 2 ^ (64 * i)))

def denseWords (l : List Beat) : List (BitVec 64) := l.flatMap (fun b => b.info :: dataWords b.data)

/-- The ELIDED form: bitmap padded to 64 bytes, metadata of every beat, data of the set beats (R160). -/
def elidedWords (l : List Beat) : List (BitVec 64) :=
  let bits := fun (k : Nat) => ((l.drop (64 * k)).take 64).zipIdx.foldl (fun acc x => acc + (if x.1.data = 0 then 0 else 2 ^ x.2)) 0
  (List.range (8 * ceilDiv l.length 512)).map (fun k => BitVec.ofNat 64 (bits k))
    ++ l.map (·.info) ++ (l.filter (fun b => decide (b.data ≠ 0))).flatMap (fun b => dataWords b.data)

/-- A stream's form: ELIDED when smaller, ties DENSE. -/
def formOf (l : List Beat) : Nat := if elidedSize l < denseSize l then 1 else 0
def formSize (l : List Beat) : Nat := if formOf l = 1 then elidedSize l else denseSize l
def formWords (l : List Beat) : List (BitVec 64) := if formOf l = 1 then elidedWords l else denseWords l

/-- CAPTURE_DONE (R159, R160): the berth is written and the dispute message sent. The streams follow one another from 0x0100. -/
def State.finishCapture (s : State) (q c : Nat) (witnessNone : Bool) : State :=
  let x := s.capt q c
  let b := x.berth
  let base := qsAddr q (65536 * (s.get (QY_PILOT_BASE_CBERTH_BLK q) + c))
  let big := decide (61440 < denseSize x.s0 + denseSize x.s1)
  let s0 := if big then x.s0.take (61440 / 40) else x.s0
  let s1 := if big then x.s1.take ((61440 - denseSize s0) / 40) else x.s1
  let w0 := if big then denseWords s0 else formWords s0
  let w1 := if big then denseWords s1 else formWords s1
  let room := 65536 - 256 - 8 * (w0.length + w1.length)
  let s2 := if big || witnessNone then [] else x.s2.take (room / 40)
  let s3 := if big || witnessNone then [] else x.s3.take ((room - denseSize s2) / 40)
  let t0 := big && decide (s0.length < x.s0.length)
  let t1 := big && decide (s1.length < x.s1.length)
  let t2 := !big && !witnessNone && decide (s2.length < x.s2.length)
  let t3 := !big && !witnessNone && decide (s3.length < x.s3.length)
  let f0 := if big then 0 else formOf x.s0
  let f1 := if big then 0 else formOf x.s1
  let o1 := 256 + 8 * w0.length
  let o2 := o1 + 8 * w1.length
  let o3 := o2 + denseSize s2
  let row := fun (off bytes beats form : Nat) (tr : Bool) =>
    [BitVec.ofNat 64 (off + bytes * 2 ^ 32), BitVec.ofNat 64 (beats % 2 ^ 16 + form * 2 ^ 16 + bit tr * 2 ^ 17)]
  let trunc := t0 || t1 || t2 || t3
  let s := s.writeWords base (x.words
    ++ row 256 (8 * w0.length) s0.length f0 t0 ++ row o1 (8 * w1.length) s1.length f1 t1
    ++ row o2 (denseSize s2) s2.length 0 t2 ++ row o3 (denseSize s3) s3.length 0 t3
    ++ [BitVec.ofNat 64 (bit witnessNone + 2 * bit trunc), 0, 0, 0, 0, 0, 0, 0] ++ [0, 0, 0, 0, 0, 0, 0, 0]
    ++ w0 ++ w1 ++ denseWords s2 ++ denseWords s3)
  let forms := f0 + 2 * f1
  let truncs := bit t0 + 2 * bit t1 + 4 * bit t2 + 8 * bit t3
  let bytes := o3 + denseSize s3
  let s := s.setCapt q c { x with done := true, witnessNone := witnessNone, s0 := s0, s1 := s1, s2 := s2, s3 := s3,
                                  truncs := truncs, bytes := bytes }
  let p := (s.berth q b).origin
  let s := s.modTile p (fun t => { t with witness := false })
  let s := s.logTile p 0x0308 b c (forms + truncs * 16 + bit witnessNone * 256) bytes
  s.sendDispute q b witnessNone

/-- The original tile takes ROLE TEST for the witness passes (R158). -/
def State.witnessOn (s : State) (p : Nat) : State := (s.put (BOL_CTL_ROLE p) roleTest).refreshTile p

/-- The witness passes are over: the tile has its former use again, and holds no kernel (R158). -/
def State.witnessOff (s : State) (p : Nat) : State :=
  let u := s.use p
  let s := (s.modTile p (fun t => { t with kernel := none })).put (BOL_PILOT_KERNEL p) 0
  (s.put (BOL_CTL_ROLE p) (if u = useServes then roleJob else if u = useTest ∨ u = useRetest then roleTest else if u = useShadow then roleShadow else roleIdle)).refreshTile p

/-- The 8 passes on the shadow have ended: a tender is to lay the step out in the witness, or the capture ends without one (R158). -/
def State.beginWitness (s : State) (q c : Nat) : State :=
  let x := s.capt q c
  let y := s.berth q x.berth
  if s.witnessRuns y then
    ((s.witnessOn y.origin).chargeCopy q y.shadow y.origin y.copy y.desc).queueWork q (x.berth % 8) (.witness c)
  else s.finishCapture q c true

/-- CAPTURE_PASS_DONE (R158): the next pass ends; `beats` are the records it forwarded, `sig` and `out` the tap and output signatures it reported. Pass s
forwards the beats whose index is congruent to s modulo 8. -/
def State.capturePass (s : State) (q c : Nat) (beats : List Beat) (sig out : BitVec 64) : State :=
  let x := s.capt q c
  let b := x.berth
  if x = Capt.free ∨ x.patch ∨ x.done ∨ (s.berth q b).st ≠ btDisputed then s
  else if x.passes < 8 then
    let x := (beats.filter (fun y => y.index % 8 = x.passes)).foldl
      (fun x y => if y.kind = 4 then { x with s1 := insBeat y x.s1 } else { x with s0 := insBeat y x.s0 }) x
    let x := { x with passes := x.passes + 1, sigs := x.sigs ++ [sig] }
    let s := s.setCapt q c x
    if x.passes < 8 then s else s.beginWitness q c
  else if !x.copied then s
  else
    let differs := fun (l : List Beat) (y : Beat) => !l.any (fun z => decide (z.index = y.index) && decide (z = y))
    let x := (beats.filter (fun y => y.index % 8 = x.passes - 8)).foldl (fun x y =>
      if y.kind = 4 then (if differs x.s1 y then { x with s3 := insBeat y x.s3 } else x)
      else if differs x.s0 y then { x with s2 := insBeat y x.s2 } else x) x
    let x := { x with passes := x.passes + 1, witnessSince := s.now, witSig := sig, witOut := out }
    let s := s.setCapt q c x
    if x.passes < 16 then s
    else (s.witnessOff (s.berth q b).origin).finishCapture q c false

/-- The witness is abandoned: its beats are discarded and WITNESS_NONE is set (R158). -/
def State.dropWitness (s : State) (q c : Nat) : State :=
  let x := s.capt q c
  ((s.setCapt q c { x with s2 := [], s3 := [] }).witnessOff (s.berth q x.berth).origin).finishCapture q c true

/-- WITNESS_TIMEOUT (R158): a witness pass not ended within 4 ticks. -/
def State.witnessTimeout (s : State) (q c : Nat) : State :=
  let x := s.capt q c
  if x = Capt.free ∨ x.patch ∨ x.done ∨ !x.copied ∨ s.time.tick < x.witnessSince.tick + 4 then s
  else s.dropWitness q c

/-! ### Skip audits, make-ups and patches (R161 to R163, R170, R172) -/

/-- The code of a zero of the format (R161). -/
def zeroCode (fmt c : Nat) : Bool :=
  if fmt = fmtInt8 then c % 256 = 0 else c % 2 ^ (elemBits fmt - 1) = 0

def popCount (m : BitVec 256) : Nat := ((List.range 256).filter (fun i => m.toNat.testBit i)).length

/-- The spare that a make-up of a step of tile `p` would take (R163). -/
def State.makeupSpare (s : State) (p : Nat) : Option Nat :=
  s.nearest p ((regionOf (quayOf p)).filter (fun x => s.isFree x && s.claimable x && decide ((s.tile x).hosts = [])))

/-- Bytes of a make-up's copy without the kernel (R163): the step is copied dense, with a skip map of zeros. -/
def makeupCopy (desc : BitVec 64) (xlen : Nat) : Nat := copyBytes desc (denseA desc) (denseB desc) xlen

/-- Make-up `i` takes a free spare, to which a tender copies the step (R163). -/
def State.makeupOn (s : State) (q i : Nat) : State :=
  match s.makeup q i with
  | none => s
  | some m =>
    match s.makeupSpare m.p with
    | none => s
    | some p =>
      let s := s.chargeCopy q m.p p (makeupCopy m.desc (ktXlen (s.ktab q (dTag m.desc)))) m.desc
      let s := (s.makeShadow p).modTile p (fun t => { t with hosts := t.hosts ++ [(q, hostMakeup i)] })
      (s.setMakeup q i { m with spare := some p }).queueWork q (localOf m.p % 8) (.makeup i)

/-- Start a dense make-up (R163): a spare and a capture berth are taken when there are some. -/
def State.startMakeup (s : State) (q : Nat) (a : Audit) (n : Nat) : State :=
  let c := lowestFree (s.quay q).capts (s.captBerths q)
  let i := (lowestFree (s.quay q).makeups 4096).getD 4096
  let s := match c with
    | some c => s.setCapt q c { Capt.free with patch := true }
    | none => s.logTile a.p 0x0309 0 (s.jt % 2 ^ 32) 0 0
  let s := s.setMakeup q i ⟨a.p, s.lcore a.p, a.desc, a.tick, n, none, c, false, false, [], 0, false, false, false⟩
  (s.put (BOL_PILOT_PATCH_PEND a.p) 1).makeupOn q i

/-- A miss (R162, R163): before commit it is recorded as PRED_MISS, the quay pulls HW1 and starts the make-up, and the dispute of kind PRED
goes to Customs (R185); after commit it raises COMMITTED_SUSPECT. A step that has its patch entry already is not made up a second time (R172). -/
def State.predMiss (s : State) (q : Nat) (a : Audit) (n missed : Nat) : State :=
  let d := a.desc.toNat
  let s := s.count (QY_PILOT_CNT2_PRED_MISSES q) 1
  if s.get HM_COMMIT_STAT_CTICK < n ∨ ¬ s.isOpen then
    let s := s.logTile a.p 0x030A d (d / 2 ^ 32) missed (dSeq a.desc)
    let m : DispMsg := ⟨q, 0, lowestFree (s.quay q).capts (s.captBerths q), 4, false, false, false, a.desc, a.tick, n, a.p, a.p, s.lcore a.p⟩
    let s := { s with disputes := s.disputes ++ [m] }
    let s := ((s.detect a.p (s.lcore a.p) n 3).modQuay q (fun t => t.addUnclean n [])).pullQuay q 4
    if s.donly || (s.quay q).makeups.any (fun k => decide (k.2.lcore = s.lcore a.p) && decide (k.2.n = n) && decide (dSeq k.2.desc = dSeq a.desc)) then s
    else s.startMakeup q a n
  else s.suspectTile a.p n 2

/-- The job tick an audited tile belongs to: its close if it has closed, else the tick in progress. -/
def State.auditTick (s : State) (a : Audit) : Nat :=
  if let some n := a.n then n
  else (((s.tile a.p).steps.find? (fun st => decide (st.desc = a.desc) && decide (st.tick = a.tick))).map (·.closed)).getD s.jt

def State.endAudit (s : State) (q : Nat) (a : Audit) : State :=
  (s.modQuay q (fun t => { t with audits := t.audits.erase a })).put (BOL_PILOT_AUDIT_OPEN a.p) (s.get (BOL_PILOT_AUDIT_OPEN a.p) - 1)

/-- AUDIT_RESULT (R161, R162): the oldest audit of tile `p`, the skip map it read and the element codes of the rows it names. -/
def State.auditResult (s : State) (p : Nat) (skip : BitVec 256) (rows : List (List Nat)) : State :=
  let q := s.runner p
  match (s.quay q).audits.find? (fun a => a.p = p) with
  | none => s
  | some a =>
    let n := s.auditTick a
    let s := s.endAudit q a
    let fmt := dFmt a.desc
    if 16384 * 8 < popCount skip * dK a.desc * elemBits fmt then s.count (QY_PILOT_CNT3_AUDIT_SKIPPED q) 1
    else
      let missed := ((rows.take (popCount skip)).filter (fun r => !r.all (zeroCode fmt))).length
      let s := if s.overdue n then s else s.count (QY_PILOT_CNT2_AUDITS q) 1
      if missed = 0 then s else s.predMiss q a n missed

/-- AUDIT_LATE (R162): an audit not reported by n+2.W counts as not audited. -/
def State.auditLate (s : State) (p : Nat) : State :=
  let q := s.runner p
  match (s.quay q).audits.find? (fun a => decide (a.p = p) && !a.late && s.overdue (s.auditTick a)) with
  | none => s
  | some a =>
    let d := a.desc.toNat
    (s.modQuay q (fun t => { t with audits := t.audits.map (fun (x : Audit) => if x = a then { x with late := true } else x) })).logTile p 0x030C d (d / 2 ^ 32) (s.auditTick a % 2 ^ 32) (dSeq a.desc)

/-- The output of make-up `i` is written to capture berth `c` as a patch, and its spare is free; a held core can be patched (R163, R170). -/
def State.storePatch (s : State) (q i c : Nat) : State :=
  match s.makeup q i with
  | none => s
  | some m =>
    let s := s.setCapt q c { Capt.free with patch := true, done := true, bytes := 8 * m.data.length }
    let s := s.writeWords (qsAddr q (65536 * (s.get (QY_PILOT_BASE_CBERTH_BLK q) + c))) m.data
    let s := s.setMakeup q i { m with ready := true, capt := some c }
    let s := match m.spare with | some p => s.releaseShadow p q (hostMakeup i) | none => s
    if m.held then s.queueWork q (localOf m.p % 8) (.patch i) else s

/-- PATCH_READY (R163): the make-up spare reports its output, in 64-bit words. Without a capture berth the spare keeps it until one is free (R170). -/
def State.patchReady (s : State) (q i : Nat) (out : List (BitVec 64)) : State :=
  match s.makeup q i with
  | none => s
  | some m =>
    if m.ran || m.spare.isNone then s
    else
      let e := s.ktab q (dTag m.desc)
      let len := if ktOutLen e = 0 then resultBytes m.desc else ktOutLen e
      let s := s.setMakeup q i { m with ran := true, data := out.take (len / 8) }
      match m.capt with
      | some c => s.storePatch q i c
      | none =>
        match lowestFree (s.quay q).capts (s.captBerths q) with
        | some c => s.storePatch q i c
        | none => s

/-- A capture berth becomes free: a make-up whose output waits for one takes it (R170). -/
def State.giveCapt (s : State) (q c : Nat) : State :=
  let s := s.freeCapt q c
  match (s.quay q).makeups.find? (fun m => m.2.ran && !m.2.ready) with
  | some m => s.storePatch q m.1 c
  | none => s

/-- A patch entry goes, and with it the capture berth that holds the patch. -/
def State.endPatch (s : State) (q i : Nat) : State :=
  match s.makeup q i with
  | none => s
  | some m =>
    let s := s.modQuay q (fun t => { t with makeups := tabDel i t.makeups })
    let s := match m.capt with | some c => s.giveCapt q c | none => s
    let s := match m.spare with | some p => if m.ready then s else s.releaseShadow p q (hostMakeup i) | none => s
    (s.put (BOL_PILOT_PATCH_PEND m.p) 0).put (BOL_PILOT_PATCH_PEND (s.server m.lcore)) (bit (s.patchHeld m.lcore))

/-- PATCH_APPLIED (R163): the patch stands in the step's result buffer and the core's clock hold is cleared. An entry whose tick has been committed while the
core was held goes now. -/
def State.patchApplied (s : State) (q i : Nat) : State :=
  match s.makeup q i with
  | none => s
  | some m =>
    if !m.ready || !m.held then s
    else
      let s := (m.data.zipIdx).foldl (fun s x => s.emit (.lmReq m.p true (m.addr / 8 + x.2) x.1)) s
      let s := s.setMakeup q i { m with held := false, applied := true }
      let s := ((s.put (BOL_CTL_CG_HOLD m.p) 0).refreshTile m.p).count (QY_PILOT_CNT2_PATCHES q) 1
      let s := s.logTile m.p 0x030B (m.n % 2 ^ 32) (dSeq m.desc) m.lcore (8 * m.data.length)
      if m.n ≤ s.get HM_COMMIT_STAT_CTICK then s.endPatch q i else s

/-- Patch entries are kept until their tick commits (R163), and while a core is held for one (R170). -/
def State.dropPatches (s : State) (q n : Nat) : State :=
  ((s.quay q).makeups.filter (fun m => decide (m.2.n ≤ n) && !m.2.held)).foldl (fun s m => s.endPatch q m.1) s

/-! ### Ticks and recalls (R153, R167, R180) -/

/-- Make-ups that have no spare take one that has become free (R163, R280). -/
def State.placeMakeups (s : State) (q : Nat) : State :=
  ((s.quay q).makeups.filter (fun k => k.2.spare.isNone && !k.2.ran)).foldl (fun s k => s.makeupOn q k.1) s

/-- What the quay's Pilot does at cycle 0 of a tick; `n` is the job tick that has ended (R153, R180). -/
def State.pilotTick (s : State) (q n : Nat) : State :=
  let t := s.quay q
  let s := if t.declFull + t.declNone + t.declBw = 0 then s
    else s.logQuay q 0x0307 t.declFull t.declNone t.declBw (n % 2 ^ 32)
  let s := s.put (QY_PILOT_BW_USED q) (min t.bwUsed (2 ^ 32 - 1))
  let s := s.modQuay q (fun t => { t with declFull := 0, declNone := 0, declBw := 0, bwUsed := 0, tilesNow := 0, got := [] })
  s.placeMakeups q

/-- A recall to `c` meets the berths of a quay (R167), and applied patches are to be applied again (R172). An audit of a committed tick goes on (R162). -/
def State.pilotRecall (s : State) (q c : Nat) : State :=
  let hit := (s.quay q).berths.filter (fun kv =>
    [btTaken, btCopying, btRunning, btReturned].contains kv.2.st && decide (c < s.belongs kv.2))
  let s := hit.foldl (fun s kv => s.abortBerth q kv.1 1) s
  let mine := fun (p : Nat) => decide (s.runner p = q)
  let s := { s with sampReqs := s.sampReqs.filter (fun r => !mine r.p), outSigs := s.outSigs.filter (fun r => !mine r.1) }
  let s := ((s.quay q).audits.filter (fun a => decide (c < s.auditTick a))).foldl (fun s a => s.endAudit q a) s
  let s := ((s.quay q).makeups.filter (fun m => decide (m.2.n ≤ c))).foldl (fun s m => s.endPatch q m.1) s
  s.modQuay q (fun t => { t with waiting := [], makeups := t.makeups.map (fun m => (m.1, { m.2 with held := false, applied := false, due := true })) })

end Sys2Proof.Machine
end

