-- ==== Sys2Proof/Machine/Tender.lean ====
section
/-!
DEFINITION. The tender engines (chapter 09, R349 to R361; chapter 04, R152): the order of work, the start and the end of a transfer, read modes, tagged
transfers and completion records.
-/

namespace Sys2Proof.Machine

def State.tender (s : State) (q t : Nat) : Tender := tabGet (fun _ => Tender.idle) (s.quay q).tenders t

def State.setTender (s : State) (q t : Nat) (x : Tender) : State :=
  (s.modQuay q (fun y => { y with tenders := tabSet (fun _ => Tender.idle) y.tenders t x })).put (QY_TND_STAT_QUEUE q t) x.queue.length

/-! ### Work descriptors (R357, R358) -/

/-- Bits `[lo + w - 1 : lo]` of word `i` of a descriptor. -/
def slotBits (d : List (BitVec 64)) (i lo w : Nat) : Nat := fieldOf (d.getD i 0) lo w

def wType (d : List (BitVec 64)) : Nat := slotBits d 0 0 3
def wBg (d : List (BitVec 64)) : Bool := decide (slotBits d 0 3 1 = 1)
def wSpc (d : List (BitVec 64)) : Nat := slotBits d 0 4 1
def wCring (d : List (BitVec 64)) : Nat := slotBits d 0 6 5
def wSrcTag (d : List (BitVec 64)) : Nat := slotBits d 0 11 2
def wDstTag (d : List (BitVec 64)) : Nat := slotBits d 0 13 2
def wLen (d : List (BitVec 64)) : Nat := slotBits d 0 32 32
def wMode (d : List (BitVec 64)) : Nat := slotBits d 3 0 2
def wEsize (d : List (BitVec 64)) : Nat := 2 ^ slotBits d 3 2 2
def wPitch (d : List (BitVec 64)) : Nat := slotBits d 3 4 20
def wCount (d : List (BitVec 64)) : Nat := slotBits d 3 24 17
def wStrips (d : List (BitVec 64)) : Nat := slotBits d 3 41 17

/-- A store side: source of types 1, 3, 4, 5; destination of types 2, 3, 6, 7. -/
def srcStore (ty : Nat) : Bool := [1, 3, 4, 5].contains ty
def dstStore (ty : Nat) : Bool := [2, 3, 6, 7].contains ty
def tileSide (ty : Nat) : Bool := [0, 1, 2].contains ty

/-- The byte offsets an access mode reads, in order of delivery (R349). -/
def modeOffsets (d : List (BitVec 64)) (base : Nat) : List Nat :=
  let es := wEsize d
  match wMode d with
  | 0 => (List.range (wLen d)).map (fun i => base + i)
  | 1 => (List.range (wCount d)).flatMap (fun i => (List.range es).map (fun k => base + i * wPitch d + k))
  | _ => (List.range (wStrips d)).flatMap (fun st => (List.range (64 / es)).flatMap (fun c =>
      (List.range (wCount d)).flatMap (fun r => (List.range es).map (fun k => base + 64 * st + r * wPitch d + c * es + k))))

/-- Bytes delivered: a strided or transposed read is packed into whole 64-byte beats (R349). -/
def modeBytes (d : List (BitVec 64)) : Nat :=
  match wMode d with
  | 0 => wLen d
  | 1 => 64 * ceilDiv (wCount d * wEsize d) 64
  | _ => 64 * ceilDiv (wStrips d * 64 * wCount d) 64

/-- The cases of BAD_DESC (R349, R357, R358). -/
def badDesc (d : List (BitVec 64)) : Bool :=
  let ty := wType d
  let es := wEsize d
  let src := slotBits d 1 0 24
  let aligned :=
    match wMode d with
    | 0 => decide (wLen d % 8 = 0) && decide (slotBits d 1 0 3 = 0 ∨ ty = 0 ∨ ty = 2)
    | 1 => decide (src % es = 0) && decide (wPitch d % es = 0)
    | 2 => decide (src % 64 = 0) && decide (wPitch d % 64 = 0) && decide (1 ≤ wCount d) && decide (wCount d ≤ 64)
    | _ => false
  let whole := fun (a : Nat) => decide (a % 64 = 0) && decide (modeBytes d % 64 = 0) && decide (wMode d = 0)
  decide (slotBits d 0 5 1 ≠ 0) || decide (slotBits d 0 15 17 ≠ 0) || decide (slotBits d 3 58 6 ≠ 0)
    || decide (d.getD 5 0 ≠ 0) || decide (d.getD 6 0 ≠ 0) || decide (d.getD 7 0 ≠ 0)
    || (decide (wMode d ≠ 0) && !srcStore ty) || !aligned
    || decide (wSrcTag d = 3) || decide (wDstTag d = 3)
    || (decide (wSrcTag d ≠ 0) && !(srcStore ty && whole src))
    || (decide (wDstTag d ≠ 0) && !(dstStore ty && whole (slotBits d 2 0 24)))
    || (decide (wSpc d = 1) && !tileSide ty)

/-- The rows of a store range. -/
def rowsOf (o len : Nat) : List Nat := (List.range (ceilDiv (o % 64 + len) 64)).map (fun i => rowOf o + i)

/-- The rows a descriptor's source and destination touch in this quay's store. -/
def srcRows (d : List (BitVec 64)) : List Nat :=
  if srcStore (wType d) then ((modeOffsets d (slotBits d 1 0 24)).map rowOf).eraseDups else []
def dstRows (d : List (BitVec 64)) : List Nat :=
  if dstStore (wType d) then rowsOf (slotBits d 2 0 24) (modeBytes d) else []

/-- The tag that makes a transfer wait, if any: its mode and offset (R351, R352). -/
def State.tagStop (s : State) (q : Nat) (d : List (BitVec 64)) : Option (Nat × Nat) :=
  let sm := wSrcTag d - 1
  let dm := wDstTag d + 1
  match (srcRows d).find? (fun r => decide (wSrcTag d ≠ 0) && tagBlocks sm (s.tagHeld q r)) with
  | some r => some (sm, 64 * r)
  | none =>
    match (dstRows d).find? (fun r => decide (wDstTag d ≠ 0) && tagBlocks dm (s.tagHeld q r)) with
    | some r => some (dm, 64 * r)
    | none => none

/-- A side of a transfer outside the quay's own store lies beyond what it names: the harbour store, another quay's store, or a tile's local memory. -/
def State.beyond (s : State) (d : List (BitVec 64)) : Bool :=
  let n := modeBytes d
  let lm := fun (i : Nat) => decide (s.nQuays ≤ quayOf (slotBits d i 0 20)) || decide (65536 < slotBits d i 20 16 + n)
  match wType d with
  | 0 => lm 1 || lm 2
  | 1 => lm 2
  | 2 => lm 1
  | 5 => decide (2 ^ 24 < slotBits d 2 0 24 + n)
  | 6 => decide (2 ^ 24 < slotBits d 1 0 24 + n)
  | 7 => decide (s.nQuays ≤ slotBits d 1 24 6) || decide (s.storeBytes (slotBits d 1 24 6) < slotBits d 1 0 24 + n)
  | _ => false

/-- What stops a transfer before it moves anything: 0 nothing, 8 BAD_DESC, 6 RANGE, 3 BANK_OFF (R358, R360, R369). -/
def State.stopStatus (s : State) (q : Nat) (d : List (BitVec 64)) : Nat × Nat :=
  let rows := srcRows d ++ dstRows d
  if badDesc d then (8, 0)
  else if rows.any (fun r => decide (s.storeBytes q ≤ 64 * r)) || s.beyond d then (6, 0)
  else match rows.find? (fun r => !s.bankServes q (bankOf (64 * r))) with
    | some r => (3, 64 * r)
    | none => (0, 0)

/-! ### The end of a ring transfer (R355, R360) -/

/-- Write a completion record, wait for its ring, or drop it. A CRING of 1 to 7 names no completion ring. -/
def State.report (s : State) (q t cring : Nat) (words : List (BitVec 64)) : State :=
  let x := s.tender q t
  if cring < 8 then s.setTender q t { x with cur := none }
  else if s.ringPushOcc q cring < s.ringSlots q cring then
    let o := s.ringSlot q cring (s.get (QY_RING_PTR_TAIL q cring))
    let s := ((s.holdRow (qsAddr q o)).writeWords (qsAddr q o) words).ringPush q cring 1
    s.setTender q t { x with cur := none }
  else if s.flag (QY_RING_CFG_FULL_WAIT q cring) then
    let s := s.setTender q t { x with cur := some (.report cring words) }
    (s.put (QY_TND_STAT_STATE q t) 5).modQuay q (fun y => { y with
      tagWaits := y.tagWaits.filter (fun w => decide (w.client ≠ 3 + t)) ++ [⟨3 + t, 2, s.ringSlot q cring (s.get (QY_RING_PTR_TAIL q cring)), words, s.now⟩] })
  else (s.setTender q t { x with cur := none }).logQuay q 0x0808 cring (s.ringOcc q cring) t 1

/-- A ring transfer ends with a status, a refusal reason and a byte count (R360, R389, R390). -/
def State.ringEnd (s : State) (q t : Nat) (d : List (BitVec 64)) (status reason bytes : Nat) : State :=
  let s := s.count (QY_TND_CNT0_TRANSFERS q) 1
  let s := if status = 0 then s
    else (s.count (QY_TND_CNT0_ERRORS q) 1).logQuay q 0x080A t status (slotBits d 0 0 32) (slotBits d 4 0 32)
  let s := s.count (QY_TND_CNT1_BYTES q) bytes
  let s := (s.put (QY_TND_STAT_STATE q t) 0).put (QY_TND_STAT_DONE q t) bytes
  s.report q t (wCring d) [d.getD 0 0, BitVec.ofNat 64 (status + reason % 8 * 2 ^ 4 + bytes % 2 ^ 32 * 2 ^ 32),
    BitVec.ofNat 64 s.tide, d.getD 4 0, 0, 0, 0, 0]

/-! ### Start (R356, R359, R361) -/

/-- A work is foreground (R356). -/
def Work.fore : Work → Bool
  | .ring d => !wBg d
  | .test _ _ => false
  | _ => true

/-- The work at the head of the tender's ring. -/
def State.ringHead (s : State) (q t : Nat) : Option Work :=
  if s.ringPopOcc q t = 0 then none
  else
    -- a slot with an uncorrectable word is lost and counts as BAD_DESC (R365)
    let o := s.ringSlot q t (s.get (QY_RING_PTR_HEAD q t))
    if (List.range 8).any (fun i => tabGet (fun _ => false) (s.quay q).badWords (o + 8 * i)) then some (.ring [0, 0, 0, 0, 0, 1, 0, 0])
    else some (.ring (s.readWords (qsAddr q o) 8))

/-- The next work in the order of R356, and whether it comes from the ring. -/
def State.nextWork (s : State) (q t : Nat) : Option (Work × Nat) :=
  let x := s.tender q t
  match x.queue with
  | w :: _ => some (w, 0)
  | [] =>
    match s.ringHead q t with
    | some w => if w.fore then some (w, 1) else match x.paused with | some p => some (p, 2) | none => some (w, 1)
    | none =>
      match x.paused with
      | some p => some (p, 2)
      -- copies for tests have the lowest priority (R280, R325)
      | none => x.tests.head?.map (fun w => (w, 3))

/-- Take the work out of where it waits. -/
def State.takeWork (s : State) (q t from_ : Nat) (w : Work) : State :=
  let x := s.tender q t
  match from_ with
  | 0 => s.setTender q t { x with queue := x.queue.drop 1, cur := some w }
  | 1 => (s.ringPop q t 1).setTender q t { x with cur := some w }
  | 3 => s.setTender q t { x with tests := x.tests.drop 1, cur := some w }
  | _ => s.setTender q t { x with paused := none, cur := some w }

/-- Begin a work that has its token. -/
def State.beginWork (s : State) (q t from_ : Nat) (w : Work) : State :=
  let s := ((s.takeWork q t from_ w).put (QY_TND_STAT_DONE q t) 0).put (QY_TND_STAT_SOURCE q t) (bit (decide (from_ = 1 ∨ from_ = 2)))
  let s := s.put (QY_TND_STAT_STATE q t) (if w.fore then 2 else 3)
  match w with
  | .berth b =>
    let x := s.berth q b
    if x.st = btTaken ∨ x.st = btLate ∧ x.copyAt = 0 then
      (s.setBerth q b { x with st := if x.st = btTaken then btCopying else x.st, copyAt := 1 }).put (QY_TND_STAT_BERTH q t) b
    else ((s.setTender q t { s.tender q t with cur := none }).put (QY_TND_STAT_STATE q t) 0).tenderReturn q
  | .ring d =>
    if from_ = 2 then s
    else
      let (st, o) := s.stopStatus q d
      if st ≠ 0 then
        let s := if st = 3 then s.bankRefused q 0 o else s
        (s.tenderReturn q).ringEnd q t d st 0 0
      else
        let s := (srcRows d ++ dstRows d).foldl (fun s r => (s.bankWake q (bankOf (64 * r))).gatherRow q r) s
        let s := (((dstRows d).map (fun r => bankOf (64 * r))).eraseDups).foldl (fun s b => s.countIn q b) s
        match s.tagStop q d with
        | some (m, o) =>
          (s.put (QY_TND_STAT_STATE q t) 5).modQuay q (fun y => { y with tagWaits := y.tagWaits ++ [⟨3 + t, m, o, [], s.now⟩] })
        | none => s
  | _ => s

/-- TENDER_TRANSFER_START (R356, R359): with its token the tender starts the next work in its priority order. -/
def State.tenderStart (s : State) (q t : Nat) : State :=
  let t := t % 8
  let x := s.tender q t
  if !(s.get (QY_TND_CTL_EN q)).testBit t then s
  else
    match s.nextWork q t with
    | none => s
    | some (w, f) =>
      let idle := x.cur.isNone
      let pause := match x.cur with
        | some c => !c.fore && w.fore && decide (s.get (QY_TND_STAT_STATE q t) = 3)
        | none => false
      if !idle && !pause then s
      else
        let s := if pause then
            ((s.setTender q t { x with cur := none, paused := x.cur }).count (QY_TND_CNT0_PAUSES q) 1).put (QY_TND_STAT_STATE q t) 4
          else s
        -- a paused transfer has kept its token
        let (s, ok) := if f = 2 then (s, true) else s.tenderTake q
        if ok then s.beginWork q t f w else s.put (QY_TND_STAT_STATE q t) 1

/-! ### The shadow's layout (R152) -/

def align64 (n : Nat) : Nat := 64 * ceilDiv n 64

/-- Addresses of the kernel, held A, held B, skip map, X and result buffer in the shadow. -/
def shadowLayout (klen heldA heldB skip xlen : Nat) : List Nat :=
  let a := align64 klen
  let b := align64 (a + heldA)
  let k := align64 (b + heldB)
  let x := align64 (k + skip)
  [0, a, b, k, x, align64 (x + xlen)]

/-- Write words through a side-port from byte address `a` up. -/
def State.lmWrites (s : State) (p a : Nat) (l : List (BitVec 64)) : State :=
  (l.zipIdx).foldl (fun s x => s.emit (.lmReq p true (a / 8 + x.2) x.1)) s

/-- Lay a step out in spare `p` and wake it: the kernel unless it is held, the inputs read at the origin, the shadow frame (R152). -/
def State.layout (s : State) (q p : Nat) (desc : BitVec 64) (heldA heldB : Nat) (data : List (BitVec 64)) (noSkip : Bool) : State :=
  let e := s.ktab q (dTag desc)
  let koff := ktKoff e
  let skip := if dPred desc then 32 else 0
  let l := shadowLayout (ktKlen e) heldA heldB skip (ktXlen e)
  let s := if (s.tile p).kernel = some koff then s
    else (s.lmWrites p 0 (s.readWords (qsAddr q koff) (ceilDiv (ktKlen e) 8))).modTile p (fun t => { t with kernel := some koff })
  let s := s.put (BOL_PILOT_KERNEL p) (bit (decide (s.role p = roleShadow)))
  let nA := ceilDiv heldA 8
  let nB := ceilDiv heldB 8
  let nK := skip / 8
  let s := s.lmWrites p (l.getD 1 0) (data.take nA)
  let s := s.lmWrites p (l.getD 2 0) ((data.drop nA).take nB)
  let s := s.lmWrites p (l.getD 3 0) (if noSkip then List.replicate nK 0 else (data.drop (nA + nB)).take nK)
  let s := s.lmWrites p (l.getD 4 0) ((data.drop (nA + nB + nK)).take (ktXlen e / 8))
  let w1 := l.getD 1 0 + l.getD 2 0 * 2 ^ 16 + l.getD 5 0 * 2 ^ 32 + (if dPred desc then l.getD 3 0 * 2 ^ 48 else 0)
  let s := s.lmWrites p 0xFFC0 [desc, BitVec.ofNat 64 w1, BitVec.ofNat 64 (l.getD 4 0 + ktXlen e * 2 ^ 16), 0, 0, 0, 0, 0]
  (s.wakeCore p).emit (.wake p)

/-! ### The end (R358, R360) -/

/-- The bytes a ring transfer delivers; `data` are the words read at a tile. -/
def State.delivered (s : State) (q : Nat) (d : List (BitVec 64)) (data : List (BitVec 64)) : List (BitVec 8) :=
  let n := modeBytes d
  let raw : List (BitVec 8) :=
    match wType d with
    | 0 | 2 => data.flatMap wordBytes
    | 6 => s.readBytes (hsAddr (slotBits d 1 0 24)) n
    | 7 => s.readBytes (qsAddr (slotBits d 1 24 6) (slotBits d 1 0 24)) n
    | _ => (modeOffsets d (slotBits d 1 0 24)).map (fun o => s.byteHeld (qsAddr q o))
  (raw ++ List.replicate n 0).take n

/-- 64-bit words of a byte list. -/
def toWords : Nat → List (BitVec 8) → List (BitVec 64)
  | 0, _ => []
  | _, [] => []
  | n + 1, l => BitVec.ofNat 64 (bytesNat (l.take 8)) :: toWords n (l.drop 8)

/-- Put delivered bytes at a descriptor's destination. -/
def State.deliver (s : State) (q : Nat) (d : List (BitVec 64)) (l : List (BitVec 8)) : State :=
  match wType d with
  | 0 | 1 => s.lmWrites (slotBits d 2 0 20) (slotBits d 2 20 16) (toWords l.length l)
  | 4 => s.emit (.remote (slotBits d 2 0 4) (slotBits d 2 4 4) (slotBits d 2 8 24) (toWords l.length l))
  | 5 => s.writeBytes (hsAddr (slotBits d 2 0 24)) l
  | _ => ((rowsOf (slotBits d 2 0 24) l.length).foldl (fun s r => s.holdRow (qsAddr q (64 * r))) s).writeBytes (qsAddr q (slotBits d 2 0 24)) l

/-- The rows of a transfer leave their tags (R351). -/
def State.tagsAfter (s : State) (q : Nat) (d : List (BitVec 64)) : State :=
  let s := if wSrcTag d = 2 then (srcRows d).foldl (fun s r => s.tagAfter q r 1) s else s
  if wDstTag d ≠ 0 then (dstRows d).foldl (fun s r => s.tagAfter q r (wDstTag d + 1)) s else s

/-- Writers leave the destination banks (R370). -/
def State.leaveBanks (s : State) (q : Nat) (d : List (BitVec 64)) : State :=
  (((dstRows d).map (fun r => bankOf (64 * r))).eraseDups).foldl (fun s b => s.countOut q b) s

/-- The bytes a ring transfer moves before it meets an uncorrectable word: those of the words a tile has answered, or those delivered before the store word
at offset `ueOff` (R360). -/
def movedBytes (d data : List (BitVec 64)) (ueOff : Nat) : Nat :=
  if srcStore (wType d) then ((modeOffsets d (slotBits d 1 0 24)).takeWhile (fun o => decide (o / 8 ≠ ueOff / 8))).length
  else min (8 * data.length) (modeBytes d)

/-- TENDER_TRANSFER_DONE: `ue` is 1 for an uncorrectable side-port read, 2 for an uncorrectable store word, else 0; `data` the words read at a
tile; `refusal` the reason a remote window gave (R360). -/
def State.tenderDone (s : State) (q t ue ueOff : Nat) (data : List (BitVec 64)) (refusal : Nat) : State :=
  let t := t % 8
  let x := s.tender q t
  let st := s.get (QY_TND_STAT_STATE q t)
  if st ≠ 2 ∧ st ≠ 3 then s
  else
    match x.cur with
    | none => s
    | some w =>
      let s := s.tenderReturn q
      -- a ring transfer counts its own errors (R389)
      let s := match w with | .ring _ | .report _ _ => s | _ => if ue = 0 then s else s.count (QY_TND_CNT0_ERRORS q) 1
      let free := fun (s : State) => ((s.setTender q t { s.tender q t with cur := none }).put (QY_TND_STAT_STATE q t) 0).count (QY_TND_CNT0_TRANSFERS q) 1
      match w with
      | .berth b =>
        let s := free s
        let y := s.berth q b
        if ¬ (y.st = btCopying ∨ y.st = btLate) ∨ y.copyAt ≠ 1 then s
        else if ue = 1 then (s.cause y.origin cLmue).abortBerth q b 0
        else if ue = 2 then (s.freeBerth q b).declined q .noShadow
        else
          let s := s.count (QY_TND_CNT1_BYTES q) y.copy
          (s.setBerth q b { y with st := if y.st = btCopying then btRunning else y.st, copyAt := 2 }).layout q y.shadow y.desc y.heldA y.heldB data false
      | .makeup i =>
        let s := free s
        match s.makeup q i with
        | some m =>
          match m.spare with
          | some p =>
            if ue = 1 then s.cause m.p cLmue
            else if ue = 2 then s.queueWork q t (.makeup i)
            else s.layout q p m.desc (denseA m.desc) (denseB m.desc) data true
          | none => s
        | none => s
      | .patch _ => free s
      | .test p words => if (s.engine p).running = 3 ∧ ue = 0 then (free s).lmWrites p 0 words else free s
      | .witness c =>
        let s := free s
        let x := s.capt q c
        let y := s.berth q x.berth
        if x = Capt.free ∨ x.patch ∨ x.done ∨ x.passes ≠ 8 ∨ x.copied then s
        else if ue ≠ 0 then (if ue = 1 then s.cause y.shadow cLmue else s).dropWitness q c
        else (s.setCapt q c { x with copied := true, witnessSince := s.now }).layout q y.origin y.desc y.heldA y.heldB data false
      | .referee slot =>
        let s := free s
        match s.customs.queue.find? (fun (e : CusEntry) => decide (e.id = slot) && decide (e.msg.quay = q)) with
        | none => s
        | some e =>
          match e.refTile with
          | none => s
          | some p =>
            let y := s.berth q e.msg.berth
            if ue = 1 then (s.cause e.msg.shadow cLmue).dropWork p q (hostReferee slot)
            else if ue = 2 then s.queueWork q t (.referee slot)
            else
              let s := { s with customs.queue := s.customs.queue.map (fun (x : CusEntry) => if x.id = slot then { x with refReady := true } else x) }
              s.layout q p y.desc y.heldA y.heldB data false
      | .ring d =>
        let bytes := modeBytes d
        let s := s.leaveBanks q d
        if ue ≠ 0 then
          let n := movedBytes d data ueOff
          (s.deliver q d ((s.delivered q d data).take n)).ringEnd q t d (min ue 2) 0 n
        else if wType d = 4 ∧ refusal ≠ 0 then s.ringEnd q t d 5 refusal 0
        else ((s.deliver q d (s.delivered q d data)).tagsAfter q d).ringEnd q t d 0 0 bytes
      | .report _ _ => s

/-! ### Tagged waits (R352) -/

/-- TAGGED_ACCESS_RETRY: a waiting access of a client is tried again. -/
def State.tagRetry (s : State) (q client : Nat) : State :=
  let t := client - 3
  if client = 2 then
    match (s.quay q).coreWait with
    | a :: l => if (s.coreStops q a).isSome then s else s.coreGoes q (a :: l)
    | [] => s
  else
  let go := fun (s : State) => s.modQuay q (fun y => { y with tagWaits := y.tagWaits.filter (fun w => decide (w.client ≠ client)) })
  if !(s.quay q).tagWaits.any (fun w => w.client = client) then s
  else
    match (s.tender q t).cur with
    | some (.ring d) =>
      match s.tagStop q d with
      | some _ => s
      | none => (go s).put (QY_TND_STAT_STATE q t) (if wBg d then 3 else 2)
    | some (.report r words) =>
      if s.ringPushOcc q r < s.ringSlots q r then ((go s).put (QY_TND_STAT_STATE q t) 0).report q t r words else s
    | _ => go s

/-- TAG_TIMEOUT: an access that has waited TAG_WAIT_CC cycles ends with status TAG_TIMEOUT. -/
def State.tagTimeout (s : State) (q client : Nat) : State :=
  match (s.quay q).tagWaits.find? (fun w => decide (w.client = client) && decide ((s.get (QY_STORE_CTL_TAG_WAIT_CC q) : Int) ≤ s.since w.since)) with
  | none => s
  | some w =>
    let t := client - 3
    let s := s.modQuay q (fun y => { y with tagWaits := y.tagWaits.erase w })
    -- the control core goes on without the access that has ended (R353)
    if client = 2 then (s.logQuay q 0x0807 w.off client w.mode (min (s.since w.since).toNat 0xFFFFFFFF)).coreGoes q ((s.quay q).coreWait.drop 1)
    else
    let s := s.logQuay q 0x0807 w.off client w.mode (min (s.since w.since).toNat 0xFFFFFFFF)
    match (s.tender q t).cur with
    | some (.ring d) => ((s.tenderReturn q).leaveBanks q d).ringEnd q t d 4 0 0
    | some (.report _ _) =>
      ((s.setTender q t { s.tender q t with cur := none }).put (QY_TND_STAT_STATE q t) 0).count (QY_TND_CNT0_ERRORS q) 1
    | _ => s

end Sys2Proof.Machine
end

