-- ==== Sys2Proof/Machine/Thermal.lean ====
section
/-!
DEFINITION. Power and temperature (chapter 11, R451 to R462, R468; chapter 07, R264 to R267): conversions, the throttle evaluation, the bus samples, PFAIL,
PMBus and the margining of a region's rail.
-/

namespace Sys2Proof.Machine

def State.chan (s : State) (ch : Nat) : Chan := tabGet (fun _ => Chan.idle) s.power.chans ch
def State.setChan (s : State) (ch : Nat) (x : Chan) : State :=
  { s with power.chans := tabSet (fun _ => Chan.idle) s.power.chans ch x }

/-- A signed °C field of a channel's configuration in quarter degrees. -/
def quarters (v : Nat) : Int := 4 * signedOf v 8

/-- The channel's scope: `none` record only, `some none` the wafer, `some (some q)` quay q (R458, R480). -/
def State.chScope (s : State) (ch : Nat) : Option (Option Nat) :=
  if 24 ≤ ch then some (some (ch - 24))
  else if !s.flag (HM_THERM_XCFG_EN ch) then none
  else match s.get (HM_THERM_XCFG_SCOPE ch) with
    | 0 => none
    | 1 => some (some (s.get (HM_THERM_XCFG_QUAY ch)))
    | _ => some none

/-- Warn, throttle and critical levels in quarter degrees (R461, R462). -/
def State.chLevels (s : State) (ch : Nat) : Int × Int × Int :=
  if 24 ≤ ch then (4 * s.get HM_THERM_CTL_JWARN, 4 * s.get HM_THERM_CTL_JTHR, 4 * s.get HM_THERM_CTL_JCRIT)
  else (quarters (s.get (HM_THERM_XCFG_WARN ch)), quarters (s.get (HM_THERM_XCFG_THR ch)), quarters (s.get (HM_THERM_XCFG_CRIT ch)))

/-- R459 converts the channel: channel 23, the enabled external channels, and the diodes of present quays. -/
def State.converted (s : State) (ch : Nat) : Bool :=
  if 24 ≤ ch then decide (ch - 24 < s.nQuays) else decide (ch = 23) || s.flag (HM_THERM_XCFG_EN ch)

/-- The quays in a channel's scope. -/
def State.inScope (s : State) (ch : Nat) : List Nat :=
  match s.chScope ch with
  | none => []
  | some none => s.quayList
  | some (some q) => if q < s.nQuays then [q] else []

/-- The scope number records carry: the quay, or 0xFF. -/
def State.scopeCode (s : State) (ch : Nat) : Nat :=
  match s.chScope ch with
  | some (some q) => q
  | _ => 0xFF

def State.temp (s : State) (ch : Nat) : Int := signedOf (s.get (HM_THERM_VAL_TEMP ch)) 16

/-- The channels of R458. -/
def channels : List Nat := List.range 88

/-- Recompute HM_THERM_STAT (R481). -/
def State.thermStat (s : State) : State :=
  let valid := channels.filter (fun c => s.flag (HM_THERM_VAL_VALID c))
  let s := s.put HM_THERM_STAT_FAULTS (channels.filter (fun c => s.flag (HM_THERM_VAL_FAULT c))).length
  match valid with
  | [] => s
  | c :: t =>
    let h := t.foldl (fun b x => if s.temp b < s.temp x then x else b) c
    (s.put HM_THERM_STAT_HOT_CH h).put HM_THERM_STAT_HOT_TEMP (s.get (HM_THERM_VAL_TEMP h))

/-- A channel in fault has no valid reading (R460), which counts as 100 °C or more for the interlock of R265 and as outside the window of R321. -/
def State.chVoid (s : State) (ch : Nat) : State :=
  let s := (s.put (HM_THERM_VAL_VALID ch) 0).put (HM_THERM_VAL_FAULT ch) 1
  if 24 ≤ ch then s.put (QY_MARGIN_RAISE_HOLD (ch - 24)) 1 else if ch = 23 then s.put HM_XSPI_TEMP_IN_WINDOW 0 else s

/-- A channel enters fault (R460). -/
def State.chFault (s : State) (ch reason : Nat) : State :=
  (if s.flag (HM_THERM_VAL_FAULT ch) then s else s.logHm 0x0A04 ch reason 0 s.tick32).chVoid ch

/-- A reading at or above its critical level (R454, R455); a governor in PFAIL leaves it only for RUN. -/
def State.critical (s : State) (ch : Nat) : State :=
  let s := s.setChan ch { s.chan ch with level := 15, quiet := 0 }
  let s := (s.inScope ch).foldl (fun s q =>
    ((if s.govState q = gvPfail then s else s.setGov q gvCritical).put (QY_CLEAR_STAT_T_THERM q) 15).modQuay q (fun t => { t with tWhy := 9 })) s
  (s.alarm 0).logHm 0x0A03 ch (s.get (HM_THERM_VAL_TEMP ch)) (s.scopeCode ch) s.tick32

/-- CONVERSION_DONE of temperature channel `ch` (R454, R460): `fault` is 1 for an open, 2 for a short sensor, else 0; `val` is in 0.25 °C.
Gives whether the reading is critical. -/
def State.conversion (s : State) (ch : Nat) (val : Int) (fault : Nat) : State × Bool :=
  if 88 ≤ ch ∨ ¬ s.converted ch ∨ s.power.refBad then (s, false)
  else
    let reason := if fault = 1 ∨ fault = 2 then fault else if val < -160 ∨ 600 < val then 3 else 0
    if reason ≠ 0 then ((s.chFault ch reason).thermStat, false)
    else
      let (w, t, c) := s.chLevels ch
      let s := ((s.put (HM_THERM_VAL_TEMP ch) (toField val 16)).put (HM_THERM_VAL_VALID ch) 1).put (HM_THERM_VAL_FAULT ch) 0
      let s := ((s.put (HM_THERM_VAL_WARN ch) (bit (decide (w ≤ val)))).put (HM_THERM_VAL_THR ch) (bit (decide (t ≤ val)))).put
        (HM_THERM_VAL_CRIT ch) (bit (decide (c ≤ val)))
      let s := if 24 ≤ ch then s.put (QY_MARGIN_RAISE_HOLD (ch - 24)) (bit (decide (400 ≤ val)))
        else if ch = 23 then (s.put HM_XSPI_TEMP_CH23 (toField val 16)).put HM_XSPI_TEMP_IN_WINDOW (bit (decide (0 ≤ val) && decide (val ≤ 280)))
        else s
      let rules := s.flag HM_THERM_CTL_EN && (decide (24 ≤ ch) || s.flag (HM_THERM_XCFG_EN ch))
      let crit := rules && (s.chScope ch).isSome && decide (c ≤ val)
      -- the first reading that reaches its warn level (R453, R461), of a channel with no scope too (R462)
      let s := if rules && decide (w ≤ val) && !(s.chan ch).warned then s.logHm 0x0A02 ch (toField val 16) (s.scopeCode ch) s.tick32 else s
      let s := if rules then s.setChan ch { s.chan ch with warned := decide (w ≤ val) } else s
      let s := if crit then s.critical ch else s
      (s.thermStat, crit)

/-- A sample of HK_AINn in 0.1 mV (R478). -/
def State.ainSample (s : State) (n v : Nat) : State :=
  let s := s.put (HM_PWR_AIN_VALUE n) v
  if n < 2 then s
  else
    let lo := decide (v < s.get (HM_PWR_AIN_LO n)) && !s.flag (HM_PWR_AIN_BELOW n)
    let hi := decide (s.get (HM_PWR_AIN_HI n) < v) && !s.flag (HM_PWR_AIN_ABOVE n)
    let s := if lo then s.put (HM_PWR_AIN_BELOW n) 1 else s
    let s := if hi then s.put (HM_PWR_AIN_ABOVE n) 1 else s
    if lo || hi then s.logHm 0x0A0F n v (bit lo + 2 * bit hi) s.tick32 else s

/-! ### The evaluation (R452, R453, R456, R457) -/

/-- One channel at an evaluation. Gives the new state and why its level changed (0: it did not). -/
def State.evalChan (s : State) (ch : Nat) : State × Nat :=
  let s := if s.flag (HM_THERM_VAL_VALID ch) || s.flag (HM_THERM_VAL_FAULT ch) then s else s.chFault ch 4
  let x := s.chan ch
  if s.flag (HM_THERM_VAL_FAULT ch) then
    let l := max x.level (s.get HM_THERM_CTL_FAULT_T)
    ((s.setChan ch { x with level := l, quiet := 0, prev := none }).put (HM_THERM_VAL_DELTA ch) 0, if l = x.level then 0 else 8)
  else
    let j := s.temp ch
    let (_, thr, _) := s.chLevels ch
    let d := match x.prev with | some v => j - v | none => 0
    let s := s.put (HM_THERM_VAL_DELTA ch) (toField d 16)
    let lv := decide (thr ≤ j)
    let up := decide ((s.get HM_THERM_CTL_RISE : Int) < d)
    let x := { x with prev := some j }
    if lv || up then
      let l := min 15 (x.level + bit lv + bit up)
      (s.setChan ch { x with level := l, quiet := 0 }, if l = x.level then 0 else bit lv + 2 * bit up)
    else if j < thr - 4 * s.get HM_THERM_CTL_HYST then
      if s.get HM_THERM_CTL_RELAX ≤ x.quiet + 1 then
        (s.setChan ch { x with level := x.level - 1, quiet := 0 }, if x.level = 0 then 0 else 4)
      else (s.setChan ch { x with quiet := x.quiet + 1 }, 0)
    else (s.setChan ch { x with quiet := 0 }, 0)

/-- The channels whose rules run: diodes of present quays and enabled external channels with a scope. -/
def State.ruleChans (s : State) : List Nat := channels.filter (fun c => (s.chScope c).isSome && s.converted c)

/-- A quay takes the largest level of its scope (R453), and leaves CRITICAL when every reading in scope is below its throttle level (R455). -/
def State.thermQuay (s : State) (whys : List (Nat × Nat)) (q : Nat) : State :=
  let mine := s.ruleChans.filter (fun c => (s.inScope c).contains q)
  let faulty := mine.any (fun c => s.flag (HM_THERM_VAL_FAULT c))
  let l := (mine.map (fun c => (s.chan c).level)).foldl max 0
  let l := if faulty then max l (s.get HM_THERM_CTL_FAULT_T) else l
  let cool := mine.all (fun c => s.flag (HM_THERM_VAL_VALID c) && decide (s.temp c < (s.chLevels c).2.1))
  let s := if s.govState q = gvCritical ∧ cool then s.setGov q gvRun else s
  let old := s.get (QY_CLEAR_STAT_T_THERM q)
  let why := ((whys.find? (fun w => decide (w.2 ≠ 0) && mine.contains w.1)).map (·.2)).getD 8
  if old = l then s else (s.put (QY_CLEAR_STAT_T_THERM q) l).modQuay q (fun t => { t with tWhy := why })

/-- T_WAFER (R456). Gives the state and why it was raised, 0 for not. -/
def State.evalBus (s : State) : State × Nat :=
  let v := s.power.vLow.getD (s.get HM_PWR_BUS_VBUS)
  let seen := s.power.vLow.isSome
  let was := s.flag HM_PWR_BUS_LOW
  let low := if seen then decide (v < 4600) || (was && decide (v < 4650)) else was
  let big := s.flag HM_PWR_CTL_I_EN && decide (s.get HM_PWR_CTL_PIN_MAX < s.power.pinHigh)
  let s := (s.put HM_PWR_BUS_LOW (bit low)).put HM_PWR_STAT_PIN_OVER (bit big)
  let t0 := s.get HM_PWR_STAT_T_WAFER
  let s :=
    if !s.flag HM_PWR_CTL_EN then s
    else if low || big then (s.put HM_PWR_STAT_T_WAFER (min 15 (t0 + bit low + bit big))).put HM_PWR_STAT_QUIET 0
    else
      let n := s.get HM_PWR_STAT_QUIET + 1
      if s.get HM_PWR_CTL_RELAX ≤ n ∧ 0 < t0 then (s.put HM_PWR_STAT_T_WAFER (t0 - 1)).put HM_PWR_STAT_QUIET 0
      else s.put HM_PWR_STAT_QUIET (min 63 n)
  let t1 := s.get HM_PWR_STAT_T_WAFER
  let s := if low && !was then (s.logHm 0x0A05 v (s.get HM_PWR_BUS_IBUS) t1 s.tick32).count HM_PWR_CNT_BUS_LOW 1 else s
  let s := if big then s.logHm 0x0A08 s.power.pinHigh (s.get HM_PWR_CTL_PIN_MAX) t1 s.tick32 else s
  ({ s with power.vLow := none, power.pinHigh := 0 }, if t1 < t0 then 4 else if t0 < t1 then (if low then 5 else 6) else 0)

/-- The rail Octulo has commanded for a region (R264). -/
def State.commandedMv (s : State) (q : Nat) : Nat := s.get HM_HEALTH_MARGIN_NOM_MV + 10 * (s.quay q).cmdSteps

/-- T_RAIL of a region (R457); in Lantern mode it is frozen (R463). -/
def State.evalRail (s : State) (q : Nat) : State × Nat :=
  if s.lantern then (s, 0)
  else
    let t := s.quay q
    let v := s.get (QY_MARGIN_VOUT_MV q)
    let low := t.railRead && decide (v + s.get HM_PWR_CTL_RAIL_LOW_MV < s.commandedMv q)
    let big := t.railRead && decide (10 * s.get HM_PWR_CTL_IOUT_MAX < s.get (QY_RAIL_IOUT q))
    let s := (s.put (QY_RAIL_LOW q) (bit low)).put (QY_RAIL_OVER q) (bit big)
    let s := if low then (s.logQuay q 0x0A09 q v (s.commandedMv q) s.tick32).count HM_PWR_CNT_RAIL 1 else s
    let s := if big then (s.logQuay q 0x0A0A q (s.get (QY_RAIL_IOUT q)) (s.get HM_PWR_CTL_IOUT_MAX) s.tick32).count HM_PWR_CNT_RAIL 1 else s
    let hit := low || big || t.alertSeen
    let relax := decide (s.get HM_PWR_CTL_RELAX ≤ t.railQuiet + 1)
    let r := if hit then min 15 (t.tRail + 1) else if relax then t.tRail - 1 else t.tRail
    let n := if hit || relax then 0 else t.railQuiet + 1
    (s.modQuay q (fun x => { x with tRail := r, railQuiet := n, railRead := false, alertSeen := false }),
     if t.tRail < r then 7 else if r < t.tRail then 4 else 0)

/-! ### PMBus (R264, R267, R457, R680) -/

/-- A value in volts times 1,000 from ULINEAR16 data with exponent code `e` (five bits, two's complement). -/
def mvOf (e data : Nat) : Nat :=
  let x := signedOf (e % 32) 5
  if x < 0 then data * 1000 / 2 ^ (-x).toNat else data * 1000 * 2 ^ x.toNat

/-- The ULINEAR16 code of a voltage in mV, to the nearest step. -/
def codeOf (e mv : Nat) : Nat :=
  let x := signedOf (e % 32) 5
  if x < 0 then (mv * 2 ^ (-x).toNat + 500) / 1000 else mv / (1000 * 2 ^ x.toNat)

/-- LINEAR11 data in tenths. -/
def linear11Tenths (data : Nat) : Nat :=
  let m := signedOf (data % 2 ^ 11) 11
  let x := signedOf (data / 2 ^ 11 % 32) 5
  let v : Int := if x < 0 then m * 10 / 2 ^ (-x).toNat else m * 10 * 2 ^ x.toNat
  v.toNat

/-- Drive the transaction at the head of the queue: PAGE, then the command (R680). -/
def State.pmDrive (s : State) : State :=
  match s.power.pm with
  | [] => s
  | x :: _ => (s.emit (.pmbus x.quay 0x00 true 0)).emit (.pmbus x.quay x.cmd x.wr x.data)

/-- Queue a transaction, in order of request; with nothing running it starts. -/
def State.pmQueue (s : State) (x : PmTx) : State :=
  let idle := s.power.pm.isEmpty
  let s := { s with power.pm := s.power.pm ++ [x] }
  if idle then s.pmDrive else s

/-- A margining fault of a region (R267). -/
def State.pmFault (s : State) (q : Nat) : State :=
  (s.put (QY_MARGIN_PMB_FAULT q) 1).logQuay q 0x0607 q 3 (s.regionTemp q) (s.jt % 2 ^ 32)

/-- A readback agrees with the command: the step is in force, and at NOM_MV the quay is Green again (R266, R267, R295). -/
def State.stepConfirmed (s : State) (q : Nat) : State :=
  let n := (s.quay q).cmdSteps
  let s := s.put (QY_MARGIN_MV_STEPS q) n
  if n = 0 ∧ (s.quay q).colour = ochre then s.setQuayColour q green else s

/-- PMBUS_TRANSACTION_DONE for every use but the host's command (R267, R457, R588). Gives the transaction that completed. -/
def State.pmDone (s : State) (ack : Bool) (data : Nat) : State × Option PmTx :=
  match s.power.pm with
  | [] => (s, none)
  | x :: rest =>
    let q := x.quay
    let s := { s with power.pm := rest }.pmDrive
    let s :=
      if x.why = 5 then s
      else if !ack then
        -- a write that was not acknowledged has not been taken
        let s := if x.wr then s.modQuay q (fun t => { t with cmdSteps := s.get (QY_MARGIN_MV_STEPS q) }) else s
        if x.wr ∨ (s.quay q).marginWait then (s.modQuay q (fun t => { t with marginWait := false })).pmFault q else s
      else if x.wr then s.modQuay q (fun t => { t with marginWait := true })
      else if x.cmd = 0x20 then s.modQuay q (fun t => { t with voutMode := data % 32 })
      else if x.cmd = 0x8B then
        let mv := mvOf (s.quay q).voutMode data
        let s := (s.put (QY_MARGIN_VOUT_MV q) mv).modQuay q (fun t => { t with railRead := true })
        if (s.quay q).marginWait then
          let c := s.commandedMv q
          let s := s.modQuay q (fun t => { t with marginWait := false })
          if 10 < ((mv : Int) - c).natAbs then s.pmFault q else s.stepConfirmed q
        else s
      else if x.cmd = 0x8C then (s.put (QY_RAIL_IOUT q) (min 0xFFFF (linear11Tenths data))).modQuay q (fun t => { t with railRead := true })
      else if x.cmd = 0x79 then
        -- every page of the device is read; the regulators that pulled the line, or report something, are recorded
        if s.flag (QY_RAIL_ALERT q) ∨ data ≠ 0 then (s.logQuay q 0x0A0B q data 0 s.tick32).count HM_PWR_CNT_RAIL 1 else s
      else s
    (s, some x)

/-- PMBUS_ALERT (R267, R457, R679, R680): the regulator of quay `q` has pulled PMB_ALERT_N; STATUS_WORD is read from every page of its device. -/
def State.pmAlert (s : State) (q : Nat) : State :=
  let s := (s.put (QY_RAIL_ALERT q) 1).modQuay q (fun t => { t with alertSeen := true })
  if s.lantern then s
  else (s.quayList.filter (fun k => decide (k / 8 = q / 8))).foldl (fun s k => s.pmQueue ⟨k, 0x79, false, 0, 3⟩) (s.pmFault q)

/-- The housekeeping reads of a round (R457). -/
def State.pmRound (s : State) : State :=
  if s.lantern ∨ s.phaseNo < phTesting ∨ s.phaseNo = phFailed then s
  else s.quayList.foldl (fun s q => (s.pmQueue ⟨q, 0x8B, false, 0, 0⟩).pmQueue ⟨q, 0x8C, false, 0, 0⟩) s

/-! ### Region margining (R264 to R266) -/

/-- Write the region's rail (R264); the step counts as in force once it has been read back (R267). -/
def State.railStep (s : State) (q steps reason : Nat) : State :=
  let old := s.commandedMv q
  let s := s.modQuay q (fun t => { t with cmdSteps := steps })
  let new := s.commandedMv q
  let s := s.pmQueue ⟨q, 0x21, true, codeOf (s.quay q).voutMode new, 1⟩
  s.logQuay q 0x0606 q old new reason

/-- The rail step of a round's first tick at cycle 2,201 (R264, R265, R266). -/
def State.marginQuay (s : State) (q : Nat) : State :=
  let t := s.quay q
  let st := t.cmdSteps
  let tick := s.jt % 2 ^ 32
  -- a quay that is out of service, or whose region its partner runs, steps no rail (R262, R520)
  if s.lantern ∨ ¬ s.flag HM_HEALTH_CTL_EN ∨ ¬ s.flag HM_HEALTH_CTL_MARGIN_EN ∨ ochre < t.colour ∨ s.flag (QY_RST_STAT_ADOPTED q) then s
  else if t.marginUp then
    let s := s.modQuay q (fun t => { t with marginUp := false })
    -- the interlock needs the diode's reading (R265, R460)
    let s := if s.flag (HM_THERM_VAL_VALID (24 + q)) || s.flag (HM_THERM_VAL_FAULT (24 + q)) then s else (s.chFault (24 + q) 4).thermStat
    if s.flag (QY_MARGIN_PMB_FAULT q) then s.logQuay q 0x0607 q 3 (s.regionTemp q) tick
    else if s.get HM_HEALTH_MARGIN_MV_MAX ≤ st then s.logQuay q 0x0607 q 2 (s.regionTemp q) tick
    else if s.flag (QY_MARGIN_RAISE_HOLD q) then s.logQuay q 0x0607 q 1 (s.regionTemp q) tick
    else (s.railStep q (st + 1) 1).setQuayColour q ochre
  else if 0 < st ∧ s.get HM_HEALTH_CTL_OCHRE_ROUNDS ≤ s.get (QY_MARGIN_QUIET q) ∧ ¬ s.flag (QY_MARGIN_PMB_FAULT q) then
    (s.railStep q (st - 1) 2).put (QY_MARGIN_QUIET q) 0
  else s

/-- The round boundary's part of region margining (R266): what the round just ended asks for. -/
def State.marginRound (s : State) (q : Nat) : State :=
  let t := s.quay q
  let up := t.regionFlag || decide (s.get HM_HEALTH_CTL_REGION_EVENTS ≤ t.hitTiles.length)
  let s := s.put (QY_MARGIN_QUIET q) (if up then 0 else min 2047 (s.get (QY_MARGIN_QUIET q) + 1))
  s.modQuay q (fun t => { t with marginUp := up, regionFlag := false, hitTiles := [] })

/-- THROTTLE_EVALUATION (R452, R453, R456, R457, R264): once a round, at cycle 2,201 of its first tick. -/
def State.throttle (s : State) : State :=
  if !s.power.evalDue then s
  else
  let s := { s.at_ (s.commitAt + 1) with power.evalDue := false }
  let (s, whys) :=
    if s.flag HM_THERM_CTL_EN then
      s.ruleChans.foldl (fun (a : State × List (Nat × Nat)) c => let (s, w) := a.1.evalChan c; (s, a.2 ++ [(c, w)])) (s, [])
    else (s, [])
  let s := if s.flag HM_THERM_CTL_EN then s.quayList.foldl (fun s q => s.thermQuay whys q) s else s
  let (s, bus) := s.evalBus
  let s := s.quayList.foldl (fun s q =>
    let (s, rail) := s.evalRail q
    let t := max (s.get HM_PWR_STAT_T_WAFER) (s.quay q).tRail
    let s := if t = s.get (QY_CLEAR_STAT_T_PWR q) then s
      else (s.put (QY_CLEAR_STAT_T_PWR q) t).modQuay q (fun x => { x with tWhy := if rail ≠ 0 then rail else bus })
    s.marginQuay q) s
  s.thermStat

/-! ### The bus and PFAIL (R455, R456) -/

/-- Every governor enters PFAIL (source 1 PFAIL_N, 2 a sample). -/
def State.pfailEnter (s : State) (source : Nat) : State :=
  let s := if s.flag HM_PWR_BUS_PFAIL then s
    else ((s.put HM_PWR_BUS_PFAIL 1).count HM_PWR_CNT_PFAIL 1).logHm 0x0A06 (s.get HM_PWR_BUS_VBUS) source 0 s.tick32
  let s := { s with power.good := 0 }
  s.quayList.foldl (fun s q => s.setGov q gvPfail) s

/-- The governors leave PFAIL once PFAIL_N is high and two consecutive samples were good. -/
def State.pfailLeave (s : State) : State :=
  if s.flag HM_PWR_BUS_PFAIL_PIN ∨ s.power.good < 2 ∨ ¬ s.flag HM_PWR_BUS_PFAIL then s
  else
    let s := s.put HM_PWR_BUS_PFAIL 0
    s.quayList.foldl (fun s q => if s.govState q = gvPfail then
      -- requests kept through PFAIL are served in order (R469)
      let s := s.setGov q gvRun
      s.poolServe q (s.quay q).clrPend
    else s) s

/-- BUS_SAMPLE (R456, R684): the codes of HK_AIN0 and HK_AIN1. Gives whether the sample is a power fail newly entered. -/
def State.busSample (s : State) (c0 c1 : Nat) : State × Bool :=
  let c0 := c0 % 4096
  let c1 := c1 % 4096
  let v := c0 * 14648 / 10000
  let i := c1 * s.get HM_PWR_CAL_I_SCALE / 256 / 100
  -- input power is measured with I_EN = 1 only (R476)
  let pw := if s.flag HM_PWR_CTL_I_EN then v * i / 1000 else 0
  let s := (s.ainSample 0 (c0 * 12500 / 4096)).ainSample 1 (c1 * 12500 / 4096)
  let s := (s.put HM_PWR_BUS_VBUS v).put HM_PWR_BUS_IBUS i
  let s := if s.flag HM_PWR_CTL_I_EN then s.put HM_PWR_BUS_PIN pw else s
  let s := { s with
    power.vLow := some (min v (s.power.vLow.getD v)), power.pinHigh := max pw s.power.pinHigh
    power.good := if 4600 ≤ v then s.power.good + 1 else 0 }
  let high := decide (5700 < v)
  let s := if high && !s.flag HM_PWR_BUS_HIGH then ((s.logHm 0x0A07 v 0 0 s.tick32).count HM_PWR_CNT_BUS_HIGH 1).alarm 1 else s
  let s := s.put HM_PWR_BUS_HIGH (bit high)
  if v < 4400 then (s.pfailEnter 2, !s.flag HM_PWR_BUS_PFAIL) else (s.pfailLeave, false)

end Sys2Proof.Machine
end

