-- ==== Sys2Proof/Machine/Health.lean ====
section
/-!
DEFINITION. The health state machine (chapter 07): triggers, tile margining, boundary moves, host requests, the rounds, and how a tile takes or leaves
ROLE JOB.
-/

namespace Sys2Proof.Machine

/-! ### Roles (R77, R261, R409, R516) -/

/-- The quay releases a tile's Breakwater when it takes ROLE JOB, if its colour and BOL_CERR.SEEN allow (R261). -/
def State.releaseBw (s : State) (p : Nat) : State :=
  -- a region's Breakwater is released only while the quay that runs the region is Green or Amber (R495, R521)
  let q := s.runner p
  let held := (s.get (BOL_BW_WHY p)).testBit 3 && decide (amber < (s.quay q).colour)
  if s.colour p ≤ ochre ∧ s.get (BOL_CERR_SEEN p) = 0 ∧ !held then
    let s := if s.flag (BOL_STAT_BW_ACTIVE p) then s.modTile p (fun t => { t with killTick := some s.time.tick }) else s
    ((s.put (BOL_CTL_BW_FORCE p) 0).put (BOL_BW_WHY p) 0).put (BOL_STAT_BW_ACTIVE p) 0
  else s

/-- CRST_N of a JOB core is released: the core wakes, MASK is 0xFFFF until its first SLEEP beat (R409), the watchdog count is 0 (R516). -/
def State.startCore (s : State) (p : Nat) : State :=
  let s := s.releaseCore p
  let s := s.modTile p (fun t => { t with asleep := false, parked := false, parkSeen := false, overrun := false, hawserHold := false, steps := [] })
  let s := (s.put (BOL_WAKE_MASK p) 0xFFFF).put (BOL_WDOG_IDLE_TICKS p) 0
  s.refreshTile p

/-- Tile `p` takes ROLE JOB with logical core `l` (R261, R276). -/
def State.giveJob (s : State) (p l : Nat) : State :=
  let s := (s.put (BOL_CTL_ROLE p) roleJob).put (BOL_CTL_CHECK_EN p) 1
  let s := ((s.put (BOL_CTL_GUARD p) 0).put (BOL_CTL_CG_HOLD p) 0).put (BOL_PILOT_LCORE p) l
  let s := s.modTile p (fun t => { t with use := useServes, serviceFrom := s.jt, lastMatch := 0, hosts := [], kernel := none })
  let s := ((s.setMap l p false).put (BOL_PILOT_PATCH_PEND p) (bit (s.patchHeld l))).put (BOL_PILOT_KERNEL p) 0
  ((s.syncTile p).releaseBw p).startCore p

/-- Tile `p` leaves its logical core and is put to use `u`, its guard kept (R276). -/
def State.leaveJob (s : State) (p u : Nat) : State :=
  let s := s.modTile p (fun t => { t with leftAt := s.get HM_COMMIT_STAT_CTICK, parked := false, parkSeen := false, asleep := false, steps := [], samples := [] })
  let s := ((s.put (BOL_CTL_ROLE p) (if u = useTest ∨ u = useRetest then roleTest else roleIdle)).put (BOL_CTL_GUARD p) 1).put (BOL_CDOM_RST p) 1
  let s := ((s.put (BOL_PILOT_LCORE p) 0).put (BOL_PILOT_PATCH_PEND p) 0).put (BOL_CTL_CG_HOLD p) 0
  ((s.coreReset p).setUse p u).refreshTile p

/-- What a move carries from tile `x` to tile `y` beside local memory (R143, R410). -/
def State.carry (s : State) (x y : Nat) : State :=
  let a := s.tile x
  let s := s.modTile y (fun t => { t with rates := a.rates, pendings := a.pendings, slots := a.slots, slotHist := a.slotHist })
  let s := s.modTile x (fun t => { t with slots := [], slotHist := [], hawserHold := false })
  s.put (BOL_WAKE_PENDING y) (s.get (BOL_WAKE_PENDING x))

/-! ### Boundary moves (R276, R277, R283) -/

/-- Byte address of recall mailbox word `w` (R216). -/
def mailWord (w : Nat) : Nat := 0xFF80 + 8 * w

/-- Show a quay's move in QY_MOVE (R295). -/
def State.showMove (s : State) (q l x y phase : Nat) (boundary : Bool) : State :=
  let s := ((s.put (QY_MOVE_LCORE q) l).put (QY_MOVE_FROM q) x).put (QY_MOVE_TO q) y
  (s.put (QY_MOVE_PHASE q) phase).put (QY_MOVE_BOUNDARY q) (bit boundary)

def State.moveOf (s : State) (x : Nat) : Option Move := s.moves.find? (fun (m : Move) => m.src = x)

def State.setMove (s : State) (m : Move) : State :=
  let s := { s with moves := s.moves.map (fun (k : Move) => if k.src = m.src then m else k) }
  s.showMove (quayOf m.src) m.lcore m.src (m.dst.getD 0) (m.phase % 5) true

/-- A move ends; QY_MOVE shows another of the quay's that is still in progress (R295). -/
def State.dropMove (s : State) (m : Move) : State :=
  let s := { s with moves := s.moves.filter (fun (k : Move) => decide (k.src ≠ m.src)) }
  match s.moves.find? (fun (k : Move) => decide (quayOf k.src = quayOf m.src)) with
  | some k => s.showMove (quayOf m.src) k.lcore k.src (k.dst.getD 0) (k.phase % 5) true
  | none => s.showMove (quayOf m.src) m.lcore m.src (m.dst.getD 0) 0 true

/-- Why a boundary move is made. -/
def mvRotate : Nat := 1
def mvCode7 : Nat := 2
def mvHost : Nat := 3
def mvPartition : Nat := 4
def mvDonly : Nat := 5

/-- Request a boundary move: mailbox word W4 of X is written (R276). A move already in progress continues (R285); one that has been abandoned after its
park ends first, when its core returns to service. -/
def State.requestMove (s : State) (x why colour code : Nat) : State :=
  match s.moveOf x with
  | some m => if m.phase = 5 then s.setMove { m with next := some (why, colour, code) } else s
  | none =>
    let l := s.lcore x
    let m : Move := ⟨l, x, none, 1, why, colour, code, s.jt, s.now, s.now, none, none⟩
    let s := { s with moves := s.moves ++ [m] }
    let s := s.showMove (quayOf x) l x 0 1 true
    let s := s.setMap l x true
    s.lmWrites x (mailWord 4) [BitVec.ofNat 64 ((s.jt + 1) % 2 ^ 50 + 2 ^ 50)]

/-- The host's operation ends (R286, R292). -/
def State.endHealthOp (s : State) (refused : Bool) : State :=
  let s := s.put HM_HEALTH_OP_BUSY 0
  (if refused then s.put HM_HEALTH_OP_REFUSED 1 else s).irq irqHealth

/-- The map update that sends the logical core of an abandoned move back (R276, R283): at the next tick, or at the restart tick of the recall. -/
def State.sendBack (s : State) (m : Move) (reason : Nat) : State :=
  if m.dst.isNone then s
  else
    match s.commit.inRecall with
    | some r => if reason = 1 then { s with commit.inRecall := some { r with back := r.back ++ [(m.lcore, m.src)] } }
                else s.sendMap m.lcore m.src (s.time.tick + 1)
    | none => s.sendMap m.lcore m.src (s.time.tick + 1)

/-- A boundary move is abandoned (R276, R277, R283): reason 1 recall, 2 park timeout, 3 no spare. A parked core goes on at the next tick's cycle 0;
in a recall the mailbox write clears W4. -/
def State.abandonMove (s : State) (m : Move) (reason : Nat) : State :=
  let s := s.logTile m.src 0x0603 m.lcore m.src reason (s.jt % 2 ^ 32)
  let s := if m.why = mvHost then s.endHealthOp true else s
  let s := if m.why = mvPartition ∧ reason ≠ 1 then { s with rst.opStop := true } else s
  let s := (s.sendBack m reason).setMap m.lcore m.src false
  if m.phase = 1 ∨ reason = 1 then
    let s := if reason = 1 then s else s.lmWrites m.src (mailWord 4) [0]
    (s.modTile m.src (fun t => { t with parkSeen := false })).dropMove m
  else s.setMove { m with phase := 5, dst := none }

/-- At cycle 0 of a tick the parked cores of abandoned moves return to service (R276); the freeze of a recall in progress stands (R227, R283). -/
def State.unparkAll (s : State) : State :=
  (s.moves.filter (fun (m : Move) => decide (m.phase = 5))).foldl (fun s m =>
    let s := if s.commit.inRecall.isSome then s else (s.lmWrites m.src (mailWord 4) [0]).put (BOL_CTL_GUARD m.src) 0
    let s := s.modTile m.src (fun t => { t with parked := false, parkSeen := false })
    let s := (s.refreshTile m.src).dropMove m
    match m.next with
    | some (why, colour, code) => s.requestMove m.src why colour code
    | none => s) s

/-- The switch tick (R276): the first tide tick whose cycle 0 lies at least 600 cc after the later of the copy's end and the update's being in place. -/
def State.switchTick (s : State) (copyEnd inPlace : Int) : Nat :=
  s.time.tick + (((max copyEnd inPlace + 600 + s.tickLen - 1) / s.tickLen).toNat)

/-- The copy of a parked core begins: a spare is chosen and the map update sent, or there is none (R276, R282). -/
def State.startCopy (s : State) (m : Move) : State :=
  let q := quayOf m.src
  -- the stand-in of a rotation comes from the tile's own quay, while free exceeds KEEP (R302)
  let found := if m.why = mvRotate then (if s.get (QY_PILOT_CTL_KEEP q) < s.freeSpares q then s.spareIn s.jt q m.src else none) else s.chooseSpare m.src
  match found with
  | none =>
    if m.why = mvRotate then s.abandonMove m 3
    else
    let s := s.outOfSpares m.lcore (quayOf m.src) false
    let s := s.alarm 5
    -- in detect-only mode the job halts, and the core still has to be moved (R237, R282)
    if s.donly then { s.haltPull 2 0 8 1 with demands := s.demands ++ [(m.src, m.code)] } else s.abandonMove m 3
  | some y =>
    let s := s.takeFromShadow y
    let hops := hopsBetween m.src y
    let at_ := s.switchTick (s.time.cyc + 16 + 8192 + hops) (s.time.cyc + s.get HM_MAP_CTL_MAP_CC)
    (s.setMove { m with dst := some y, phase := 3, sent := s.now, switchAt := some at_ }).sendMap m.lcore y at_

/-- A park beat takes hold once no tile is open (R276, R409). -/
def State.tryPark (s : State) (p : Nat) : State :=
  match s.moveOf p with
  | none => s
  | some m =>
    if m.phase ≠ 1 ∨ ¬ (s.tile p).parkSeen ∨ (s.tile p).opens ≠ [] then s
    else
      let s := s.modTile p (fun t => { t with parked := true, parkSeen := false })
      let s := (s.put (BOL_CTL_GUARD p) 1).refreshTile p
      (s.setMove { m with phase := 2 }).startCopy { m with phase := 2 }

/-- PARK: a SLEEP beat with mask 0 (R276, R409): ignored unless a move of the core is requested and its tick has come. -/
def State.park (s : State) (p : Nat) : State :=
  match s.moveOf p with
  | none => s
  | some m =>
    if m.phase ≠ 1 ∨ s.jt ≤ m.asked then s
    else (s.modTile p (fun t => { t with parkSeen := true, progress := true })).tryPark p

/-- MOVE_COPY_DONE (R276): the switch tick is chosen. -/
def State.copyDone (s : State) (x : Nat) : State :=
  match s.moveOf x with
  | none => s
  | some m =>
    if m.phase ≠ 3 then s
    else
      let inPlace := (s.get HM_MAP_CTL_MAP_CC : Int) - s.since m.sent + s.time.cyc
      let at_ := s.switchTick s.time.cyc inPlace
      let s := if m.switchAt = some at_ then s else s.sendMap m.lcore (m.dst.getD 0) at_
      s.setMove { m with phase := 4, switchAt := some at_ }

/-- The use of the vacated tile after a boundary move (R276). -/
def Move.nextUse (m : Move) : Nat :=
  if m.colour = slate then useNone else if m.colour = vermilion then useRetest else if m.why = mvRotate then useTest else useIdle

/-- MOVE_SWITCH (R276): at cycle 0 of the switch tick. Gives the move made. -/
def State.switchMove (s : State) (x : Nat) : State × Option Move :=
  match s.moveOf x with
  | none => (s, none)
  | some m =>
    match m.dst, m.switchAt with
    | some y, some t =>
      if m.phase ≠ 4 ∨ s.time.tick < t then (s, none)
      else
        let s := (s.carry x y).lend m.lcore x y
        let s := s.giveJob y m.lcore
        let s := s.leaveJob x m.nextUse
        let s := if m.code ≠ 0 ∧ m.colour ≠ s.colour x then s.setColour x m.colour m.code (if m.why = mvHost then 1 else 4) else s
        -- a tile that leaves service under a trigger never gets its logical core back (R194, R259)
        let s := if m.why = mvRotate ∨ m.why = mvPartition then s else s.modTile x (fun t => { t with lost := m.lcore :: t.lost })
        let s := s.setUse x m.nextUse
        let cycles := (s.since m.start).toNat
        let borrowed := decide (quayOf y ≠ s.homeQuay m.lcore)
        let s := s.logTile x 0x0602 m.lcore x y (1 + 2 * bit borrowed + 4 * cycles)
        let s := s.count HM_HEALTH_CNT_BMOVES 1
        let s := if m.why = mvHost then s.endHealthOp false else s
        -- a hung tile is dumped once its logical core has moved (R525)
        let s := if m.code = 8 ∧ s.flag HM_RST_CTL_DUMP_TILE = true then (s.startDump dkTile dkTile x).1 else s
        (((s.dropMove m).refreshPool (quayOf x)).refreshPool (quayOf y), some m)
    | _, _ => (s, none)

/-- The tile must leave service: a trigger has asked for the move, or has recoloured the tile while it was moving (R259, R277, R285). -/
def State.mustMove (s : State) (m : Move) : Bool := decide (m.why = mvCode7) || decide (m.why = mvDonly) || decide (vermilion ≤ s.colour m.src)

/-- PARK_TIMEOUT (R277): in detect-only mode the freeze of a tile that must leave service is due at the next tick boundary; in held mode it is moved within a
recall; any other move is abandoned. -/
def State.parkTimeout (s : State) (x : Nat) : State :=
  match s.moveOf x with
  | none => s
  | some m =>
    if m.phase ≠ 1 ∨ s.jt < m.asked + s.get HM_HEALTH_CTL_PARK_TICKS then s
    else if s.donly ∧ s.mustMove m = true then s.setMove { m with phase := 6 }
    else if s.mustMove m then
      let s := s.setMap m.lcore x false
      let s := if m.why = mvHost then s.endHealthOp false else s
      let s := { s.dropMove m with demands := s.demands ++ [(x, 7)] }
      s.pullQuay (quayOf x) 8
    else s.abandonMove m 2

/-- At a tick boundary the tiles whose freeze is due are frozen and copied (R277). -/
def State.forceMoves (s : State) : State :=
  (s.moves.filter (fun (m : Move) => decide (m.phase = 6))).foldl (fun s m =>
    let x := m.src
    let m := { m with phase := 2 }
    let s := s.modTile x (fun t => { t with parked := true, parkSeen := false })
    let s := ((s.put (BOL_CTL_GUARD x) 1).refreshTile x).setMove m
    let s := s.startCopy m
    match (s.moveOf x).bind (·.dst) with
    | some y => (s.count HM_HEALTH_CNT_FORCED 1).logTile x 0x0604 m.lcore x y (s.jt % 2 ^ 32)
    | none => s) s

/-! ### Triggers (R257 to R259) -/

/-- A boundary move of tile `p`'s logical core is in progress. -/
def State.moving (s : State) (p : Nat) : Bool := match s.moveOf p with | some m => decide (m.phase ≠ 5) | none => false

/-- A trigger on a tile whose boundary move is in progress changes its colour at once; the move continues to its switch (R285). -/
def State.recolourMoving (s : State) (p new code origin : Nat) : State :=
  let s := s.setColour p new code origin
  match s.moveOf p with
  | some m => s.setMove { m with colour := new }
  | none => s

/-- Take a tile to Vermilion or Slate under a code (R259, R285). -/
def State.takeOut (s : State) (p new code origin : Nat) : State :=
  if s.colour p = slate ∨ (s.colour p = new) then s
  else if s.use p ≠ useServes ∨ ¬ s.built then
    let s := s.takeFromShadow p
    s.setColour p new code origin
  else if (s.donly = true ∨ (code ≠ 8 ∧ code ≠ 9)) ∧ s.moving p = true then s.recolourMoving p new code origin
  else if code = 11 ∨ code = 16 ∧ origin = 1 then s.requestMove p mvHost new code
  else if s.donly then s.requestMove p mvDonly new code
  else if code = 7 then s.requestMove p mvCode7 new code
  else
    let s := if s.demands.contains (p, code) then s else { s with demands := s.demands ++ [(p, code)] }
    if code = 9 then s.pullHw1 2 0 0 0 3 else s.pullQuay (quayOf p) 8

/-- The tile is under test: in a slot, its rotation made, or the partner of a diagnosis. -/
def State.underTest (s : State) (p : Nat) : Bool :=
  decide (s.use p = useTest) || s.test.slots.any (fun x => (x.2.map (fun (t : TSlot) => decide (t.p = p) && decide (t.phase ≠ 0))).getD false)

/-- The divider of a tile's colour: DIV_NEXT, or for a tile under test, whose DIV_NEXT stays at 1/1, the one it takes when the test ends (R300). -/
def State.divOf (s : State) (p : Nat) : Nat :=
  match s.test.slots.findSome? (fun x => x.2.bind (fun (t : TSlot) => if t.p = p ∧ t.phase ≠ 0 then some t.div else none)) with
  | some d => d
  | none => s.get (BOL_CTL_DIV_NEXT p)

/-- Set it. -/
def State.setDiv (s : State) (p d : Nat) : State :=
  let under := fun (t : TSlot) => decide (t.p = p) && decide (t.phase ≠ 0)
  if s.test.slots.any (fun x => (x.2.map under).getD false) then
    { s with test.slots := s.test.slots.map (fun x => (x.1, x.2.map (fun (t : TSlot) => if under t then { t with div := d } else t))) }
  else s.put (BOL_CTL_DIV_NEXT p) d

/-- Lower or raise a tile's divider by one step (R263). -/
def State.divStep (s : State) (p : Nat) (down : Bool) : State :=
  let old := s.divOf p
  let new := if down then old + 1 else old - 1
  let s := (s.setDiv p new).modTile p (fun t => { t with greenDue := !down && decide (new = 0) })
  s.logTile p 0x0605 p old new (s.jt % 2 ^ 32)

/-- The divider of an Ochre tile stands at 1/1 again: the tile is Green (R257 code 13, R263). -/
def State.greenAgain (s : State) (p : Nat) : State :=
  if !(s.tile p).greenDue then s
  else
    let s := s.modTile p (fun t => { t with greenDue := false })
    if s.colour p = ochre ∧ s.get (BOL_CLK_DIV p) = 0 then s.setColour p green 13 4 else s

/-- A trigger of code 1, 2, 3 or 18 (R257). A second one in the same tick adds nothing. -/
def State.softTrigger (s : State) (p code : Nat) : State :=
  if !s.flag HM_HEALTH_CTL_EN || s.lantern then s
  else
    let s := if code ≤ 3 then s.regionHit p else s
    let again := decide ((s.tile p).trigTick = some s.time.tick)
    match s.colour p with
    | 0 => s.setColour p amber code 4
    | 1 | 2 =>
      if again then s
      else
        let room := s.flag HM_HEALTH_CTL_MARGIN_EN && decide (s.divOf p < s.get HM_HEALTH_MARGIN_DIV_MAX)
        let was := s.colour p
        if room then (s.divStep p true).setColour p ochre (if was = amber then 5 else 6) 4
        else
          let s := s.modTile p (fun t => { t with trigTick := some s.time.tick, quiet := 0 })
          -- a divider step that the limit refuses (R297)
          let s := if s.flag HM_HEALTH_CTL_MARGIN_EN then s.logTile p 0x0607 p 2 (s.regionTemp (quayOf p)) (s.jt % 2 ^ 32) else s
          s.takeOut p vermilion 7 4
    | _ => s

/-- A trigger of code 8, 9 or 10 (R257). -/
def State.hardTrigger (s : State) (p code : Nat) : State :=
  if !s.flag HM_HEALTH_CTL_EN || s.lantern || decide (vermilion ≤ s.colour p) then s
  else (s.regionHit p).takeOut p vermilion code 4

/-! ### The host's requests (R286, R292) -/

/-- The severity order of R257. -/
def severity (c : Nat) : Nat := c

/-- HM_HEALTH_OP GO with OP `op` (1 Amber, 2 Vermilion, 3 Slate). -/
def State.healthOp (s : State) (p op : Nat) : State :=
  if s.flag HM_HEALTH_OP_BUSY then s.pageErr HM_HEALTH_OP errBusy
  else
    let s := (s.put HM_HEALTH_OP_PTILE p).put HM_HEALTH_OP_OP op
    let p := p % 2 ^ 20
    let new := if op = 1 then amber else if op = 2 then vermilion else slate
    if s.nQuays ≤ quayOf p ∨ tileCol p ≥ 1024 ∨ severity new < severity (s.colour p) then s.endHealthOp true
    else if s.colour p = new then s
    else if op = 1 then s.setColour p amber 4 1
    else
      let code := if op = 2 then 11 else 16
      let waits := decide (s.use p = useServes) && s.built && !s.moving p
      (if waits then s.put HM_HEALTH_OP_BUSY 1 else s).takeOut p new code 1

/-! ### Rounds (R257, R262, R281) -/

/-- A tile's quiet rounds at a round boundary, and the transitions of codes 12 and 13. -/
def State.tileRound (s : State) (p : Nat) : State :=
  let t := s.tile p
  let hit := match t.trigTick with | some x => decide (s.time.tick ≤ x + 4096) | none => false
  let n := if hit then 0 else t.quiet + 1
  let s := s.modTile p (fun t => { t with quiet := n, ceRound := 0 })
  if s.colour p = amber ∧ s.get HM_HEALTH_CTL_AMBER_MATCH ≤ t.matched ∧ s.get HM_HEALTH_CTL_AMBER_ROUNDS ≤ n then s.setColour p green 12 4
  else if s.colour p = ochre ∧ s.get HM_HEALTH_CTL_OCHRE_ROUNDS ≤ n then
    let s := s.divStep p false
    if (s.tile p).greenDue then s.modTile p (fun t => { t with quiet := 0 }) else s.setColour p ochre 13 4
  else s

/-- The health work of a round boundary (R257, R262, R266, R281). -/
def State.healthRound (s : State) : State :=
  let tiles := s.touchedTiles
  let s := if s.flag HM_HEALTH_CTL_EN ∧ ¬ s.lantern then tiles.foldl (fun s p => s.tileRound p) s
    else tiles.foldl (fun s p => s.modTile p (fun t => { t with ceRound := 0 })) s
  s.quayList.foldl (fun s q =>
    let t := s.quay q
    let s := s.modQuay q (fun t => { t with quiet := t.quiet + 1 })
    let s := if s.flag HM_HEALTH_CTL_EN ∧ t.colour = amber ∧ s.get HM_HEALTH_CTL_AMBER_ROUNDS ≤ t.quiet then s.setQuayColour q green else s
    let s := s.marginRound q
    if !s.built then s
    else
      -- an adopted region is not rotated (R521)
      let k := if s.flag (QY_RST_STAT_ADOPTED q) then 0 else rotationsFor (s.get (QY_SPARE_AVAIL q))
      let s := s.put (QY_SPARE_K q) k
      if k = 2 then s.logQuay q 0x060C q (s.get (QY_SPARE_AVAIL q)) k (s.jt % 2 ^ 32) else s) s

/-- The colour a tile takes under trigger code `code` when it leaves service (R257): Slate under 16, Vermilion under the others while the health state machine
runs; it keeps its own when a dispute takes its logical core (code 0), until the verdict, and while the machine does not run (R288). -/
def State.leaveColour (s : State) (p code : Nat) : Nat :=
  if code = 16 then slate else if code = 0 ∨ ¬ s.flag HM_HEALTH_CTL_EN then s.colour p else vermilion

/-- In detect-only mode a demanded move becomes a boundary move, and a tile whose move is in progress changes its colour at once (R239, R259, R285). -/
def State.donlyDemands (s : State) : State :=
  if !s.donly ∨ s.cmState ≠ cmRun then s
  else
    s.demands.foldl (fun s d =>
      let (p, code) := d
      let new := s.leaveColour p code
      if s.use p ≠ useServes then s
      else if s.moving p then (if code = 0 ∨ new ≤ s.colour p then s else s.recolourMoving p new code 4)
      else s.requestMove p mvDonly new (if new = s.colour p then 0 else code)) { s with demands := s.demands.filter (fun d => decide (s.use d.1 ≠ useServes)) }

/-! ### Escalation and the Bollards' own faults (R485, R493, R494, R524) -/

/-- A counted reset of a tile (R494, R524): the third in the window asks for Slate under code 16, at once where the tile serves no logical core, otherwise with
the recall of the trigger (R259). -/
def State.countTileReset (s : State) (p : Nat) (forced : Bool) : State × Nat :=
  let (s, n) := s.countReset p forced
  let s := s.count HM_RST_CNT_TILE_RESETS 1
  if n < 3 then (s, n)
  else
    let s := (s.logTile p 0x0C09 tyBol p n s.tick32).count HM_RST_ESC_TILE_ESC 1
    if s.use p ≠ useServes ∨ s.donly = true then (s.takeOut p slate 16 4, n)
    else (if s.demands.contains (p, 16) then s else { s with demands := s.demands ++ [(p, 16)] }, n)

/-- A Bollard latches bit `b` of BOL_ERR (R485, R487, R493): counts, record, fault message, cause SELF or LMUE with its pull,
and the Breakwater of OUT_READBACK. -/
def State.latchBol (s : State) (p b : Nat) (forced : Bool) (synd : Nat) : State :=
  let q := quayOf p
  let gained := !(s.word (BOL_ERR p)).toNat.testBit b
  let s := (s.setWord (BOL_ERR p) (s.word (BOL_ERR p) ||| BitVec.ofNat 64 (2 ^ b))).coin (.set (BOL_ERR p) (BitVec.ofNat 64 (2 ^ b)))
  let s := s.logFault (1 + q) (srcWord tyBol q p) tyBol b (bolClass b) forced synd
  if bolClass b = .c then
    let s := (s.count (QY_FAULT_CNT_CORRECTED q) 1).count HM_FAULT_CNT0_CORRECTED 1
    if b = 5 then s.vote (qyBlk q 0) 1 else s
  else
    let s := (s.count (QY_FAULT_CNT_BOLLARD q) 1).count HM_FAULT_CNT0_UNCORRECTED 1
    let s := if gained then { s with bolMsgs := s.bolMsgs ++ [(p, 2 ^ b, forced, s.tick32)] } else s
    let s := if b = 10 then s.breakwater p 4 else s
    let (s, n) := s.countTileReset p forced
    (s.logTile p 0x0C05 p 4 n s.tick32).cause p cSelf

/-- LM_CE_INFO (R101, R257 code 3). -/
def State.lmCe (s : State) (p : Nat) : State :=
  let s := s.count (BOL_CERR_LM_CE p) 1
  let s := s.modTile p (fun t => { t with ceRound := t.ceRound + 1 })
  if (s.tile p).ceRound = s.get HM_HEALTH_CTL_CE_AMBER ∧ 0 < s.get HM_HEALTH_CTL_CE_AMBER then s.softTrigger p 3 else s

end Sys2Proof.Machine
end

