-- ==== Sys2Proof/Machine/Log.lean ====
section
/-!
DEFINITION. The Logbook (chapter 14): the writer, the flusher, reading and clearing.
-/

namespace Sys2Proof.Machine

/-! ### The buffer (R544, R551) -/

def logSlots : Nat := 131072

def State.wseq (s : State) : Nat := s.get HM_LOG_WSEQ_WSEQ
def State.fseq (s : State) : Nat := s.get HM_LOG_FSEQ_FSEQ

/-- Record `n` as the buffer holds it. -/
def State.bufRec (s : State) (n : Nat) : Rec := tabGet (fun _ => Rec.empty) s.log.buf (n % logSlots)

def State.setRec (s : State) (n : Nat) (r : Rec) : State := { s with log.buf := tabSet (fun _ => Rec.empty) s.log.buf (n % logSlots) r }

/-- The 32 bytes of a record as four words (R544). -/
def Rec.words (r : Rec) : List (BitVec 64) :=
  let w := fun (n : Nat) => BitVec.ofNat 64 n
  [w (r.code % 2 ^ 16 + r.flags % 2 ^ 8 * 2 ^ 16 + r.rep % 2 ^ 8 * 2 ^ 24 + r.tide % 2 ^ 32 * 2 ^ 32),
   w (r.tide / 2 ^ 32 % 2 ^ 32 + r.src % 2 ^ 32 * 2 ^ 32), w (r.p0 % 2 ^ 32 + r.p1 % 2 ^ 32 * 2 ^ 32), w (r.p2 % 2 ^ 32 + r.p3 % 2 ^ 32 * 2 ^ 32)]

def Rec.kept (r : Rec) : Bool := r.flags.testBit 4

/-- States of HM_LOG_STAT (R576). -/
def lsIdle : Nat := 0
def lsTrickle : Nat := 1
def lsPfail : Nat := 2
def lsFailed : Nat := 3
def lsScan : Nat := 4

def State.logState (s : State) : Nat := s.get HM_LOG_STAT_STATE
def State.setLogState (s : State) (n : Nat) : State := s.put HM_LOG_STAT_STATE n

/-- Admission is held (R550, R696). -/
def State.logHeld (s : State) : Bool :=
  decide (s.fseq + 4094 ≤ s.wseq) && decide (s.logState ≠ lsFailed) && s.flag HM_LOG_CTL_STORE_EN

def State.showHold (s : State) : State := s.put HM_LOG_STAT_HOLD (bit s.logHeld)

/-! ### The flusher (R552 to R555) -/

/-- The next block that is not marked bad. -/
def State.nextBlock (s : State) (b : Nat) : Nat → Nat
  | 0 => b
  | k + 1 => let n := (b + 1) % max 1 (s.get HM_LOG_STORE_BLOCKS); if s.log.bad.contains n then s.nextBlock n k else n

def State.advanceBlock (s : State) : State := s.put HM_LOG_STAT_BLOCK (s.nextBlock (s.get HM_LOG_STAT_BLOCK) 224)

/-- The bytes 0 to 65,503 of a block: its records in sequence order, then zeros (R552). -/
def State.blockBytes (s : State) (first len : Nat) : List Nat :=
  (List.range len).flatMap (fun i => (s.bufRec (first + i)).words.flatMap (fun w => bytesOf w.toNat 8)) ++ List.replicate (65504 - 32 * len) 0

/-- The trailer of a block (R545, R552). -/
def State.trailer (s : State) (w : BlockWr) : Rec :=
  ⟨0x0D0F, recFlags false false false false true, 1, w.tide, srcWord tyHm 0 0, w.len, crc32 (s.blockBytes w.first w.len), w.first % 2 ^ 32, w.first / 2 ^ 32 % 2 ^ 32⟩

def State.sendTrailer (s : State) (w : BlockWr) : State := s.emit (.logTrailer (s.get HM_LOG_STAT_BLOCK) (s.trailer w).words)

/-- A merge and the flusher's read of the same slot in one cycle: the record is copied as it was, and the occurrence starts a new record (R557). -/
def State.unmerge (s : State) (first len : Nat) : Option (Rec × State) :=
  match s.log.merged with
  | some (m, r) =>
    let n := s.wseq - 1
    let last := s.bufRec n
    if m = s.now ∧ first ≤ n ∧ n < first + len then some (r, s.setRec n { last with rep := last.rep - r.rep }) else none
  | none => none

/-- Begin a block write; a trickle block is built whole, its trailer with it (R553, R564). -/
def State.startBlock (s : State) (pf : Bool) (first len : Nat) : State :=
  let w : BlockWr := ⟨pf, first, len, false, s.recTide⟩
  let s := ({ s with log.wr := some w }.setLogState (if pf then lsPfail else lsTrickle)).emit
    (.logWrite (s.get HM_LOG_STAT_BLOCK) first len pf)
  if pf then s else s.sendTrailer w

/-- A record takes the next sequence number (R551). Where the oldest is overwritten unflushed, FSEQ follows (R555, R696). A power-fail block
that is being written takes it too (R554). -/
def State.recordIn (s : State) (r : Rec) : State :=
  let n := s.wseq
  let s := (s.setRec n r).put HM_LOG_WSEQ_WSEQ (n + 1)
  let s := if s.fseq + logSlots < n + 1 then s.put HM_LOG_FSEQ_FSEQ (n + 1 - logSlots) else s
  match s.log.wr with
  | some w => if w.pf ∧ w.first + w.len = n ∧ w.len < 2047 then { s with log.wr := some { w with len := w.len + 1 } } else s
  | none => s

/-- A block write begins; an occurrence merged in this cycle into a record of the block starts a record of its own (R557). -/
def State.beginBlock (s : State) (pf : Bool) (len : Nat) : State :=
  match s.unmerge s.fseq len with
  | some (r, t) => (t.startBlock pf s.fseq len).recordIn r
  | none => s.startBlock pf s.fseq len

/-- While a power-fail flush runs, the next block is begun when records are left (R554). -/
def State.pfNext (s : State) : State :=
  if s.log.pf.isSome ∧ s.log.wr.isNone ∧ s.logState ≠ lsFailed then
    if s.fseq < s.wseq then s.beginBlock true (min 2047 (s.wseq - s.fseq)) else s.setLogState lsPfail
  else s

/-- A record is admitted; a power-fail flush with nothing left to write goes on with it (R554). -/
def State.pushRec (s : State) (r : Rec) : State := (s.recordIn r).pfNext

/-- The record at WSEQ − 1 may still change: it is neither flushed nor being copied (R549, R557). -/
def State.lastOpen (s : State) : Bool :=
  decide (s.fseq < s.wseq) && (match s.log.wr with | some w => decide (w.first + w.len < s.wseq) | none => true)

/-- Admit a claim (R547 to R549). A record that stands for several occurrences merges as far as REPEAT reaches 255; the rest starts a new record. -/
def State.acceptClaim (s : State) (claim : List Rec) : State :=
  let s := { s with log.taken := some (s.now, claim.length) }
  match claim with
  | [r] =>
    let last := s.bufRec (s.wseq - 1)
    if s.lastOpen && mergeable last r then
      let k := min r.rep (255 - last.rep)
      let s := { s.setRec (s.wseq - 1) { last with rep := last.rep + k } with log.merged := some (s.now, { r with rep := k }) }
      if k = r.rep then s else s.pushRec { r with rep := r.rep - k }
    else s.pushRec r
  | l => l.foldl (fun s r => s.pushRec r) s

/-- The writer is still at the claim it admitted last: one record a cycle, a pair takes two (R548). -/
def State.writerBusy (s : State) : Bool :=
  match s.log.taken with
  | some (m, k) => decide (0 ≤ s.since m) && decide (s.since m < k)
  | none => false

/-- The first claim leaves a producer's queue; with room again, a producer that dropped records writes LOG_DROPPED (R550). -/
def State.takeClaim (s : State) (i : Nat) : State :=
  let q := s.prod i
  let s := s.setProd i { q with claims := q.claims.drop 1 }
  let q := s.prod i
  if q.dropped = 0 then s
  else
    let src := if i = 0 then srcWord tyHm 0 0 else srcWord tyQuay (i - 1) 0
    let r := s.mkRec 0x0D03 src false q.dropped q.firstCode q.lastCode q.firstTick
    s.setProd i { ProdQ.idle with claims := q.claims ++ [[r]] }

/-- LOG_RECORD (R548, R550, R556): producers whose claims arrive in one cycle; the winner under R17 with N = 65 is admitted. -/
def State.logRecord (s : State) (producers : List Nat) : State :=
  if s.log.scan ∨ s.writerBusy then s
  else
    let group := fun (i : Nat) => match (s.prod i).claims with | (r :: _) :: _ => r.code / 256 | _ => 0
    let ok := producers.filter (fun i => decide (i ≤ 64) && decide ((s.prod i).claims ≠ []) && (!s.logHeld || (decide (i = 0) && decide (group i = 0x0D))))
    match rotWinner s.jt 65 ok with
    | none => s
    | some i =>
      match (s.prod i).claims with
      | c :: _ => ((s.takeClaim i).acceptClaim c).showHold
      | [] => s

/-- TRICKLE_FLUSH (R553, R554, R696). -/
def State.trickle (s : State) : State :=
  if s.log.scan ∨ ¬ s.flag HM_LOG_CTL_STORE_EN ∨ s.logState ≠ lsIdle ∨ s.log.wr.isSome ∨ s.log.trigger ≠ 0 ∨ s.wseq < s.fseq + 2047 then s
  else s.beginBlock false 2047

/-- A PFAIL_N or bus-sample trigger clears when every governor has left PFAIL (state 2); the others when the flush stops (R554). -/
def State.clearTrigger (s : State) : State :=
  if s.log.pf.isSome then s
  else if 3 ≤ s.log.trigger then { s with log.trigger := 0 }
  else if s.quayList.all (fun q => decide (s.get (QY_CLEAR_STAT_STATE q) ≠ 2)) then { s with log.trigger := 0 }
  else s

/-- The port is declared failed (R555). -/
def State.portFailed (s : State) (block : Nat) : State :=
  let s := { s with log.wr := none, log.pf := none }.clearTrigger
  ((s.setLogState lsFailed).logHm 0x0D05 block 3 s.log.badRun s.tick32).showHold

/-- A block is marked bad and the same records go to the next one (R555): reason 1 verify, 2 timeout. -/
def State.badBlock (s : State) (w : BlockWr) (reason : Nat) : State :=
  let b := s.get HM_LOG_STAT_BLOCK
  let s := { s with log.bad := b :: s.log.bad, log.badRun := s.log.badRun + 1 }
  let s := (s.count HM_LOG_STAT_BAD_BLOCKS 1).logHm 0x0D05 b reason s.log.badRun s.tick32
  let s := s.advanceBlock
  if reason = 2 ∨ 4 ≤ s.log.badRun then s.portFailed b else s.startBlock w.pf w.first w.len

/-- FLUSH_BLOCK_DONE (R553, R554): a block is written, and on a trickle verified. -/
def State.flushDone (s : State) (ok : Bool) : State :=
  match s.log.wr with
  | none => s
  | some w =>
    if w.pf ∨ s.log.pf.isSome then
      let s := if w.pf then s.sendTrailer w else s
      let s := ({ s with log.wr := none }.put HM_LOG_FSEQ_FSEQ (max s.fseq (w.first + w.len))).advanceBlock
      (if s.log.pf.isSome then s.pfNext else s.setLogState lsIdle).showHold
    else if ok then
      let s := ({ s with log.wr := none, log.badRun := 0 }.put HM_LOG_FSEQ_FSEQ (max s.fseq (w.first + w.len))).advanceBlock
      ((s.count HM_LOG_CNT_FLUSHES 1).setLogState lsIdle).showHold
    else if w.retry then s.badBlock w 1
    else
      let s := (s.latchHm 19 false 0).emit (.logWrite (s.get HM_LOG_STAT_BLOCK) w.first w.len false)
      { s.sendTrailer w with log.wr := some { w with retry := true } }

/-- LOG_PORT_TIMEOUT (R555): the device has made no answer for 1 ms. -/
def State.portTimeout (s : State) : State :=
  match s.log.wr with
  | some w => s.badBlock w 2
  | none => s

/-- A power-fail trigger (R554): 1 PFAIL_N, 2 bus sample, 3 thermal critical, 4 Lantern, 5 host. Its record is admitted ahead of every other;
a flush starts unless one runs, the store is off or the port has failed. -/
def State.pfTrigger (s : State) (trig : Nat) : State :=
  let r := s.mkRec 0x0D04 (srcWord tyHm 0 0) false (s.wseq - s.fseq) trig 0 s.tick32
  let s := if s.log.scan then s.enqueue 0 [r] else { s.pushRec r with log.taken := some (s.now, 1) }
  -- a trigger of PFAIL stands until the governors have left PFAIL, whatever comes with it
  let s := if trig ≤ 2 ∨ s.log.trigger = 0 ∨ 3 ≤ s.log.trigger then { s with log.trigger := trig } else s
  if s.log.pf.isSome then s.showHold
  else if ¬ s.flag HM_LOG_CTL_STORE_EN ∨ s.logState = lsFailed ∨ s.log.scan then (if 3 ≤ trig then s.clearTrigger else s).showHold
  else
    let s := { s with log.pf := some s.now }
    (((s.count HM_LOG_CNT_PF_FLUSHES 1).setLogState lsPfail).pfNext).showHold

/-- Core cycles of 6 ms (R554) at 1.1 GHz. -/
def pfFlushCc : Nat := 6600000

/-- PFAIL_FLUSH_STOP (R554). -/
def State.pfStop (s : State) : State :=
  match s.log.pf with
  | none => s
  | some m =>
    if s.since m < pfFlushCc then s
    else
      let s := match s.log.wr with
        | some w => ({ (if w.pf then s.sendTrailer w else s) with log.wr := none }.put HM_LOG_FSEQ_FSEQ (max s.fseq (w.first + w.len))).advanceBlock
        | none => s
      ((({ s with log.pf := none }.setLogState lsIdle).clearTrigger).showHold)

/-- LOG_PORT_RETRY (R555). -/
def State.portRetry (s : State) : State :=
  if s.logState = lsFailed then ({ s with log.badRun := 0 }.setLogState lsIdle).showHold else s

/-- A trailer read at power-up (R556): block, CODE, P0, first sequence, and whether its block's CRC holds. -/
structure Trailer where
  block : Nat
  code : Nat
  p0 : Nat
  first : Nat
  crcOk : Bool
  deriving DecidableEq, Repr

/-- The valid trailer with the highest first sequence whose block verifies. -/
def bestTrailer (l : List Trailer) : Option Trailer :=
  l.foldl (fun best t =>
    if !t.crcOk then best
    else match best with
      | none => some t
      | some b => if b.first < t.first then some t else best) none

/-- LOG_STORE_RESUME (R556). -/
def State.storeResume (s : State) (trailers : List Trailer) : State :=
  if !s.log.scan then s
  else
    let valid := trailers.filter (fun t => decide (t.code = 0x0D0F) && decide (1 ≤ t.p0) && decide (t.p0 ≤ 2047))
    let (w, b) := match bestTrailer valid with
      | some t => (t.first + t.p0, (t.block + 1) % max 1 (s.get HM_LOG_STORE_BLOCKS))
      | none => (0, 0)
    let s := { s with log.scan := false, log.base := w }.setLogState lsIdle
    let s := ((s.put HM_LOG_WSEQ_WSEQ w).put HM_LOG_FSEQ_FSEQ w).put HM_LOG_STAT_BLOCK b
    (s.logHm 0x0D06 b w valid.length 0).showHold

/-! ### Reading (R558) -/

/-- Show a read's outcome in HM_LOG_RSTAT and HM_LOG_RDATA. -/
def State.showRead (s : State) (status : Nat) (words : List (BitVec 64)) : State :=
  let s := s.put HM_LOG_RSTAT_STATUS status
  (List.range 4).foldl (fun s i => s.setWord (HM_LOG_RDATA i) (words.getD i 0)) s

/-- LOG_READ_SELECT (R558). -/
def State.logSelect (s : State) (n : Nat) : State :=
  let s := { s.put HM_LOG_RSEL_SEQ n with log.fetch := none }
  let n := n % 2 ^ 64
  if s.wseq ≤ n then s.showRead 3 []
  else if s.wseq ≤ n + logSlots ∧ s.log.base ≤ n then
    let r := s.bufRec n
    if r.code = 0 then s.showRead 4 [] else s.showRead 0 r.words
  else if s.flag HM_LOG_CTL_STORE_EN then { s.put HM_LOG_RSTAT_STATUS 1 with log.fetch := some n }
  else s.showRead 2 []

/-- LOG_FETCH_DONE (R558): the four words of the record, or none when the store no longer holds it. -/
def State.logFetched (s : State) (words : List (BitVec 64)) : State :=
  match s.log.fetch with
  | none => s
  | some _ =>
    let s := { s with log.fetch := none }
    if words = [] then s.showRead 2 []
    else if (words.getD 0 0).toNat % 2 ^ 16 = 0 then s.showRead 4 []
    else s.showRead 0 words

/-! ### Clearing (R560 to R565, R577) -/

/-- NONCE_READ (R561, R577): the two halves are entropy, which the spec does not give: free values. -/
def State.nonceRead (s : State) : State :=
  if s.flag HM_LOG_CLR_BUSY then s.emit (.hport 0 0)
  else
    let (a, s) := s.free
    let (b, s) := s.free
    let s := (s.setWord HM_LOG_NONCE0 a).setWord HM_LOG_NONCE1 b
    { s with log.nonce := some (BitVec.ofNat 128 (a.toNat + b.toNat * 2 ^ 64), s.time.tick) }.emit (.hport 0 a)

/-- The message the token signs (R561). -/
def clearMessage (nonce : BitVec 128) (first last wafer : Nat) : List (BitVec 8) :=
  (bytesOf nonce.toNat 16 ++ bytesOf first 8 ++ bytesOf last 8 ++ bytesOf wafer 1).map (BitVec.ofNat 8)

/-- LOG_CLEAR (R561, R565, R569): the range, the token, the log key in force and the nonce are taken; the nonce is consumed. -/
def State.logClear (s : State) (key : Option (BitVec 256)) (keyId : Nat) : State :=
  if s.flag HM_LOG_CLR_BUSY then s.pageErr HM_LOG_CLR errBusy
  else
    let fresh := match s.log.nonce with
      | some (n, t) => if s.time.tick ≤ t + 2 ^ 20 then some n else none
      | none => none
    let token := (List.range 4).foldl (fun acc i => acc + s.get (HM_LOG_TOKEN_TOKEN i) * 2 ^ (64 * i)) 0
    let c : ClearSt := ⟨s.get HM_LOG_CLR_FIRST_FIRST, s.get HM_LOG_CLR_LAST_LAST, BitVec.ofNat 256 token, key, keyId, fresh, false⟩
    { s.put HM_LOG_CLR_BUSY 1 with log.clear := some c, log.nonce := none }

/-- The reason to refuse a clear, 0 for none (R562); where several hold, the model takes the first of 5, 6, 4, 3, 2, 1. -/
def State.clearRefusal (s : State) (c : ClearSt) : Nat :=
  if s.lantern then 5
  else if 4 ≤ s.log.refusals then 6
  else
    match c.key, c.nonce with
    | none, _ => 4
    | some k, n =>
      if c.last < c.first ∨ s.wseq ≤ c.last then 3
      else
        match n with
        | none => 2
        | some n => if Config.hmacSha256 k (clearMessage n c.first c.last (s.get HM_TRIPLEX_ID_WAFER)) = c.token then 0 else 1

/-- The buffer's records of a range without KEEP. -/
def State.clearable (s : State) (first last : Nat) : List Nat :=
  (s.log.buf.filter (fun kv =>
    let n := (s.wseq - 1) - ((s.wseq - 1 + logSlots - kv.1) % logSlots)
    decide (kv.1 ≤ s.wseq - 1 ∨ logSlots ≤ s.wseq) && decide (first ≤ n) && decide (n ≤ last) && !kv.2.kept)).map (·.1)

/-- The clear ends (R560): irq and status. -/
def State.endClear (s : State) (status : Nat) : State :=
  ({ (s.put HM_LOG_CLR_BUSY 0) with log.clear := none }.put HM_LOG_CLR_STATUS status).irq irqLogClr

/-- LOG_CLEAR_VERIFIED (R560 to R562). -/
def State.clearVerified (s : State) : State :=
  match s.log.clear with
  | none => s
  | some c =>
    if c.verified then s
    else
      let why := s.clearRefusal c
      if why ≠ 0 then
        let s := if why = 1 then { s with log.refusals := s.log.refusals + 1 } else s
        (s.logHm 0x0D02 c.first c.last why s.tick32).endClear why
      else
        let l := s.clearable c.first c.last
        let s := { s with log.buf := s.log.buf.filter (fun kv => !l.contains kv.1) }
        let s := (s.put HM_LOG_CLR_CLEARED l.length).logHm 0x0D01 c.first c.last l.length c.keyId
        if s.flag HM_LOG_CTL_STORE_EN then { s with log.clear := some { c with verified := true } } else s.endClear 0

/-- CLEAR_STORE_PASS_DONE (R560): `extra` records of the range that only the store held have been cleared too. -/
def State.clearDone (s : State) (extra : Nat) : State :=
  match s.log.clear with
  | some c => if c.verified then (s.count HM_LOG_CLR_CLEARED extra).endClear 0 else s
  | none => s

/-- At a round boundary refusals count anew (R562). -/
def State.logRound (s : State) : State := { s with log.refusals := 0 }

end Sys2Proof.Machine
end

