-- ==== Sys2Proof/Machine/Key.lean ====
section
/-!
DEFINITION. The key store (R566 to R569, R579).
-/

namespace Sys2Proof.Machine

def State.key (s : State) (slot : Nat) : Option (BitVec 256) := tabGet (fun _ => none) s.keys.keys slot
def State.quayKey (s : State) (slot : Nat) : Option (BitVec 256) := tabGet (fun _ => none) s.keys.quayKeys slot

/-- The KEY_ID held for a slot. -/
def State.keyId (s : State) (slot : Nat) : Nat := s.get HM_KEY_ID_IDS / 2 ^ (12 * slot) % 2 ^ 12

def State.setKeyId (s : State) (slot id : Nat) : State :=
  let w := s.get HM_KEY_ID_IDS
  s.put HM_KEY_ID_IDS (w - s.keyId slot * 2 ^ (12 * slot) + id % 2 ^ 12 * 2 ^ (12 * slot))

/-- The operation ends. -/
def State.keyEnd (s : State) : State := ({ s with keys.coming := none }.put HM_KEY_OP_BUSY 0).irq irqKey

/-- KEY_LOAD (R567): refused in Lantern mode, until a restarted Rinol waits for the keys (R530), and while an operation is in progress. -/
def State.keyLoad (s : State) : State :=
  if (s.lantern && decide (s.get HM_RST_STAT_RESTART_STATE ≠ 1)) || s.flag HM_KEY_OP_BUSY then (s.put HM_KEY_OP_REFUSED 1).irq irqKey
  else
    let slot := s.get HM_KEY_SEL_SLOT
    let id := s.get HM_KEY_SEL_KEY_ID
    let k := BitVec.ofNat 256 ((List.range 4).foldl (fun acc i => acc + s.get (HM_KEY_DATA_DATA i) * 2 ^ (64 * i)) 0)
    if 5 ≤ slot then s
    else
      let s := (List.range 4).foldl (fun s i => s.setWord (HM_KEY_DATA i) 0) s
      let s := { s with keys.keys := tabSet (fun _ => none) s.keys.keys slot (some k) }
      let s := (s.put HM_KEY_STAT_LOADED (setBitN (s.get HM_KEY_STAT_LOADED) slot)).setKeyId slot id
      let s := s.logHm 0x0D07 slot id 0 s.tick32
      if slot = 0 then s.keyEnd
      else
        let s := s.put HM_KEY_STAT_SPREAD (clrBitN (s.get HM_KEY_STAT_SPREAD) slot)
        { s.put HM_KEY_OP_BUSY 1 with keys.coming := some (slot, k) }

/-- KEY_SPREAD (R567). -/
def State.keySpread (s : State) : State :=
  match s.keys.coming with
  | none => s
  | some (slot, k) =>
    let s := { s with keys.quayKeys := tabSet (fun _ => none) s.keys.quayKeys slot (some k) }
    (s.put HM_KEY_STAT_SPREAD (setBitN (s.get HM_KEY_STAT_SPREAD) slot)).keyEnd

/-- Zeroise every copy of a slot (R568). -/
def State.zeroKey (s : State) (slot : Nat) : State :=
  let s := { s with keys.keys := tabDel slot s.keys.keys, keys.quayKeys := tabDel slot s.keys.quayKeys }
  let s := (s.put HM_KEY_STAT_LOADED (clrBitN (s.get HM_KEY_STAT_LOADED) slot)).put HM_KEY_STAT_SPREAD (clrBitN (s.get HM_KEY_STAT_SPREAD) slot)
  let s := s.setKeyId slot 0
  match s.keys.coming with
  | some (n, _) => if n = slot then s.keyEnd else s
  | none => s

/-- KEY_ZERO (R568 reason 1). -/
def State.keyZero (s : State) : State :=
  let slot := s.get HM_KEY_SEL_SLOT
  if 5 ≤ slot then s
  else
    let id := s.keyId slot
    ((s.zeroKey slot).logHm 0x0D08 (2 ^ slot) 1 id s.tick32).irq irqKey

/-- A slot failed its integrity check (R492 bit 24, R568 reason 2). -/
def State.keyCheckFail (s : State) (slot : Nat) : State :=
  if 5 ≤ slot then s
  else
    let id := s.keyId slot
    let s := (s.zeroKey slot).put HM_KEY_STAT_CHKFAIL (setBitN (s.get HM_KEY_STAT_CHKFAIL) slot)
    s.logHm 0x0D08 (2 ^ slot) 2 id s.tick32

/-- The copies in the RAM of triplex core `n` are zeroised (R568, R599). -/
def State.coreKeysBlank (s : State) (n : Nat) : State := { s with keys.blank := n :: s.keys.blank.filter (fun x => decide (x ≠ n)) }

/-- The scan of a triplex core (R306, R568 reason 3): that core's copies only. -/
def State.coreKeysZeroed (s : State) (n : Nat) : State :=
  let s := s.coreKeysBlank n
  s.logHm 0x0D08 (s.get HM_KEY_STAT_LOADED) 3 0 s.tick32

/-- The voter refills them from the other two cores. -/
def State.coreKeysFilled (s : State) (n : Nat) : State := { s with keys.blank := s.keys.blank.filter (fun x => decide (x ≠ n)) }

/-- The copies of the window keys in quay `q`'s tag checker are zeroised (R568 reason 3, R691). -/
def State.quayKeysZeroed (s : State) (q : Nat) : State :=
  let s := { s with keys.quayBlank := q :: s.keys.quayBlank.filter (fun x => decide (x ≠ q)) }
  s.logHm 0x0D08 (clrBitN (s.get HM_KEY_STAT_LOADED) 0) 3 0 s.tick32

def State.quayKeysFilled (s : State) (q : Nat) : State := { s with keys.quayBlank := s.keys.quayBlank.filter (fun x => decide (x ≠ q)) }

/-- A Harbourmaster restart (R568 reason 4): all slots. -/
def State.keysLost (s : State) : State :=
  let had := s.get HM_KEY_STAT_LOADED
  let s := (List.range 5).foldl (fun s n => s.zeroKey n) s
  s.logHm 0x0D08 had 4 0 s.tick32

/-- Lantern entry (R568 reason 5): the quays' copies of every window key. -/
def State.quayKeysLost (s : State) : State :=
  let had := (s.keys.quayKeys.map (fun kv => kv.1)).foldl setBitN 0
  let s := { s with keys.quayKeys := [] }
  (s.put HM_KEY_STAT_SPREAD 0).logHm 0x0D08 had 5 0 s.tick32

end Sys2Proof.Machine
end

