-- ==== Sys2Proof/Machine/RegRead.lean ====
section
/-!
DEFINITION. What a register reads as: the register file, with the fields that follow from other state (the tide, the job tick, the quays' and Bollards'
commit counts, the pending flag and the colour of page headers) and the fields that read 0 (R18, R46, R64, R250, R644, R645).
-/

namespace Sys2Proof.Machine

/-- Mask of the write-only and set-only bits of a table row: they read 0 (R18). -/
def hiddenMask : List FldRow → Nat
  | [] => 0
  | f :: t => (if f.acc = .wo ∨ f.acc = .w1s then (2 ^ f.w - 1) * 2 ^ f.lo else 0) + hiddenMask t

/-- The header offset of place `a`, and the place of its block's header on page 0. -/
def blockOf (a : Nat) : Nat := if 0x100000 ≤ a then 0x100000 + (a - 0x100000) / 0x10000 * 0x10000 else 0

/-- PG_ERR as a page shows it: its own low byte, the block's fault word (R488). -/
def State.pgErr (s : State) (hdr : Nat) : Nat :=
  (s.word (hdr + 0x10)).toNat % 256 + (s.word (blockOf hdr + 0x10)).toNat / 256 * 256

/-- PG_ERR_MASK likewise (R490). -/
def State.pgMask (s : State) (hdr : Nat) : Nat :=
  (s.word (hdr + 0x14)).toNat % 256 + (s.word (blockOf hdr + 0x14)).toNat / 256 * 256

/-- The colour a page shows in PG_STAT (R645): its quay's; on a Harbourmaster page Green with three triplex cores in service, Amber with two, Vermilion
in Lantern mode. With fewer cores in service and no Lantern mode (before the boot ROM has passed two) it shows Vermilion. -/
def State.pageColour (s : State) (hdr : Nat) : Nat :=
  if 0x100000 ≤ hdr then (s.quay ((hdr - 0x100000) / 0x10000)).colour
  else
    let n := coreCount (s.get HM_TRIPLEX_STAT_CORES)
    if s.lantern then 3 else if n = 3 then 0 else if n = 2 then 1 else 3

/-- The register at place `a` as a read returns it. QY_TIDE reads as HM_TIDE: the skew of 0 to 2 cc that R25 allows a local copy is settled at 0
(DESIGN CHOICE, notes/assumptions/122.md). -/
def State.readReg (s : State) (a : Nat) : Nat :=
  let raw := (s.word a).toNat
  if 0x100000000 ≤ a then
    let p := (a - 0x100000000) / 32
    if a = BOL_COMMIT p then
      -- it resets with the link domain, and the next commit or recall sets it again (R90)
      let n := (s.quay (quayOf p)).egcTick
      if (s.tile p).commitReset = some n then 0
      else if (s.tile p).commitLag = some n then n - 1
      else n % 2 ^ 50
    else if a = BOL_CLR p then
      -- the wait of a pending request runs on (R471)
      match (s.quay (quayOf p)).clrPend.find? (fun r => r.p = p) with
      | some r => (withField (s.word a) (BOL_CLR_WAIT p).lo 16 (min (s.since r.since).toNat 0xFFFF)).toNat
      | none => raw
    else raw - (raw &&& (match regRow a with | some r => hiddenMask r.fields | none => 0))
  else
    let hdr := a / 0x1000 * 0x1000
    let blk := blockOf a
    if a % 0x1000 = 0x10 then s.pgErr hdr
    else if a % 0x1000 = 0x14 then s.pgMask hdr
    else if a % 0x1000 = 0x1C then (s.word (blk + 0x1C)).toNat
    else if a % 0x1000 = 0x20 then (s.word (blk + 0x20)).toNat
    else if a % 0x1000 = 0x0C then
      let e := s.pgErr hdr
      let pend := decide (e - (e &&& s.pgMask hdr) ≠ 0)
      raw % 2 + 2 * bit pend + s.pageColour hdr * 2 ^ 2
    else if a = HM_TIDE then s.tide
    else if 0x100000 ≤ a ∧ a = QY_TIDE ((a - 0x100000) / 0x10000) then s.tide
    else if 0x100000 ≤ a ∧ a = qyAddr ((a - 0x100000) / 0x10000) 0x8160 then
      -- BUSY for the 2 cc of a row repair, DONE after it (R367, R383)
      let q := (a - 0x100000) / 0x10000
      let busy := match (s.quay q).repairAt with | some m => decide (s.since m < 2) | none => false
      if busy then (withField (withField (s.word a) (QY_STORE_REPAIR_BUSY q).lo 1 1) (QY_STORE_REPAIR_DONE q).lo 1 0).toNat else raw
    else if 0x100000 ≤ a ∧ (a = QY_CLEAR_ASTAT ((a - 0x100000) / 0x10000) ∨ a = QY_CLEAR_ATOK ((a - 0x100000) / 0x10000)) then
      -- the account of an adopted region is shown at its partner (R464, R473, R474)
      let q := (a - 0x100000) / 0x10000
      let k := partnerOf q
      if s.hasPartner && s.flag (QY_RST_STAT_ADOPTED k) then (s.word (if a = QY_CLEAR_ASTAT q then QY_CLEAR_STAT k else QY_CLEAR_TOK k)).toNat else 0
    else if 0x100000 ≤ a ∧ a = QY_JT ((a - 0x100000) / 0x10000) then s.jt
    else raw - (raw &&& (match regRow a with | some r => hiddenMask r.fields | none => 0))

end Sys2Proof.Machine
end

