-- ==== Sys2Proof/Machine/Sync.lean ====
section
/-!
DEFINITION. Hawsers and sync objects (chapter 10): job slots and rounds, sync requests, wake channels, linked counters, group decisions, the ring of
wafers, and how all of it commits and is rolled back.
-/

namespace Sys2Proof.Machine

/-- Count an answer given while the harbour is closed (R594). -/
def State.closedAnswer (s : State) (code : Nat) : State :=
  { s with closed := tabSet (fun _ => 0) s.closed code (tabGet (fun _ => 0) s.closed code + 1) }

/-! ### Counters (R402, R403) -/

def two64 : Nat := 2 ^ 64

/-- Add an increment attributed to tick `t`; a tick already committed adds to the committed value too. -/
def Counter.add (c : Counter) (inc t ctick : Nat) : Counter :=
  if t ≤ ctick then { c with value := (c.value + inc) % two64, committed := (c.committed + inc) % two64 }
  else { c with value := (c.value + inc) % two64, shares := c.shares ++ [(t, inc)] }

/-- Tick `n` commits. -/
def Counter.commit (c : Counter) (n : Nat) : Counter :=
  { c with committed := (c.committed + ((c.shares.filter (fun x => decide (x.1 ≤ n))).map (·.2)).sum) % two64,
           shares := c.shares.filter (fun x => decide (n < x.1)) }

/-- The restart of a recall. -/
def Counter.restore (c : Counter) : Counter := { c with value := c.committed, shares := [] }

/-! ### Objects -/

def State.obj (s : State) (q i : Nat) : SyncObj := tabGet (fun _ => SyncObj.idle) (s.quay q).objs i
def State.setObj (s : State) (q i : Nat) (o : SyncObj) : State :=
  s.modQuay q (fun t => { t with objs := tabSet (fun _ => SyncObj.idle) t.objs i o })

/-- MIRROR (R411, R412, R428). -/
def SyncObj.mirrorVal (o : SyncObj) : Nat := max o.mirror.value o.floor
def SyncObj.linkEn (o : SyncObj) : Bool := o.link.testBit 0
def SyncObj.yIndex (o : SyncObj) : Nat := o.link / 2 % 2 ^ 10
def SyncObj.yQuay (o : SyncObj) : Nat := o.link / 2 ^ 11 % 2 ^ 6
def SyncObj.buf (o : SyncObj) : Nat := o.link / 2 ^ 17 % 2 ^ 16
def SyncObj.space (o : SyncObj) : Nat := o.mirrorVal + o.buf

/-- The view of the selected object (R423, R436). -/
def State.showObj (s : State) (q : Nat) : State :=
  let o := s.obj q (s.get (QY_SYNC_SEL_INDEX q))
  let w := fun (n : Nat) => BitVec.ofNat 64 n
  let tg := (o.targets.zipIdx).map (fun x => (x.1.1 + x.1.2 * 2 ^ 6) * 2 ^ (10 * x.2))
  let low := match o.tmin, o.smin with
    | some a, some b => min a b
    | some a, none => a
    | none, some b => b
    | none, none => two64 - 1
  let s := (s.setWord (QY_SYNC_VAL q) (w o.cnt.value)).setWord (QY_SYNC_CVAL q) (w o.cnt.committed)
  let s := s.setWord (QY_SYNC_WAIT q) (w (min o.waiters 0xFFFF + tg.sum * 2 ^ 16 + (2 ^ o.targets.length - 1) * 2 ^ 56))
  let s := s.setWord (QY_SYNC_TMIN q) (w low)
  let rc := fun n => o.wrec.getD n 0 % 2 ^ 20
  let s := (s.setWord (QY_SYNC_WREC0 q) (w (rc 0 + rc 1 * 2 ^ 20))).setWord (QY_SYNC_WREC1 q) (w (rc 2 + rc 3 * 2 ^ 20))
  let s := s.setWord (QY_SYNC_LAST q) (w (o.lastCore % 2 ^ 20 + o.lastTick % 2 ^ 44 * 2 ^ 20))
  (s.setWord (QY_SYNC_LINK q) (w o.link)).setWord (QY_SYNC_MIRROR q) (w o.mirrorVal)

/-- SYNC_SELECT (R423). -/
def State.syncSelect (s : State) (q idx : Nat) : State := (s.put (QY_SYNC_SEL_INDEX q) idx).showObj q

/-- A write of QY_SYNC_LINK (R437): it applies to the object selected. -/
def State.syncLink (s : State) (q v : Nat) : State :=
  let i := s.get (QY_SYNC_SEL_INDEX q)
  (s.setObj q i { s.obj q i with link := v % 2 ^ 33 }).showObj q

/-! ### Wake channels (R405, R407, R429, R439) -/

/-- The fires of one quay in one cycle, each with its delay on the wake bus (R429): after those of earlier cycles, one per cycle, in R17's order of
the channel numbers. -/
def State.busOrder (s : State) (old new : List WakeFire) : List WakeFire :=
  let base := old.foldl (fun n e => max n ((e.delay + 1 : Int) - s.since e.fired).toNat) 0
  let l := orderBy (fun c => (c + 16 - s.jt % 16) % 16) (new.map (·.ch))
  new.map (fun e => { e with delay := base + l.idxOf e.ch })

/-- Put a fire of channel `ch` on the wake bus of quay `q`; two fires of one channel in one cycle drive it once (R429). -/
def State.busFire (s : State) (q ch : Nat) : State :=
  let here := fun (e : WakeFire) => decide (e.quay = q) && decide (e.fired = s.now)
  let new := s.hawser.bus.filter here
  if new.any (fun e => e.ch = ch) then s
  else
    let rest := s.hawser.bus.filter (fun e => !here e)
    let new := s.busOrder (rest.filter (fun e => e.quay = q)) (new ++ [⟨q, ch, s.now, 0⟩])
    { s with hawser.bus := rest ++ new }

/-- Channel `ch` of quay `q` fires: counted, and driven on the wake bus. -/
def State.fireChannel (s : State) (q ch idx owner : Nat) (remote : Bool) : State :=
  let s := s.count (QY_WAKE_CNT_FIRES q ch) 1
  let s := if remote then s.count (QY_WAKE_CNT_REMOTE q ch) 1 else s
  let s := ((s.put (QY_WAKE_LAST_CH q) ch).put (QY_WAKE_LAST_INDEX q) idx).put (QY_WAKE_LAST_QUAY q) owner
  let s := s.put (QY_WAKE_LAST_TICK q) s.jt
  s.busFire q ch

/-- The oldest fire of channel `ch` in region `q` whose 36 cc on the wake bus are over (R405). -/
def State.busDue (s : State) (q ch : Nat) : Option WakeFire :=
  s.hawser.bus.find? (fun e => decide (e.quay = q) && decide (e.ch = ch) && decide ((e.delay + 36 : Int) ≤ s.since e.fired))

/-- WAKE_CHANNEL (R73, R405): the oldest broadcast of channel `ch` in region `q` reaches its Bollards. -/
def State.wakeChannel (s : State) (q ch : Nat) : State :=
  match s.busDue q ch with
  | none => s
  | some e =>
    let s := { s with hawser.bus := s.hawser.bus.erase e }
    (s.touchedTiles.filter (fun p => decide (quayOf p = q))).foldl (fun s p => s.wakeAt p ch) s

/-- An object fires (R407). -/
def State.fireObj (s : State) (q i : Nat) : State :=
  let o := s.obj q i
  let s := s.setObj q i { o with tmin := none, smin := none, targets := [], waiters := 0, wrec := [] }
  let s := s.count (QY_SYNC_CNT1_FIRES q) 1
  o.targets.foldl (fun s t =>
    if t.1 = q then s.fireChannel q t.2 i q false
    else { s with hawser.wakes := s.hawser.wakes ++ [(t.1, t.2, i, q)] }) s

/-- Fire if a minimum target has been reached. -/
def State.checkFire (s : State) (q i : Nat) : State :=
  let o := s.obj q i
  let met := fun (m : Option Nat) (v : Nat) => match m with | some t => decide (t ≤ v) | none => false
  if met o.tmin o.cnt.value || met o.smin o.space then s.fireObj q i else s

/-- WAKE_MESSAGE (R407, R429): a message for channel `ch` reaches quay `q`. -/
def State.wakeMessage (s : State) (q ch : Nat) : State :=
  match s.hawser.wakes.find? (fun e => decide (e.1 = q) && decide (e.2.1 = ch)) with
  | none => s
  | some e => ({ s with hawser.wakes := s.hawser.wakes.erase e }).fireChannel q ch e.2.2.1 e.2.2.2 true

/-- WAKE_FORCE (R439): each channel of the mask fires once, in the order of R17; the object a forced fire shows is not stated, so it is free. -/
def State.wakeForce (s : State) (q mask : Nat) : State :=
  let l := orderBy (fun c => (c + 16 - s.jt % 16) % 16) ((List.range 16).filter (fun c => mask.testBit c))
  l.foldl (fun s c =>
    let (w, s) := s.free
    s.fireChannel q c (w.toNat % 2 ^ 10) (w.toNat / 2 ^ 10 % 2 ^ 6) false) s

/-! ### Sync requests (R398 to R403) -/

def stOk : Nat := 0
def stSatisfied : Nat := 1
def stFull : Nat := 2
def stRange : Nat := 3
def stClosed : Nat := 4
def stTick : Nat := 5
def stFallback : Nat := 6
def stNone : Nat := 7
def stBadOp : Nat := 8

def opSignal : Nat := 1
def opArm : Nat := 2
def opRead : Nat := 3
def opHreq : Nat := 4
def opHfree : Nat := 5
def opGquery : Nat := 6

/-- An answer packet; a SIGNAL never receives one (R399). -/
def State.answer (s : State) (p op st owner idx : Nat) (v : Nat) : State :=
  if op = opSignal then s else s.emit (.syncAnswer p op st (idx % 2 ^ 10 + owner % 2 ^ 6 * 2 ^ 10) (BitVec.ofNat 64 v))

/-- A request refused with RANGE, FULL, TICK or BAD_OP: answered, recorded and counted (R399, R440). -/
def State.refuse (s : State) (p op st owner idx lcore v : Nat) : State :=
  let s := (s.answer p op st owner idx v).count (QY_SYNC_CNT1_REFUSED owner) 1
  s.logQuay owner 0x0908 (idx % 2 ^ 10 + owner * 2 ^ 10) lcore st (s.jt % 2 ^ 32)

/-- The job tick of a request (R402), `none` when it names a tick above the quay's. -/
def State.reqTick (s : State) (tick8 : Nat) : Option Nat :=
  let j := s.jt
  let d := (tick8 + 256 - j % 256) % 256
  if 1 ≤ d ∧ d ≤ 127 then none else some (j - (j + 256 - tick8 % 256) % 256)

/-- The target of the recall in force at quay `q`, from its freeze to the restart, which a halt puts off to the RESUME (R403, R237). Detect-only mode
freezes no quay (R239). -/
def State.frozenAt (s : State) (q : Nat) : Option Nat :=
  match s.commit.inRecall, s.commit.halted with
  | some r, _ => if r.received.contains q then some r.target else none
  | none, some r => if s.flag HM_COMMIT_STAT_DETECT_ONLY then none else some r.target
  | none, none => none

/-- The gate of every listed request: CLOSED, RANGE, TICK, and the discard of R403. Gives the tick when the request is to be served. -/
def State.reqGate (s : State) (p op owner idx tick8 lcore : Nat) : State × Option Nat :=
  if !s.isOpen || !s.flag (QY_SYNC_CTL_EN owner) then ((s.answer p op stClosed owner idx 0).closedAnswer 2, none)
  else if opHreq ≤ op && s.lantern then ((s.answer p op stClosed owner idx 0).closedAnswer 2, none)
  else if op ≤ opRead && decide (1024 - s.get (QY_SYNC_CTL_RSV owner) ≤ idx) then (s.refuse p op stRange owner idx lcore 0, none)
  else
    match s.reqTick tick8 with
    | none => (s.refuse p op stTick owner idx lcore 0, none)
    | some t =>
      match s.frozenAt owner with
      | some c => if c < t then (s, none) else (s, some t)
      | none => (s, some t)

/-- Objects linked to object `i` of quay `q` (R411): quay and index of each x. -/
def State.linkedTo (s : State) (q i : Nat) : List (Nat × Nat) :=
  s.quays.flatMap (fun x => (x.2.objs.filter (fun y => y.2.linkEn && decide (y.2.yQuay = q) && decide (y.2.yIndex = i))).map (fun y => (x.1, y.1)))

/-- A SIGNAL is applied to an object (R402, R407, R411). -/
def State.signalObj (s : State) (q i inc t lcore : Nat) : State :=
  let c := s.get HM_COMMIT_STAT_CTICK
  let o := s.obj q i
  let s := s.setObj q i { o with cnt := o.cnt.add inc t c, lastCore := lcore, lastTick := t }
  let s := s.count (QY_SYNC_CNT0_SIGNALS q) 1
  let s := if t ≤ c then (s.count (QY_SYNC_CNT1_LATE q) 1).logQuay q 0x0907 i lcore t (s.jt % 2 ^ 32) else s
  let s := s.checkFire q i
  { s with hawser.forwards := s.hawser.forwards ++ (s.linkedTo q i).map (fun x => (q, i, x.1, x.2, inc, t)) }

/-- SIGNAL. -/
def State.signal (s : State) (p owner idx tick8 lcore inc : Nat) : State :=
  let (s, t) := s.reqGate p opSignal owner idx tick8 lcore
  match t with
  | none => s
  | some t => s.signalObj owner idx (inc % 2 ^ 16) t lcore

/-- ARM (R407, R411). -/
def State.arm (s : State) (p owner idx tick8 lcore ch target : Nat) (space : Bool) : State :=
  let (s, t) := s.reqGate p opArm owner idx tick8 lcore
  match t with
  | none => s
  | some _ =>
    let o := s.obj owner idx
    let target := target % two64
    let v := if space then o.space else o.cnt.value
    if target ≤ v then s.answer p opArm stSatisfied owner idx o.cnt.value
    else
      let w := (quayOf p, ch % 16)
      if !o.targets.contains w && decide (4 ≤ o.targets.length) then s.refuse p opArm stFull owner idx lcore o.cnt.value
      else
        let low := fun (m : Option Nat) => some (match m with | some a => min a target | none => target)
        let o' := { o with
          tmin := if space then o.tmin else low o.tmin
          smin := if space then low o.smin else o.smin
          targets := if o.targets.contains w then o.targets else o.targets ++ [w]
          waiters := o.waiters + 1
          wrec := if o.wrec.length < 4 then o.wrec ++ [lcore] else o.wrec }
        ((s.setObj owner idx o').count (QY_SYNC_CNT0_ARMS owner) 1).answer p opArm stOk owner idx o.cnt.value

/-- READ. -/
def State.readObj (s : State) (p owner idx tick8 lcore : Nat) : State :=
  let (s, t) := s.reqGate p opRead owner idx tick8 lcore
  match t with
  | none => s
  | some _ => s.answer p opRead stOk owner idx (s.obj owner idx).cnt.value

/-- SYNC_BAD_OP (R399). -/
def State.badOp (s : State) (p op owner idx lcore : Nat) : State :=
  if !s.isOpen || !s.flag (QY_SYNC_CTL_EN owner) then (s.emit (.syncAnswer p op stClosed (idx % 2 ^ 10 + owner % 2 ^ 6 * 2 ^ 10) 0)).closedAnswer 2
  else
    let s := (s.emit (.syncAnswer p op stBadOp (idx % 2 ^ 10 + owner % 2 ^ 6 * 2 ^ 10) 0)).count (QY_SYNC_CNT1_REFUSED owner) 1
    s.logQuay owner 0x0908 (idx % 2 ^ 10 + owner * 2 ^ 10) lcore stBadOp (s.jt % 2 ^ 32)

/-- LINK_FORWARD (R411, R428): the oldest forwarded signal for object `i` of quay `q` arrives. -/
def State.linkForward (s : State) (q i : Nat) : State :=
  match s.hawser.forwards.find? (fun e => decide (e.2.2.1 = q) && decide (e.2.2.2.1 = i)) with
  | none => s
  | some e =>
    let s := { s with hawser.forwards := s.hawser.forwards.erase e }
    let inc := e.2.2.2.2.1
    let t := e.2.2.2.2.2
    let drop := match s.frozenAt q with | some c => decide (c < t) | none => false
    if drop then s
    else
      let o := s.obj q i
      (s.setObj q i { o with mirror := o.mirror.add inc t (s.get HM_COMMIT_STAT_CTICK) }).checkFire q i

/-- The realignment round is complete: the mirrors take the committed values of their objects (R412, R428). -/
def State.rebase (s : State) : State :=
    s.quays.foldl (fun s x =>
      let q := x.1
      let linked := x.2.objs.filter (fun y => y.2.linkEn)
      if linked.isEmpty then s
      else
        let (s, n, big) := linked.foldl (fun (acc : State × Nat × Nat) y =>
          let (s, n, big) := acc
          let o := s.obj q y.1
          let yc := (s.obj o.yQuay o.yIndex).cnt.committed
          let d := yc - o.mirrorVal
          let o' := { o with floor := max o.floor yc }
          let s := (s.setObj q y.1 o').checkFire q y.1
          let s := if o'.space < o'.cnt.value then s.logQuay q 0x0909 y.1 o'.cnt.value o'.mirrorVal o'.buf else s
          (s, n + bit (decide (0 < d)), max big d)) (s, 0, 0)
        s.logQuay q 0x090A n (min big 0xFFFFFFFF) (s.jt % 2 ^ 32) 0) s

/-! ### Job slots and rounds at a Bollard (R392 to R397, R413, R416, R426) -/

def State.slot (s : State) (p k : Nat) : Slot := tabGet (fun _ => Slot.idle) (s.tile p).slots k
def State.setSlot (s : State) (p k : Nat) (x : Slot) : State :=
  s.modTile p (fun t => { t with slots := tabSet (fun _ => Slot.idle) t.slots k x })

/-- The arrival of the round in progress has been made. -/
def Slot.arrived (x : Slot) : Bool := x.b == x.sense

def State.group (s : State) (k : Nat) : Group := tabGet (fun _ => Group.none) s.hawser.groups k

/-- The table entry of a group (R433). -/
def Group.words (g : Group) : List (BitVec 64) :=
  if g.mode = 0 then [0, 0, 0, 0]
  else
    [BitVec.ofNat 64 (g.group % 2 ^ 16 + g.slot * 2 ^ 16 + g.mode * 2 ^ 19 + g.quay * 2 ^ 21 + g.idx * 2 ^ 27 + g.members % 2 ^ 20 * 2 ^ 37 + 2 ^ 63),
     BitVec.ofNat 64 g.mask, BitVec.ofNat 64 (g.lo + g.hi * 2 ^ 20), BitVec.ofNat 64 (g.eff % 2 ^ 50)]

/-- Set a group, its table entry in the harbour store, and the counts of R431. -/
def State.setGroup (s : State) (k : Nat) (g : Group) : State :=
  let s := { s with hawser.groups := tabSet (fun _ => Group.none) s.hawser.groups k g }
  let s := s.writeWords (hsAddr (s.get HM_HAWSER_GTAB_OFF + 32 * k)) g.words
  let live := s.hawser.groups.map (·.2)
  (s.put HM_HAWSER_STAT_GROUPS live.length).put HM_HAWSER_STAT_FALLBACK (live.filter (fun g => g.mode = 2)).length

/-- Tile `p` is a member of group `g` (R413, R420): a JOB tile whose core and quay the group names. -/
def State.memberOf (s : State) (p : Nat) (g : Group) : Bool :=
  decide (s.role p = roleJob) &&
    (decide (g.mode = 3) || (decide (g.lo ≤ s.lcore p) && decide (s.lcore p ≤ g.hi) && g.mask.testBit (quayOf p)))

/-- The tiles that are members of table entry `k` by what their Bollards hold. -/
def State.membersOf (s : State) (k : Nat) : List Nat :=
  let sl := (s.group k).slot
  s.jobTiles.filter (fun p => decide ((s.slot p sl).entry = some k))

/-- Memberships take effect at cycle 0 of a job tick (R393): each JOB Bollard's slots are computed again. -/
def State.refreshMembers (s : State) : State :=
  let live := s.hawser.groups.filter (fun x => decide (x.2.eff ≤ s.jt) && decide (x.2.mode ≠ 0))
  let had := s.tiles.filter (fun x => !x.2.slots.isEmpty) |>.map (·.1)
  let tiles := s.jobTiles ++ had.filter (fun p => decide (s.role p ≠ roleJob))
  if live.isEmpty && had.isEmpty then s
  else
    tiles.foldl (fun s p => (List.range 5).foldl (fun s k =>
      let e := (live.find? (fun x => decide (x.2.slot = k) && s.memberOf p x.2)).map (·.1)
      let x := s.slot p k
      if x.entry = e then s
      else match e with
        | none => s.setSlot p k Slot.idle
        | some j => let g := s.group j; s.setSlot p k ⟨some j, !g.sense, g.sense, false, false⟩) s) s

/-- The hold of a pending second arrival follows from the slots (R396); the hold of an overrun is no sleep (R397). -/
def State.refreshHold (s : State) (p : Nat) : State :=
  -- a cycle of the hold is progress (R75, R396)
  let s := if (s.tile p).hawserHold then s.progressAt p else s
  (s.modTile p (fun t => { t with hawserHold := !t.overrun && t.slots.any (fun x => x.2.pend) })).refreshTile p

/-- The round of group `k` is complete: its release is on its way to every member (R392). -/
def State.releaseGroup (s : State) (k : Nat) : State :=
  let g := s.group k
  let s := (s.membersOf k).foldl (fun s p => s.setSlot p g.slot { s.slot p g.slot with due := true }) s
  { s with hawser.groups := tabSet (fun _ => Group.none) s.hawser.groups k { g with sense := !g.sense } }

/-- In fallback, a quay whose members have all arrived signals the group's object; the object releases the group at a multiple of its members (R416). -/
def State.fallbackArrive (s : State) (p k : Nat) : State :=
  let g := s.group k
  if g.mode ≠ 2 then s
  else
    let mine := (s.membersOf k).filter (fun x => decide (quayOf x = quayOf p))
    if !mine.all (fun x => (s.slot x g.slot).arrived && !(s.slot x g.slot).due) then s
    else
      let o := s.obj g.quay g.idx
      let o' := { o with cnt := o.cnt.add mine.length s.jt (s.get HM_COMMIT_STAT_CTICK), lastTick := s.jt }
      let s := (s.setObj g.quay g.idx o').count (QY_SYNC_CNT0_SIGNALS g.quay) 1
      if 0 < g.members ∧ o'.cnt.value % g.members = 0 then (s.count (QY_SYNC_CNT1_FIRES g.quay) 1).releaseGroup k else s

/-- HAWSER_ARRIVE (R395 to R397). -/
def State.hawserArrive (s : State) (p k : Nat) : State :=
  let x := s.slot p k
  match x.entry with
  | none => s.logTile p 0x0902 p k (s.jt % 2 ^ 32) 0
  | some e =>
    if !x.arrived then (s.setSlot p k { x with b := x.sense }).fallbackArrive p e
    else if !x.pend then (s.setSlot p k { x with pend := true }).refreshHold p
    else
      let s := (s.count (HM_HAWSER_CNT_OVERRUNS (3 + k)) 1).logTile p 0x0901 p k (s.jt % 2 ^ 32) 0
      (s.modTile p (fun t => { t with overrun := true })).refreshHold p

/-- HAWSER_RELEASE (R392, R395, R396): the release of slot `k` reaches tile `p`. -/
def State.hawserRelease (s : State) (p k : Nat) : State :=
  let x := s.slot p k
  match x.entry with
  | none => s
  | some e =>
    if !x.due then s
    else
      let s := s.emit (.hwcRelease p k)
      let x' : Slot := { x with due := false, sense := !x.sense, b := if x.pend then !x.sense else x.b, pend := false }
      let s := (s.setSlot p k x').refreshHold p
      if x.pend then s.fallbackArrive p e else s

/-- A group has no open round: no member has arrived and no release is outstanding (R417). -/
def State.noRound (s : State) (k : Nat) : Bool :=
  let g := s.group k
  (s.membersOf k).all (fun p => let x := s.slot p g.slot; !x.arrived && !x.due)

/-! ### Rounds at the root, and the ring of wafers (R392, R420) -/

def State.xen (s : State) (line : Nat) : Bool := (s.get HM_HAWSER_XCTL_XEN / 4 * 4).testBit line
def State.ringMaster (s : State) : Bool := decide (s.get HM_HAWSER_XCTL_POS = 0)

/-- A round of a line has completed (R431, R432). -/
def State.countRound (s : State) (line : Nat) : State :=
  (s.count (HM_HAWSER_CNT_ROUNDS line) 1).put HM_HAWSER_STAT_SENSE (s.get HM_HAWSER_STAT_SENSE ^^^ 2 ^ line)

def State.ext (s : State) (line : Nat) : LineExt := tabGet (fun _ => LineExt.idle) s.hawser.lines line
def State.setExt (s : State) (line : Nat) (x : LineExt) : State :=
  { s with hawser.lines := tabSet (fun _ => LineExt.idle) s.hawser.lines line x }

/-- The sense of a line's round as a frame carries it. -/
def State.lineSense (s : State) (line : Nat) : Bool := (s.get HM_HAWSER_STAT_SENSE).testBit line

/-- The byte of a frame (R420): bit 0 is first in time. -/
def hwxByte (kind : Nat) (sense : Bool) (copy : Nat) : Nat :=
  let body := kind + 2 * bit sense + 4 * copy
  1 + 2 * body + 32 * ((body % 2 + body / 2 % 2 + body / 4 % 2) % 2)

/-- The release of an extended line is applied to the own tree. Gives true when it is HW2's. -/
def State.applyRing (s : State) (line : Nat) : State × Bool :=
  let s := (s.setExt line LineExt.idle).countRound line
  if line = 2 then (s, true)
  else
    let k := s.hawser.groups.find? (fun x => decide (x.2.slot = line - 3) && decide (x.2.mode = 3))
    (match k with | some x => s.releaseGroup x.1 | none => s, false)

/-- What a wafer sends while its own round is complete: the master releases once gather frames of the sense come back; another wafer
gathers while it receives them (R420). -/
def State.driveRing (s : State) (line : Nat) : State × Bool :=
  let x := s.ext line
  match x.own with
  | none => (s, false)
  | some sense =>
    if s.ringMaster then
      if x.gather = some sense then
        let s := (s.emit (.hwx line 1 (hwxByte 1 sense 0))).emit (.hwx line 1 (hwxByte 1 sense 1))
        s.applyRing line
      else (s.emit (.hwx line 0 (hwxByte 0 sense 0)), false)
    else if x.gather = some sense then (s.emit (.hwx line 0 (hwxByte 0 sense 0)), false)
    else (s, false)

/-- REALIGN (R412): once a tide tick, at cycle 2,201 of a job tick that is a multiple of the period, the quays run a round on HW2. Gives true when
it is complete; on an extended line that takes the ring (R391). -/
def State.realign (s : State) : State × Bool :=
  let s := s.at_ (s.commitAt + 1)
  if !s.isOpen ∨ s.jt % 2 ^ (s.get HM_HAWSER_CTL_REALIGN_LOG2) ≠ 0 ∨ s.hawser.realigned = some s.time.tick ∨ s.hawser.hw2 ≠ 0 then (s, false)
  else
    let s := { s with hawser.realigned := some s.time.tick, hawser.hw2 := 4 }
    if s.xen 2 then (s.setExt 2 { s.ext 2 with own := some (s.lineSense 2) }).driveRing 2
    else (s.countRound 2, true)

/-- HAWSER_ROUND_COMPLETE (R392) on a line: HW0's completion is stamped for the root's decision (R225); HW2's gives true; on a job line the round of
table entry `k` completes if every member has arrived. -/
def State.roundComplete (s : State) (line k : Nat) : State × Bool :=
  if line = 0 then
    if s.commit.released.length = s.nQuays ∧ s.commit.releasedAt.isNone then
      ({ s with commit.releasedAt := some s.now }.countRound 0, false)
    else (s, false)
  else if line = 2 then
    if s.hawser.hw2 = 0 then (s, false)
    else if s.xen 2 then (s.setExt 2 { s.ext 2 with own := some (s.lineSense 2) }).driveRing 2
    else (s.countRound 2, true)
  else if line < 3 ∨ 7 < line then (s, false)
  else
    let g := s.group k
    let m := s.membersOf k
    if g.slot ≠ line - 3 ∨ m.isEmpty ∨ !m.all (fun p => (s.slot p g.slot).arrived && !(s.slot p g.slot).due) then (s, false)
    else if g.mode = 1 then ((s.countRound line).releaseGroup k, false)
    else if g.mode = 3 then (s.setExt line { s.ext line with own := some (s.lineSense line) }).driveRing line
    else (s, false)

/-! ### Calibration of the ring (R421, R434, R590) -/

/-- Calibration ends (R421, R440). -/
def State.calEnd (s : State) (st : Nat) : State :=
  let s := { s.put HM_HAWSER_XCAL_CAL_STATE st with hawser.calPos := 0 }
  s.logHm 0x090B (s.get HM_HAWSER_XCAL_LOOP) (s.get HM_HAWSER_XCAL_DPOS) (s.get HM_HAWSER_XCAL_DMAX) st

/-- The hint is compared with what was measured (R590). -/
def State.calHint (s : State) : State :=
  let loop := s.get HM_HAWSER_XCAL_LOOP
  let hint := s.get HM_TRIPLEX_HINT_HWX_LOOP
  let off := decide (hint + 2 < loop) || decide (loop + 2 < hint)
  let miss := s.flag HM_TRIPLEX_HINT_HWX_VALID && off
  let s := if miss then s.put HM_TRIPLEX_HINT_HWX_MISMATCH 1 else s
  s.logHm 0x0E05 1 (bit (miss || !s.flag HM_TRIPLEX_HINT_HWX_VALID)) loop 0

/-- The master sends its next ping: to position `k`, or around the ring once every position has answered. -/
def State.calPing (s : State) (k : Nat) : State :=
  let s := { s with hawser.calPos := k, hawser.calSent := s.now }
  s.emit (.hwx 2 2 k)

def State.calSince (s : State) : Nat := (s.since s.hawser.calSent).toNat

/-- Every position has answered: delays are set and sent, and the last ping goes around the ring. -/
def State.calSpread (s : State) : State :=
  let ds := s.hawser.calTrips.map (fun t => (t - 4) / 2)
  let dmax := ds.foldl max 0
  let s := ((s.put HM_HAWSER_XCAL_DPOS 0).put HM_HAWSER_XCAL_DMAX dmax).put HM_HAWSER_XCAL_REL_DLY dmax
  let s := (ds.zipIdx).foldl (fun s x => s.emit (.hwx 2 3 (x.2 + 1 + x.1 * 2 ^ 4 + dmax * 2 ^ 16))) s
  s.calPing (s.get HM_HAWSER_XCTL_WAFERS)

/-- CAL_GO (R421, R434). -/
def State.calGo (s : State) : State :=
  if s.isOpen || !s.ringMaster then s
  else
    let s := ((s.put HM_HAWSER_XCAL_CAL_STATE 1).put HM_HAWSER_XCAL_DPOS 0).put HM_HAWSER_XCAL_LOOP 0
    let s := { s with hawser.calTrips := [] }
    if s.get HM_HAWSER_XCTL_WAFERS ≤ 1 then s.calSpread else s.calPing 1

/-- A calibration frame: 1 a ping for position `a`, 2 an echo, 3 DPOS `a` and DMAX `b`, 4 the ping around the ring. -/
def State.calFrame (s : State) (cal a b : Nat) : State :=
  if s.ringMaster then
    if s.get HM_HAWSER_XCAL_CAL_STATE ≠ 1 then s
    else if cal = 2 ∧ s.hawser.calPos < s.get HM_HAWSER_XCTL_WAFERS then
      let s := { s with hawser.calTrips := s.hawser.calTrips ++ [s.calSince] }
      if s.hawser.calPos + 1 < s.get HM_HAWSER_XCTL_WAFERS then s.calPing (s.hawser.calPos + 1) else s.calSpread
    else if cal = 4 ∧ s.get HM_HAWSER_XCTL_WAFERS ≤ s.hawser.calPos then
      ((s.put HM_HAWSER_XCAL_LOOP (min s.calSince 4095)).calEnd 2).calHint
    else s
  else
    match cal with
    | 1 => if a = s.get HM_HAWSER_XCTL_POS then s.emit (.hwx 0 4 a) else s.emit (.hwx 2 2 a)
    | 2 => s.emit (.hwx 0 4 a)
    | 3 =>
      let s := ((s.put HM_HAWSER_XCAL_DPOS a).put HM_HAWSER_XCAL_DMAX b).put HM_HAWSER_XCAL_REL_DLY (b - a)
      s.calEnd 2
    | _ => s.emit (.hwx 2 2 (s.get HM_HAWSER_XCTL_WAFERS))

/-- HWX_CAL_TIMEOUT (R421). -/
def State.calTimeout (s : State) : State :=
  if s.get HM_HAWSER_XCAL_CAL_STATE ≠ 1 ∨ s.calSince < 4096 then s else s.calEnd 3

/-- HWX_FAULT, with its note (R420, R440, R531). -/
def State.hwxFault (s : State) (lane reason : Nat) : State := (s.logHm 0x090C lane reason (s.jt % 2 ^ 32) 0).note 11 0 0 0 0 0

/-- HWX_FRAME (R420, R594): an ordinary frame on lane `lane`, bit 0 first in time. Gives true when it released HW2, and whether a fault was recorded. -/
def State.hwxFrame (s : State) (lane frame : Nat) : State × Bool × Bool :=
  let b := fun n => frame.testBit n
  let odd := decide ((bit (b 1) + bit (b 2) + bit (b 3) + bit (b 4) + bit (b 5)) % 2 = 1)
  if !b 0 ∨ lane < 2 ∨ 7 < lane ∨ !s.xen lane then (s, false, false)
  else if !s.isOpen && !(decide (lane = 2) && decide (s.hawser.hw2 ≠ 0)) then (s.closedAnswer 4, false, false)
  else
    let x := s.ext lane
    if odd then
      let s := s.hwxFault lane 1
      if b 1 then
        if x.lost0 then ((s.hwxFault lane 3).setExt lane { x with lost0 := false }, false, true)
        else (s.setExt lane { x with lost0 := !x.copy0 }, false, true)
      else (s, false, true)
    else if !b 1 then
      let (s, hw2) := (s.setExt lane { x with gather := some (b 2) }).driveRing lane
      (s, hw2, false)
    else if s.ringMaster then (s, false, false)
    else
      let s := s.emit (.hwx lane 1 frame)
      if !b 3 then
        let (s, hw2) := s.applyRing lane
        (s.setExt lane { s.ext lane with copy0 := true }, hw2, false)
      else if x.copy0 then (s.setExt lane { x with copy0 := false }, false, false)
      else
        let (s, hw2) := (s.hwxFault lane 2).applyRing lane
        (s, hw2, true)

/-! ### Group requests (R413 to R418) -/

/-- The epoch of a job tick. -/
def State.epochOf (s : State) (t : Nat) : Nat := t / 2 ^ (s.get HM_HAWSER_CTL_EPOCH_LOG2)

/-- HREQ and HFREE (R413, R414, R427): forwarded to the Harbourmaster, unless the epoch of its tick has been decided. -/
def State.groupReq (s : State) (op tick8 : Nat) (r : GroupReq) : State :=
  let q := quayOf r.p
  let (s, t) := s.reqGate r.p op q 0 tick8 r.lcore
  match t with
  | none => s
  | some t =>
    let last := (s.epochOf t + 1) * 2 ^ (s.get HM_HAWSER_CTL_EPOCH_LOG2) - 1
    if last ≤ s.get HM_COMMIT_STAT_CTICK then s.refuse r.p op stTick q 0 r.lcore 0
    else { s with hawser.reqs := s.hawser.reqs ++ [{ r with tick := t }] }

/-- GQUERY (R399, R413). -/
def State.gquery (s : State) (p tick8 lcore group : Nat) : State :=
  let q := quayOf p
  let (s, t) := s.reqGate p opGquery q 0 tick8 lcore
  match t with
  | none => s
  | some _ =>
    match s.hawser.groups.find? (fun x => decide (x.2.group = group % 2 ^ 16)) with
    | some x => s.answer p opGquery stOk q 0 ((x.2.words.getD 0 0).toNat)
    | none => s.answer p opGquery stNone q 0 0

/-- R415: the line can carry the group; a slot above 4 has no line (R391, R398). -/
def State.canLine (s : State) (k slot mask : Nat) : Bool :=
  let others := s.hawser.groups.filter (fun x => decide (x.1 ≠ k) && decide (x.2.slot = slot) && (decide (x.2.mode = 1) || decide (x.2.mode = 3)))
  others.all (fun x => decide (x.2.mode = 1) && decide (x.2.mask &&& mask = 0)) && decide (others.length < 4) && decide (slot < 5) && !s.xen (3 + slot)

/-- The lowest quay of a mask. -/
def lowestBit (m : Nat) : Nat := ((List.range 64).find? (fun i => m.testBit i)).getD 0

/-- A reserved object free in quay `q`, the highest index first (R406, R415). -/
def State.freeObj (s : State) (q : Nat) : Option Nat :=
  ((List.range (s.get (QY_SYNC_CTL_RSV q))).map (fun i => 1023 - i)).find? (fun i =>
    !s.hawser.groups.any (fun x => decide (x.2.mode = 2) && decide (x.2.quay = q) && decide (x.2.idx = i)))

/-- A free entry of the table. -/
def State.freeEntry (s : State) : Option Nat := (List.range 64).find? (fun k => decide ((s.group k).mode = 0))

/-- How many JOB Bollards meet the conditions of R413. -/
def State.countMembers (s : State) (g : Group) : Nat := (s.jobTiles.filter (fun p => s.memberOf p g)).length

/-- HANSWER for a group (R415). -/
def State.hanswerFor (s : State) (r : GroupReq) (g : Group) : State :=
  s.emit (.hanswer r.p (if g.mode = 2 then stFallback else stOk) g.slot g.eff g.members)

/-- The decision on one request (R414, R415). -/
def State.decideGroup (s : State) (eff : Nat) (r : GroupReq) : State :=
  match s.hawser.groups.find? (fun x => decide (x.2.group = r.group) && decide (x.2.slot = r.slot)) with
  | some x =>
    if r.free then s.setGroup x.1 { x.2 with freeAt := some eff } else s.hanswerFor r x.2
  | none =>
    if r.free then s
    else
      let g : Group := ⟨r.group, r.slot, 1, 0, 0, 0, r.mask, r.lo, r.hi, eff, false, none⟩
      let g := { g with members := s.countMembers g }
      let q := lowestBit r.mask
      let none_ := (s.logHm 0x0905 r.group r.slot r.mask (s.jt % 2 ^ 32)).emit (.hanswer r.p stNone r.slot eff g.members)
      match s.freeEntry with
      | none => none_
      | some k =>
        if s.canLine k r.slot r.mask then
          ((s.setGroup k g).logHm 0x0903 g.group (g.slot + 8) g.members eff).hanswerFor r g
        else if !s.flag HM_HAWSER_CTL_FB_EN || decide (5 ≤ r.slot) then none_
        else match s.freeObj q with
          | none => none_
          | some i =>
            let g := { g with mode := 2, quay := q, idx := i }
            let s := (s.setGroup k g).setObj q i SyncObj.idle
            (s.logHm 0x0904 g.group (i + q * 2 ^ 10) g.members eff).hanswerFor r g

/-- Insert a request by its key. -/
def insReq (key : GroupReq → Nat) (r : GroupReq) : List GroupReq → List GroupReq
  | [] => [r]
  | x :: t => if key r < key x then r :: x :: t else x :: insReq key r t

/-- GROUP_DECISION (R414): when the last tick of an epoch commits. No request is decided while the triplex is out of service (R418, R601). -/
def State.groupDecision (s : State) (n : Nat) : State :=
  let e := 2 ^ (s.get HM_HAWSER_CTL_EPOCH_LOG2)
  if (n + 1) % e ≠ 0 ∨ !s.flag HM_HAWSER_CTL_EN ∨ s.lantern ∨ s.flag HM_TRIPLEX_STAT_ABSENT then s
  else
    let key := fun (r : GroupReq) => r.tick * 65536 + (r.group + 65536 - s.jt % 65536) % 65536
    let l := (s.hawser.reqs.filter (fun r => decide (r.tick ≤ n))).foldl (fun acc r => insReq key r acc) []
    let s := { s with hawser.reqs := s.hawser.reqs.filter (fun r => decide (n < r.tick)) }
    l.foldl (fun s r => s.decideGroup (n + 4) r) s

/-- At the end of a pause of the triplex the requests of epochs committed meanwhile are decided (R601). -/
def State.groupResume (s : State) : State :=
  let e := 2 ^ (s.get HM_HAWSER_CTL_EPOCH_LOG2)
  let n := (s.get HM_COMMIT_STAT_CTICK + 1) / e * e - 1
  if s.hawser.reqs.any (fun r => decide (r.tick ≤ n)) then s.groupDecision n else s

/-- At an effective tick, groups given up are freed and fallback groups return to their line, if they have no open round (R417). -/
def State.groupTick (s : State) : State :=
  let e := 2 ^ (s.get HM_HAWSER_CTL_EPOCH_LOG2)
  if s.lantern ∨ s.jt % e ≠ 3 % e ∨ s.hawser.groups.isEmpty then s
  else
    let s := s.hawser.groups.foldl (fun s x =>
      match x.2.freeAt with
      | some t =>
        if t ≤ s.jt && s.noRound x.1 then (s.setGroup x.1 Group.none).logHm 0x0906 x.2.group x.2.slot (s.jt % 2 ^ 32) 0 else s
      | none => s) s
    s.hawser.groups.foldl (fun s x =>
      let g := x.2
      if g.mode = 2 && decide (g.eff < s.jt) && s.noRound x.1 && s.canLine x.1 g.slot g.mask then
        (s.setGroup x.1 { g with mode := 1, quay := 0, idx := 0, eff := s.jt }).logHm 0x0903 g.group (g.slot + 8) g.members (s.jt % 2 ^ 32)
      else s) s

/-- A move places a member of a group in quay `q` (R417): its quay joins the mask, and a group whose line the node cannot serve goes to fallback,
its object taking the arrivals of the open round. -/
def State.groupMoved (s : State) (x y : Nat) : State :=
  let q := quayOf y
  (List.range 5).foldl (fun s k =>
    match (s.slot x k).entry with
    | none => s
    | some e =>
      let g := s.group e
      if g.mode = 0 ∨ g.mode = 3 ∨ g.mask.testBit q then s
      else
        let g' := { g with mask := setBitN g.mask q }
        if g.mode = 2 ∨ s.canLine e k g'.mask then s.setGroup e g'
        else
          let oq := lowestBit g.mask
          match s.freeObj oq with
          | none => (s.setGroup e Group.none).logHm 0x0905 g.group g.slot g.mask (s.jt % 2 ^ 32)
          | some i =>
            let g' := { g' with mode := 2, quay := oq, idx := i }
            let m := s.membersOf e
            let qs := (List.range s.nQuays).filter (fun q =>
              let mine := m.filter (fun p => decide (quayOf p = q))
              !mine.isEmpty && mine.all (fun p => (s.slot p k).arrived && !(s.slot p k).due))
            let v := (m.filter (fun p => qs.contains (quayOf p))).length
            let s := (s.setGroup e g').setObj oq i { SyncObj.idle with cnt := ⟨v, v, []⟩ }
            s.logHm 0x0904 g.group (i + oq * 2 ^ 10) g.members (s.jt % 2 ^ 32)) s

/-! ### Commit, tick and recall (R402 to R404, R422) -/

/-- Tick `n` commits at every object; the partner's copies follow. -/
def State.syncCommit (s : State) (n : Nat) : State :=
  s.quays.foldl (fun s x =>
    if x.2.objs.isEmpty then s
    else
      s.modQuay x.1 (fun t =>
        let objs := t.objs.map (fun y => (y.1, { y.2 with cnt := y.2.cnt.commit n, mirror := y.2.mirror.commit n }))
        { t with objs := objs, objCopy := (objs.filter (fun y => decide (y.2.cnt.committed ≠ 0))).map (fun y => (y.1, y.2.cnt.committed)) })) s

/-- At the end of job tick `n` the Bollards and the root keep what a restart restores. -/
def State.hawserKeep (s : State) (n : Nat) : State :=
  let s := s.tiles.foldl (fun s x =>
    if x.2.slots.isEmpty && x.2.slotHist.isEmpty then s
    else s.modTile x.1 (fun t => { t with slotHist := ((n, t.slots) :: t.slotHist).take 4 })) s
  if s.hawser.groups.isEmpty then s
  else { s with hawser.hist := ((n, s.get HM_HAWSER_STAT_SENSE, s.hawser.groups.map (fun x => (x.1, x.2.sense))) :: s.hawser.hist).take 4 }

/-- An object after a restart: the objects of a lost quay come from the partner's copy. -/
def State.restoreObjs (s : State) (q : Nat) : State :=
  let t := s.quay q
  if t.objsLost then
    s.modQuay q (fun t =>
      let o := t.objCopy.map (fun x => (x.1, { SyncObj.idle with cnt := ⟨x.2, x.2, []⟩ }))
      { t with objsLost := false, objs := o })
  else if t.objs.isEmpty then s
  else
    s.modQuay q (fun t =>
      let back := fun (o : SyncObj) => { o with
        cnt := o.cnt.restore, mirror := o.mirror.restore, tmin := none, smin := none, targets := [], waiters := 0, wrec := [] }
      { t with objs := (t.objs.map (fun y => (y.1, back y.2))).filter (fun y => decide (y.2 ≠ SyncObj.idle)) })

/-- The restart of a recall to tick `c` (R403, R410, R414, R422). -/
def State.syncRestart (s : State) (c : Nat) : State :=
  let s := s.quayList.foldl (fun s q => s.restoreObjs q) s
  let s := { s with hawser.reqs := s.hawser.reqs.filter (fun r => decide (r.tick ≤ c)), hawser.wakes := [], hawser.bus := [] }
  let s := { s with hawser.forwards := s.hawser.forwards.filter (fun e => decide (e.2.2.2.2.2 ≤ c)) }
  let s := s.tiles.foldl (fun s x =>
    if x.2.slots.isEmpty && x.2.slotHist.isEmpty && !x.2.overrun && !x.2.hawserHold then s
    else
      let old := ((x.2.slotHist.find? (fun h => decide (h.1 = c))).map (·.2)).getD []
      (s.modTile x.1 (fun t => { t with slots := old, overrun := false })).refreshHold x.1) s
  match s.hawser.hist.find? (fun h => decide (h.1 = c)) with
  | none => s
  | some h =>
    let s := s.put HM_HAWSER_STAT_SENSE h.2.1
    { s with hawser.groups := s.hawser.groups.map (fun x =>
        let old := ((h.2.2.find? (fun y => decide (y.1 = x.1))).map (·.2)).getD x.2.sense
        (x.1, { x.2 with sense := old })) }

/-- The objects start again when the harbour opens; their links stay (R401, R411). A slot on an extended line is a ring group of every JOB core (R420); the spec gives
it no group number. -/
def State.syncOpen (s : State) (o : Nat) : State :=
  let s := s.quays.foldl (fun s x =>
    if x.2.objs.isEmpty && x.2.objCopy.isEmpty then s
    else s.modQuay x.1 (fun t => { t with
      objs := (t.objs.filter (fun y => decide (y.2.link ≠ 0))).map (fun y => (y.1, { SyncObj.idle with link := y.2.link })), objCopy := [], objsLost := false })) s
  let s := s.tiles.foldl (fun s x => if x.2.slots.isEmpty && x.2.slotHist.isEmpty then s else s.modTile x.1 (fun t => { t with slots := [], slotHist := [] })) s
  let s := { s.put HM_HAWSER_STAT_SENSE 0 with hawser := { s.hawser with reqs := [], lines := [], hist := [], wakes := [], bus := [], forwards := [] } }
  let s := s.hawser.groups.foldl (fun s x => s.setGroup x.1 Group.none) s
  let s := s.put HM_HAWSER_STAT_RING (s.get HM_HAWSER_XCTL_XEN / 8)
  (List.range 5).foldl (fun s k =>
    if s.xen (3 + k) then
      let (g, s) := s.free
      s.setGroup k ⟨g.toNat % 2 ^ 16, k, 3, 0, 0, 0, 2 ^ s.nQuays - 1, 0, 0, o, false, none⟩
    else s) s

/-- What a quay reset loses of its sync engine (R200, R404, R517). -/
def State.syncLost (s : State) (q : Nat) : State := s.modQuay q (fun t => { t with objs := [], objsLost := true })

end Sys2Proof.Machine
end

