-- ==== Sys2Proof/Machine/Reset.lean ====
section
/-!
DEFINITION. Breakwater scopes, the colours of Octulo's own units, tile, partition and quay resets, partner adoption, Lantern mode, the watchdogs and the dump
engine (chapter 13, with R495).
-/

namespace Sys2Proof.Machine

/-! ### Units (R262) -/

def ukCustoms (n : Nat) : Nat := n
def ukCore (n : Nat) : Nat := 4 + n
def ukBank (n : Nat) : Nat := 8 + n

def State.unit (s : State) (k : Nat) : UnitSt := tabGet (fun _ => UnitSt.idle) s.rst.units k
def State.setUnit (s : State) (k : Nat) (u : UnitSt) : State := { s with rst.units := tabSet (fun _ => UnitSt.idle) s.rst.units k u }

/-- Block type and number of a unit (R546). -/
def unitType (k : Nat) : Nat := if k < 4 then tyCustoms else if k < 8 then tyTriplex else tyBank
def unitNo (k : Nat) : Nat := k % 4

/-- Power domain of a unit (R669): D64 to D66 triplex cores, D67 to D70 Customs units, D71 to D74 banks. -/
def unitDomain (k : Nat) : Nat := if k < 4 then 67 + k else if k < 8 then 60 + k else 63 + k

/-- Power domain `d`: 0 off, 1 switched on and not yet good, 2 on (R669, R670). -/
def State.domain (s : State) (d : Nat) : Nat := tabGet (fun _ => 0) s.start.domains d

def State.setDomain (s : State) (d v : Nat) : State :=
  { s with start := { s.start with domains := tabSet (fun _ => 0) s.start.domains d v
                                   switched := if v = 2 then s.start.switched else tabSet (fun _ => none) s.start.switched d (some s.now) } }

/-- A unit's domain is switched off: a triplex core's when it leaves for its retest, a bank's when it is Vermilion, any when it is Slate (R669). -/
def State.unitOff (s : State) (k new : Nat) : State :=
  if new = slate ∨ (new = vermilion ∧ 4 ≤ k) then (if s.domain (unitDomain k) = 0 then s else s.setDomain (unitDomain k) 0) else s

/-- A unit's colour changes: shown, recorded, and IRQ_N[3] (R205, R209, R262, R297, R608). -/
def State.setUnitColour (s : State) (k new : Nat) : State :=
  let u := s.unit k
  if u.colour = new then s
  else
    let s := (s.setUnit k { u with colour := new, quiet := 0 }).unitOff k new
    let n := unitNo k
    let s := if k < 4 then
        let ok := s.get HM_CUS_STAT_OK
        (s.put (HM_CUS_UNIT_COLOUR n) new).put HM_CUS_STAT_OK (if new ≤ amber then setBitN ok n else clrBitN ok n)
      else if k < 8 then
        s.put HM_TRIPLEX_STAT_COLOUR (s.get HM_TRIPLEX_STAT_COLOUR / 2 ^ (3 * n + 3) * 2 ^ (3 * n + 3) + new * 2 ^ (3 * n)
          + s.get HM_TRIPLEX_STAT_COLOUR % 2 ^ (3 * n))
      else s
    let s := if new = slate then s.addDefect 0 (srcWord (unitType k) 0 n) n kindUnit 4 0 (unitDomain k) else s
    (s.irq irqUnitColour).logColour 0 (srcWord (unitType k) 0 n) u.colour new n

/-- An event that sets a Green unit Amber. -/
def State.unitAmber (s : State) (k : Nat) : State :=
  let u := s.unit k
  let s := s.setUnit k { u with events := u.events + 1, quiet := 0 }
  if u.colour = green then s.setUnitColour k amber else s

/-- The units at a round boundary: Amber ones return to Green after AMBER_ROUNDS quiet rounds. -/
def State.unitsRound (s : State) : State :=
  s.rst.units.foldl (fun s x =>
    let u := x.2
    -- a bank's event is its 65th corrected word of the round
    let n := if u.events = 0 ∨ 8 ≤ x.1 ∧ u.events ≤ 64 then u.quiet + 1 else 0
    let s := s.setUnit x.1 { u with events := 0, quiet := n }
    if u.colour = amber ∧ s.get HM_HEALTH_CTL_AMBER_ROUNDS ≤ n ∧ s.flag HM_HEALTH_CTL_EN = true then s.setUnitColour x.1 green else s) s

/-- The triplex cores in service (R538, R608). -/
def State.setCores (s : State) (m : Nat) : State := (s.put HM_TRIPLEX_STAT_CORES m).put HM_RST_STAT_CORES m

def State.cores (s : State) : Nat := s.get HM_TRIPLEX_STAT_CORES

/-! ### Breakwater scopes (R495) -/

/-- Every Bollard of a region applies its Breakwater. -/
def State.breakRegion (s : State) (q : Nat) : State := (regionOf q).foldl (fun s p => s.breakwater p 3) s

/-- A region Breakwater applied while the restart of a recall is already being written holds the region, and P moves (R506). -/
def State.slipRestart (s : State) : State :=
  match s.commit.inRecall with
  | some r =>
    if r.mailed then { s with commit.inRecall := some { r with p := none, mailed := false } } else s
  | none => s

/-- Region scope, with its record and count. -/
def State.regionBreakwater (s : State) (q causeBit : Nat) (host : Bool) : State :=
  let s := ((s.breakRegion q).slipRestart).count HM_FAULT_CNT0_BW_REGION 1
  s.logQuay q 0x0B05 q causeBit (bit host) s.tick32

/-- Wafer scope. -/
def State.waferBreakwater (s : State) (causeBit : Nat) (host : Bool) : State :=
  let s := ((s.quayList.foldl (fun s q => s.breakRegion q) s).slipRestart).count HM_FAULT_CNT0_BW_REGION 1
  s.logHm 0x0B06 causeBit (bit host) 0 s.tick32

/-! ### What a dump holds (R525 to R527) -/

/-- The words of a page, two 32-bit registers to a header word; offsets that hold no register read 0. -/
def State.pageWords (s : State) (page : Nat) : List Nat :=
  (List.range 512).map (fun i =>
    let a := page + 8 * i
    if i < 8 then
      let half := fun b => if (regRow b).isSome then s.readReg b % 2 ^ 32 else 0
      half a + half (a + 4) * 2 ^ 32
    else if (regRow a).isSome then s.readReg a else 0)

/-- The 32 words of a Bollard file. -/
def State.bolWords (s : State) (p : Nat) : List Nat := (List.range 32).map (fun i => s.readReg (bolAddr p i))

/-- A section of a dump: source block type, quay, unit, content, source address, words (R527). -/
structure DumpSec where
  ty : Nat
  quay : Nat
  unit : Nat
  content : Nat
  base : Nat
  words : List Nat
  deriving DecidableEq, Repr

/-- The Bollards of a region with a fault or a cause to show, in local tile order, at most 1,024. -/
def State.faultyBollards (s : State) (q : Nat) : List Nat :=
  ((regionOf q).filter (fun p =>
    decide ((s.word (BOL_ERR p)).toNat ≠ 0) || decide ((s.word (BOL_OPEN p)).toNat % 2 ^ 16 / 2 ≠ 0)
      || decide ((s.word (BOL_VERDICT p)).toNat % 2 ^ 16 / 2 ≠ 0))).take 1024

/-- The sections of a dump (R525). Words that lie outside the block (local memory, control-core RAM, triplex RAM) come from `ext`, in order. -/
def State.dumpSecs (s : State) (d : DumpSt) (ext : List (BitVec 64)) : List DumpSec :=
  let part := fun (i n : Nat) => ((ext.drop i).take n).map (·.toNat) ++ List.replicate (n - ((ext.drop i).take n).length) 0
  match d.what with
  | 1 =>
    [⟨tyBol, quayOf d.unit, d.unit, 1, 0, s.bolWords d.unit⟩, ⟨tyBol, quayOf d.unit, d.unit, 2, 0, part 0 8192⟩]
  | 2 =>
    let q := d.unit
    [⟨tyQuay, q, 0, 5, qyAddr q 0, (List.range 16).flatMap (fun n => s.pageWords (qyAddr q (n * 0x1000)))⟩,
     ⟨tyQuay, q, 0, 3, 0, part 0 32768⟩]
      ++ (s.faultyBollards q).map (fun p => ⟨tyBol, q, p, 1, 0, s.bolWords p⟩)
  | _ =>
    ⟨tyHm, 0, 0, 5, 0, (List.range 64).flatMap (fun n => s.pageWords (n * 0x1000))⟩
      :: (List.range 3).map (fun c => ⟨tyTriplex, 0, c, 4, 0, part (65408 * c) 65408⟩)

/-- The VOID marker (R526). -/
def voidWord : Nat := 0x564F4944564F4944

/-- Words of a section with its header and bitmap; word numbers run through the whole dump from `from_`. -/
def secWords (voids : List Nat) (from_ : Nat) (x : DumpSec) : List Nat :=
  let n := x.words.length
  let hdr := [x.ty + x.quay % 64 * 2 ^ 8 + x.unit % 2 ^ 20 * 2 ^ 14 + x.content * 2 ^ 34, n + x.base % 2 ^ 32 * 2 ^ 32, 0, 0]
  let good := fun i => decide (i < n) && !voids.contains (from_ + i)
  let maps := (List.range ((n + 63) / 64)).map (fun w => ((List.range 64).map (fun i => if good (64 * w + i) then 2 ^ i else 0)).sum)
  hdr ++ maps ++ (x.words.zipIdx).map (fun y => if voids.contains (from_ + y.2) then voidWord else y.1)

/-- Sections one after another. -/
def allSecs (voids : List Nat) : Nat → List DumpSec → List Nat
  | _, [] => []
  | n, x :: t => secWords voids n x ++ allSecs voids (n + x.words.length) t

/-- A dump as staged (R527). -/
def State.dumpImage (s : State) (d : DumpSt) (ext : List (BitVec 64)) : List (BitVec 64) :=
  let secs := s.dumpSecs d ext
  let voids := d.voids.filter (fun n => decide (n < (secs.map (fun x => x.words.length)).sum))
  let body := allSecs voids 0 secs
  let bytes := 64 + 8 * body.length
  let head := fun (crc : Nat) => [0x44554D50 + d.kind * 2 ^ 32 + secs.length % 256 * 2 ^ 36, d.tide, d.jt % 2 ^ 50, bytes + voids.length * 2 ^ 32, crc, 0, 0, 0]
  let crc := crc32 ((((head 0 ++ body).map (BitVec.ofNat 64)).flatMap wordBytes).map (·.toNat))
  (head crc ++ body).map (BitVec.ofNat 64)

/-- DUMP_READ_TIMEOUT (R526): the dump's word `n` did not answer. -/
def State.dumpVoid (s : State) (n : Nat) : State :=
  match s.rst.dump with
  | some d => if d.staged || d.voids.contains n then s else { s with rst.dump := some { d with voids := d.voids ++ [n] } }
  | none => s

/-! ### Quay reset and adoption (R520 to R523, R532, R535) -/

/-- The pages of a quay are served, or are not (R640, R645). -/
def State.quayReady (s : State) (q : Nat) (up : Bool) : State :=
  (List.range 16).foldl (fun s n =>
    if (qyPageRows n).isEmpty then s
    else
      let a := qyAddr q (n * 0x1000) + 0xC
      s.setWord a (BitVec.ofNat 64 ((s.word a).toNat / 2 * 2 + bit up))) s

def State.quayState (s : State) (q : Nat) : Nat := s.get (QY_RST_STAT_STATE q)

/-- The registers of a quay's pages that a reset of its domain returns to their reset values (R20, R138, R178, R517): the error words of every header,
Bollard access, captures, counts and histories, store and ring status, window sequence numbers, tender and sync status. Page 2 is kept with the
escalation counters in D75; RW, RWL and RT configuration is what the reloaded Rinol writes again, and the region's own status (pool, health, rail,
clearance account) is run on by the adopter (DESIGN CHOICE, notes/assumptions/132.md). -/
def quayLost (o : Nat) : Bool :=
  let page := o / 0x1000
  let off := o % 0x1000
  let within := fun lo hi => decide (lo ≤ off) && decide (off < hi)
  decide (page ≠ 2) && (within 0x10 0x28 || match page with
    | 3 => within 0x40 0x50
    | 4 => within 0x88 0xC0
    | 5 => within 0x68 0x88
    | 8 => within 0x150 0x168
    | 9 => within 0x40 0x240 && decide (off % 16 = 8) || within 0x240 0x248
    | 10 => within 0x40 0x1000 && decide (off % 16 = 8)
    | 11 => within 0x48 0x98
    | 12 => within 0x48 0xA8
    | 13 => within 0x40 0xD0
    | 14 => within 0x58 0x70
    | 15 => within 0x40 0x60
    | _ => false)

/-- They return to their reset values; the quay's summary wire follows (R486). -/
def State.domainReset (s : State) (q : Nat) : State :=
  let mine := fun a => decide (qyAddr q 0 ≤ a) && decide (a < qyAddr q 0x10000) && quayLost (a - qyAddr q 0)
  ({ s with regs := s.regs.filter (fun x => !mine x.1), armed := s.armed.filter (fun k => decide (k / 64 ≠ qyBlk q 0x10)) } : State).refreshSummary q

/-- The quay's domain is reset once its dump's reads have ended (R200, R369, R517, R520): store, berths, sync SRAM and control-core state are lost. -/
def State.quayDown (s : State) (q : Nat) : State :=
  let s := (List.range 32).foldl (fun s b => if b < s.banks q then (s.put (QY_STORE_BANK_REQ q b) 3).bankOff q b else s) s
  -- shadows lose its steps, and the kernels its table named
  let s := s.touchedTiles.foldl (fun s p =>
    let mine := (s.tile p).hosts.filter (fun (h : Nat × Nat) => h.1 = q)
    if mine = [] then s
    else
      let s := mine.foldl (fun s h => s.releaseShadow p q h.2) s
      (s.modTile p (fun t => { t with kernel := none })).put (BOL_PILOT_KERNEL p) 0) s
  let s := { s with stops := s.stops.filter (fun y => decide (y.2.1 ≠ q)), shadowSigs := s.shadowSigs.filter (fun y => decide (y.2.1 ≠ q)) }
  let s := s.modQuay q (fun t => { t with
    coreWait := [], repairAt := none
    berths := [], capts := [], waiting := [], makeups := [], audits := [], refusedMsgs := [], tenders := [], gather := [], tagWaits := []
    bankLate := [], scrubRow := [], scrubTick := [] })
  let s := { s with customs.queue := s.customs.queue.map (fun (e : CusEntry) =>
    if e.msg.quay = q ∧ e.phase ≤ 1 then { e with captLost := true } else e) }
  let s := { s with lock.histFrom := tabSet (fun _ => 0) s.lock.histFrom q (tabGet (fun _ => 0) s.lock.lowest q) }
  (((s.syncLost q).domainReset q).quayReady q false).put (QY_RST_STAT_STATE q) 3

/-- A record that the Harbourmaster makes of a quay (R520, R543). -/
def State.logOf (s : State) (q code p0 p1 p2 : Nat) : State := s.enqueue 0 [s.mkRec code (srcWord tyQuay q 0) false p0 p1 p2 s.tick32]

/-- A region without a controller (R523). -/
def State.loseQuay (s : State) (q : Nat) : State :=
  if s.rst.lost.contains q then s
  else
    let k := partnerOf q
    let s := { s with rst.lost := s.rst.lost ++ [q], rst.orders := s.rst.orders.filter (fun o => decide (o.1 ≠ q)) }
    let s := (s.put (QY_RST_STAT_ADOPTED q) 0).put (QY_RST_STAT_ADOPTING k) 0
    (s.logOf q 0x0C10 q (if s.hasPartner then s.quayState k else 0) 0).note 5 q k 0 0 0

/-- The partner of quay `q` can adopt its Bollards (R523). -/
def State.canAdopt (s : State) (q : Nat) : Bool :=
  let k := partnerOf q
  s.hasPartner && decide (s.quayState k = 0) && decide ((s.quay k).colour < vermilion) && !s.flag (QY_RST_STAT_ADOPTING k)
    && !s.rst.orders.any (fun o => decide (o.1 = k)) && !s.rst.lost.contains k

/-- The Harbourmaster orders the partner to adopt (R520). -/
def State.orderAdopt (s : State) (q : Nat) : State :=
  { s with rst.orders := s.rst.orders ++ [(q, s.now)], rst.lost := s.rst.lost.filter (fun x => decide (x ≠ q)) }

/-- A quay's colour is asked for by an event that may be forced: with FORCE_NOCOLOUR it is recorded and not applied (R500). -/
def State.askQuayColour (s : State) (q new : Nat) (forced : Bool) : State :=
  let from_ := (s.quay q).colour
  if !(forced && s.flag HM_FAULT_CTL_FORCE_NOCOLOUR) then s.setQuayColour q new
  else if from_ = new then s
  else s.logColour 0 (srcWord tyQuay q 0) from_ new q

/-- A quay's reset once its region's Breakwater and its pull stand (R520): reason 1 watchdog, 2 lockstep, 3 chain, 4 host. -/
def State.quayDecided (s : State) (q reason : Nat) (forced : Bool) : State :=
  if s.quayState q ≠ 0 && s.quayState q ≠ 4 then s
  else
    let (s, n) := s.countReset (2 ^ 20 + q) forced
    let s := (s.count HM_RST_CNT_QUAY_RESETS 1).put (QY_RST_STAT_RESETS q) (min 3 n)
    let s := s.logOf q 0x0C06 q reason n
    let s := if 3 ≤ n then (s.count HM_RST_ESC_QUAY_ESC 1).logQuay q 0x0C09 tyQuay q n s.tick32 else s
    let s := s.askQuayColour q vermilion forced
    -- a quay that was adopting its partner's region loses that region too (R532)
    let k := partnerOf q
    let s := if s.hasPartner && (s.flag (QY_RST_STAT_ADOPTING q) || s.rst.orders.any (fun o => decide (o.1 = k))) then s.loseQuay k else s
    let s := if s.flag (QY_RST_STAT_ADOPTED q) then s else if s.canAdopt q then s.orderAdopt q else s.loseQuay q
    let (s, dumping) := if s.flag HM_RST_CTL_DUMP_QUAY then s.startDump dkQuay dkQuay q else (s, false)
    if dumping then s.put (QY_RST_STAT_STATE q) 1 else s.quayDown q

/-- A quay's reset whose fault bit has already pulled HW1: its region's Breakwater, then the order (R491, R520). -/
def State.quayForced (s : State) (q reason : Nat) (forced : Bool) : State :=
  if s.quayState q ≠ 0 && s.quayState q ≠ 4 then s
  else
    let s := s.regionBreakwater q (if reason = 4 then 0xFF else if reason = 2 then 8 else 23) (decide (reason = 4))
    s.quayDecided q reason forced

/-- The cause of a reset stands (R520): the control core has not kicked, a second mismatch of the round, a silent position in the chain of a quay that is
Amber already, or the host. -/
def State.resetCause (s : State) (q reason : Nat) : Bool :=
  match reason with
  | 1 => decide ((4 * s.tickLen : Int) ≤ s.since (s.quay q).kickAt)
  | 2 => decide (2 ≤ (s.quay q).mismatches)
  | 3 => decide ((s.quay q).colour = amber) && (s.quay q).missed.any (fun x => decide (2 ≤ x.2))
  | _ => true

/-- QUAY_RESET (R520). -/
def State.quayReset (s : State) (q reason : Nat) (forced : Bool) : State :=
  if (s.quayState q ≠ 0 && s.quayState q ≠ 4) || !s.resetCause q reason then s else (s.pullQuay q 8).quayForced q reason forced

/-- QUAY_ADOPT (R404, R464, R473, R520). -/
def State.quayAdopt (s : State) (q : Nat) : State :=
  match s.rst.orders.find? (fun o => decide (o.1 = q)) with
  | none => s
  | some o =>
    let k := partnerOf q
    let s := { s with rst.orders := s.rst.orders.filter (fun x => decide (x.1 ≠ q)) }
    let s := (s.put (QY_RST_STAT_ADOPTED q) 1).put (QY_RST_STAT_ADOPTING k) 1
    let s := s.put (QY_SPARE_K q) 0
    let s := s.logOf q 0x0C07 q k (s.since o.2).toNat
    s.note 3 q k 0 0 0

/-- A quay that is back takes over what its pair lacks (R523, R532). -/
def State.quayBack (s : State) (q : Nat) : State :=
  let k := partnerOf q
  let s := { s with rst.lost := s.rst.lost.filter (fun x => decide (x ≠ q)) }
  if s.hasPartner && s.rst.lost.contains k && s.canAdopt k then s.orderAdopt k else s

/-- QUAY_SELFTEST_DONE (R520, R522, R523): the self-test after a reset, or the retest of a quay left Vermilion. -/
def State.quaySelftest (s : State) (q : Nat) (pass : Bool) : State :=
  let n := (s.recentResets (2 ^ 20 + q)).length
  let n := max n (s.get (QY_RST_STAT_RESETS q))
  let adopted := s.flag (QY_RST_STAT_ADOPTED q) || s.rst.orders.any (fun o => decide (o.1 = q))
  if s.quayState q = 3 then
    if !pass then (s.put (QY_RST_STAT_STATE q) 2).setQuayColour q slate
    else
      let s := s.quayReady q true
      let s := if n < 3 then s.setQuayColour q green else s
      if adopted then
        let s := s.put (QY_RST_STAT_STATE q) 4
        if n < 3 then { s with rst.reclaimDue := s.rst.reclaimDue ++ [q] } else s
      else if n < 3 then (s.put (QY_RST_STAT_STATE q) 0).quayBack q
      else s.put (QY_RST_STAT_STATE q) 0
  else if (s.quay q).colour = vermilion then
    if !pass then s.setQuayColour q slate
    else
      let s := s.setQuayColour q green
      if s.rst.lost.contains q then s.quayBack q else s
  else s

/-- The Bollards of the quays to be taken back return to them at a restart (R522). -/
def State.takeBack (s : State) (q : Nat) : State :=
  let k := partnerOf q
  let s := ((s.put (QY_RST_STAT_ADOPTED q) 0).put (QY_RST_STAT_ADOPTING k) 0).put (QY_RST_STAT_STATE q) 0
  let s := { s with rst.reclaim := s.rst.reclaim.filter (fun x => decide (x ≠ q)) }
  (s.logOf q 0x0C08 q k 0).note 4 q k 0 0 0

/-! ### HM_RST_OP (R539) -/

/-- The operation in progress ends, or is refused. -/
def State.rstEnd (s : State) (refused : Bool) : State :=
  let s := { s.put HM_RST_OP_BUSY 0 with rst.op := none, rst.opStop := false }
  (if refused then s.put HM_RST_OP_REFUSED 1 else s).irq irqRst

/-- A write of HM_RST_OP with GO: refused with OP_BUSY while an operation is in progress. -/
def State.rstOp (s : State) (op : Nat) (k : State → State) : State :=
  if s.flag HM_RST_OP_BUSY then s.pageErr HM_RST_OP errBusy else k (s.put HM_RST_OP_OP op)

/-! ### Tile compute resets (R518) -/

/-- The compute domain leaves reset (R518): role IDLE, or TEST where it was. -/
def State.tileReady (s : State) (p : Nat) : State :=
  let s := s.releaseCore p
  let s := if s.role p = roleTest then s else s.put (BOL_CTL_ROLE p) roleIdle
  let s := s.refreshTile p
  let s := { s with rst.power := s.rst.power.filter (fun x => decide (x.1 ≠ p)) }
  match s.rst.op with
  | some o => { s with rst.op := some { o with waiting := o.waiting.erase p } }
  | none => s

/-- TILE_COMPUTE_RESET (R518, R524, R543): reason 1 hang, 2 cause RESET, 3 chain, 4 Bollard fault, 5 host, 6 partition. -/
def State.tileReset (s : State) (p reason : Nat) (pwr : Bool) : State :=
  -- a hung tile's dump ends before its reset (R525)
  let dumping := match s.rst.dump with | some d => decide (d.kind = dkTile) && decide (d.unit = p) && !d.staged | none => false
  if s.role p = roleJob || dumping then s
  else
    let (s, n) := if reason = 1 ∨ reason = 2 then s.countTileReset p false else (s, (s.recentResets p).length)
    let pwr := if reason ≤ 4 then decide (2 ≤ n) else pwr
    let s := (s.put (BOL_CTL_GUARD p) 1).put (BOL_CTL_CG_HOLD p) 1
    let s := (s.put (BOL_CDOM_RST p) 1).coreReset p
    let s := (s.count (QY_RST_CNT_TILE_RESETS (quayOf p)) 1).logTile p 0x0C05 p reason n s.tick32
    if pwr then { (s.put (BOL_CDOM_PWR_EN p) 0).refreshTile p with rst.power := s.rst.power ++ [(p, none)] }
    else s.tileReady p

/-- The partition reset ends (R519). -/
def State.partitionEnd (s : State) (o : RstOp) (phase : Nat) : State :=
  let rect := o.rowLo + o.rowHi * 2 ^ 7 + o.colLo * 2 ^ 14 + o.colHi * 2 ^ 21
  let s := s.logHm 0x0C0F o.quay rect phase s.tick32
  if phase = 2 then (s.note 6 o.quay 0 0 0 (rect * 2 ^ 26)).rstEnd false else s.rstEnd true

/-- The tiles of a rectangle. -/
def RstOp.tiles (o : RstOp) : List Nat :=
  (regionOf o.quay).filter (fun p =>
    let r := localOf p / 128
    let c := localOf p % 128
    decide (o.rowLo ≤ r) && decide (r ≤ o.rowHi) && decide (o.colLo ≤ c) && decide (c ≤ o.colHi))

/-- Look at the operation in progress: the partition's tiles are reset together once none serves, shadows or is under test; an operation ends
with its last tile. -/
def State.rstStep (s : State) : State :=
  match s.rst.op with
  | none => s
  | some o =>
    if o.op = 1 then (if o.waiting.isEmpty then s.rstEnd false else s)
    else if o.op ≠ 2 then s
    else if o.begun then (if o.waiting.isEmpty then s.partitionEnd o 2 else s)
    else if s.rst.opStop then s.partitionEnd o 3
    else
      let t := o.tiles
      if t.any (fun p => s.built && ([useServes, useShadow].contains (s.use p) || s.underTest p)) then
        -- a move that a recall has abandoned is asked for again (R283)
        if s.commit.inRecall.isSome then s
        else (t.filter (fun p => decide (s.use p = useServes) && (s.moveOf p).isNone)).foldl (fun s p => s.requestMove p mvPartition (s.colour p) 0) s
      else
        let s := { s with rst.op := some { o with begun := true, waiting := if o.pwr then t else [] } }
        let s := t.foldl (fun s p => s.tileReset p 6 o.pwr) s
        match s.rst.op with
        | some o => if o.waiting.isEmpty then s.partitionEnd o 2 else s
        | none => s

/-- TILE_RESET (R518, R539): HM_RST_OP with OP 1. A tile that serves, or that does not exist, is refused. -/
def State.tileResetOp (s : State) (p : Nat) (pwr : Bool) : State :=
  let s := (s.put HM_RST_ARG_PTILE p).put HM_RST_ARG_PWR (bit pwr)
  if s.nQuays ≤ quayOf p ∨ s.role p = roleJob then s.rstEnd true
  else
    let s := { s.put HM_RST_OP_BUSY 1 with rst.op := some ⟨1, 0, 0, 0, 0, 0, pwr, true, if pwr then [p] else []⟩ }
    (s.tileReset p 5 pwr).rstStep

/-- PARTITION_RESET (R519): HM_RST_OP with OP 2. -/
def State.partitionReset (s : State) (q rowLo rowHi colLo colHi : Nat) (pwr : Bool) : State :=
  let s := ((s.put HM_RST_ARG_QUAY q).put HM_RST_ARG_ROW_LO rowLo).put HM_RST_ARG_ROW_HI rowHi
  let s := ((s.put HM_RST_ARG_COL_LO colLo).put HM_RST_ARG_COL_HI colHi).put HM_RST_ARG_PWR (bit pwr)
  if s.nQuays ≤ q ∨ rowHi < rowLo ∨ 119 < rowHi ∨ colHi < colLo ∨ 127 < colHi then s.rstEnd true
  else
    let o : RstOp := ⟨2, q, rowLo, rowHi, colLo, colHi, pwr, false, []⟩
    let s := { s.put HM_RST_OP_BUSY 1 with rst.op := some o, rst.opStop := false }
    let s := s.logHm 0x0C0F q (rowLo + rowHi * 2 ^ 7 + colLo * 2 ^ 14 + colHi * 2 ^ 21) 1 s.tick32
    let s := o.tiles.foldl (fun s p =>
      if !s.built then s
      else if s.use p = useServes then s.requestMove p mvPartition (s.colour p) 0
      else if s.use p = useShadow then s.takeFromShadow p
      else s) s
    s.rstStep

/-- QUAY_RESET_OP (R539): HM_RST_OP with OP 3; the operation ends with the order. -/
def State.quayResetOp (s : State) (q : Nat) : State :=
  let s := s.put HM_RST_ARG_QUAY q
  if s.nQuays ≤ q then s.rstEnd true else (s.quayReset q 4 false).rstEnd false

/-- QUAY_RECLAIM (R522, R539): HM_RST_OP with OP 4, for a Green adopted quay; its recall is pulled at once and the operation ends at the restart. -/
def State.quayReclaim (s : State) (q : Nat) : State :=
  let s := s.put HM_RST_ARG_QUAY q
  if s.nQuays ≤ q ∨ (s.quay q).colour ≠ green ∨ !s.flag (QY_RST_STAT_ADOPTED q) then s.rstEnd true
  else
    let s := { s.put HM_RST_OP_BUSY 1 with rst.op := some ⟨4, q, 0, 0, 0, 0, false, true, []⟩, rst.reclaim := s.rst.reclaim ++ [q] }
    s.pullHw1 2 0 0 0 8

/-- The reclaims of a restart. -/
def State.takeBackAll (s : State) : State :=
  let l := s.rst.reclaim
  let s := l.foldl (fun s q => s.takeBack q) s
  match s.rst.op with
  | some o => if o.op = 4 ∧ l.contains o.quay then s.rstEnd false else s
  | none => s

/-- SOFT_RESET (R517, R644): PG_CTL.SOFT_RESET of the page of place `a`. -/
def State.softReset (s : State) (a : Nat) : State :=
  if 0x100000 ≤ a then s.quayReset ((a - 0x100000) / 0x10000) 4 false else s.pageErr a errDenied

/-! ### Power of a compute domain (R102, R518) -/

/-- CDOM_LOSS (R84, R102): CDOM_OK falls. In a power cycle PWR_EN rises again 2,200 cc later. -/
def State.cdomLoss (s : State) (p : Nat) : State :=
  let s := ((s.put (BOL_CDOM_OK p) 0).coreReset p).refreshTile p
  if s.rst.power.any (fun x => decide (x.1 = p)) then
    { s.put (BOL_CDOM_PWR_EN p) 1 with rst.power := s.rst.power.map (fun x => if x.1 = p then (p, some s.now) else x) }
  else s

/-- The power cycle of tile `p` has been on for `n` cycles: PWR_EN rose 2,200 cc after CDOM_OK had fallen. -/
def State.poweredFor (s : State) (p n : Nat) : Bool :=
  s.rst.power.any (fun x => decide (x.1 = p) && (match x.2 with | some m => decide ((2200 + n : Int) ≤ s.since m) | none => false))

/-- CDOM_POWER_GOOD (R311, R518): CDOM_OK rises; in a reset the repairs are reloaded and CRST_N is released. In a power cycle it cannot rise before PWR_EN
has. -/
def State.cdomGood (s : State) (p : Nat) : State :=
  let cycling := s.rst.power.any (fun x => decide (x.1 = p))
  if cycling && !s.poweredFor p 0 then s
  else
    let s := (s.put (BOL_CDOM_OK p) 1).refreshTile p
    if cycling then (s.tileReady p).rstStep else s

/-- CDOM_POWER_TIMEOUT (R518): CDOM_OK has not risen within PWR_CC. -/
def State.cdomTimeout (s : State) (p : Nat) : State :=
  if s.poweredFor p (s.get HM_RST_CTL_PWR_CC) && !s.cdomOk p then
    let s := { s with rst.power := s.rst.power.filter (fun x => decide (x.1 ≠ p)) }
    let s := match s.rst.op with
      | some o => { s with rst.op := some { o with waiting := o.waiting.erase p } }
      | none => s
    (s.setColour p slate 16 4).rstStep
  else s

/-! ### Watchdogs (R514 to R516) -/

/-- QUAY_WATCHDOG (R514): the control core of a quay in service has not kicked for 4 × TICK_LEN cc. -/
def State.quayWatchdog (s : State) (q : Nat) : State :=
  let t := s.since (s.quay q).kickAt
  if s.quayState q ≠ 0 ∨ t < 4 * s.tickLen then s
  else
    let s := (s.latchQuay q 23 false 0).put (QY_RST_WDOG_WHY q) 1
    let s := s.logQuay q 0x0C03 q (t.toNat / s.tickLen) 0 s.tick32
    s.quayForced q 1 false

/-- QUAY_WATCHDOG_KICK (R514, R542): a host write is denied. -/
def State.quayKick (s : State) (q : Nat) (host : Bool) : State :=
  if host then (s.pageErr (QY_RST_WDOG q) errDenied).emit (.hport 0 0)
  else (s.modQuay q (fun t => { t with kickAt := s.now })).put (QY_RST_WDOG_IDLE_TICKS q) 0

/-- CHAIN_WATCHDOG (R515): local tile `l` of quay `q` has missed its frame in two consecutive ticks; `answered` says whether its Bollard answers the
restart. -/
def State.chainWatchdog (s : State) (q l : Nat) (answered forced : Bool) : State :=
  if !(s.quay q).missed.any (fun x => decide (x.1 = l) && decide (2 ≤ x.2)) then s
  else
    let p := tileOf q l
    let wasAmber := decide ((s.quay q).colour = amber)
    let hop := s.get (BOL_POS_HOP p)
    let s := s.latchQuay q 23 forced 0
    let s := ((s.put (QY_RST_WDOG_WHY q) 2).put (QY_RST_WDOG_ROW q) (l / 128)).put (QY_RST_WDOG_HOP q) hop
    let s := (s.count (QY_RST_CNT_CHAIN q) 1).logQuay q 0x0C02 q (l / 128) hop s.tick32
    let s := s.modQuay q (fun t => { t with missed := t.missed.filter (fun x => decide (x.1 ≠ l)) })
    if wasAmber then s.quayForced q 3 forced
    else
      let s := (s.regionBreakwater q 23 false).count (QY_RST_CNT_RESTARTS q) 1
      let s := (s.discardTiles p).setWord (BOL_OPEN p) 1
      let s := s.modTile p (fun t => { t with steps := [], samples := [], frame := [], sigAcc := 0 })
      let (s, n) := s.countTileReset p forced
      let s := s.logTile p 0x0C05 p 3 n s.tick32
      let s := { s with rst.restarted := (p, if answered then 1 else 0) :: s.rst.restarted.filter (fun x => decide (x.1 ≠ p)) }
      if !answered ∧ s.use p = useServes ∧ s.built then { s with demands := s.demands ++ [(p, 16)] } else s

/-- At a restart: Bollards that stayed silent are bypassed and their tiles retired; the others are awaited (R515). -/
def State.chainRestart (s : State) : State :=
  let l := s.rst.restarted
  let s := { s with rst.restarted := (l.filter (fun x => decide (x.2 ≠ 0))).map (fun x => (x.1, 2)) }
  (l.filter (fun x => decide (x.2 = 0))).foldl (fun s x =>
    let p := x.1
    let s := s.bypass p
    let s := (if s.colour p = slate then s else s.setColour p slate 16 4).note 7 (quayOf p) 0 p 0 0
    (s.cutBeyond p).foldl (fun s y => (s.put (BOL_POS_CUT y) 1).takeOut y slate 16 4) s) s

/-- The frame of a restarted Bollard has come, or is missing again. -/
def State.restartedFrame (s : State) (p : Nat) (came : Bool) : State :=
  if !s.rst.restarted.any (fun x => decide (x.1 = p) && decide (x.2 = 2)) then s
  else if came then { s with rst.restarted := s.rst.restarted.filter (fun x => decide (x.1 ≠ p)) }
  else
    let s := { s with rst.restarted := s.rst.restarted.map (fun x => if x.1 = p then (p, 0) else x) }
    if s.use p = useServes ∧ s.built then { s with demands := s.demands ++ [(p, 16)] } else s

/-! ### Lantern mode (R528 to R530, R536) -/

/-- Lantern mode is in force, and no restart of the triplex has brought its cores back (R530, R536). -/
def State.inLantern (s : State) : Bool := s.lantern && decide (s.get HM_RST_STAT_RESTART_STATE ≠ 1)

/-- Quays whose dump a Lantern dump has replaced are reset: their reads have ended (R520, R527). -/
def State.resetDumped (s : State) : State :=
  let keep : Bool := match s.rst.dump with | some d => decide (d.kind = dkQuay) | none => false
  if keep then s else (s.quayList.filter (fun q => decide (s.quayState q = 1))).foldl (fun s q => s.quayDown q) s

/-- LANTERN_ENTER (R528): why 1 duplex mismatch, 2 duplex RAM, 3 watchdog, 4 cores below two, 5 forced. A restart in progress has failed (R536). -/
def State.enterLantern (s : State) (why : Nat) : State :=
  if s.inLantern then s
  else
    let again := s.lantern
    let s := (s.put HM_RST_STAT_LANTERN 1).put HM_RST_STAT_WHY why
    let s := { s.put HM_RST_STAT_RESTART_STATE (if again then 3 else 0) with rst.lanternTick := s.time.tick }
    let s := if again then { s.rstEnd false with rst.keysWanted := [] } else s
    let s := (s.alarm 3).count HM_RST_CNT_LANTERNS 1
    let s := if s.flag HM_RST_CTL_DUMP_LANTERN then (s.startDump dkLantern dkLantern 0).1.resetDumped else s
    let s := (s.logHm 0x0C0D why (coreCount s.cores) 0 s.tick32).note 1 0 0 0 0 why
    let s := (s.quayKeysLost).pfTrigger 4
    let s := s.quayList.foldl (fun s q =>
      ((s.put (QY_CLEAR_STAT_LANTERN q) 1).setRate q 0 (s.quay q).tilesLast).rateTick q) s
    -- moves whose map update has not been sent are dropped (R529)
    (s.moves.filter (fun (m : Move) => decide (m.phase = 1))).foldl (fun s m =>
      let s := (s.setMap m.lcore m.src false).lmWrites m.src (mailWord 4) [0]
      (s.modTile m.src (fun t => { t with parkSeen := false })).dropMove m) s

/-- HM_WATCHDOG (R514, R601). -/
def State.hmWatchdog (s : State) : State :=
  let t := s.since s.commit.kickAt
  if s.inLantern ∨ s.flag HM_TRIPLEX_STAT_ABSENT ∨ coreCount s.cores < 2 ∨ t < 4 * s.tickLen then s
  else (s.logHm 0x0C04 (coreCount s.cores) (t.toNat / s.tickLen) 0 s.tick32).enterLantern 3

/-- HM_WATCHDOG_KICK (R514, R540): a host write is denied. -/
def State.hmKick (s : State) (host : Bool) : State :=
  if host then (s.pageErr HM_RST_KICK errDenied).emit (.hport 0 0)
  else ({ s with commit.kickAt := s.now }).put HM_RST_STAT_IDLE_TICKS 0

/-- Lantern mode ends (R530): the quays learn it. -/
def State.leaveLantern (s : State) : State :=
  let s := (s.put HM_RST_STAT_LANTERN 0).put HM_RST_STAT_RESTART_STATE 2
  let s := s.quayList.foldl (fun s q => s.put (QY_CLEAR_STAT_LANTERN q) 0) s
  (s.logHm 0x0C0E (coreCount s.cores) (s.time.tick - s.rst.lanternTick) 0 s.tick32).note 2 0 0 0 0 0

/-- DUMP (R525): HM_RST_OP with OP 7. The operation ends when the dump has been taken or skipped. -/
def State.dumpOp (s : State) (kind p q : Nat) : State :=
  let s := ((s.put HM_RST_ARG_KIND kind).put HM_RST_ARG_PTILE p).put HM_RST_ARG_QUAY q
  if kind = 0 ∨ 3 < kind ∨ (kind = 2 ∧ s.nQuays ≤ q) ∨ (kind = 1 ∧ s.nQuays ≤ quayOf p) then s.rstEnd true
  else
    let (s, taken) := s.startDump dkHost kind (if kind = 1 then p else q)
    if taken then { s.put HM_RST_OP_BUSY 1 with rst.op := some ⟨7, q, 0, 0, 0, 0, false, true, []⟩ }
    else s.rstEnd true

/-- DUMP_DONE (R525, R527): the staging ends; a quay that was being dumped is then reset. -/
def State.dumpDone (s : State) (ext : List (BitVec 64)) : State :=
  match s.rst.dump with
  | none => s
  | some d =>
    if d.staged then s
    else
      let img := s.dumpImage d ext
      let s := s.writeWords (hsAddr (s.get HM_RST_DUMP_OFF)) img
      let s := ((s.put HM_RST_DUMP_HELD 1).put HM_RST_DUMP_KIND d.kind).put HM_RST_DUMP_COPIED 0
      let s := (s.put HM_RST_DUMP_BYTES (8 * img.length)).count HM_RST_CNT_DUMPS 1
      let s := s.logHm 0x0C0B d.kind (8 * img.length) d.voids.length s.tick32
      let s := { s with rst.dump := some { d with staged := true } }
      let s := if d.kind = 2 ∧ s.quayState d.unit = 1 then s.quayDown d.unit else s
      match s.rst.op with
      | some o => if o.op = 7 then s.rstEnd false else s
      | none => s

/-- DUMP_COPY_DONE (R525). With STORE_EN at 0 no copy runs (R696). -/
def State.dumpCopied (s : State) : State :=
  match s.rst.dump with
  | some d => if d.staged && s.flag HM_LOG_CTL_STORE_EN then { s.put HM_RST_DUMP_COPIED 1 with rst.dump := none } else s
  | none => s

/-- The watchdogs' tick counts (R538, R542), at every strobe. -/
def State.idleTicks (s : State) : State :=
  let up := fun (s : State) (f : Fld) => s.put f (min 4 (s.get f + 1))
  let s := if s.lantern || s.flag HM_TRIPLEX_STAT_ABSENT then s else up s HM_RST_STAT_IDLE_TICKS
  s.quayList.foldl (fun s q => if s.quayState q = 0 then up s (QY_RST_WDOG_IDLE_TICKS q) else s) s

/-! ### Outvoted cores (R492, R496) -/

/-- A triplex core leaves the triplex. -/
def State.coreOut (s : State) (n : Nat) (forced : Bool) : State :=
  -- the core's domain is reset: its key copies are lost (R517)
  let s := ((s.setCores (clrBitN s.cores n)).coreKeysBlank n).alarm 2
  if forced && s.flag HM_FAULT_CTL_FORCE_NOCOLOUR then s.logColour 0 (srcWord tyTriplex 0 n) (s.unit (ukCore n)).colour vermilion n
  else s.setUnitColour (ukCore n) vermilion

/-- The highest-numbered core in service. -/
def State.topCore (s : State) : Nat := if s.cores.testBit 2 then 2 else if s.cores.testBit 1 then 1 else 0

/-- DUPLEX_MISMATCH (R492, R495, R528). -/
def State.duplexMismatch (s : State) (forced : Bool) : State :=
  if s.inLantern then s
  else
    let s := s.latchHm 9 forced 0
    let s := (s.waferBreakwater 9 false).pullHw1 2 0 0 0 8
    let s := (List.range 3).foldl (fun s n => if s.cores.testBit n then s.coreOut n forced else s) s
    s.enterLantern 1

/-- TRIPLEX_VOTE (R492): in duplex a disagreement is DUPLEX_MISMATCH. -/
def State.triplexVote (s : State) (core addr : Nat) (forced : Bool) : State :=
  let core := core % 3
  if coreCount s.cores < 3 then s.duplexMismatch forced
  else
    let s := (s.latchHm 8 forced 0).coreOut core forced
    s.logHm 0x0B08 core (if forced then 0 else addr) (coreCount s.cores) s.tick32

/-- IRAM_UE (R492): as an outvoted core, or Lantern mode in duplex. -/
def State.iramUe (s : State) (core : Nat) (forced : Bool) : State :=
  let three := decide (coreCount s.cores = 3)
  let s := s.latchHm 11 forced 0
  if three then s.coreOut (core % 3) forced else s.enterLantern 2

/-- LOCKSTEP_MISMATCH (R491): the control-core pair of quay `q` disagrees; bit 8, or bit 10 for an uncorrectable RAM word. -/
def State.lockstepMismatch (s : State) (q addr b : Nat) (forced : Bool) : State :=
  let s := s.latchQuay q b forced 0
  let s := s.regionBreakwater q b false
  let s := s.modQuay q (fun t => { t with mismatches := t.mismatches + 1 })
  let n := (s.quay q).mismatches
  let s := s.logQuay q 0x0B07 q n addr s.tick32
  let s := if forced && s.flag HM_FAULT_CTL_FORCE_NOCOLOUR then (if (s.quay q).colour = green then s.askQuayColour q amber true else s) else s.quayAmber q
  if 2 ≤ n then s.quayDecided q 2 forced else s

end Sys2Proof.Machine
end

