-- ==== Sys2Proof/Machine/Customs.lean ====
section
/-!
DEFINITION. Customs (chapter 05): the dispute queue, the exact evaluation, the verdict table, what a verdict does, and the harvest ring.
-/

namespace Sys2Proof.Machine

/-- Customs runs: neither Lantern mode nor a triplex pause (R188, R203, R601). -/
def State.customsRuns (s : State) : Bool := !s.lantern && !s.flag HM_TRIPLEX_STAT_ABSENT

def State.showQueue (s : State) : State := s.put HM_CUS_STAT_QDEPTH s.customs.queue.length

def State.entry (s : State) (slot : Nat) : Option CusEntry := s.customs.queue.find? (fun (e : CusEntry) => e.id = slot)

def State.setEntry (s : State) (x : CusEntry) : State :=
  { s with customs.queue := s.customs.queue.map (fun (e : CusEntry) => if e.id = x.id then x else e) }

/-! ### Arrival (R185 to R188) -/

/-- Insert a message after those that R17 serves before it (N = 64, quay number). -/
def State.insMsg (s : State) (m : DispMsg) : List DispMsg → List DispMsg
  | [] => [m]
  | x :: t => if (m.quay + 64 - s.jt % 64) % 64 < (x.quay + 64 - s.jt % 64) % 64 then m :: x :: t else x :: s.insMsg m t

def State.msgOrder (s : State) (l : List DispMsg) : List DispMsg := l.foldl (fun acc m => s.insMsg m acc) []

/-- The capture a message speaks of is no longer whole in its quay (R200, R365). -/
def State.captGone (s : State) (m : DispMsg) : Bool :=
  match m.capt with
  | some c => !(s.capt m.quay c).done || decide ((s.capt m.quay c).berth ≠ m.berth)
  | none => false

/-- W0 of a queue entry (R186). -/
def DispMsg.w0 (m : DispMsg) : Nat :=
  m.quay % 64 + m.berth % 2 ^ 9 * 2 ^ 6 + m.capt.getD 0 % 64 * 2 ^ 15 + m.kind % 8 * 2 ^ 21 + bit m.far * 2 ^ 24
    + bit m.witnessNone * 2 ^ 25 + bit m.capt.isNone * 2 ^ 26

/-- The first free slot of the queue from the next one on. -/
def State.queueSlot (s : State) : Nat :=
  let n := s.customs.nextId
  (((List.range 256).map (fun i => (n + i) % 256)).find? (fun i => (s.entry i).isNone)).getD (n % 256)

/-- A refused message stays with its quay (R188). -/
def State.refuseMsg (s : State) (m : DispMsg) : State :=
  let s := s.modQuay m.quay (fun t => { t with refusedMsgs := t.refusedMsgs ++ [m] })
  if s.customs.refusedNow.contains m.quay then s
  else
    let s := { s with customs.refusedNow := s.customs.refusedNow ++ [m.quay] }
    s.logHm 0x0402 m.quay (s.get HM_CUS_STAT_QDEPTH) s.tick32 0

/-- A message is queued or refused (R186, R188). -/
def State.takeMsg (s : State) (m : DispMsg) : State :=
  if !s.customsRuns || decide (256 ≤ s.customs.queue.length) then s.refuseMsg m
  else
    let slot := s.queueSlot
    let e : CusEntry := ⟨m, s.tide, slot, none, 0, [], none, none, none, Berth.free, Capt.free, s.captGone m, s.now, false, 0, none⟩
    let s := { s with customs.queue := s.customs.queue ++ [e], customs.nextId := (slot + 1) % 256 }
    (s.writeWords (hsAddr (s.get HM_CUS_QBASE_QOFF + 64 * slot)) [BitVec.ofNat 64 m.w0, BitVec.ofNat 64 s.tide, 0, 0, 0, 0, 0, 0]).showQueue

/-- DISPUTE_MESSAGE (R187): the `n` oldest messages on their way arrive in one cycle. -/
def State.disputeMessage (s : State) (n : Nat) : State :=
  let l := s.msgOrder (s.disputes.take n)
  l.foldl (fun s m => s.takeMsg m) { s with disputes := s.disputes.drop n }

/-- DISPUTE_RESEND (R188): the quays `qs` send again what they were refused; the messages arrive in one cycle and are taken in the order of R187. -/
def State.disputeResend (s : State) (qs : List Nat) : State :=
  let l := s.msgOrder (qs.eraseDups.flatMap (fun q => (s.quay q).refusedMsgs))
  l.foldl (fun s m => s.takeMsg m) (qs.foldl (fun s q => s.modQuay q (fun t => { t with refusedMsgs := [] })) s)

/-- At a tick strobe QFULL shows whether a message was refused in the last tick (R205). -/
def State.customsTick (s : State) : State :=
  { s.put HM_CUS_STAT_QFULL (bit (!s.customs.refusedNow.isEmpty)) with customs.refusedNow := [] }

/-- At a round boundary the counts of R194 start again. -/
def State.customsRound (s : State) : State := { s with customs.nondet := [], customs.misses := [] }

/-! ### What the capture holds (R159, R189) -/

def Beat.lanes (b : Beat) : Nat := b.info.toNat / 2 ^ 4 % 2 ^ 7
def Beat.panel (b : Beat) : Nat := b.info.toNat / 2 ^ 11 % 2 ^ 9
def Beat.first (b : Beat) : Nat := b.info.toNat / 2 ^ 20 % 2 ^ 8
def Beat.col (b : Beat) : Nat := b.info.toNat / 2 ^ 28 % 2 ^ 8

/-- The shadow's beats with every beat the witness showed differently in its place. -/
def substBeats (base diff : List Beat) : List Beat :=
  base.filter (fun b => !diff.any (fun d => decide (d.index = b.index))) ++ diff

/-- The code of element (i, l) of A, or (l, i) of B. -/
def elemCode (fmt : Nat) (beats : List Beat) (isB : Bool) (i l : Nat) : Option Nat :=
  (beats.find? (fun b => decide (b.kind = (if isB then 2 else 0)) && decide (b.panel = l) && decide (b.first ≤ i) && decide (i < b.first + b.lanes))).map
    (fun b => lane b.data (elemBits fmt) (i - b.first))

/-- The scale of row or column `i` for the block of panel `l`. -/
def scaleCode (beats : List Beat) (isB : Bool) (i l : Nat) : Option Nat :=
  (beats.find? (fun b => decide (b.kind = (if isB then 3 else 1)) && decide (b.panel / 32 = l / 32) && decide (b.first ≤ i)
    && decide (i < b.first + b.lanes))).map (fun b => lane b.data 8 (i - b.first))

/-- The value of an operand, scaled for MXFP4 (R116); one the capture does not show adds nothing. -/
def operand (fmt : Nat) (beats : List Beat) (isB : Bool) (i l : Nat) : Num :=
  match elemCode fmt beats isB i l with
  | none => .zero
  | some c =>
    let x := decElem fmt c
    if fmt = fmtMxfp4 then
      match scaleCode beats isB i l with
      | some k => x.mul (decE8m0 k)
      | none => .zero
    else x

/-- The code of result (i, j). -/
def resultCode (fmt : Nat) (beats : List Beat) (i j : Nat) : Option Nat :=
  (beats.find? (fun b => decide (b.kind = 4) && decide (b.first = i) && decide (b.col ≤ j) && decide (j < b.col + b.lanes))).map
    (fun b => lane b.data (resBits fmt) (j - b.col))

/-- The tap signature of write-back beats (R64). -/
def beatsSig (fmt : Nat) (beats : List Beat) : BitVec 64 :=
  (beats.filter (fun b => b.kind = 4)).foldl (fun c b => c ^^^ wbSig fmt b.data b.lanes b.first b.col) 0

/-! ### The exact evaluation (R181, R182, R189, R190) -/

/-- The residue modulus of R183. -/
def resMod : Nat := 2 ^ 61 - 1

/-- A term is added into an accumulator at its limb offset, and into the residue by itself (R181 to R183). No term a unit forms has bits below bit 0. -/
def Limbs.add (a : Limbs) : Num → Limbs
  | .fin m e =>
    let v := shl m (e + 2176)
    { a with val := a.val + BitVec.ofInt 4352 v, residue := (((a.residue : Int) + v) % resMod).toNat }
  | .inf false => { a with pInf := true }
  | .inf true => { a with nInf := true }
  | .nan => { a with isNan := true }

/-- The value an accumulator and its flags stand for (R181, R182). -/
def Limbs.value (a : Limbs) : Num :=
  if a.isNan || (a.pInf && a.nInf) then .nan
  else if a.pInf then .inf false
  else if a.nInf then .inf true
  else if a.val.toInt % 2 ^ 2176 = 0 then .fin (a.val.toInt / 2 ^ 2176) 0
  else .fin a.val.toInt (-2176)

/-- The accumulator reduced modulo 2^61 - 1 is the residue kept (R183). -/
def Limbs.intact (a : Limbs) : Bool := decide (a.val.toInt % resMod = a.residue)

/-- The exact sum of products for result (i, j) in X, and of their magnitudes in T (DESIGN CHOICE, notes/assumptions/134.md). -/
def CusUnit.sums (fmt k : Nat) (beats : List Beat) (i j : Nat) : CusUnit :=
  (List.range k).foldl (fun a l =>
    let p := (operand fmt beats false i l).mul (operand fmt beats true j l)
    { a with x := a.x.add p, t := a.t.add p.abs }) CusUnit.idle

/-- x and μ of result (i, j) (R189). -/
def exactAt (fmt k : Nat) (beats : List Beat) (i j : Nat) : Num × Num :=
  let a := CusUnit.sums fmt k beats i j
  (a.x.value, a.t.value)

/-- Round toward +∞ at bit 0 of the accumulator, weight 2^-2176 (R190). -/
def ceilLimb : Num → Num
  | .fin m e => if -2176 ≤ e then .fin m e else .fin (-(-m / shl 1 (-2176 - e))) (-2176)
  | x => x

/-- β of R190. -/
def errorBound (d : BitVec 64) (tol : TolFld) (mu : Num) : Num :=
  let fmt := dFmt d
  let u : Num := .fin (shl 1 tol.uscale) (if fmt = fmtFp64 then -53 else -24)
  let a := ((Num.ofInt ((dK d + 2 + tol.extra : Nat))).mul u).mul mu
  ceilLimb (if tol.ftz then a.add (.fin (dK d) (if fmt = fmtFp64 then -1022 else -126)) else a)

/-- A unit forms the test of result (i, j) of value code `code`: x in X, c - x in D, β in U (R190). -/
def CusUnit.test (d : BitVec 64) (tol : TolFld) (beats : List Beat) (i j : Nat) (code : Option Nat) : CusUnit :=
  let a := CusUnit.sums (dFmt d) (dK d) beats i j
  match code with
  | none => a
  | some c => { a with d := (Limbs.zero.add (decRes (dFmt d) c)).add a.x.value.neg, u := Limbs.zero.add (errorBound d tol a.t.value) }

/-- One result passes the engine error-bound test (R190). -/
def CusUnit.passes (a : CusUnit) (fmt : Nat) (code : Option Nat) : Bool :=
  match code with
  | none => false
  | some c =>
    let x := a.x.value
    if fmt = fmtInt8 then decide (mod32 x = .fin (c % 2 ^ 32 : Nat) 0)
    else
      match decRes fmt c with
      | .nan => decide (x = .nan)
      | .inf neg => decide (x = .inf neg)
      | .fin _ _ => x.isFin && a.d.value.abs.le a.u.value

/-- The positions of a tile in order of i and then j. -/
def positions (d : BitVec 64) : List (Nat × Nat) :=
  (List.range (dM d)).flatMap (fun i => (List.range (dN d)).map (fun j => (i, j)))

/-- What the evaluation of a dispute finds: the disputed set, the positions of it at which the shadow's and the witness's run fail, and what the unit's
accumulators hold after the last position. -/
structure Evaluation where
  disputed : List (Nat × Nat)
  failS : List (Nat × Nat)
  failW : List (Nat × Nat)
  last : Option CusUnit
  deriving DecidableEq, Repr

/-- The witness's run is in the capture. -/
def CusEntry.witness (e : CusEntry) : Bool := !e.capt.witnessNone

def CusEntry.desc (e : CusEntry) : BitVec 64 := e.msg.desc

/-- Witness operands and write-backs (R189). -/
def CusEntry.opW (e : CusEntry) : List Beat := substBeats e.capt.s0 e.capt.s2
def CusEntry.resW (e : CusEntry) : List Beat := substBeats e.capt.s1 e.capt.s3

/-- Evaluate a dispute over its disputed set (R189, R190). -/
def CusEntry.evaluate (e : CusEntry) (tol : TolFld) : Evaluation :=
  let d := e.desc
  let f := dFmt d
  let all := decide (e.msg.kind = 3) || !e.witness
  let p := (positions d).filter (fun x => all || decide (resultCode f e.capt.s1 x.1 x.2 ≠ resultCode f e.resW x.1 x.2))
  let test := fun (ops res : List Beat) (x : Nat × Nat) => CusUnit.test d tol ops x.1 x.2 (resultCode f res x.1 x.2)
  let fails := fun (ops res : List Beat) => p.filter (fun x => !(test ops res x).passes f (resultCode f res x.1 x.2))
  ⟨p, fails e.capt.s0 e.capt.s1, if e.witness then fails e.opW e.resW else [],
    p.getLast?.map (fun x => if e.witness then test e.opW e.resW x else test e.capt.s0 e.capt.s1 x)⟩

/-! ### The verdict table (R193) -/

def vCore : Nat := 1
def vShadow : Nat := 2
def vBollard : Nat := 3
def vNondet : Nat := 4
def vPredictor : Nat := 5
def vUnresolved : Nat := 6
def sArray : Nat := 1
def sOperand : Nat := 2
def sOutput : Nat := 3
def sUnreproduced : Nat := 4
def sCommonMode : Nat := 5
def sNoWitness : Nat := 6
def sSignature : Nat := 7
def sChecksum : Nat := 8

def unresolved (reason : Nat) : Ruling := ⟨vUnresolved, 0, false, false, false, reason⟩
def onCore (sub : Nat) : Ruling := ⟨vCore, sub, false, false, false, 0⟩
def onShadow (sub : Nat) : Ruling := ⟨vShadow, sub, true, false, false, 0⟩

/-- Two of three signatures agree and the third differs: 1 the first is odd, 2 the second, 3 the third, 0 no majority. -/
def oddOne (a b c : BitVec 64) : Nat :=
  if b = c ∧ a ≠ b then 1 else if a = c ∧ a ≠ b then 2 else if a = b ∧ c ≠ a then 3 else 0

/-- What is known of the referee run: not asked for yet, absent, or its tap and output signatures. -/
inductive Referee where
  | unasked
  | absent
  | ran (tap out : BitVec 64)
  deriving DecidableEq, Repr

/-- Rows 9 and 10: the odd one of W5, the witness's and the referee's tap signature. -/
def refereeTap (w5 wit : BitVec 64) (operandRow : Bool) : Referee → Option Ruling
  | .unasked => none
  | .absent => some (if operandRow then unresolved 3 else ⟨vNondet, 0, false, true, false, 0⟩)
  | .ran tap _ =>
    let odd := oddOne w5 wit tap
    let r : Ruling :=
      if odd = 1 then (if operandRow then onShadow sOperand else ⟨vNondet, 0, true, false, false, 0⟩)
      else if odd = 2 then (if operandRow then onCore sOperand else ⟨vNondet, 0, false, false, false, 0⟩)
      else if operandRow then unresolved 2 else ⟨vNondet, 0, false, true, false, 0⟩
    some { r with refOdd := decide (odd = 3) }

/-- Row 17: the odd one of W6, W7 and the referee's output signature. -/
def refereeOut (w6 w7 : BitVec 64) : Referee → Option Ruling
  | .unasked => none
  | .absent => some ⟨vNondet, 0, false, true, false, 0⟩
  | .ran _ out =>
    let odd := oddOne w6 w7 out
    let r : Ruling := if odd = 1 then onCore sOutput else if odd = 2 then onShadow sOutput else ⟨vNondet, 0, false, true, false, 0⟩
    some { r with refOdd := decide (odd = 3) }

/-- Row 18. -/
def refereeMatch (w7 : BitVec 64) : Referee → Option Ruling
  | .unasked => none
  | .absent => some ⟨vNondet, 0, false, false, false, 0⟩
  | .ran _ out => some (if out = w7 then onCore sOutput else ⟨vNondet, 0, false, false, false, 0⟩)

/-- Rows 7 to 15. -/
def judgeTap (e : CusEntry) (v : Evaluation) (r : Referee) : Option Ruling :=
  let w4 := e.berth.tapO.getD 0
  let w5 := e.berth.tapS.getD 0
  let okS := v.failS.isEmpty
  let okW := v.failW.isEmpty
  if !e.witness then some (if okS then onCore sNoWitness else onShadow sArray)
  else if !e.capt.s2.isEmpty then refereeTap w5 e.capt.witSig true r
  else if okS && okW && !v.disputed.isEmpty then refereeTap w5 e.capt.witSig false r
  else if okS && okW then
    some (if w4 = e.capt.witSig then ⟨vBollard, sSignature, false, false, false, 0⟩ else onCore sUnreproduced)
  else if okS then some (onCore sArray)
  else if okW then some (onShadow sArray)
  else some ⟨vCore, sCommonMode, false, true, false, 0⟩

/-- Rows 16 to 18. -/
def judgeOutput (e : CusEntry) (r : Referee) : Option Ruling :=
  let w6 := e.berth.outO.getD 0
  let w7 := e.berth.outS.getD 0
  if e.witness && decide (e.capt.witOut = w7) then some (onCore sUnreproduced)
  else if !e.witness || decide (e.capt.witOut = w6) then refereeOut w6 w7 r
  else refereeMatch w7 r

/-- Row 1: a dispute no evaluation can settle (R183, R193), `units` being the exact units of the configuration. -/
def CusEntry.hopeless (e : CusEntry) (units : Nat) : Option Nat :=
  let twice := decide (2 ≤ e.failed.length) && (decide (units = 1) || e.failed.any (fun u => decide (some u ≠ e.failed.head?)))
  if twice then some 1
  else if e.capt.truncs % 4 ≠ 0 then some 5
  else if e.msg.capt.isNone || e.captLost then some 4
  else none

/-- The verdict table (R193): the first row of the dispute's kind whose conditions hold; `none` asks for a referee run. -/
def CusEntry.judge (e : CusEntry) (units : Nat) (v : Evaluation) (r : Referee) : Option Ruling :=
  let f := dFmt e.desc
  let w4 := e.berth.tapO.getD 0
  let w5 := e.berth.tapS.getD 0
  if e.msg.kind = 4 then some ⟨vPredictor, 0, false, false, false, 0⟩
  else
    match e.hopeless units with
    | some why => some (unresolved why)
    | none =>
      if beatsSig f e.capt.s1 ≠ w5 then some ⟨vBollard, sSignature, true, false, false, 0⟩
      else if e.witness && decide (beatsSig f e.resW ≠ e.capt.witSig) then some ⟨vBollard, sSignature, false, false, false, 0⟩
      else if e.capt.sigs.any (fun x => decide (x ≠ w5)) then some ⟨vNondet, 0, true, false, false, 0⟩
      else if e.msg.kind = 3 then
        some (if v.failS.isEmpty then ⟨vBollard, sChecksum, true, false, false, 0⟩ else onShadow sArray)
      else if e.msg.kind = 1 ∨ e.msg.kind = 5 ∧ w4 ≠ w5 then judgeTap e v r
      else judgeOutput e r

/-! ### Harvest (R195 to R199) -/

/-- Bits packed one after the other, first lowest, padded to 8 bytes. -/
def packWords (w : Nat) (l : List Nat) : List (BitVec 64) :=
  let n := (l.zipIdx).foldl (fun acc x => acc + x.1 % 2 ^ w * 2 ^ (w * x.2)) 0
  (List.range ((l.length * w + 63) / 64)).map (fun i => BitVec.ofNat 64 (n / 2 ^ (64 * i)))

/-- Zeros up to a multiple of eight words. -/
def padTo8 (l : List (BitVec 64)) : List (BitVec 64) := l ++ List.replicate ((8 - l.length % 8) % 8) 0

/-- The operands of result (i, j) (offset 0x80). -/
def CusEntry.rowCol (e : CusEntry) (i j : Nat) : List (BitVec 64) :=
  let d := e.desc
  let f := dFmt d
  let k := dK d
  let el := fun (isB : Bool) (x : Nat) => (List.range k).map (fun l => (elemCode f e.capt.s0 isB x l).getD 0)
  let sc := fun (isB : Bool) (x : Nat) => if f = fmtMxfp4 then (List.range (k / 32)).map (fun b => (scaleCode e.capt.s0 isB x (32 * b)).getD 0) else []
  packWords (elemBits f) (el false i) ++ packWords (elemBits f) (el true j) ++ packWords 8 (sc false i) ++ packWords 8 (sc true j)

/-- One record to be harvested: i, j, L, exact value, faulty and sound result, β, payload. -/
structure HarvRec where
  i : Nat
  j : Nat
  l : Nat
  exact : BitVec 64
  faulty : BitVec 64
  sound : BitVec 64
  bound : BitVec 64
  body : List (BitVec 64)
  deriving DecidableEq, Repr

/-- The bits of an exact value in the accumulator format. -/
def exactBits (f : Nat) (x : Num) : BitVec 64 :=
  if f = fmtInt8 then (match mod32 x with | .fin m _ => BitVec.ofInt 64 m | _ => 0)
  else if f = fmtFp64 then toFp64 false x else BitVec.ofNat 64 (toFp32 false x)

/-- The records of a ruling (R194, R196): for OPERAND one for each differing operand beat, else one for each position that failed. The results of an
OPERAND record are not given by the spec: free values. -/
def State.harvRecs (s : State) (e : CusEntry) (r : Ruling) (v : Evaluation) (tol : TolFld) : State × List HarvRec :=
  let d := e.desc
  let f := dFmt d
  let most := s.get HM_CUS_CTL_HARV_ELEMS
  if r.sub = sOperand then
    (e.capt.s2.take most).foldl (fun (acc : State × List HarvRec) b =>
      let a := e.capt.s0.find? (fun x => x.index = b.index)
      let ws := denseWords a.toList
      let wf := denseWords [b]
      let (f1, s) := acc.1.free
      let (f2, s) := s.free
      (s, acc.2 ++ [⟨0, 0, b.panel, 0, f1, f2, 0, if r.shadow then wf ++ ws else ws ++ wf⟩])) (s, [])
  else
    let hit := v.disputed.filter (fun x => v.failS.contains x || v.failW.contains x)
    let resF := if r.shadow then e.capt.s1 else e.resW
    let resO := if r.shadow then e.resW else e.capt.s1
    (s, (hit.take most).map (fun x =>
      let (ex, mu) := exactAt f (dK d) e.capt.s0 x.1 x.2
      let code := fun (l : List Beat) => BitVec.ofNat 64 ((resultCode f l x.1 x.2).getD 0)
      ⟨x.1, x.2, 0, exactBits f ex, code resF, if e.witness then code resO else 0,
       if f = fmtInt8 then 0 else toFp64 true (errorBound d tol mu), e.rowCol x.1 x.2⟩))

/-- A record's words and its PATTERN_ID (R196, R197). -/
def State.harvWords (s : State) (e : CusEntry) (r : Ruling) (h : HarvRec) (full : Bool) : List (BitVec 64) × Nat :=
  let d := e.desc
  let f := dFmt d
  let body := if full then padTo8 h.body else []
  let bytes := if full then (body.flatMap wordBytes).map (·.toNat) else if r.sub = sOperand then bytesOf 0 2 else [h.i, h.j]
  let id := crc32 ([f] ++ bytesOf (dK d) 2 ++ bytes)
  let units := 2 + body.length / 8
  let p := if r.shadow then e.msg.shadow else e.msg.origin
  let q := quayOf p
  let w := fun (n : Nat) => BitVec.ofNat 64 n
  ([w (r.verdict + r.sub * 2 ^ 4 + e.msg.kind * 2 ^ 8 + bit r.shadow * 2 ^ 11 + units % 2 ^ 16 * 2 ^ 16 + id * 2 ^ 32),
    d, w (e.msg.tick % 2 ^ 50),
    w (p % 2 ^ 20 + e.msg.lcore % 2 ^ 20 * 2 ^ 20 + e.msg.quay % 64 * 2 ^ 40 + s.get (BOL_CLK_DIV p) * 2 ^ 46),
    w (s.regionTemp q % 2 ^ 16 + s.regionRail q % 2 ^ 16 * 2 ^ 16 + h.i % 256 * 2 ^ 32 + h.j % 256 * 2 ^ 40 + h.l % 2 ^ 16 * 2 ^ 48),
    h.exact, h.faulty, h.sound, h.bound,
    w (s.get HM_TRIPLEX_ID_CORE_STEP + s.sp.stepping % 2 ^ 16 * 2 ^ 32 + s.start.image.version % 2 ^ 16 * 2 ^ 48),
    0, 0, 0, 0, 0, 0] ++ body, id)

/-- Write one record into the ring, behind a pad record where it does not fit before the end (R198). Gives whether it was dropped. -/
def State.harvWrite (s : State) (lcore : Nat) (words : List (BitVec 64)) (id : Nat) : State × Bool :=
  let size := 65536 * s.get HM_CUS_HARV_BASE_SIZE
  let base := hsAddr (s.get HM_CUS_HARV_BASE_OFF)
  let wr := s.get HM_CUS_HARV_WR_WR
  let rd := (s.held HM_CUS_HARV_RD).toNat % 2 ^ 22
  let len := 8 * words.length
  let room := (rd + 2 * size - wr - 64) % max 1 size
  let rest := size - wr
  let pad := if rest < len then rest else 0
  if room < pad + len then
    ((s.count HM_CUS_CNT1_HARV_DROPPED 1).logHm 0x0405 id (len / 64) room 0, true)
  else
    let s := if pad = 0 then s
      else s.writeWords (base + wr) (BitVec.ofNat 64 (pad / 64 % 2 ^ 16 * 2 ^ 16) :: List.replicate (pad / 8 - 1) 0)
    let at_ := if pad = 0 then wr else 0
    let s := (s.writeWords (base + at_) words).put HM_CUS_HARV_WR_WR ((at_ + len) % max 1 size)
    ((s.count HM_CUS_HARV_WR_WRITTEN 1).logHm 0x0404 id at_ (len / 64) lcore, false)

/-- A ruling is harvested (R194, R195). Gives whether a record was dropped. -/
def State.harvest (s : State) (e : CusEntry) (r : Ruling) (v : Evaluation) (tol : TolFld) : State × Bool :=
  let mode := s.get HM_CUS_CTL_HARVEST_MODE
  let yes := decide (r.verdict = vCore) || (decide (r.verdict = vShadow) && (decide (r.sub = sArray) || decide (r.sub = sOperand)))
  if mode = 0 ∨ !yes then (s, false)
  else
    let (s, l) := s.harvRecs e r v tol
    l.foldl (fun acc h =>
      let (words, id) := acc.1.harvWords e r h (decide (mode = 2))
      let (s, lost) := acc.1.harvWrite e.msg.lcore words id
      (s, acc.2 || lost)) (s, false)

/-! ### What a verdict does (R194) -/

/-- A soft trigger of a verdict: the tile is set Amber, or goes one step further, under code 1. -/
def State.verdictAmber (s : State) (p : Nat) : State := s.softTrigger p 1

/-- A NONDET verdict counts in its region. -/
def State.nondetVerdict (s : State) (q : Nat) : State :=
  let n := tabGet (fun _ => 0) s.customs.nondet q + 1
  let s := { s with customs.nondet := tabSet (fun _ => 0) s.customs.nondet q n }
  if n = s.get HM_CUS_CTL_NONDET_LIMIT then s.logHm 0x0407 q n s.tick32 0 else s

/-- A predictor miss counts for its logical core. -/
def State.predictorMiss (s : State) (l : Nat) : State :=
  let n := tabGet (fun _ => 0) s.customs.misses l + 1
  let s := { s with customs.misses := tabSet (fun _ => 0) s.customs.misses l n }
  if n = s.get HM_CUS_CTL_PRED_AMBER then s.softTrigger (s.server l) 2 else s

/-- The colours a verdict asks for. -/
def State.verdictColours (s : State) (e : CusEntry) (r : Ruling) : State :=
  let m := e.msg
  let s := match r.verdict with
    | 1 =>
      if r.sub = sUnreproduced then s.verdictAmber m.origin
      else if r.sub = sCommonMode then
        ((s.verdictAmber m.origin).verdictAmber m.shadow).modQuay m.quay (fun t => { t with regionFlag := true })
      else s.hardTrigger m.origin 9
    | 2 => s.hardTrigger m.shadow 9
    | 3 => s.hardTrigger (if r.shadow then m.shadow else m.origin) 9
    | 4 =>
      let s := if r.both || !r.shadow then s.verdictAmber m.origin else s
      let s := if r.both || r.shadow then s.verdictAmber m.shadow else s
      s.nondetVerdict m.quay
    | 5 => s.predictorMiss m.lcore
    | _ => (s.hardTrigger m.origin 9).verdictAmber m.shadow
  match r.refOdd, e.refTile with
  | true, some p => s.verdictAmber p
  | _, _ => s

/-- The unit that served an entry is free again (R209). -/
def State.freeUnit (s : State) (u : Option Nat) : State :=
  match u with
  | some n => (s.put (HM_CUS_UNIT_BUSY n) 0).put HM_CUS_STAT_BUSY (clrBitN (s.get HM_CUS_STAT_BUSY) n)
  | none => s

/-- The quay is told: it frees the descriptor berth and the capture berth (R150, R194). -/
def State.freeDisputed (s : State) (m : DispMsg) : State :=
  let x := s.berth m.quay m.berth
  if m.kind = 4 then s
  else if x.st = btDisputed ∧ x.desc = m.desc ∧ x.tick = m.tick then
    let s := match m.capt with | some c => s.giveCapt m.quay c | none => s
    s.freeBerth m.quay m.berth
  else s

/-- A referee's tile goes back to the pool. -/
def State.freeReferee (s : State) (e : CusEntry) : State :=
  match e.refTile with
  | some p => s.releaseShadow p e.msg.quay (hostReferee e.id)
  | none => s

/-- Count a verdict (R208). -/
def State.countVerdict (s : State) (v : Nat) : State :=
  match v with
  | 1 => s.count HM_CUS_CNT0_CORE 1
  | 2 => s.count HM_CUS_CNT0_SHADOW 1
  | 3 => s.count HM_CUS_CNT0_BOLLARD 1
  | 4 => s.count HM_CUS_CNT0_NONDET 1
  | 5 => s.count HM_CUS_CNT1_PREDICTOR 1
  | _ => s.count HM_CUS_CNT1_UNRESOLVED 1

/-- The tolerance fields Customs uses: those of the quay that raised the dispute (R190). -/
def State.customsTol (s : State) (e : CusEntry) : TolFld :=
  let f := dFmt e.desc
  let q := e.msg.quay
  ⟨s.get (QY_CSUM_TOL_F_EXTRA q f), s.get (QY_CSUM_TOL_F_USCALE q f), s.flag (QY_CSUM_TOL_F_FTZ q f)⟩

/-- The evaluation of an entry, where its row needs one. -/
def State.evaluation (s : State) (e : CusEntry) : Evaluation :=
  if e.msg.kind = 4 ∨ (e.hopeless s.sp.variant.customs).isSome then ⟨[], [], [], none⟩ else e.evaluate (s.customsTol e)

/-- CUSTOMS_VERDICT (R194, R208, R210): harvest, records, counts, colours, and the berths. -/
def State.verdict (s : State) (e : CusEntry) (r : Ruling) : State :=
  let m := e.msg
  let (s, dropped) := s.harvest e r (s.evaluation e) (s.customsTol e)
  let p := if r.shadow then m.shadow else m.origin
  let d := m.desc.toNat
  let q := quayOf p
  let s := s.logPair 0 (srcWord tyHm m.quay p) 0x0401 d (d / 2 ^ 32)
    (r.verdict + r.sub * 2 ^ 4 + m.kind * 2 ^ 8 + bit r.shadow * 2 ^ 11 + bit m.late * 2 ^ 12 + bit dropped * 2 ^ 13) (m.lcore + m.quay * 2 ^ 20)
    (s.regionTemp q) (s.regionRail q) s.tick32 e.cycles
  let s := if r.verdict = vUnresolved then s.logHm 0x0406 d (d / 2 ^ 32) r.reason m.lcore else s
  let s := s.setWord HM_CUS_LAST (BitVec.ofNat 64 (r.verdict + r.sub * 2 ^ 4 + m.quay % 64 * 2 ^ 8 + m.berth % 2 ^ 9 * 2 ^ 14
    + m.lcore % 2 ^ 20 * 2 ^ 23 + 2 ^ 63))
  let s := s.countVerdict r.verdict
  let s := (s.freeReferee e).freeDisputed m
  let s := s.verdictColours e r
  { s with customs.queue := s.customs.queue.filter (fun (x : CusEntry) => decide (x.id ≠ e.id)) }.showQueue

/-- An entry is decided: its unit is free; while Customs does not run the verdict waits with its entry (R203). -/
def State.decided (s : State) (e : CusEntry) (r : Ruling) : State :=
  let s := match e.unit with | some u => s.count (HM_CUS_UNIT_DECIDED u) 1 | none => s
  let s := s.freeUnit e.unit
  if s.customsRuns then s.verdict e r else s.setEntry { e with phase := 4, kept := some r }

/-- The verdicts kept take effect when the Harbourmaster returns (R203). -/
def State.keptVerdicts (s : State) : State :=
  s.customs.queue.foldl (fun s (e : CusEntry) => match e.kept with | some r => s.verdict e r | none => s) s

/-! ### Units (R183, R186, R191) -/

/-- Units that may take a dispute. -/
def State.freeUnits (s : State) : List Nat :=
  (List.range s.sp.variant.customs).filter (fun n =>
    (s.get HM_CUS_STAT_OK).testBit n && (s.get HM_CUS_CTL_UNIT_EN).testBit n && !(s.get HM_CUS_STAT_BUSY).testBit n)

/-- CUSTOMS_DISPATCH (R186): the head entry goes to a free unit chosen under R17. One that no evaluation can settle, and a PRED_MISS, is decided at once. -/
def State.customsDispatch (s : State) : State :=
  if !s.customsRuns || !s.flag HM_CUS_CTL_EN then s
  else
    match s.customs.queue.find? (fun (e : CusEntry) => e.phase = 0), rotWinner s.jt s.sp.variant.customs s.freeUnits with
    | some e, some u =>
      if e.msg.kind = 4 ∨ (e.hopeless s.sp.variant.customs).isSome then
        match e.judge s.sp.variant.customs ⟨[], [], [], none⟩ .unasked with
        | some r => s.decided { e with unit := some u, start := s.now } r
        | none => s
      else
        let s := (s.put (HM_CUS_UNIT_BUSY u) 1).put HM_CUS_STAT_BUSY (setBitN (s.get HM_CUS_STAT_BUSY) u)
        s.setEntry { e with unit := some u, phase := 1, start := s.now }
    | _, _ => s

/-- The entry a unit serves. -/
def State.served (s : State) (u : Nat) : Option CusEntry := s.customs.queue.find? (fun (e : CusEntry) => e.unit = some u ∧ e.phase ≠ 4)

/-- CUSTOMS_FETCH_DONE (R191): the unit holds the descriptor berth and the capture. -/
def State.customsFetched (s : State) (u : Nat) : State :=
  match s.served u with
  | none => s
  | some e =>
    if e.phase ≠ 1 then s
    else
      let e := { e with berth := s.berth e.msg.quay e.msg.berth,
                        capt := match e.msg.capt with | some c => s.capt e.msg.quay c | none => Capt.free
                        captLost := e.captLost || s.captGone e.msg, phase := 2, start := s.now }
      if e.captLost then
        let e := { e with capt := Capt.free }
        s.decided e (unresolved 4)
      else s.setEntry e

/-- A residue mismatch (R183): the evaluation is discarded and the entry is at the head of the queue again, or
decided where it has failed on two units, or twice on the only one. -/
def State.residueFault (s : State) (e : CusEntry) (u : Nat) (forced : Bool) : State :=
  let s := s.count (HM_CUS_UNIT_RESIDUE_FAULTS u) 1
  let s := s.logHm 0x0403 u e.msg.quay e.msg.berth (s.get (HM_CUS_UNIT_RESIDUE_FAULTS u))
  let again := decide (0 < (s.unit (ukCustoms u)).events)
  let recorded := forced && s.flag HM_FAULT_CTL_FORCE_NOCOLOUR
  let s := if recorded then s.logColour 0 (srcWord tyCustoms 0 u) (s.unit (ukCustoms u)).colour amber u else s.unitAmber (ukCustoms u)
  let s := if !recorded ∧ again ∧ (s.unit (ukCustoms u)).colour < vermilion then s.setUnitColour (ukCustoms u) vermilion else s
  let s := s.freeUnit (some u)
  let e := { e with unit := none, phase := 0, failed := e.failed ++ [u] }
  let s := { s with customs.queue := e :: s.customs.queue.filter (fun (x : CusEntry) => decide (x.id ≠ e.id)) }
  match e.hopeless s.sp.variant.customs with
  | some why => s.decided e (unresolved why)
  | none => s

/-- A spare for the referee run (R192): a free spare that is neither the shadow nor the witness. -/
def State.refereeSpare (s : State) (e : CusEntry) : Option Nat :=
  let q := e.msg.quay
  s.nearest e.msg.shadow ((regionOf q).filter (fun p =>
    s.isFree p && s.claimable p && decide ((s.tile p).hosts = []) && decide (p ≠ e.msg.shadow) && decide (p ≠ e.msg.origin)))

/-- The referee run starts when a spare qualifies: a tender copies the inputs to it from the shadow (R192). -/
def State.refereeTake (s : State) (e : CusEntry) : State :=
  match s.refereeSpare e with
  | none => s
  | some p =>
    let q := e.msg.quay
    let x := s.berth q e.msg.berth
    let s := s.chargeCopy q e.msg.shadow p x.copy e.desc
    let s := (s.makeShadow p).modTile p (fun t => { t with hosts := t.hosts ++ [(q, hostReferee e.id)] })
    (s.setEntry { e with refTile := some p, refReady := false }).queueWork q (e.msg.berth % 8) (.referee e.id)

/-- At a tick strobe the requests that have no spare are tried again (R192). -/
def State.refereeTick (s : State) : State :=
  s.customs.queue.foldl (fun s (e : CusEntry) => if e.phase = 3 ∧ e.refTile.isNone then s.refereeTake e else s) s

/-- What is known of an entry's referee run. -/
def State.refereeOf (s : State) (e : CusEntry) : Referee :=
  match e.refSig with
  | some x => .ran x.1 x.2
  | none => if s.flag HM_CUS_CTL_REFEREE_EN then .unasked else .absent

/-- Decide an evaluated entry, or ask for the referee run. -/
def State.settleEntry (s : State) (e : CusEntry) (r : Referee) : State :=
  match e.judge s.sp.variant.customs (s.evaluation e) r with
  | some r => s.decided e r
  | none =>
    if e.refAsked.isSome then s.setEntry { e with phase := 3 }
    else
      let e := { e with phase := 3, refAsked := some s.now }
      ((s.count HM_CUS_CNT1_REFEREE_RUNS 1).setEntry e).refereeTake e

/-- Upsets of accumulators: the accumulator (0 X, 1 U, 2 D, 3 T) and the bit of its limbs. -/
def CusUnit.upset (a : CusUnit) (l : List (Nat × Nat)) : CusUnit :=
  let flip := fun (n : Nat) (x : Limbs) => { x with val := (l.filter (fun f => f.1 = n)).foldl (fun v f => v ^^^ (1#4352 <<< f.2)) x.val }
  ⟨flip 0 a.x, flip 1 a.u, flip 2 a.d, flip 3 a.t⟩

def CusUnit.intact (a : CusUnit) : Bool := a.x.intact && a.u.intact && a.d.intact && a.t.intact

/-- CUSTOMS_EVAL_END (R193), the residue being right: the dispute is decided or a referee run requested. -/
def State.evalEnd (s : State) (u : Nat) : State :=
  match s.served u with
  | none => s
  | some e => if e.phase = 2 then s.settleEntry e (s.refereeOf e) else s

/-- REFEREE_RESULT (R192, R201): the signatures are kept with the entry, and decide it once it is evaluated. -/
def State.refereeResult (s : State) (slot : Nat) (tap out : BitVec 64) : State :=
  match s.entry slot with
  | none => s
  | some e =>
    if e.refTile.isNone ∨ !e.refReady ∨ e.refSig.isSome then s
    else
      let s := s.freeReferee e
      let e := { e with refSig := some (tap, out) }
      let s := s.setEntry e
      if e.phase = 3 then s.settleEntry e (.ran tap out) else s

/-- REFEREE_TIMEOUT (R192): no spare within 4 ticks. -/
def State.refereeTimeout (s : State) (slot : Nat) : State :=
  match s.entry slot with
  | none => s
  | some e =>
    match e.refAsked with
    | none => s
    | some m => if e.phase = 3 ∧ e.refTile.isNone ∧ m.tick + 4 ≤ s.time.tick then s.settleEntry e .absent else s

end Sys2Proof.Machine
end

