-- ==== Sys2Proof/Machine/Library.lean ====
section
/-!
DEFINITION. The pattern library and the pattern port (chapter 08, R317 to R322, R329): segments, the contents of the quays' test areas, programming, erasing
and the rescan. The flash device lies outside the block: what it answers comes with FLASH_ACCESS_DONE.
-/

namespace Sys2Proof.Machine

/-! ### The test area (R320) -/

/-- Bytes of the test table, and of a content half. -/
def testTableBytes : Nat := 245760
def State.halfBytes (s : State) (q : Nat) : Nat := (65536 * s.get (QY_TEST_BASE_SIZE q) - testTableBytes) / 2

/-- HPORT address of a content half, and of a tile's test table entry. -/
def State.halfAddr (s : State) (q h : Nat) : Nat := qsAddr q (s.get (QY_TEST_BASE_OFF q) + testTableBytes + h * s.halfBytes q)
def State.tableAddr (s : State) (p : Nat) : Nat := qsAddr (quayOf p) (s.get (QY_TEST_BASE_OFF (quayOf p)) + 16 * localOf p)

def State.libSet (s : State) (q h : Nat) : LibSet := tabGet (fun _ => LibSet.empty) s.test.sets (2 * q + h)
def State.setLib (s : State) (q h : Nat) (x : LibSet) : State :=
  { s with test.sets := tabSet (fun _ => LibSet.empty) s.test.sets (2 * q + h) x }

/-- Bytes of the logic content of a half: the TYPE 1 payload, then the TYPE 2 payload; the vectors follow. -/
def LibSet.len1 (x : LibSet) : Nat := 160 * x.items1
def LibSet.len2 (x : LibSet) : Nat := 40 * x.items2

/-- The expected signature of interval `i` of LBIST slice `j`, and of pattern `n` of top-up slice `t` (R308, R318). -/
def State.lbistSig (s : State) (q h j i : Nat) : BitVec 64 := s.readW (s.halfAddr q h + 160 * j + 32 + 8 * i)
def State.topupSig (s : State) (q h t n : Nat) : BitVec 64 :=
  let x := s.libSet q h
  s.readW (s.halfAddr q h + x.len1 + 40 * (x.pats2 * t + n) + 32)

/-- The seed of LBIST slice `j`, or of pattern `n` of top-up slice `j` (R308, R318). -/
def State.scanSeed (s : State) (q h kind j n : Nat) : BitVec 256 :=
  let x := s.libSet q h
  let a := s.halfAddr q h + (if kind = 1 then 160 * j else x.len1 + 40 * (x.pats2 * j + n))
  BitVec.ofNat 256 (bytesNat (s.readBytes a 32))

/-- Patterns of top-up slice `t`. -/
def LibSet.topupPats (x : LibSet) (t : Nat) : Nat := min x.pats2 (x.items2 - x.pats2 * t)

/-! ### Segments (R317 to R319) -/

def libMagic : Nat := 0x53504C42

/-- A number of `n` bytes at offset `o` of a byte list. -/
def numAt (l : List (BitVec 8)) (o n : Nat) : Nat := bytesNat ((l.drop o).take n)

/-- The CRC of a segment image is good (R317). -/
def segCrc (l : List (BitVec 8)) : Bool :=
  let len := numAt l 12 4
  decide (64 + len ≤ l.length)
    && decide (crc32 (((l.take 56) ++ ((l.drop 64).take len)).map (·.toNat)) = numAt l 56 4)

/-- Why a segment is rejected (R319, R339): 1 CRC, 2 stepping, 3 CHAIN_LEN, 4 PATS; 0 accepted. -/
def State.segReason (s : State) (l : List (BitVec 8)) : Nat :=
  let pats := numAt l 28 4
  let ty := numAt l 4 1
  if !segCrc l then 1
  else if numAt l 16 4 ≠ s.get HM_TRIPLEX_ID_CORE_STEP ∨ s.sp.stepping < numAt l 20 2 then 2
  else if numAt l 22 2 ≠ s.sp.chainLen then 3
  else if ty ≠ 3 ∧ (pats * (s.sp.chainLen + 4) > 2200000 ∨ pats % 16 ≠ 0) then 4
  else 0

def Seg.parse (addr : Nat) (l : List (BitVec 8)) : Seg :=
  ⟨numAt l 4 1, numAt l 8 4, addr, numAt l 24 4, numAt l 28 4, (l.drop 64).take (numAt l 12 4)⟩

/-- The segment of a logic type that is used: the highest SEQ, the lower address on a tie. -/
def bestSeg (ty : Nat) (l : List Seg) : Option Seg :=
  (l.filter (fun x => decide (x.ty = ty))).foldl (fun b x =>
    match b with
    | none => some x
    | some y => if y.seq < x.seq ∨ (y.seq = x.seq ∧ x.addr < y.addr) then some x else some y) none

/-- Insert by rising SEQ, then address. -/
def insSeg (x : Seg) : List Seg → List Seg
  | [] => [x]
  | y :: t => if x.seq < y.seq ∨ (x.seq = y.seq ∧ x.addr < y.addr) then x :: y :: t else y :: insSeg x t

/-- The vectors of a payload, at most `n`: identifier and bytes. -/
def splitVecs : Nat → List (BitVec 8) → List (Nat × List (BitVec 8))
  | 0, _ => []
  | n + 1, l =>
    let len := 64 * numAt l 4 2
    if l.length < 64 ∨ len = 0 then []
    else (numAt l 0 4, l.take len) :: splitVecs n (l.drop len)

/-- The vectors in use, in ascending SEQ, those whose PATTERN_ID has appeared left out: segment SEQ and bytes. -/
def usedVecs (segs : List Seg) : List (Nat × List (BitVec 8)) :=
  let l := ((segs.filter (fun x => decide (x.ty = 3))).foldl (fun a x => insSeg x a) []).flatMap
    (fun x => (splitVecs x.items x.payload).map (fun v => (x.seq, v)))
  (l.foldl (fun (a : List Nat × List (Nat × List (BitVec 8))) v =>
    if a.1.contains v.2.1 then a else (v.2.1 :: a.1, a.2 ++ [(v.1, v.2.2)])) ([], [])).2

/-- As many vectors as fit in `room` bytes. -/
def fitVecs : Nat → List (Nat × List (BitVec 8)) → List (Nat × List (BitVec 8))
  | _, [] => []
  | room, v :: t => if v.2.length ≤ room then v :: fitVecs (room - v.2.length) t else []

/-- Offset, bytes and SEQ of each vector from offset `o`. -/
def vecIndex : Nat → List (Nat × List (BitVec 8)) → List (Nat × Nat × Nat)
  | _, [] => []
  | o, v :: t => (o, v.2.length, v.1) :: vecIndex (o + v.2.length) t

/-- A slice of quay `q` is running. -/
def State.slicing (s : State) (q : Nat) : Bool :=
  s.test.slots.any (fun x => decide (x.1 / 65536 = q) && (match x.2 with | some t => decide (t.phase = 2) | none => false))

/-- The inactive half becomes active at a point at which no slice of the quay runs (R320). -/
def State.switchHalf (s : State) (q : Nat) : State :=
  if s.test.waiting.contains q ∧ ¬ s.slicing q then
    let s := s.put (QY_TEST_STAT_HALF q) (1 - s.get (QY_TEST_STAT_HALF q))
    { s with test.waiting := s.test.waiting.filter (fun x => decide (x ≠ q)) }
  else s

/-- The content of the accepted segments is written into half `h` of quay `q`. -/
def State.writeHalf (s : State) (q h : Nat) : State :=
  let one := bestSeg 1 s.test.segs
  let two := bestSeg 2 s.test.segs
  let x : LibSet := {
    seq1 := (one.map (·.seq)).getD 0, items1 := (one.map (·.items)).getD 0, pats1 := (one.map (·.pats)).getD 0
    seq2 := (two.map (·.seq)).getD 0, items2 := (two.map (·.items)).getD 0, pats2 := (two.map (·.pats)).getD 0, vecs := [] }
  let vs := fitVecs (s.halfBytes q - x.len1 - x.len2) (usedVecs s.test.segs)
  let s := s.writeBytes (s.halfAddr q h) (((one.map (·.payload)).getD []).take x.len1)
  let s := s.writeBytes (s.halfAddr q h + x.len1) (((two.map (·.payload)).getD []).take x.len2)
  let s := s.writeBytes (s.halfAddr q h + x.len1 + x.len2) (vs.flatMap (·.2))
  s.setLib q h { x with vecs := vecIndex 0 vs }

/-- New content is written into the inactive half of quay `q` (R320). -/
def State.loadHalf (s : State) (q : Nat) : State :=
  let s := s.writeHalf q (1 - s.get (QY_TEST_STAT_HALF q))
  let s := { s with test.waiting := q :: s.test.waiting.filter (fun y => decide (y ≠ q)) }
  s.switchHalf q

/-- LIB_LOADED (R339). -/
def State.logSeg (s : State) (x : Option Seg) : State :=
  match x with
  | some x => s.logHm 0x0708 x.ty x.seq x.items (s.get HM_TRIPLEX_ID_CORE_STEP)
  | none => s

/-- The end of a rescan (R319, R320, R336): the sectors that begin with MAGIC, with the bytes read from each. -/
def State.rescanned (s : State) (found : List (Nat × List (BitVec 8))) : State :=
  let found := found.filter (fun x => decide (numAt x.2 0 4 = libMagic) && decide (64 ≤ x.2.length))
  let s := { s with test.segs := [] }
  let (s, bad) := found.foldl (fun (a : State × Nat) x =>
    let r := a.1.segReason x.2
    if r = 0 then ({ a.1 with test.segs := a.1.test.segs ++ [Seg.parse x.1 x.2] }, a.2)
    else (a.1.logHm 0x0709 (x.1 / 65536) r (numAt x.2 8 4) (numAt x.2 4 1), a.2 + 1)) (s, 0)
  let one := bestSeg 1 s.test.segs
  let two := bestSeg 2 s.test.segs
  let three := s.test.segs.filter (fun x => decide (x.ty = 3))
  let s := (s.put HM_XSPI_SEG_VALID (min s.test.segs.length 65535)).put HM_XSPI_SEG_INVALID (min bad 65535)
  let s := (s.put HM_TEST_LIB_LBIST_SEQ ((one.map (·.seq)).getD 0)).put HM_TEST_LIB_TOPUP_SEQ ((two.map (·.seq)).getD 0)
  let s := (s.put HM_TEST_STAT_LIB_OK (bit (one.isSome && two.isSome))).put HM_TEST_LIB1_VSEGS (min three.length 65535)
  let s := s.quayList.foldl (fun s q => s.loadHalf q) s
  let n := fitVecs (s.halfBytes 0 - 160 * (one.map (·.items)).getD 0 - 40 * (two.map (·.items)).getD 0) (usedVecs s.test.segs)
  let s := s.put HM_TEST_LIB1_VECTORS n.length
  three.foldl (fun s x => s.logSeg (some x)) ((s.logSeg one).logSeg two)

/-! ### The pattern port (R321, R322, R329, R337) -/

def sectorBytes : Nat := 65536
def pageBytes : Nat := 256

/-- Sectors of an operation. -/
def Flash.sectors (f : Flash) : Nat := max 1 ((f.len + sectorBytes - 1) / sectorBytes)
def Flash.pages (f : Flash) : Nat := (f.len + pageBytes - 1) / pageBytes

/-- The read of every sector's header begins (R319). -/
def State.startScan (s : State) (op : Nat) : State :=
  let s := { s with test.flash := some ⟨op, 0, 0, [], 3, 0⟩, test.rescan := false }
  (s.put HM_XSPI_OP_BUSY 1).emit (.flash 2 0 (sectorBytes * s.sp.flashSectors))

/-- The operation ends with a STATUS; a rescan that waited follows. -/
def State.flashEnd (s : State) (status : Nat) : State :=
  let own := match s.test.flash with | some f => decide (f.op ≠ 0) | none => true
  let s := { s.put HM_XSPI_OP_BUSY 0 with test.flash := none }
  let s := if own then (s.put HM_XSPI_OP_STATUS status).irq irqXspi else s
  if s.test.rescan then (s.put HM_XSPI_OP_OP 3).startScan 3 else s

/-- Start the next erase or program, if channel 23 lies in the window (R321). -/
def State.flashNext (s : State) (f : Flash) : State :=
  let a := f.addr + (if f.stage = 0 then sectorBytes * f.done else pageBytes * f.done)
  -- the check needs channel 23's reading (R321, R460)
  let s := if f.stage ≤ 1 && !s.flag (HM_THERM_VAL_VALID 23) && !s.flag (HM_THERM_VAL_FAULT 23) then (s.chFault 23 4).thermStat else s
  if f.stage ≤ 1 ∧ s.get HM_XSPI_TEMP_IN_WINDOW = 0 then
    (s.logHm 0x070B (toField (signedOf (s.get HM_XSPI_TEMP_CH23) 16) 32) a 0 0).flashEnd 1
  else
    let s := { s with test.flash := some f }
    if f.stage = 0 then s.emit (.flash 0 a sectorBytes)
    else if f.stage = 1 then s.emit (.flash 1 a pageBytes)
    else s.emit (.flash 2 f.addr (sectorBytes * f.sectors))

/-- The target sectors touch a TYPE 1 or TYPE 2 segment in use. -/
def State.touchesLive (s : State) (f : Flash) : Bool :=
  [bestSeg 1 s.test.segs, bestSeg 2 s.test.segs].any (fun x =>
    match x with
    | some x =>
      let n := (64 + x.payload.length + sectorBytes - 1) / sectorBytes
      decide (x.addr / sectorBytes < f.addr / sectorBytes + f.sectors) && decide (f.addr / sectorBytes < x.addr / sectorBytes + n)
    | none => false)

/-- The gate of HM_XSPI_OP: GO while BUSY is refused, but a rescan asked for while a program runs waits for its end (R329, R337). -/
def State.xspiOp (s : State) (op : Nat) (k : State → State) : State :=
  if s.flag HM_XSPI_OP_BUSY then
    match s.test.flash with
    | some f => if op = 3 ∧ f.op = 1 then { s with test.rescan := true } else s.pageErr HM_XSPI_OP errBusy
    | none => s.pageErr HM_XSPI_OP errBusy
  else k ((s.put HM_XSPI_OP_OP op).put HM_XSPI_OP_DONE 0)

/-- OP 1 and OP 2 after their checks (R322): image, device range, live segments. -/
def State.flashOp (s : State) (op : Nat) : State :=
  let len := s.get HM_XSPI_SRC_LEN
  let addr := s.get HM_XSPI_ADDR_ADDR
  let img := if op = 1 then s.readBytes (hsAddr (s.get HM_XSPI_SRC_OFF)) (min len (16 * sectorBytes)) else []
  let f : Flash := ⟨op, addr, len, img, 0, 0⟩
  if op = 1 ∧ (16 * sectorBytes < len ∨ len < 64 ∨ numAt img 0 4 ≠ libMagic ∨ !segCrc img) then s.flashEnd 6
  else if addr % sectorBytes ≠ 0 ∨ s.sp.flashSectors < addr / sectorBytes + f.sectors then s.flashEnd 5
  else if s.touchesLive f then s.flashEnd 4
  else (s.put HM_XSPI_OP_BUSY 1).flashNext f

/-- XSPI_PROGRAM, XSPI_ERASE, XSPI_RESCAN. -/
def State.xspiProgram (s : State) : State := s.xspiOp 1 (fun s => s.flashOp 1)
def State.xspiErase (s : State) : State := s.xspiOp 2 (fun s => s.flashOp 2)
def State.xspiRescan (s : State) : State := s.xspiOp 3 (fun s => s.startScan 3)

/-- The read-back of a program agrees with its image (R322). -/
def readBackOk (f : Flash) (found : List (Nat × List (BitVec 8))) : Bool :=
  let l := ((found.find? (fun x => decide (x.1 = f.addr))).map (·.2)).getD []
  segCrc l && decide (numAt l 0 4 = libMagic)

/-- A flash access of an operation ends; `ok` says that the device reported no error, `found` what a read returned: by address, the bytes
(of a scan, the sectors whose header begins with MAGIC). Gives whether a scan has ended. -/
def State.flashDone (s : State) (ok : Bool) (found : List (Nat × List (BitVec 8))) : State × Bool :=
  match s.test.flash with
  | none => (s, false)
  | some f =>
    if f.stage = 3 then
      if !ok then (s.flashEnd 3, decide (f.op = 0))
      else
        let s := s.rescanned found
        if f.op = 1 then
          let s := s.logHm 0x070A f.addr f.len 0 (numAt f.image 8 4)
          (s.flashEnd 0, false)
        else (s.flashEnd 0, decide (f.op = 0))
    else if !ok then (s.flashEnd 3, false)
    else if f.stage = 0 then
      let s := if f.op = 2 then s.put HM_XSPI_OP_DONE (sectorBytes * (f.done + 1)) else s
      if f.done + 1 < f.sectors then (s.flashNext { f with done := f.done + 1 }, false)
      else if f.op = 2 then (s.flashEnd 0, false)
      else (s.flashNext { f with stage := 1, done := 0 }, false)
    else if f.stage = 1 then
      let s := s.put HM_XSPI_OP_DONE (min f.len (pageBytes * (f.done + 1)))
      if f.done + 1 < f.pages then (s.flashNext { f with done := f.done + 1 }, false)
      else (s.flashNext { f with stage := 2, done := 0 }, false)
    else if readBackOk f found then
      let s := { s with test.flash := some { f with stage := 3, done := 0 } }
      (s.emit (.flash 2 0 (sectorBytes * s.sp.flashSectors)), false)
    else (s.flashEnd 2, false)

end Sys2Proof.Machine
end

