-- ==== Sys2Proof/Machine/Test.lean ====
section
/-!
DEFINITION. Testing in service and the start test (chapter 08, R298 to R316, R323 to R328, with R592, R593, R605): plans, slots, slices, zeroising, memory BIST and repair,
functional vectors, diagnosis, results, the retest of Octulo's own units.
-/

namespace Sys2Proof.Machine

/-! ### Operations of the triplex page (R580, R594, R609), which the start test ends -/

/-- An operation of HM_TRIPLEX_OP ends. -/
def State.tripEnd (s : State) (result : Nat) : State :=
  let s := ((s.put HM_TRIPLEX_OP_BUSY 0).put HM_TRIPLEX_OP_RESULT result).irq irqTriplex
  if result ≠ 0 then s.put HM_TRIPLEX_OP_REFUSED 1 else s

/-- Partner of an answer code of R594. -/
def answerPartner (code : Nat) : Nat :=
  match code with | 1 => 3 | 2 => 3 | 3 => 4 | 4 => 4 | 5 => 5 | 6 => 1 | _ => 2

/-- PHASE changes: the answers given meanwhile are recorded, one record per partner and code (R594). -/
def State.setPhase (s : State) (n : Nat) : State :=
  if s.phaseNo = n then s
  else
    let s := s.closed.foldl (fun s x => s.logHm 0x0E06 (answerPartner x.1) x.2 x.1 s.tick32) s
    { s with closed := [] }.put HM_TRIPLEX_STAT_PHASE n

/-! ### Plans and slots (R298, R301, R338) -/

/-- Kinds of a slice (R316). -/
def kdLbist : Nat := 1
def kdTopup : Nat := 2
def kdMarch : Nat := 3
def kdRetain : Nat := 4
def kdFunc : Nat := 5

/-- Purposes (R316). -/
def puRotate : Nat := 1
def puIdle : Nat := 2
def puRetest : Nat := 3
def puStart : Nat := 4
def puHost : Nat := 5

/-- The kinds of a plan's slices in order (R298, R592). -/
def State.plan (s : State) (purpose : Nat) : List Nat :=
  let m := s.get HM_TEST_CTL_MBIST_SL
  let mb := (if 1 ≤ m then [kdMarch] else []) ++ (if 2 ≤ m then [kdRetain] else [])
  if purpose = puStart ∧ ¬ s.flag HM_TEST_CTL_EN then mb
  else mb ++ List.replicate (s.get HM_TEST_CTL_FUNC_SL) kdFunc ++ List.replicate (s.get HM_TEST_CTL_LBIST_SL) kdLbist
    ++ List.replicate (s.get HM_TEST_CTL_TOPUP_SL) kdTopup

/-- The kind of a slot's slice, its number among the slices of its kind, and its index (a repair rerun and what follows move up by one). -/
def State.slotKind (s : State) (t : TSlot) : Nat := (s.plan t.purpose).getD t.pos 0
def State.slotNth (s : State) (t : TSlot) : Nat := (((s.plan t.purpose).take t.pos).filter (fun k => decide (k = s.slotKind t))).length
def TSlot.index (t : TSlot) : Nat := t.pos + bit t.reran

/-- The slot holds the rotation of a serving tile, one that the host named included (R281, R301). -/
def TSlot.rotates (t : TSlot) : Bool := decide (t.purpose = puRotate) || (decide (t.purpose = puHost) && decide (t.lcore ≠ 0xFFFFF))

/-- Slot `k` of quay `q`: 0 to 7 the slots of R301, 8 + l local tile `l` in the start test. -/
def tkey (q k : Nat) : Nat := q * 65536 + k % 65536
def State.tslot (s : State) (q k : Nat) : Option TSlot := tabGet (fun _ => none) s.test.slots (tkey q k)

/-- Service slots of a quay in use. -/
def State.qslots (s : State) (q : Nat) : List (Nat × TSlot) :=
  (List.range 8).filterMap (fun k => (s.tslot q k).map (fun t => (k, t)))

/-- Every service slot in use. -/
def State.allSlots (s : State) : List TSlot :=
  s.test.slots.filterMap (fun x => if x.1 % 65536 < 8 then x.2 else none)

/-- Show a quay's slots (R333, R338). -/
def State.showTest (s : State) (q : Nat) : State :=
  let s := (List.range 8).foldl (fun s k =>
    match s.tslot q k with
    | none => s.setWord (QY_TEST_SLOT q k) 0
    | some t =>
      let s := ((s.put (QY_TEST_SLOT_LTILE q k) (localOf t.p)).put (QY_TEST_SLOT_SLICE q k) t.index).put (QY_TEST_SLOT_PURPOSE q k) t.purpose
      ((s.put (QY_TEST_SLOT_VALID q k) 1).put (QY_TEST_SLOT_DIAG q k) (bit (decide (3 ≤ t.phase)))).put (QY_TEST_SLOT_WAITING q k) (bit (decide (t.phase = 1)))) s
  let l := s.qslots q
  let s := (s.put (QY_TEST_STAT_BUSY q) l.length).put (QY_TEST_STAT_ROTATING q) (l.filter (fun x => x.2.rotates)).length
  -- a slot that waits for its rotation's switch holds no tile under test yet
  let s := s.put (QY_HEALTH_CNT1_TESTING q) (l.filter (fun x => decide (x.2.phase ≠ 0))).length
  s.put HM_TEST_STAT_TESTING (s.allSlots.filter (fun t => decide (t.phase ≠ 0))).length

def State.setTslot (s : State) (q k : Nat) (t : Option TSlot) : State :=
  { s with test.slots := tabSet (fun _ => none) s.test.slots (tkey q k) t }.showTest q

/-- The slot that tests tile `p`. -/
def State.slotOf (s : State) (p : Nat) : Option (Nat × TSlot) :=
  let l := s.test.slots.filterMap (fun x => match x.2 with | some t => if t.p = p then some (x.1 % 65536, t) else none | none => none)
  l.head?

/-! ### Results (R316) -/

/-- What a result record carries beside its time and place. -/
structure TestRes where
  p : Nat
  lcore : Nat
  kind : Nat
  slice : Nat
  verdict : Nat
  purpose : Nat
  pattern : Nat
  interval : Nat
  chain : Nat
  cell : Nat
  row : Nat
  word : Nat
  bitNo : Nat
  rows : Nat
  reps : Nat
  patId : Nat
  cycles : Nat
  seq : Nat
  deriving DecidableEq, Repr

def TestRes.blank : TestRes := ⟨0, 0xFFFFF, 0, 0, 0, 0, 0, 0, 0, 0, 0, 0, 0, 0, 0, 0, 0, 0⟩

/-- The words of a result record. -/
def State.resWords (s : State) (r : TestRes) : List (BitVec 64) :=
  let q := quayOf r.p
  [ r.p % 2 ^ 20 + r.lcore % 2 ^ 20 * 2 ^ 20 + r.kind % 16 * 2 ^ 40 + r.slice % 32 * 2 ^ 44 + r.verdict % 8 * 2 ^ 49 + r.purpose % 8 * 2 ^ 52,
    s.time.tick % 2 ^ 50,
    r.pattern % 2 ^ 11 + r.interval % 16 * 2 ^ 11 + r.chain % 8 * 2 ^ 15 + r.cell % 2 ^ 16 * 2 ^ 18,
    r.row % 2 ^ 10 + r.word % 8 * 2 ^ 10 + r.bitNo % 128 * 2 ^ 13 + min r.rows 7 * 2 ^ 20 + r.reps % 4 * 2 ^ 23 + r.patId % 2 ^ 32 * 2 ^ 32,
    s.regionTemp q % 2 ^ 16 + s.regionRail q % 2 ^ 16 * 2 ^ 16 + min r.cycles 0xFFFFFFFF * 2 ^ 32,
    r.seq % 2 ^ 32, 0, 0 ].map (BitVec.ofNat 64)

/-- Write a record into the result ring, or drop it (R198, R199, R316). -/
def State.result (s : State) (r : TestRes) : State :=
  match s.ringPut (s.get HM_TEST_RES_BASE_OFF) (65536 * s.get HM_TEST_RES_BASE_SIZE) (s.get HM_TEST_RES_WR_WR) (s.getHeld HM_TEST_RES_RD_RD) (s.resWords r) with
  | (s, some w) => s.put HM_TEST_RES_WR_WR w
  | (s, none) => s.count HM_TEST_CNT1_RES_DROPPED 1

/-- The segment that supplied a slice. -/
def State.slotSeq (s : State) (q : Nat) (t : TSlot) : Nat :=
  let x := s.libSet q t.half
  match s.slotKind t with
  | 1 => x.seq1
  | 2 => x.seq2
  | 5 => (x.vecs.map (·.2.2)).headD 0
  | _ => 0

/-- A record of a slot's slice. -/
def State.slotRes (s : State) (q : Nat) (t : TSlot) (verdict : Nat) : TestRes :=
  let k := s.slotKind t
  let scan := decide (k = kdLbist ∨ k = kdTopup)
  { TestRes.blank with
    p := t.p, lcore := t.lcore, kind := k, slice := t.index, verdict := verdict, purpose := t.purpose
    pattern := if scan then s.get (BOL_SCAN_PATTERN t.p) else 0
    interval := if scan then s.get (BOL_SCAN_INTERVAL t.p) else 0
    chain := if scan then s.get (BOL_SCAN_CHAIN t.p) else 0
    cell := if scan ∧ verdict = 1 then 0xFFFF else 0
    row := t.rows.headD 0, word := t.word, bitNo := t.bitNo, rows := t.rows.length, reps := s.get (BOL_MBIST_REPN t.p)
    cycles := (s.since t.since).toNat, seq := s.slotSeq q t }

/-! ### Zeroising (R80, R305) -/

/-- Pulse ZEROISE. -/
def State.zeroise (s : State) (p : Nat) : State :=
  ((s.put (BOL_SCAN_ZERO_OK p) 0).setEngine p { s.engine p with zeroAt := some s.now }).emit (.zeroise p)

/-- ZERO_DONE has been seen high, CDOM_OK high throughout (R80). -/
def State.zeroOk (s : State) (p : Nat) : State :=
  if (s.engine p).zeroAt.isSome ∧ s.cdomOk p then (s.put (BOL_SCAN_ZERO_OK p) 1).setEngine p { s.engine p with zeroAt := none } else s

/-- The diagnosis that awaits the zeroisation of tile `p`: quay, slot and the slot's state (R309). -/
def State.diagOf (s : State) (p : Nat) : Option (Nat × Nat × TSlot) :=
  s.test.slots.findSome? (fun x => x.2.bind (fun (t : TSlot) =>
    if t.phase = 4 ∧ (t.p = p ∨ t.partner = some p) then some (x.1 / 65536, x.1 % 65536, t) else none))

/-! ### Start and end of a test (R300, R304) -/

/-- The host's named test ends (R335). -/
def State.testOpEnd (s : State) (p : Nat) : State :=
  if s.test.next = some p then { (s.put HM_TEST_OP_BUSY 0).irq irqTest with test.next := none } else s

/-- A test of tile `p` begins in slot `k` of quay `q`: ROLE TEST at the undivided clock, and a first ZEROISE (R300, R305). -/
def State.beginTest (s : State) (q k p lcore purpose : Nat) : State :=
  let div := s.get (BOL_CTL_DIV_NEXT p)
  let s := (s.takeFromShadow p).setUse p (if s.colour p = vermilion then useRetest else useTest)
  let s := ((s.put (BOL_CTL_ROLE p) roleTest).put (BOL_CTL_DIV_NEXT p) 0).put (BOL_CTL_GUARD p) 1
  let s := ((s.put (BOL_CTL_CG_HOLD p) 0).put (BOL_CDOM_PWR_EN p) 1).releaseCore p
  let s := (s.refreshTile p).setEngine p Engine.idle
  let s := if s.cdomOk p then s.zeroise p else s
  let s := s.setTslot q k (some ⟨p, lcore, purpose, 0, false, false, 1, s.now, s.time.tick, 0, 0, false, none, [], 0, 0, div, 0⟩)
  s.refreshPool q

/-- CRST_N is pulsed, the repairs are reloaded, the divider of the tile's colour is set, and the tile takes ROLE IDLE with use `u` (R300, R304). -/
def State.endTest (s : State) (p u div : Nat) (passed : Bool) : State :=
  let s := (s.setEngine p Engine.idle).clrRelease p true
  let s := ((s.put (BOL_CDOM_RST p) 1).coreReset p).loadRepairs p
  let s := if passed then s.put (BOL_CERR_SEEN p) 0 else s
  let s := s.put (BOL_CTL_DIV_NEXT p) (if s.colour p = ochre then div else 0)
  let s := s.put (BOL_CTL_CHECK_EN p) 0
  let s := if u = useRetest then s else s.put (BOL_CTL_ROLE p) roleIdle
  -- the start test leaves its tiles powered, in compute reset and held (R593); so does a test in service that made the tile a spare again
  let s := ((s.put (BOL_CTL_GUARD p) 1).put (BOL_CTL_CG_HOLD p) 1).setUse p u
  ((s.refreshTile p).refreshPool (quayOf p)).testOpEnd p

/-! ### Waves of the start test (R592, R593, R605) -/

/-- Start the next wave of quay `q`: tiles that wait, and tiles that failed once, in ascending local index. -/
def State.startWave (s : State) (q : Nat) : State :=
  match s.start.stest with
  | none => s
  | some x =>
    let todo := tabGet (fun _ => []) x.todo q
    let failed := tabGet (fun _ => []) x.failed q
    let size := s.get (QY_CLEAR_CTL_BUDGET q) / 6
    let pick := (orderBy (fun l => l) (todo ++ failed)).take size
    if pick.isEmpty then s
    else
      let n := tabGet (fun _ => 0) x.waves q + 1
      let x := { x with
        todo := tabSet (fun _ => []) x.todo q (todo.filter (fun l => !pick.contains l))
        failed := tabSet (fun _ => []) x.failed q (failed.filter (fun l => !pick.contains l))
        again := x.again ++ (pick.filter (fun l => failed.contains l)).map (tileOf q)
        waves := tabSet (fun _ => 0) x.waves q n }
      let s := { s with start.stest := some x }.put HM_TRIPLEX_STEST_WAVE (max (s.get HM_TRIPLEX_STEST_WAVE) (min n 63))
      pick.foldl (fun s l => s.beginTest q (8 + l) (tileOf q l) 0xFFFFF puStart) s

/-- Tiles of quay `q` under start test. -/
def State.inWave (s : State) (q : Nat) : Bool :=
  s.test.slots.any (fun x => decide (x.1 / 65536 = q) && decide (8 ≤ x.1 % 65536) && x.2.isSome)

/-- After the last wave the start test ends (R593). -/
def State.stestStep (s : State) (q : Nat) : State :=
  if s.inWave q then s
  else
    let s := s.startWave q
    match s.start.stest with
    | none => s
    | some x =>
      if s.test.slots.any (fun y => decide (8 ≤ y.1 % 65536) && y.2.isSome) || x.todo.any (fun y => !y.2.isEmpty) || x.failed.any (fun y => !y.2.isEmpty) then s
      else
        let ms := (s.since x.since).toNat / s.tickLen * 1000 / max 1 (s.get HM_TIME_TPS_TPS)
        let s := { s with start.stest := none }
        let s := s.logHm 0x0E04 (s.get HM_TRIPLEX_STEST_DONE) (s.get HM_TRIPLEX_STEST_FAILED) (s.get HM_TRIPLEX_STEST_STORE_ROWS) ms
        (s.setPhase phReady).tripEnd 0

/-- A start test of tile `p` ends; the first failure asks for a second test. -/
def State.stestTile (s : State) (p : Nat) (passed : Bool) : State :=
  match s.start.stest with
  | none => s
  | some x =>
    let q := quayOf p
    let second := x.again.contains p
    let retest := !passed && !second
    let x := { x with
      again := x.again.filter (fun y => decide (y ≠ p))
      failed := if retest then tabSet (fun _ => []) x.failed q (tabGet (fun _ => []) x.failed q ++ [localOf p]) else x.failed }
    let s := { s with start.stest := some x }
    let s := if retest then s else s.bump HM_TRIPLEX_STEST_DONE 1
    let s := if !passed && second then s.count HM_TRIPLEX_STEST_FAILED 1 else s
    s.stestStep q

/-! ### Outcomes (R304) -/

/-- The slot becomes free, and a pending content half may take its turn (R301, R320). -/
def State.freeSlot (s : State) (q k : Nat) : State := (s.setTslot q k none).switchHalf q

/-- The whole test's record. -/
def State.wholeRes (s : State) (t : TSlot) (verdict : Nat) : TestRes :=
  { TestRes.blank with p := t.p, lcore := t.lcore, slice := t.index, verdict := verdict, purpose := t.purpose, reps := s.get (BOL_MBIST_REPN t.p) }

/-- The test passes. -/
def State.passTest (s : State) (q k : Nat) (t : TSlot) : State :=
  let p := t.p
  let a := s.tableAddr p
  let n := (s.readW (a + 8)).toNat / 2 ^ 32
  let s := (s.writeW a (BitVec.ofNat 64 (t.started % 2 ^ 50))).write32 (a + 12) (min (n + 1) 0xFFFFFFFF)
  let s := (s.logTile p 0x0701 p t.ran t.purpose s.tick32).count HM_TEST_CNT0_PASSES 1
  let s := s.result (s.wholeRes t 0)
  let c := s.colour p
  let s := s.freeSlot q k
  let s :=
    if c = slate then s.endTest p useNone t.div true
    else if t.purpose ≠ puStart ∧ !s.flag HM_HEALTH_CTL_EN then s.endTest p (if c = vermilion then useRetest else useIdle) t.div true
    else if c = vermilion then
      if t.purpose = puStart ∨ (s.tile p).strikes < s.get HM_HEALTH_CTL_STRIKE_LIMIT then (s.setColour p green 14 3).endTest p useIdle t.div true
      else (s.setColour p slate 15 3).endTest p useNone t.div true
    else
      let s := if c = amber then s.setColour p green 12 3 else s
      s.endTest p useIdle t.div true
  if t.purpose = puStart then s.stestTile p true else s

/-- The failed test is over, its diagnosis included: the verdict of the whole test is that of the slice that failed it (R305, R316). -/
def State.endFail (s : State) (q k : Nat) (t : TSlot) (verdict : Nat) : State :=
  let p := t.p
  let s := (s.result (s.wholeRes t verdict)).freeSlot q k
  let s := s.endTest p (if s.colour p = slate then useNone else useRetest) t.div false
  if t.purpose = puStart then s.stestTile p false else s

/-- The test fails at a slice (R304): colour, records, and diagnosis if the slice was a scan slice (R309). -/
def State.failTest (s : State) (q k : Nat) (t : TSlot) (verdict patId : Nat) : State :=
  let p := t.p
  let kind := if verdict = 5 then 6 else s.slotKind t
  let s := s.result { s.slotRes q t verdict with kind := kind, patId := patId }
  let scan := decide (kind = kdLbist ∨ kind = kdTopup)
  let p2 := if scan then s.get (BOL_SCAN_PATTERN p) + s.get (BOL_SCAN_INTERVAL p) * 2 ^ 11 + s.get (BOL_SCAN_CHAIN p) * 2 ^ 15 else 0
  let s := s.logTile p 0x0702 p (t.index + kind * 2 ^ 5 + verdict * 2 ^ 9) p2 (if kind = kdFunc then patId else if scan then 0x1FFF else 0)
  let s := (s.count HM_TEST_CNT0_FAILS 1).clrRelease p true
  let s := s.setEngine p Engine.idle
  let s :=
    -- testing in service changes colours only while the health state machine runs (R288)
    if s.lantern ∨ (t.purpose ≠ puStart ∧ !s.flag HM_HEALTH_CTL_EN) then s
    else if s.colour p = vermilion then s.takeOut p slate 15 (if t.purpose = puStart then 2 else 3)
    else if s.colour p = slate then s
    else (if t.purpose = puStart then s else s.regionHit p).setColour p vermilion 10 4
  let s := if s.colour p = slate then s else s.setUse p (if s.colour p = vermilion then useRetest else useTest)
  if scan ∧ verdict = 1 ∧ s.flag HM_TEST_CTL_DIAG_EN ∧ s.colour p ≠ slate then s.setTslot q k (some { t with phase := 3, since := s.now })
  else s.endFail q k t verdict

/-- The test is pre-empted at a slice boundary: reason 1 K fell, 2 clearance, 3 host, 4 Lantern mode. -/
def State.preempt (s : State) (q k : Nat) (t : TSlot) (reason : Nat) : State :=
  let p := t.p
  let s := s.logTile p 0x0705 p t.index reason s.tick32
  let s := (s.count HM_TEST_CNT0_PREEMPTS 1).result (s.slotRes q t 3)
  let s := s.freeSlot q k
  s.endTest p (if s.colour p = slate then useNone else useIdle) t.div false

/-- Why a test must stop at this boundary, 0 for not at all (R304, R324, R519): the rotations in their latest slices are stopped first. -/
def State.stopReason (s : State) (q k : Nat) (t : TSlot) : Nat :=
  if t.purpose = puStart then 0
  else if s.lantern then 4
  else if t.abort || s.inPartition t.p then 3
  else if t.rotates then
    let rot := (s.qslots q).filter (fun x => x.2.rotates)
    let later := rot.filter (fun x => decide (t.index < x.2.index) || (decide (x.2.index = t.index) && decide (x.1 < k)))
    if later.length + s.get (QY_SPARE_K q) < rot.length then 1 else 0
  else 0

/-! ### Filling the slots (R301, R302, R328) -/

/-- The tide tick of the start of a tile's last completed test, 0 if there was none since the harbour opened (R301, R320). -/
def State.lastTest (s : State) (p : Nat) : Nat :=
  let t := (s.readW (s.tableAddr p)).toNat % 2 ^ 50
  if t < s.commit.openTick then 0 else t

/-- The tile may be taken at all: not Slate, no shadow, not chosen by a move, not in a slot. -/
def State.testable (s : State) (p : Nat) : Bool :=
  decide (s.colour p ≠ slate) && decide (s.use p ≠ useShadow) && s.claimable p && (s.moveOf p).isNone && (s.slotOf p).isNone

/-- A rotation may start (R281, R302). -/
def State.mayRotate (s : State) (q : Nat) : Bool :=
  decide (((s.qslots q).filter (fun x => x.2.rotates)).length < s.get (QY_SPARE_K q))
    && decide (s.get (QY_PILOT_CTL_KEEP q) < s.freeSpares q)

/-- The tile a free slot of quay `q` takes, with its purpose (R301). -/
def State.nextTest (s : State) (q : Nat) : Option (Nat × Nat) :=
  let l := (regionOf q).filter (fun p => s.testable p)
  let can := fun p => decide (s.use p ≠ useServes) || s.mayRotate q
  let rot := fun p => (localOf p + regionTiles - s.jt % regionTiles) % regionTiles
  let named := match s.test.next with
    | some p => if l.contains p ∧ can p = true then some p else none
    | none => none
  match named with
  | some p => some (p, puHost)
  | none =>
    match leastBy rot (l.filter (fun p => decide (s.use p = useRetest) || (decide (s.colour p = vermilion) && decide (s.use p = useIdle)))) with
    | some p => some (p, puRetest)
    | none =>
      let idle := l.filter (fun p => (decide (s.use p = useIdle) && decide (s.colour p ≤ amber)) || (decide (s.use p = useServes) && can p))
      match leastBy (fun p => s.lastTest p * regionTiles + rot p) idle with
      | some p => some (p, if s.use p = useServes then puRotate else puIdle)
      | none => none

/-- Fill slot `k`. -/
def State.fillSlot (s : State) (q k : Nat) : State :=
  if (s.tslot q k).isSome then s
  else
    match s.nextTest q with
    | none => s
    | some (p, pu) =>
      if s.use p = useServes then
        let l := s.lcore p
        let s := s.requestMove p mvRotate (s.colour p) 0
        s.setTslot q k (some ⟨p, l, if pu = puHost then puHost else puRotate, 0, false, false, 0, s.now, s.time.tick, 0, 0, false, none, [], 0, 0, s.get (BOL_CTL_DIV_NEXT p), 0⟩)
      else s.beginTest q k p 0xFFFFF pu

/-- TEST_SLOT_FILL (R301). -/
def State.slotFill (s : State) (q : Nat) : State :=
  let s := s.at_ (s.commitAt + 1)
  if !s.flag HM_TEST_CTL_EN || !s.isOpen || s.lantern || decide (s.quayState q ≠ 0) then s
  else (List.range 8).foldl (fun s k => s.fillSlot q k) s

/-- A rotation's switch has been made: its test starts (R302). -/
def State.testSwitched (s : State) (p : Nat) : State :=
  match s.slotOf p with
  | some (k, t) =>
    if t.phase ≠ 0 then s
    else if s.colour p = slate then (s.setTslot (quayOf p) k none).testOpEnd p
    else (s.beginTest (quayOf p) k p t.lcore (if s.colour p = vermilion then puRetest else t.purpose)).put (BOL_CTL_DIV_NEXT p) 0
  | none => s

/-- A rotation whose move has been abandoned frees its slot at once (R277, R302, R326). -/
def State.testSweep (s : State) : State :=
  let gone := s.test.slots.filter (fun x => match x.2 with | some t => decide (t.phase = 0) && (s.moveOf t.p).isNone && decide (s.use t.p = useServes) | none => false)
  gone.foldl (fun s x =>
    match x.2 with
    | some t => (s.setTslot (x.1 / 65536) (x.1 % 65536) none).testOpEnd t.p
    | none => s) s

/-! ### Slices (R298, R299, R307, R308, R313) -/

/-- Clearance class of a slice of the engine (R442). -/
def sliceClass (kind : Nat) : Nat := if kind = kdLbist ∨ kind = kdTopup then 2 else 3

/-- The first vector at or after the cursor, wrapping at the end of the set: the vectors in the order they run. -/
def vecsFrom (l : List (Nat × Nat × Nat)) (cursor : Nat) : List (Nat × Nat × Nat) :=
  l.filter (fun v => decide (cursor ≤ v.1)) ++ l.filter (fun v => decide (v.1 < cursor))

/-- As many vectors as 32 KiB hold. -/
def batchOf : Nat → List (Nat × Nat × Nat) → List (Nat × Nat × Nat)
  | _, [] => []
  | room, v :: l => if v.2.1 ≤ room then v :: batchOf (room - v.2.1) l else []

/-- The next batch of a functional slice (R313): a tender is to copy the test kernel to local-memory address 0 and the vectors after it, at the next multiple of
64 bytes. No further batch starts when one that lasts as long as those before it would run past the slice's 2,200,000 cc. -/
def State.sendBatch (s : State) (q k : Nat) : State :=
  match s.tslot q k with
  | none => s
  | some t =>
    let x := s.libSet q t.half
    let cursor := (s.readW (s.tableAddr t.p + 8)).toNat % 2 ^ 32
    let base := s.halfAddr q t.half + x.len1 + x.len2
    let l := batchOf 32768 ((vecsFrom x.vecs cursor).drop t.sent)
    let used := s.since t.since
    if l.isEmpty ∨ (0 < t.sent ∧ 2200000 * (t.sent : Int) < used * (t.sent + l.length)) then s
    else
      let kern := s.readWords (qsAddr q (s.get (QY_TEST_KERN_KOFF q))) (8 * ceilDiv (s.get (QY_TEST_KERN_KLEN q)) 64)
      let words := kern ++ l.flatMap (fun v => s.readWords (base + v.1) (v.2.1 / 8))
      let n := localOf t.p % 8
      let w := s.tender q n
      (s.setTender q n { w with tests := w.tests ++ [.test t.p words] }).setTslot q k (some { t with sent := t.sent + l.length })

/-- The test kernel ends a vector with a STEP; after the last one of a batch the next is sent (R313). -/
def State.vectorStep (s : State) (p : Nat) : State :=
  let e := s.engine p
  let s := s.setEngine p { e with steps := e.steps + 1 }
  match s.slotOf p with
  | some (k, t) => if t.phase = 2 ∧ t.sent ≤ e.steps + 1 then s.sendBatch (quayOf p) k else s
  | none => s

/-- A slice starts. -/
def State.beginSlice (s : State) (q k : Nat) (t : TSlot) : State :=
  let p := t.p
  let kind := s.slotKind t
  let half := s.get (QY_TEST_STAT_HALF q)
  let s := s.setTslot q k (some { t with phase := 2, since := s.now, half := half, again := false, sent := 0 })
  if kind = kdLbist ∨ kind = kdTopup then
    let s := s.startEngine p 1 (s.scanSeed q half kind (s.slotNth t) 0)
    let s := ((s.put (BOL_SCAN_MODE p) kind).put (BOL_SCAN_SLICE p) t.index).put (BOL_SCAN_STATE p) 1
    ((s.put (BOL_SCAN_PATTERN p) 0).put (BOL_SCAN_INTERVAL p) 0).put (BOL_SCAN_DIAG_DONE p) 0
  else if kind = kdFunc then
    ((s.startEngine p 3 0).put (BOL_CTL_CHECK_EN p) 1).sendBatch q k
  else
    let s := s.startEngine p 2 0
    let op := if kind = kdMarch then 1 else 2
    ((s.put (BOL_MBIST_OP p) op).put (BOL_MBIST_STATE p) 1).emit (.mbist p op 0 0)

/-- The choice of a diagnosis partner: an idle Green tile, quay by quay in the order of R278 (R309). -/
def State.diagPartner (s : State) (p : Nat) : Option Nat :=
  let q := quayOf p
  (s.quayOrder s.jt q).findSome? (fun x => s.nearest p ((regionOf x).filter (fun y =>
    s.claimable y && decide (y ≠ p) && decide (s.colour y = green) && decide (s.use y = useIdle) && (s.slotOf y).isNone)))

/-- The partner of a diagnosis becomes an idle spare again. -/
def State.endPartner (s : State) (t : TSlot) : State :=
  match t.partner with
  | some y => ((s.put (BOL_SCAN_MODE y) 0).put (BOL_SCAN_STATE y) 0).endTest y useIdle 0 false
  | none => s

/-- The patterns of the failed interval run on both tiles once both are zeroised: each Bollard is loaded with the kept PRPG state, or the failing seed (R309). -/
def State.runDiag (s : State) (q k : Nat) : State :=
  match s.tslot q k with
  | none => s
  | some t =>
    match t.partner with
    | none => s
    | some y =>
      if t.phase ≠ 4 ∨ s.get (BOL_SCAN_ZERO_OK t.p) = 0 ∨ s.get (BOL_SCAN_ZERO_OK y) = 0 then s
      else
        let seed := (s.engine t.p).saved
        let s := [t.p, y].foldl (fun s p =>
          ((s.startEngine p 4 seed).put (BOL_SCAN_MODE p) 3).put (BOL_SCAN_STATE p) 1 |>.put (BOL_SCAN_DIAG_DONE p) 0) s
        s.setTslot q k (some { t with phase := 5, since := s.now })

/-- Diagnosis begins with the choice of the partner and its zeroisation, or is given up after 16 ticks (R309). The failing tile is zeroised again only where its
zeroisation has become void (R305). -/
def State.startDiag (s : State) (q k : Nat) (t : TSlot) : State :=
  match s.diagPartner t.p with
  | some y =>
    let s := ((s.setUse y useTest).put (BOL_CTL_ROLE y) roleTest).put (BOL_CTL_CG_HOLD y) 0
    let s := (((s.releaseCore y).refreshTile y).zeroise y).refreshPool (quayOf y)
    let s := if s.get (BOL_SCAN_ZERO_OK t.p) = 0 then s.zeroise t.p else s
    s.setTslot q k (some { t with phase := 4, partner := some y })
  | none =>
    if t.since.tick + 16 ≤ s.time.tick then (s.put (BOL_SCAN_CELL t.p) 0x1FFF).endFail q k t 1 else s

/-- TEST_SLICE_START (R74, R299, R305, R309): at cycle 2,201, once the tile is zeroised and the slice's clearance granted. -/
def State.sliceStart (s : State) (q k : Nat) : State :=
  let s := s.at_ (s.commitAt + 1)
  match s.tslot q k with
  | none => s
  | some t =>
    let p := t.p
    let kind := s.slotKind t
    if t.phase = 3 then s.startDiag q k t
    -- testing in service pauses while the harbour is closed (R598)
    else if t.phase ≠ 1 || (!s.isOpen && decide (t.purpose ≠ puStart)) then s
    else if s.stopReason q k t ≠ 0 then s.preempt q k t (s.stopReason q k t)
    else if !s.cdomOk p then s
    else if kind = kdFunc then s.beginSlice q k t
    else if s.get (BOL_SCAN_ZERO_OK p) = 0 then (if (s.engine p).zeroAt.isSome then s else s.zeroise p)
    else
      let s := s.clrRequest p true (sliceClass kind)
      if s.flag (BOL_CLR_ENG_HOLD p) then s.beginSlice q k t else s

/-- TEST_CLEARANCE_TIMEOUT (R304): the slice's clearance has been refused for 16 ticks. -/
def State.testClrTimeout (s : State) (q k : Nat) : State :=
  match s.tslot q k with
  | none => s
  | some t =>
    let pend := (s.quay q).clrPend.any (fun r => decide (r.p = t.p) && r.engine && decide (16 * s.tickLen ≤ s.since r.since))
    if t.phase = 1 ∧ pend = true then (s.clrRelease t.p true).preempt q k t 2 else s

/-- ZEROISE_FAIL (R305): ZERO_DONE has not arrived within ZERO_CC. -/
def State.zeroFail (s : State) (p : Nat) : State :=
  match (s.engine p).zeroAt with
  | none => s
  | some m =>
    let n := (s.since m).toNat
    if n < s.get HM_TEST_CTL_ZERO_CC then s
    else
      let s := s.setEngine p { s.engine p with zeroAt := none }
      let s := s.logTile p 0x0706 p n 0 s.tick32
      match s.diagOf p, s.slotOf p with
      -- without the zeroisation the diagnosis cannot run: the failed test ends with an unknown cell (notes/assumptions/142.md)
      | some (q, k, t), _ => ((s.put (BOL_SCAN_CELL t.p) 0x1FFF).endPartner t).endFail q k t 1
      | none, some (k, t) => s.failTest (quayOf p) k t 5 0
      | none, none => s

/-- ZEROISE_DONE (R80, R305); a diagnosis that waits for it goes on (R309). -/
def State.zeroDone (s : State) (p : Nat) : State :=
  let s := s.zeroOk p
  match s.diagOf p with
  | some (q, k, _) => s.runDiag q k
  | none => s

/-! ### Scan (R307, R308, R330) -/

/-- The half, and the number among its kind, of the scan slice that tile `p` runs; a run started by a register write takes it from BOL_SCAN (R330). -/
def State.scanPlace (s : State) (p : Nat) : Nat × Nat :=
  match s.slotOf p with
  | some (_, t) => (t.half, s.slotNth t)
  | none => (s.get (QY_TEST_STAT_HALF (quayOf p)),
      (((s.plan puRetest).take (s.get (BOL_SCAN_SLICE p))).filter (fun k => decide (k = s.get (BOL_SCAN_MODE p)))).length)

/-- Patterns of an interval of the run in progress: PATS / 16 of an LBIST slice, one of a top-up slice (R308). -/
def State.scanPats (s : State) (p : Nat) : Nat :=
  if s.get (BOL_SCAN_MODE p) = kdTopup then 1 else (s.libSet (quayOf p) (s.scanPlace p).1).pats1 / 16

/-- The interval has run its patterns of CHAIN_LEN + 4 cycles each (R308). -/
def State.scanDue (s : State) (p : Nat) : Bool :=
  let e := s.engine p
  decide ((((e.done + 1) * s.scanPats p * (s.sp.chainLen + 4) : Nat) : Int) ≤ s.since e.since)

/-- SCAN_INTERVAL_END (R308): the MISR at the end of an LBIST interval or top-up pattern. On the first mismatch the generator's state from the start of the
interval is kept (R309); a top-up pattern starts from its own seed with the MISR reset. -/
def State.scanInterval (s : State) (p : Nat) (misr : BitVec 64) : State :=
  let e := s.engine p
  let q := quayOf p
  if e.running ≠ 1 ∨ !s.scanDue p then s
  else
    let topup := decide (s.get (BOL_SCAN_MODE p) = kdTopup)
    let (half, nth) := s.scanPlace p
    let x := s.libSet q half
    let want := if topup then s.topupSig q half nth e.done else s.lbistSig q half nth e.done
    let total := if topup then x.topupPats nth else 16
    let e := { e with misr := misr }
    if misr ≠ want then
      let s := s.setEngine p { e with running := 0, saved := e.prpg }
      let s := s.put (BOL_SCAN_PATTERN p) (if topup then e.done else (e.done + 1) * (x.pats1 / 16) - 1)
      ((s.put (BOL_SCAN_INTERVAL p) (if topup then 0 else e.done)).put (BOL_SCAN_CELL p) 0x1FFF).put (BOL_SCAN_STATE p) 3
    else
      let next := Config.prpgAfter e.prpg (s.scanPats p)
      if total ≤ e.done + 1 then (s.setEngine p { e with running := 0, done := e.done + 1, prpg := next }).put (BOL_SCAN_STATE p) 2
      else s.setEngine p { e with
        done := e.done + 1
        prpg := if topup then s.scanSeed q half kdTopup nth (e.done + 1) else next
        misr := if topup then 0 else misr }

/-- SCAN_START (R330): a write of BOL_SCAN with START, refused unless ZERO_OK is 1. -/
def State.scanStart (s : State) (p : Nat) (w : Word) : State :=
  let mode := fieldOf w 0 2
  let starts := decide (mode ≠ 0) && decide (fieldOf w 7 1 = 1)
  if starts && decide (s.get (BOL_SCAN_ZERO_OK p) = 0) then s.pageErr (qyAddr (quayOf p) 0x3000) errBolLocked
  else
    let s := (s.put (BOL_SCAN_MODE p) mode).put (BOL_SCAN_SLICE p) (fieldOf w 2 5)
    if !starts then s
    else
      let (half, nth) := s.scanPlace p
      -- a diagnosis goes on from the kept state (R309)
      let seed := if mode = 3 then (s.engine p).saved else s.scanSeed (quayOf p) half mode nth 0
      ((s.startEngine p (if mode = 3 then 4 else 1) seed).put (BOL_SCAN_STATE p) 1).put (BOL_SCAN_DIAG_DONE p) 0

/-- DIAGNOSIS_DONE (R309): the first differing bit, if one was found. -/
def State.diagDone (s : State) (q k pattern chain cell : Nat) (found : Bool) : State :=
  match s.tslot q k with
  | none => s
  | some t =>
    if t.phase ≠ 5 then s
    else
      let p := t.p
      let s := if found then ((s.put (BOL_SCAN_PATTERN p) pattern).put (BOL_SCAN_CHAIN p) chain).put (BOL_SCAN_CELL p) cell else s
      let s := (s.put (BOL_SCAN_DIAG_DONE p) 1).put (BOL_SCAN_STATE p) 3
      let s := s.count HM_TEST_CNT1_DIAGS 1
      let s := s.result { s.slotRes q t 1 with cell := if found then cell else 0xFFFF }
      (s.endPartner t).endFail q k t 1

/-! ### Memory BIST and repair (R310 to R312, R331) -/

/-- The repair slots of BOL_MBIST. -/
def State.setRep (s : State) (p i row : Nat) : State :=
  match i with
  | 0 => s.put (BOL_MBIST_REP0 p) row
  | 1 => s.put (BOL_MBIST_REP1 p) row
  | _ => s.put (BOL_MBIST_REP2 p) row

/-- MBIST_DONE (R310, R312): the controller reports; `rows` are the distinct failing rows, with the first failing word and bit. -/
def State.mbistDone (s : State) (p : Nat) (pass : Bool) (rows : List Nat) (word bitNo : Nat) : State :=
  let e := s.engine p
  let s := (s.put (BOL_MBIST_STATE p) (if pass then 2 else 3)).put (BOL_MBIST_FROWS p) (min rows.length 7)
  let s := ((s.put (BOL_MBIST_FROW p) (rows.headD 0)).put (BOL_MBIST_FWORD p) word).put (BOL_MBIST_FBIT p) bitNo
  let s := if s.get (BOL_MBIST_OP p) = 4 then s.put (BOL_MBIST_REPN p) 0 else s
  if e.running ≠ 2 then s
  else
    let s := s.setEngine p { e with running := 0 }
    match s.slotOf p with
    | none => s
    | some (k, t) =>
      if pass then s
      else
        let q := quayOf p
        let used := s.get (BOL_MBIST_REPN p)
        let spare := s.sp.lmSpareRows
        let t := { t with rows := rows, word := word, bitNo := bitNo }
        let s := (rows.take (3 - used)).zipIdx.foldl (fun s x => s.setRep p (used + x.2) x.1) s
        if used + rows.length ≤ spare ∧ s.flag HM_TEST_CTL_REPAIR_EN ∧ !t.reran then
          let s := rows.zipIdx.foldl (fun s x =>
            let s := s.tileDefect p kindRow (if t.purpose = puStart then 2 else 3) 0 x.1
            s.logTile p 0x0704 p x.1 (used + x.2) (spare - used - x.2 - 1)) s
          let s := rows.zipIdx.foldl (fun s x => s.emit (.mbist p 3 x.1 (used + x.2))) s
          let s := (s.put (BOL_MBIST_REPN p) (used + rows.length)).count HM_TEST_CNT1_REPAIRS rows.length
          let s := s.result (s.slotRes q t 2)
          s.setTslot q k (some { t with again := true })
        else
          let s := s.logTile p 0x0703 p (rows.headD 0 + word * 2 ^ 10 + bitNo * 2 ^ 13) rows.length used
          s.setTslot q k (some t)

/-- MBIST_START (R80, R331): a write of BOL_MBIST with START; a run of the memory BIST needs the zeroisation. -/
def State.mbistStart (s : State) (p : Nat) (w : Word) : State :=
  let op := fieldOf w 0 3
  let s := ((s.put (BOL_MBIST_OP p) op).put (BOL_MBIST_REPN p) (fieldOf w 29 3)).put (BOL_MBIST_REP0 p) (fieldOf w 32 10)
  let s := (s.put (BOL_MBIST_REP1 p) (fieldOf w 42 10)).put (BOL_MBIST_REP2 p) (fieldOf w 52 10)
  if fieldOf w 3 1 = 0 ∨ op = 0 ∨ 4 < op then s
  else if op ≤ 2 ∧ s.get (BOL_SCAN_ZERO_OK p) = 0 then s
  else
    let s := s.put (BOL_MBIST_STATE p) 1
    if op ≤ 2 then (s.startEngine p 2 0).emit (.mbist p op 0 0)
    else if op = 3 then s.loadRepairs p
    else s.emit (.mbist p 4 0 0)

/-! ### Functional vectors (R313 to R315) -/

/-- A result passes its vector (R314). -/
def State.vecPass (s : State) (a : Nat) (c : BitVec 64) : Bool :=
  let fmt := dFmt (s.readW (a + 8)) % 8
  let exact := s.readW (a + 16)
  if fmt = fmtInt8 then decide (c.toNat % 2 ^ 32 = exact.toNat % 2 ^ 32)
  else
    let x := decRes fmt c.toNat
    let y := decRes fmt exact.toNat
    let b := decIeee 11 52 (s.readW (a + 24)).toNat
    x.isFin && y.isFin && (x.add y.neg).abs.le b

/-- The functional slice's vectors and results: number that ran, the first that failed (number, PATTERN_ID), and the new cursor. -/
def State.judgeVecs (s : State) (q : Nat) (t : TSlot) (results : List (BitVec 64)) : Nat × Option Nat × Nat :=
  let x := s.libSet q t.half
  let cursor := (s.readW (s.tableAddr t.p + 8)).toNat % 2 ^ 32
  let base := s.halfAddr q t.half + x.len1 + x.len2
  let run := (vecsFrom x.vecs cursor).take results.length
  let e := s.engine t.p
  let bad := (run.zip results).zipIdx.find? (fun y => !s.vecPass (base + y.1.1.1) y.1.2 || decide (e.bad = some y.2))
  let badId := match bad with
    | some y => some ((s.readW (base + y.1.1.1)).toNat % 2 ^ 32)
    | none => if e.bad.isSome then some 0 else none
  let next := match run.getLast? with
    | some v => if (x.vecs.getLast?.map (·.1)) = some v.1 then 0 else v.1 + v.2.1
    | none => cursor
  (run.length, badId, next)

/-- A slice has ended with PASS: the next one waits, or the test has passed. -/
def State.slicePass (s : State) (q k : Nat) (t : TSlot) : State :=
  let t := { t with pos := t.pos + 1, phase := 1, since := s.now }
  if (s.plan t.purpose).length ≤ t.pos then s.passTest q k { t with pos := t.pos - 1 }
  else
    let s := s.setTslot q k (some t)
    let r := s.stopReason q k t
    if r ≠ 0 then s.preempt q k t r else s.switchHalf q

/-- TEST_SLICE_END (R304, R312, R314, R315, R324); `results` are what the quay read back for the vectors of a functional slice, in order. -/
def State.sliceEnd (s : State) (q k : Nat) (results : List (BitVec 64)) : State :=
  match s.tslot q k with
  | none => s
  | some t =>
    let p := t.p
    let kind := s.slotKind t
    if t.phase ≠ 2 then s
    else if kind ≠ kdFunc ∧ (s.engine p).running ≠ 0 then s
    else
      let t := { t with ran := t.ran + 1 }
      let s := s.clrRelease p true
      if kind = kdFunc then
        let (_, bad, cursor) := s.judgeVecs q t results
        let s := s.write32 (s.tableAddr p + 8) cursor
        let s := (s.setEngine p Engine.idle).put (BOL_CTL_CHECK_EN p) 0
        match bad with
        | some id => s.failTest q k t 1 id
        | none => s.slicePass q k t
      else if t.again then
        -- the repair rerun; dropped when the test stops here (R324)
        let t := { t with again := false, phase := 1, since := s.now }
        let r := s.stopReason q k t
        if r ≠ 0 then s.preempt q k t r else (s.setTslot q k (some { t with reran := true })).switchHalf q
      else
        let st := if kind = kdLbist ∨ kind = kdTopup then s.get (BOL_SCAN_STATE p) else s.get (BOL_MBIST_STATE p)
        if st = 2 then s.slicePass q k t else s.failTest q k t 1 0

/-- SLICE_TIMEOUT (R299, R325): 2,200,000 cc after its start a slice is stopped. `waits` says that foreground copies held a functional slice back. -/
def State.sliceTimeout (s : State) (q k : Nat) (waits : Bool) (results : List (BitVec 64)) : State :=
  match s.tslot q k with
  | none => s
  | some t =>
    let p := t.p
    if t.phase ≠ 2 ∨ s.since t.since < 2200000 then s
    else
      let t := { t with ran := t.ran + 1 }
      let s := s.clrRelease p true
      let kind := s.slotKind t
      let judged := s.judgeVecs q t results
      let bad := if kind = kdFunc then judged.2.1 else none
      -- the vectors that ran advance the cursor (R315)
      let s := if kind = kdFunc then s.write32 (s.tableAddr p + 8) judged.2.2 else s
      let s := (s.put (BOL_SCAN_STATE p) (if kind = kdLbist ∨ kind = kdTopup then 0 else s.get (BOL_SCAN_STATE p))).setEngine p Engine.idle
      match bad with
      | some id => s.failTest q k t 1 id
      | none => if kind = kdFunc ∧ waits = true then s.preempt q k t 0 else s.failTest q k t 4 0

/-! ### The host's operations (R335) -/

/-- TEST_NEXT. -/
def State.testNext (s : State) (p : Nat) : State :=
  if s.flag HM_TEST_OP_BUSY then s.pageErr HM_TEST_OP errBusy
  else
    let s := (s.put HM_TEST_OP_PTILE p).put HM_TEST_OP_OP 1
    let p := p % 2 ^ 20
    if s.nQuays ≤ quayOf p ∨ s.colour p = slate then (s.put HM_TEST_OP_REFUSED 1).irq irqTest
    else { s.put HM_TEST_OP_BUSY 1 with test.next := some p }

/-- TEST_ABORT: at the slice's end. -/
def State.testAbort (s : State) (p : Nat) : State :=
  if s.flag HM_TEST_OP_BUSY then s.pageErr HM_TEST_OP errBusy
  else
    let s := (s.put HM_TEST_OP_PTILE p).put HM_TEST_OP_OP 2
    let p := p % 2 ^ 20
    match s.slotOf p with
    | some (k, t) => (s.setTslot (quayOf p) k (some { t with abort := true })).irq irqTest
    | none => (s.put HM_TEST_OP_REFUSED 1).irq irqTest

/-! ### Rounds, resets and units (R303, R323, R605) -/

/-- Tiles past their interval at a round boundary (R303). -/
def State.testRound (s : State) : State :=
  if !s.isOpen || !s.flag HM_TEST_CTL_EN || s.lantern then s
  else
    let tps := max 1 (s.get HM_TIME_TPS_TPS)
    let age := fun p => s.time.tick - max (s.lastTest p) s.commit.openTick
    let (s, late, old) := s.quayList.foldl (fun (a : State × Nat × Nat) q =>
      let s := a.1
      let ages := ((regionOf q).filter (fun p => decide (s.colour p ≠ slate))).map age
      let n := (ages.filter (fun x => decide (s.get HM_TEST_CTL_INTERVAL_S * tps < x))).length
      let m := ages.foldl max 0 / tps
      let s := (s.put (QY_TEST_STAT_OVERDUE q) n).put (QY_TEST_STAT_OLDEST q) (min m 65535)
      let s := (if n = 0 then s else s.logQuay q 0x0707 q n m 0)
      (s, a.2.1 + n, max a.2.2 m)) (s, 0, 0)
    (s.put HM_TEST_STAT_OVERDUE (min late 65535)).put HM_TEST_STAT_OLDEST (min old 65535)

/-- A quay is reset: the tests of its tiles end without a verdict, and tiles of the start test wait for another wave (R605). -/
def State.testQuayReset (s : State) (q : Nat) : State :=
  let mine := s.test.slots.filter (fun x => decide (x.1 / 65536 = q) && x.2.isSome)
  mine.foldl (fun s x =>
    match x.2 with
    | none => s
    | some t =>
      let s := (s.setTslot q (x.1 % 65536) none).endPartner t
      let s := if t.phase = 0 then s.testOpEnd t.p else s.endTest t.p (if s.colour t.p = vermilion then useRetest else useIdle) t.div false
      match s.start.stest with
      | some st =>
        if t.purpose = puStart then
          let l := localOf t.p
          if st.again.contains t.p then
            { s with start.stest := some { st with
                again := st.again.filter (fun y => decide (y ≠ t.p)), failed := tabSet (fun _ => []) st.failed q (tabGet (fun _ => []) st.failed q ++ [l]) } }
          else { s with start.stest := some { st with todo := tabSet (fun _ => []) st.todo q (tabGet (fun _ => []) st.todo q ++ [l]) } }
        else s
      | none => s) s

/-- UNIT_RETEST_DONE (R262, R306, R323): the built-in test of a Vermilion unit `k` ends (0 to 3 Customs, 4 to 6 triplex cores, 8 to 11 banks). -/
def State.unitRetest (s : State) (k : Nat) (pass : Bool) : State :=
  if (s.unit k).colour ≠ vermilion then s
  else
    -- a triplex core's copies of the keys are zeroised before its scan, and refilled by the voter after a pass (R306, R568)
    let s := if 4 ≤ k ∧ k < 7 then s.coreKeysZeroed (k - 4) else s
    let s := if 4 ≤ k ∧ k < 7 ∧ pass = true then s.coreKeysFilled (k - 4) else s
    -- its domain has been switched off and on for the test (R669)
    let s := if pass = true ∧ (k < 4 ∨ 8 ≤ k) ∧ s.domain (unitDomain k) = 0 then s.setDomain (unitDomain k) 2 else s
    let s := s.setUnitColour k (if pass then green else slate)
    let s := if 8 ≤ k ∧ pass then
        { s.dropCells (hsAddr (4194304 * (k - 8))) (hsAddr (4194304 * (k - 7))) with hmTags := s.hmTags.filter (fun e => decide (e.1 / 65536 ≠ k - 8)) }
      else s
    s.result { TestRes.blank with p := unitDomain k, kind := 7, verdict := if pass then 0 else 1, purpose := puRetest }

end Sys2Proof.Machine
end

