-- ==== Sys2Proof/Machine/StoreFault.lean ====
section
/-!
DEFINITION. Errors of the quay stores (chapter 09): what an uncorrectable word brings about in the region that owns it (R365), and the scrubber (R366).
-/

namespace Sys2Proof.Machine

/-- The row of offset `o` reads well again. -/
def State.rowHealed (s : State) (q o : Nat) : State :=
  s.modQuay q (fun t => { t with badWords := t.badWords.filter (fun x => decide (rowOf x.1 ≠ rowOf o)) })

/-- A kernel row comes from the partner quay's copy (R365); W1 has no partner, and the host writes it. -/
def State.kernelRestore (s : State) (q o : Nat) : State :=
  if !s.hasPartner then s
  else
    let k := partnerOf q
    let row := o / 64 * 64
    if (s.quay k).badWords.any (fun x => decide (rowOf x.1 = rowOf row)) then s
    else
    let s := (s.writeWords (qsAddr q row) (s.readWords (qsAddr k row) 8)).rowHealed q o
    s.logQuay q 0x080C 3 row k 64

/-- The content half that holds offset `o` is written again; slices that use it end PREEMPTED (R365). -/
def State.testAreaLost (s : State) (q o : Nat) : State :=
  let off := o - s.get (QY_TEST_BASE_OFF q)
  if off < testTableBytes then s
  else
    let h := (off - testTableBytes) / max 1 (s.halfBytes q)
    if 2 ≤ h then s
    else
      let users := s.test.slots.filter (fun x =>
        decide (x.1 / 65536 = q) && (match x.2 with | some t => decide (t.phase = 2) && decide (t.half = h) | none => false))
      let s := users.foldl (fun s x =>
        match x.2 with
        | some t => (s.clrRelease t.p true).preempt q (x.1 % 65536) t 0
        | none => s) s
      (s.writeHalf q h).rowHealed q o

/-- A capture berth has lost a word: an open dispute about it cannot be decided on it (R193 reason 4, R365). -/
def State.captureLost (s : State) (q c : Nat) : State :=
  let s := { s with customs.queue := s.customs.queue.map (fun (e : CusEntry) =>
    if e.msg.quay = q ∧ e.msg.capt = some c then { e with captLost := true } else e) }
  s.setCapt q c { s.capt q c with done := false, bytes := 0, s0 := [], s1 := [], s2 := [], s3 := [] }

/-- STORE_UE (R365): client `client` has met an uncorrectable word at offset `o` of quay `q`. The bit's class follows its owner (R491). -/
def State.storeUe (s : State) (q o client : Nat) (forced : Bool) : State :=
  let s := s.storeUeNote q o client
  match s.owner q o with
  | 1 =>
    let b := (o - s.get (QY_PILOT_BASE_DBERTH_OFF q)) / 64
    let x := s.berth q b
    if x.st = btFree then s.latchQuayAs q 11 .o forced 0
    else if (s.quay q).egcTick < s.belongs x then (s.latchQuayAs q 11 .r forced 0).pullQuay q 8
    else (s.latchQuayAs q 11 .o forced 0).abortBerth q b 2
  | 2 => (s.latchQuayAs q 11 .o forced 0).captureLost q ((o - 65536 * s.get (QY_PILOT_BASE_CBERTH_BLK q)) / 65536)
  | 3 => (s.latchQuayAs q 11 .o forced 0).kernelRestore q o
  | 4 => (s.latchQuayAs q 11 .o forced 0).testAreaLost q o
  | _ => s.latchQuayAs q 11 .o forced 0

/-! ### The scrubber (R366, R376) -/

/-- Physical rows of a bank, spare rows included (R366, R367). -/
def bankRows : Nat := 8224

/-- The row that physical row `r` of bank `b` serves: itself unless a spare row stands for it, or the row a spare row stands for. -/
def State.rowServed (s : State) (q b r : Nat) : Option Nat :=
  let l := ((s.quay q).repairs.filter (fun x => decide (x.1 = b))).map (·.2)
  if r < 8192 then (if l.contains r then none else some r)
  else match l[r - 8192]? with
    | some row => if (l.drop (r - 8191)).contains row then none else some row
    | none => none

/-- Banks the scrubber visits: ON or RETAIN. -/
def State.scrubbed (s : State) (q b : Nat) : Bool :=
  decide (b < s.banks q) && [bkOn, bkRetain].contains (s.bankState q b)

/-- A bank has been passed; when every bank has, the pass is recorded (R366, R381, R390). -/
def State.scrubWrap (s : State) (q b : Nat) : State :=
  let s := s.modQuay q (fun t => { t with passBanks := if t.passBanks.contains b then t.passBanks else b :: t.passBanks })
  let t := s.quay q
  if (List.range 32).all (fun k => !s.scrubbed q k || t.passBanks.contains k) then
    let len := s.time.tick - t.passStart
    let s := s.bump (QY_STORE_SCRUB_PASSES q) 1
    let s := s.put (QY_STORE_SCRUB_MAXPASS q) (max (s.get (QY_STORE_SCRUB_MAXPASS q)) (min (len / 1024) 65535))
    let s := s.logQuay q 0x080B (s.get (QY_STORE_SCRUB_PASSES q)) len t.passForced t.passFixed
    s.modQuay q (fun t => { t with passStart := s.time.tick, passForced := 0, passFixed := 0, passBanks := [] })
  else s

/-- The scrubber reads the next row of bank `b`: `found` is 0 for no error, 1 for a corrected one, 2 for an uncorrectable one in word `word`
of the row. A retained bank wakes for it (R371); SCRUB_EN stops background slots only (R381). -/
def State.scrub (s : State) (q b found synd word : Nat) (forced : Bool) : State :=
  let key := 2 * b + bit forced
  -- a bank takes at most one row of each kind in a tick
  if (!forced && !s.flag (QY_STORE_CTL_SCRUB_EN q)) || !s.scrubbed q b || decide (tabGet (fun _ => 0) (s.quay q).scrubSlots key = s.time.tick + 1) then s
  else
    let s := s.modQuay q (fun t => { t with scrubSlots := tabSet (fun _ => 0) t.scrubSlots key (s.time.tick + 1) })
    let s := s.bankWake q b
    let r := tabGet (fun _ => 0) (s.quay q).scrubRow b
    let s := s.modQuay q (fun t => { t with scrubTick := if forced then t.scrubTick else tabSet (fun _ => 0) t.scrubTick b s.time.tick, passForced := t.passForced + bit forced })
    let s := if forced then s.count (QY_STORE_SCRUB_FORCED q) 1 else s
    let s := match s.rowServed q b r with
      | none => s
      | some row =>
        let o := b * bankBytes + 64 * row + 8 * (word % 8)
        let runs := tabGet (fun _ => 0) (s.quay q).ceRuns (rowOf o)
        let mark := fun (s : State) (n : Nat) => s.modQuay q (fun t => { t with ceRuns := tabSet (fun _ => 0) t.ceRuns (rowOf o) n })
        match found with
        | 0 => mark s 0
        | 1 => ((mark s (min 3 (runs + 1))).storeCe q o synd).modQuay q (fun t => { t with passFixed := t.passFixed + 1 })
        | _ => s.storeUe q o 11 false
    let r' := (r + 1) % bankRows
    let s := s.modQuay q (fun t => { t with scrubRow := tabSet (fun _ => 0) t.scrubRow b r' })
    if r' = 0 then s.scrubWrap q b else s

/-- SCRUB_SLOT: a background slot. -/
def State.scrubSlot (s : State) (q b found synd word : Nat) : State := s.scrub q b found synd word false

/-- FORCED_SCRUB: at the cycle of the bank, when it has had no background slot for FORCE_TICKS ticks. -/
def State.forcedScrub (s : State) (q b found synd word : Nat) : State :=
  let s := s.at_ (s.commitAt + 1 + b)
  if s.time.tick < tabGet (fun _ => 0) (s.quay q).scrubTick b + s.get (QY_STORE_CTL_FORCE_TICKS q) then s
  else s.scrub q b found synd word true

end Sys2Proof.Machine
end

