-- ==== Sys2Proof/Machine/Fault.lean ====
section
/-!
DEFINITION. Fault collection (chapter 12): checkers and their reactions, injections, the collector's messages, alarms, and the host's Breakwaters.
-/

namespace Sys2Proof.Machine

/-! ### Injections (R498 to R500, R503) -/

/-- The status word of a level: 0 the Harbourmaster, 1 quay `unit`, 2 the Bollard of tile `unit`. -/
def faultPlace (level unit : Nat) : Nat :=
  match level with | 0 => hmBlk 0x10 | 1 => qyBlk unit 0x10 | _ => BOL_ERR unit

def armKey (level unit b : Nat) : Nat := faultPlace level unit * 64 + b

def State.isArmed (s : State) (level unit b : Nat) : Bool := s.armed.contains (armKey level unit b)

/-- The injection is consumed. -/
def State.disarm (s : State) (level unit b : Nat) : State := { s with armed := s.armed.filter (fun k => decide (k ≠ armKey level unit b)) }

/-- The class of a fault bit. -/
def State.faultClass (s : State) (level b : Nat) : FClass :=
  match level with
  | 0 => if b = 8 ∧ coreCount s.cores < 3 then .l else hmClass (coreCount s.cores) b
  | 1 => quayClass b
  | _ => bolClass b

def levelType (level : Nat) : Nat := match level with | 0 => tyHm | 1 => tyQuay | _ => tyBol

/-- The quay a level's unit belongs to. -/
def levelQuay (level unit : Nat) : Nat := if level = 1 then unit else quayOf unit

/-- A bit that can be forced (R498): not PG_ERR [7:0], not a summary bit, not a reserved one. -/
def forceable (level b : Nat) : Bool :=
  match level with
  | 0 => decide (8 ≤ b) && decide (b ≤ 25) && decide (b ≠ 18)
  | 1 => decide (8 ≤ b) && decide (b ≤ 26) && decide (b ≠ 16)
  | _ => decide (b ≤ 15)

/-! ### Reactions (R489, R491 to R494) -/

/-- The account of a quay is rebuilt from what every Bollard holds (R491 bit 22, R493 bit 14). -/
def State.rebuildAccount (s : State) (q : Nat) : State :=
  let tiles := s.touchedTiles.filter (fun p => quayOf p = q)
  let held := (tiles.map (fun p => s.get (BOL_CLR_HELD p))).sum + s.get (QY_CLEAR_TOK_TENDER q)
  let s := s.put (QY_CLEAR_TOK_HELD q) held
  (s.put (QY_CLEAR_TOK_BUCKETS q) (tiles.map (fun p => s.get (BOL_CLR_BUCKET p))).sum)

/-- Tender state parity (R491 bit 21): a berth's transfer is declined as aborted, a ring transfer ends with status 7. -/
def State.tenderParity (s : State) (q t : Nat) : State :=
  match (s.tender q (t % 8)).cur with
  | some (.berth b) => s.abortBerth q b 2
  | some (.ring d) => ((s.tenderReturn q).leaveBanks q d).ringEnd q (t % 8) d 7 0 0
  | _ => s

/-- The round in progress of a line is void (R491 bit 18): on HW0 and HW2 it is to be made again, on a job line no member has arrived. -/
def State.voidRound (s : State) (line : Nat) : State :=
  if line = 0 then { s with commit.released := [], commit.releasedAt := none }
  else if line = 2 then s.setExt 2 LineExt.idle
  else if line < 3 ∨ 7 < line then s
  else
    let s := s.setExt line LineExt.idle
    s.tiles.foldl (fun s x =>
      let y := s.slot x.1 (line - 3)
      if y.entry.isSome && y.arrived && !y.due then (s.setSlot x.1 (line - 3) { y with b := !y.sense, pend := false }).refreshHold x.1 else s) s

/-- The object takes COMMITTED from the partner's copy (R404, R491 bit 13). -/
def State.syncUe (s : State) (q i : Nat) : State :=
  let o := s.obj q i
  s.setObj q i { o with cnt := { o.cnt with committed := tabGet (fun _ => 0) (s.quay q).objCopy i } }

/-- The reaction of a quay's fault bit (R491). `aux` is what the checker concerns: a store offset, an object, a tender, a line, a channel, a local
tile, a bus address. -/
def State.quayFault (s : State) (q b : Nat) (forced : Bool) (synd aux : Nat) : State :=
  match b with
  | 8 => s.lockstepMismatch q aux 8 forced
  | 10 => s.lockstepMismatch q aux 10 forced
  | 11 => s.storeUe q aux 1 forced
  | 13 => (s.latchQuay q 13 forced synd).syncUe q aux
  | 14 => (s.latchQuay q 14 forced synd).modQuay q (fun t => t.addUnclean (s.jt - 1) [aux % regionTiles])
  | 17 => (s.latchQuay q 17 forced synd).vote (qyBlk q 0) 1
  | 18 => (s.latchQuay q 18 forced synd).voidRound (aux % 8)
  | 19 => (s.latchQuay q 19 forced synd).fireChannel q (aux % 16) (s.get (QY_WAKE_LAST_INDEX q)) (s.get (QY_WAKE_LAST_QUAY q)) false
  | 21 => (s.latchQuay q 21 forced synd).tenderParity q aux
  | 22 => (s.latchQuay q 22 forced synd).rebuildAccount q
  | 23 => (s.modQuay q (fun t => { t with missed := (aux % regionTiles, 2) :: t.missed })).chainWatchdog q (aux % regionTiles) true forced
  | b => s.latchQuay q b forced synd

/-- Bytes of a harbour-store bank (R380). -/
def hsBankBytes : Nat := 4194304

/-- Unread records of a ring of 64-byte units that lie in bank `k`: the length of each stands in its first word when `var`, else it is one unit. -/
def State.ringLost (s : State) (base size rd wr k : Nat) (var : Bool) : Nat → Nat
  | 0 => 0
  | fuel + 1 =>
    if rd = wr ∨ size = 0 then 0
    else
      let w := (s.readW (hsAddr (base + rd))).toNat
      let len := if var then 64 * max 1 (w / 2 ^ 16 % 2 ^ 16) else 64
      let hit := decide ((base + rd) / hsBankBytes = k) && (!var || decide (w % 16 ≠ 0))
      bit hit + s.ringLost base size ((rd + len) % size) wr k var fuel

/-- HSTORE_UE (R492 bit 13): the bank is Vermilion, Customs entries in it that no unit holds are lost, and unread harvest and result records count
as dropped. -/
def State.hstoreUe (s : State) (bank : Nat) (forced : Bool) (synd : Nat) : State :=
  let k := bank % 4
  let s := s.latchHm 13 forced synd
  let s := if forced && s.flag HM_FAULT_CTL_FORCE_NOCOLOUR then s.logColour 0 (srcWord tyBank 0 k) (s.unit (ukBank k)).colour vermilion k
    else s.setUnitColour (ukBank k) vermilion
  let base := s.get HM_CUS_QBASE_QOFF
  let s := { s with customs.queue := s.customs.queue.map (fun (e : CusEntry) =>
    if e.phase = 0 ∧ (base + 64 * e.id) / hsBankBytes = k then { e with captLost := true } else e) }
  let h := s.ringLost (s.get HM_CUS_HARV_BASE_OFF) (65536 * s.get HM_CUS_HARV_BASE_SIZE) (s.get HM_CUS_HARV_RD_RD) (s.get HM_CUS_HARV_WR_WR) k true 65536
  let r := s.ringLost (s.get HM_TEST_RES_BASE_OFF) (65536 * s.get HM_TEST_RES_BASE_SIZE) (s.get HM_TEST_RES_RD_RD) (s.get HM_TEST_RES_WR_WR) k false 65536
  (s.count HM_CUS_CNT1_HARV_DROPPED h).count HM_TEST_CNT1_RES_DROPPED r

/-- HSTORE_CE (R262, R492 bit 12). -/
def State.hstoreCe (s : State) (bank : Nat) (forced : Bool) (synd : Nat) : State :=
  let k := ukBank (bank % 4)
  let s := s.latchHm 12 forced synd
  let u := s.unit k
  let s := s.setUnit k { u with events := u.events + 1, quiet := if 64 ≤ u.events then 0 else u.quiet }
  if u.events = 64 ∧ u.colour = green ∧ !(forced && s.flag HM_FAULT_CTL_FORCE_NOCOLOUR) then s.setUnitColour k amber else s

/-- HK_REF (R460, R492 bit 21): every channel's reading is void until the next good check. -/
def State.hkRef (s : State) : State :=
  let hit := channels.filter (fun c => s.converted c && !s.flag (HM_THERM_VAL_FAULT c))
  let s := { (if hit = [] then s else s.logHm 0x0A04 0xFF 4 0 s.tick32) with power.refBad := true }
  (hit.foldl State.chVoid s).thermStat

/-- AO_UE (R492 bit 16): the record at buffer index `i` is lost. -/
def State.recordLost (s : State) (i : Nat) : State :=
  s.setRec i (s.mkRec 0x0B0C (srcWord tyHm 0 0) false (i % logSlots) 0 0 s.tick32)

/-- A residue mismatch in Customs unit `u` (R183, R492 bit 14). -/
def State.residue (s : State) (u : Nat) (forced : Bool) : State :=
  match s.served u with
  | some e => if e.phase = 2 ∨ e.phase = 3 then s.residueFault e u forced else s
  | none => s

/-- The reaction of a Harbourmaster fault bit (R492). `aux` is a core, a bank, a Customs unit, a key slot, a buffer index or a bus address. A forced vote
names the highest-numbered core in service. -/
def State.hmFault (s : State) (b : Nat) (forced : Bool) (synd aux : Nat) : State :=
  match b with
  | 8 => s.triplexVote (if forced then s.topCore else aux) synd forced
  | 9 => s.duplexMismatch forced
  | 11 => s.iramUe (if forced then s.topCore else aux) forced
  | 12 => s.hstoreCe aux forced synd
  | 13 => s.hstoreUe aux forced synd
  | 14 => (s.latchHm 14 forced synd).residue aux forced
  | 15 => (s.latchHm 15 forced synd).vote (hmBlk 0) 1
  | 16 => (s.latchHm 16 forced synd).recordLost aux
  | 17 => (s.latchHm 17 forced synd).vote (hmBlk 0) 1
  | 21 => (s.latchHm 21 forced synd).hkRef
  | 24 => (s.latchHm 24 forced synd).keyCheckFail aux
  | 25 => (s.latchHm 25 forced synd).vote (hmBlk 0) 1
  | b => s.latchHm b forced synd

/-- The reaction of a BOL_ERR bit (R493). `aux` is the local tile of the report frame, the cycle of receipt, or the cycles after a, or 1 for a side-port access to held inputs. -/
def State.bolFault (s : State) (p b : Nat) (forced : Bool) (synd aux : Nat) : State :=
  let q := quayOf p
  let s := s.latchBol p b forced synd
  match b with
  | 4 => s.quayFault q 14 forced synd aux
  | 8 => s.logTile p 0x0B09 p aux 0 s.tick32
  | 9 => s.logTile p 0x0B0A p aux 0 s.tick32
  | 11 => if aux = 1 then s.cause p cLmue else s
  | 14 => s.rebuildAccount q
  | _ => s

/-- An injection armed at the duplex comparison is consumed once two cores compare (R492 bit 9, R498). -/
def State.duplexArmed (s : State) : State :=
  if s.isArmed 0 0 9 && decide (coreCount s.cores = 2) && !s.inLantern then (s.disarm 0 0 9).duplexMismatch true else s

/-- The reaction of a bit of a level. -/
def State.react (s : State) (level unit b : Nat) (forced : Bool) (synd aux : Nat) : State :=
  match level with
  | 0 => (s.hmFault b forced synd aux).duplexArmed
  | 1 => if unit < s.nQuays then s.quayFault unit b forced synd aux else s
  | _ => s.bolFault unit b forced synd aux

/-- The next event of a checker: a real fault is taken, and consumes an injection; else an injection, if one is armed (R498, R503). The duplex comparison
has no event while another number of cores than two is in service (R492). A good check of the housekeeping reference ends its fault (R492 bit 21). -/
def State.checker (s : State) (level unit b synd aux : Nat) (real : Bool) : State :=
  if level = 0 ∧ b = 9 ∧ coreCount s.cores ≠ 2 then s
  else
  let forced := s.isArmed level unit b && !real
  let s := if level = 0 ∧ b = 21 ∧ !(real || forced) then { s with power.refBad := false } else s
  let s := s.disarm level unit b
  if real || forced then s.react level unit b forced synd aux else s

/-- FAULT_LATCH (R483): a checker's event. For the votes over RT registers a real event is an upset of copy `aux` mod 4 of the register at place
`aux` / 4, latched at the next scrub (R18). -/
def State.upset (s : State) (place copy : Nat) (m : Nat) : State :=
  let k := place * 4
  let dev := fun (i : Nat) => tabGet (fun _ => 0#64) s.rtDev (k + i)
  let d := (List.range 3).map (fun i => dev i ^^^ (if i = copy % 3 then BitVec.ofNat 64 m else 0))
  let a := d.getD 0 0
  let b := d.getD 1 0
  let c := d.getD 2 0
  let maj := (a &&& b) ||| (a &&& c) ||| (b &&& c)
  let s := s.setWord place (s.word place ^^^ maj)
  { s with rtDev := (List.range 3).foldl (fun t i => tabSet (fun _ => 0#64) t (k + i) (d.getD i 0 ^^^ maj)) s.rtDev }

def State.faultLatch (s : State) (level unit b synd aux : Nat) (real : Bool) : State :=
  let rtBit := decide (level = 0 ∧ b = 25 ∨ level = 1 ∧ b = 17 ∨ level = 2 ∧ b = 5)
  if rtBit && real then s.upset (aux / 4) (aux % 4) synd
  else if !forceable level b then s
  else s.checker level unit b synd aux real

/-- Checkers that compare in every cycle consume an injection in the next one (R498): output readback; the control-core pair, the hawser node;
the triplex vote, the AO and root votes. -/
def everyCycle (level b : Nat) : Bool :=
  match level with
  | 0 => [8, 9, 15, 17].contains b
  | 1 => [8, 18].contains b
  | _ => decide (b = 10)

/-- A force is accepted (R499). -/
def State.forceOk (s : State) (level unit b : Nat) : Bool :=
  if !s.isOpen then true
  else
    let second := decide (level = 1) && (decide (b = 8) || decide (b = 10)) && decide (1 ≤ (s.quay unit).mismatches)
    let cls := s.faultClass level b
    if second || decide (cls = .l) then s.flag HM_FAULT_CTL_INJECT_L
    else if cls = .c then true
    else s.flag HM_FAULT_CTL_INJECT_EN

/-- Record a force (R513). -/
def State.logForce (s : State) (level unit code p2 b : Nat) : State :=
  let ty := levelType level
  let q := levelQuay level unit
  if level = 0 then s.logHm code ty b p2 s.tick32
  else if level = 1 then s.logQuay q code ty b p2 s.tick32
  else s.enqueue (1 + q) [s.mkRec code (srcWord tyBol q unit) false ty b p2 s.tick32]

/-- One bit written to a force register (R498, R499). -/
def State.forceBit (s : State) (level unit page b : Nat) : State :=
  if !forceable level b then s
  else if s.forceOk level unit b then
    -- a further 1 while an injection is armed has no effect (R498)
    if s.isArmed level unit b then s
    else
      let s := (s.logForce level unit 0x0B03 (bit s.isOpen) b).count HM_FAULT_CNT0_FORCED 1
      let s := { s with armed := s.armed ++ [armKey level unit b] }
      if everyCycle level b then s.checker level unit b 0 0 false else s
  else (s.pageErr page errDenied).logForce level unit 0x0B04 (s.faultClass level b).code b

/-- ERROR_FORCE (R498): a write of `bits` to PG_ERR_FORCE of the page of place `page` (level 0 or 1), or to BOL_ERR_FORCE of tile `unit` (level 2,
through its quay's page 3). -/
def State.errorForce (s : State) (level unit page bits : Nat) : State :=
  (List.range 32).foldl (fun s b => if bits.testBit b then s.forceBit level unit page b else s) s

/-- A reset of a block's domain discards its injections (R498). -/
def State.dropArmed (s : State) (level unit : Nat) : State :=
  { s with armed := s.armed.filter (fun k => decide (k / 64 ≠ faultPlace level unit)) }

/-! ### RT scrub (R18, R490, R507) -/

/-- RT_SCRUB: every copy that disagrees is counted and rewritten, and armed injections of the votes are consumed. -/
def State.rtScrub (s : State) : State :=
  let l := s.rtDev
  let s := { s with rtDev := [] }
  let s := l.foldl (fun s x =>
    let a := x.1 / 4
    let synd := x.1 % 4
    if 0x100000000 ≤ a then s.bolFault ((a - 0x100000000) / 32) 5 false synd 0
    else if 0x100000 ≤ a then s.quayFault ((a - 0x100000) / 0x10000) 17 false synd 0
    else s.hmFault 25 false synd 0) s
  let arm := s.armed.filter (fun k => decide (k = armKey 0 0 25) || decide (k % 64 = 17 ∧ 0x100000 ≤ k / 64 ∧ k / 64 < 0x100000000)
    || decide (k % 64 = 5 ∧ 0x100000000 ≤ k / 64))
  let s := arm.foldl (fun s k =>
    let a := k / 64
    if 0x100000000 ≤ a then s.checker 2 ((a - 0x100000000) / 32) 5 0 0 false
    else if 0x100000 ≤ a then s.checker 1 ((a - 0x100000) / 0x10000) 17 0 0 false
    else s.checker 0 0 25 0 0 false) s
  s.quayList.foldl (fun s q =>
    let v := (s.word (qyBlk q 0x20)).toNat
    if (s.quay q).voteBase + 16 < v then (s.quayAmber q).modQuay q (fun t => { t with voteBase := v }) else s) s

/-- At a round boundary the counts of R262 and R491 start again. -/
def State.faultRound (s : State) : State :=
  s.quayList.foldl (fun s q => s.modQuay q (fun t => { t with mismatches := 0, voteBase := (s.word (qyBlk q 0x20)).toNat })) s

/-! ### The collector (R485, R486, R504, R509, R512) -/

/-- The rows field of local row `r`. -/
def State.setRow (s : State) (q r : Nat) : State :=
  if r < 64 then s.put (QY_FAULT_ROWS0_ROWS q) (setBitN (s.get (QY_FAULT_ROWS0_ROWS q)) r)
  else s.put (QY_FAULT_ROWS1_ROWS q) (setBitN (s.get (QY_FAULT_ROWS1_ROWS q)) (r - 64))

/-- BOLLARD_FAULT_MESSAGE (R485): the oldest message of a Bollard of quay `q` arrives. -/
def State.bolMessage (s : State) (q : Nat) : State :=
  match s.bolMsgs.find? (fun m => quayOf m.1 = q) with
  | none => s
  | some (p, bits, forced, tick) =>
    let s := { s with bolMsgs := s.bolMsgs.erase (p, bits, forced, tick) }
    let first := decide ((s.word (qyBlk q 0x1C)).toNat.testBit 5 = false) && !s.flag (QY_FAULT_FIRST_VALID q)
    let s := s.setRow q (localOf p / 128)
    let s := if first then
        s.setWord (QY_FAULT_FIRST q) (BitVec.ofNat 64 (localOf p + bits % 2 ^ 16 * 2 ^ 14 + bit forced * 2 ^ 30 + tick * 2 ^ 31 + 2 ^ 63))
      else s
    if (s.word (qyBlk q 0x10)).toNat.testBit 16 then s else s.latchQuayAs q 16 .summary forced 0

/-- The lowest bit of a Bollard's word. -/
def lowBit (m : Nat) : Nat := ((List.range 16).find? (fun i => m.testBit i)).getD 0

/-- QUAY_FAULT_MESSAGE (R486, R504): the `n` oldest messages arrive in one cycle; the winner under R17 loads HM_FAULT_SRC. -/
def State.quayMessage (s : State) (n : Nat) : State :=
  let l := s.quayMsgs.take n
  let s := { s with quayMsgs := s.quayMsgs.drop n }
  match rotWinner s.jt 64 (l.map (fun m => m.1)) with
  | none => s
  | some q =>
    if s.flag HM_FAULT_SRC_VALID then s
    else
      match l.find? (fun m => m.1 = q) with
      | none => s
      | some (_, b, forced) =>
        let bol := decide (b = 16) && s.flag (QY_FAULT_FIRST_VALID q)
        let ty := if bol then tyBol else tyQuay
        let lt := if bol then s.get (QY_FAULT_FIRST_LTILE q) else 0
        let k := if bol then lowBit (s.get (QY_FAULT_FIRST_BITS q)) else b
        s.setWord HM_FAULT_SRC (BitVec.ofNat 64 (ty + q * 2 ^ 8 + lt * 2 ^ 14 + k * 2 ^ 28 + bit forced * 2 ^ 33 + s.time.tick % 2 ^ 29 * 2 ^ 34 + 2 ^ 63))

/-- Rows whose Bollards have no uncorrected bit left fall, and BOL_FAULT with the last of them (R485, R512). -/
def State.refreshRows (s : State) (q : Nat) : State :=
  let bad := (s.touchedTiles.filter (fun p => decide (quayOf p = q) && decide ((s.word (BOL_ERR p)).toNat &&& bolUncorrected ≠ 0))).map (fun p => localOf p / 128)
  let m := bad.foldl setBitN 0
  let r0 := s.get (QY_FAULT_ROWS0_ROWS q) &&& (m % 2 ^ 64)
  let r1 := s.get (QY_FAULT_ROWS1_ROWS q) &&& (m / 2 ^ 64)
  (s.put (QY_FAULT_ROWS0_ROWS q) r0).put (QY_FAULT_ROWS1_ROWS q) r1

/-! ### Alarms and orders (R495, R497, R505, R510) -/

/-- ALARM_ACK (R497, R505, R513): by the host (source 1) or the board controller's sideband (2). -/
def State.alarmAck (s : State) (mask source : Nat) : State :=
  -- a cause latched in this cycle is not acknowledged (R505)
  let m := mask % 64 &&& s.get HM_FAULT_ALARM_CAUSE
  let m := m - (m &&& (s.setNow HM_FAULT_ALARM).toNat)
  let s := s.put HM_FAULT_ALARM_ACKED (s.get HM_FAULT_ALARM_ACKED ||| m)
  s.logHm 0x0B0B m source ((s.word HM_FAULT_ALARM).toNat % 2 ^ 12) s.tick32

/-- BREAKWATER_REGION (R510). -/
def State.hostRegion (s : State) (q : Nat) : State :=
  let s := s.put HM_FAULT_OP_QUAY q
  let q := q % 64
  if s.nQuays ≤ q then s else (s.regionBreakwater q 0xFF true).pullHw1 3 q 0 0 7

/-- BREAKWATER_WAFER (R510). -/
def State.hostWafer (s : State) : State := (s.waferBreakwater 0xFF true).pullHw1 3 0 0 0 7

end Sys2Proof.Machine
end

