-- ==== Sys2Proof/Machine/Lockstep.lean ====
section
/-!
DEFINITION. The determinism digest, two-wafer lockstep and the Harbourmaster's own windows (chapter 16, with R364 and R634).
-/

namespace Sys2Proof.Machine

/-! ### DET_DIGEST (R613, R614) -/

/-- Bytes of 64-bit words, lowest first, as the CRC takes them. -/
def crcOfWords (l : List Nat) : BitVec 64 := BitVec.ofNat 64 (crc64 (((l.map (BitVec.ofNat 64)).flatMap wordBytes).map (fun b => b.toNat)))

/-- The sixteen words of R613; quay fields are those of quay 0. -/
def State.detWords (s : State) : List Nat :=
  [s.sp.stepping % 2 ^ 16 + s.sp.grade % 2 ^ 8 * 2 ^ 16 + s.sp.variant.code * 2 ^ 24
     + (if s.get HM_HAWSER_XCTL_XEN = 0 then 0 else (s.get HM_HAWSER_XCTL_WAFERS + 15) % 16) * 2 ^ 26,
   s.get HM_TRIPLEX_ID_CORE_STEP,
   s.get HM_DET_PLAN_CLOCK_PLAN + s.get HM_DET_PLAN_POWER_PLAN * 2 ^ 32,
   fieldOf (s.word HM_HEALTH_MARGIN) 0 17 + s.get HM_HEALTH_CTL_MARGIN_EN * 2 ^ 17,
   s.get HM_TIME_CTL_TICK_LEN + s.get HM_TIME_TPS_TPS * 2 ^ 2,
   (s.word (QY_PILOT_SEED 0)).toNat,
   fieldOf (s.word (QY_PILOT_CTL 0)) 0 51,
   s.get (QY_CSUM_CTL_TTV 0) + s.get (QY_CSUM_CTL_RANGE_EN 0) * 2 ^ 16,
   s.get HM_COMMIT_CTL_HELD,
   1, 0, 0, 0, 0, 0, 0]

/-- Compute, show and record the digest (R614). -/
def State.detDigest (s : State) : State :=
  let d := crcOfWords s.detWords
  (s.setWord HM_DET_DIGEST d).logHm 0x0F01 d.toNat (d.toNat / 2 ^ 32) 0 (s.jt % 2 ^ 32)

/-! ### States and stops (R624, R633) -/

def lkOff : Nat := 0
def lkStarting : Nat := 1
def lkRunning : Nat := 2
def lkDrilling : Nat := 3
def lkStopped : Nat := 4
def lkRefused : Nat := 5

def State.lockState (s : State) : Nat := s.get HM_LOCKSTEP_STAT_STATE
def State.lockPeer (s : State) : Nat := s.get HM_LOCKSTEP_CTL_PEER

/-- Stop with a reason of R624: the record's P2 is the last step compared (R624). -/
def State.lockStop (s : State) (reason : Nat) (own : Bool) : State :=
  let s := ((s.put HM_LOCKSTEP_STAT_STATE lkStopped).put HM_LOCKSTEP_STAT_REASON reason).put HM_LOCKSTEP_STAT_OWN_STALL (bit own)
  let s := { s with lock := { s.lock with drillAt := none, drillIn := false, hw2 := false, resend := [] } }
  s.logHm 0x0F05 s.lockPeer reason (s.get HM_LOCKSTEP_STAT_LAST_STEP) 0

/-! ### Steps and contributions (R619 to R621) -/

/-- SIGACC of a tile. -/
def State.sigacc (s : State) (p : Nat) : BitVec 64 := tabGet (fun _ => 0) s.lock.acc p

def State.setSigacc (s : State) (p : Nat) (w : BitVec 64) : State := { s with lock.acc := tabSet (fun _ => 0) s.lock.acc p w }

/-- A tile closed with signature `sig` at a JOB core while lockstep runs (R620). -/
def State.lockTile (s : State) (p : Nat) (sig : BitVec 64) : State :=
  if s.lockState ≠ lkRunning ∨ s.role p ≠ roleJob then s else s.setSigacc p (s.sigacc p ^^^ sig)

/-- The contribution of a STEP beat numbered `n` (R620). -/
def State.lockStep (s : State) (p n : Nat) : State :=
  if s.lockState ≠ lkRunning ∨ s.role p ≠ roleJob then s
  else
    let num : Nat → Nat → List Nat := fun v k => (List.range k).map (fun i => v / 2 ^ (8 * i) % 256)
    let k := BitVec.ofNat 64 (crc64 (num (s.lcore p) 4 ++ num n 4 ++ num (s.sigacc p).toNat 8))
    let c : Contrib := ⟨s.lcore p, n % 2 ^ 32, k, s.jt⟩
    ({ s with lock.contribs := s.lock.contribs ++ [c] }).setSigacc p 0

/-- Key of a row's share of a step at a home quay. -/
def rowKey (q step row : Nat) : Nat := (q * 2 ^ 32 + step) * 128 + row

/-- Logical rows of a quay, and the logical cores of a row (R269). -/
def State.lockRows (s : State) : Nat := (s.logicalPer + 127) / 128
def State.rowCores (s : State) (r : Nat) : Nat := min 128 (s.logicalPer - 128 * r)

def State.lockLowest (s : State) (q : Nat) : Nat := tabGet (fun _ => 0) s.lock.lowest q
def State.rowShare (s : State) (q step row : Nat) : RowShare := tabGet (fun _ => RowShare.zero) s.lock.rows (rowKey q step row)

/-- A contribution counted in its row, by job tick (R621). -/
def RowShare.add (x : RowShare) (k : BitVec 64) (tick ctick : Nat) : RowShare :=
  if tick ≤ ctick then { x with x := x.x ^^^ k, n := x.n + 1 }
  else
    let old : BitVec 64 × Nat := ((x.shares.find? (fun e => decide (e.1 = tick))).map (fun e => e.2)).getD (0, 0)
    { x with shares := (tick, old.1 ^^^ k, old.2 + 1) :: x.shares.filter (fun e => decide (e.1 ≠ tick)) }

/-- The shares of ticks up to `n` commit. -/
def RowShare.commit (x : RowShare) (n : Nat) : RowShare :=
  let due := x.shares.filter (fun e => decide (e.1 ≤ n))
  { x := due.foldl (fun a e => a ^^^ e.2.1) x.x, n := x.n + (due.map (fun e => e.2.2)).sum, shares := x.shares.filter (fun e => decide (n < e.1)) }

/-- LOCKSTEP_CONTRIBUTION (R620, R621): the oldest contribution of logical core `l` reaches its home quay. -/
def State.lockContribution (s : State) (l : Nat) : State :=
  match s.lock.contribs.find? (fun c => decide (c.lcore = l)) with
  | none => s
  | some c =>
    let s := { s with lock.contribs := s.lock.contribs.erase c }
    let q := s.homeQuay l
    let lo := s.lockLowest q
    -- from the freeze to the restart the shares of the ticks above the target are discarded, as R403 does for signals
    let lost : Bool := match s.commit.inRecall with | some r => r.received.contains q && decide (r.target < c.tick) | none => false
    if lost ∨ c.step < lo then s
    else if lo + 16 ≤ c.step then { s with lock.stall := true }
    else
      let row := (l - q * s.logicalPer) / 128
      let x := (s.rowShare q c.step row).add c.k c.tick (s.get HM_COMMIT_STAT_CTICK)
      { s with lock.rows := tabSet (fun _ => RowShare.zero) s.lock.rows (rowKey q c.step row) x }

/-- Place of the row digests of step `n` in a quay store's history (R622). -/
def State.histAddr (s : State) (q n : Nat) : Nat := qsAddr q (s.get HM_LOCKSTEP_QAREA_OFF + n % 256 * 960)

/-- Quay `q`'s store holds no row digests below step `n`: it has been reset (R622, R625). -/
def State.histLost (s : State) (q n : Nat) : State := { s with lock.histFrom := tabSet (fun _ => 0) s.lock.histFrom q n }

/-- Complete steps of a quay, lowest first, at most `fuel` of them (R621, R622). -/
def State.lockComplete (s : State) (q : Nat) : Nat → State
  | 0 => s
  | k + 1 =>
    let n := s.lockLowest q
    let rows := List.range s.lockRows
    if s.lockRows = 0 ∨ !rows.all (fun r => decide ((s.rowShare q n r).n = s.rowCores r)) then s
    else
      let dig : List (BitVec 64) := rows.map (fun r => (s.rowShare q n r).x)
      -- a quay out of service has no store to keep them in
      let s := if s.get (QY_RST_STAT_STATE q) = 0 then s.writeWords (s.histAddr q n) (dig ++ List.replicate (120 - dig.length) 0) else s.histLost q (n + 1)
      let s := { s with lock.digests := s.lock.digests ++ [(q, n, crcOfWords (dig.map (fun (w : BitVec 64) => w.toNat)))] }
      let s := { s with lock.lowest := tabSet (fun _ => 0) s.lock.lowest q (n + 1) }
      let s := { s with lock.rows := s.lock.rows.filter (fun e => decide (e.1 / 128 ≠ q * 2 ^ 32 + n)) }
      s.lockComplete q k

/-- Tick `n` commits at every home quay. -/
def State.lockCommit (s : State) (n : Nat) : State :=
  if s.lock.rows.isEmpty then s
  else
    let s := { s with lock.rows := s.lock.rows.map (fun (e : Nat × RowShare) => (e.1, e.2.commit n)) }
    s.quayList.foldl (fun s q => s.lockComplete q 16) s

/-- At the end of job tick `n` the Bollards keep SIGACC (R620). -/
def State.lockKeep (s : State) (n : Nat) : State :=
  let ps := (s.lock.acc.map (·.1)) ++ ((s.lock.accHist.map (·.1)).filter (fun p => !s.lock.acc.any (fun e => e.1 = p)))
  ps.foldl (fun s p =>
    let h := tabGet (fun _ => []) s.lock.accHist p
    { s with lock.accHist := tabSet (fun _ => []) s.lock.accHist p (((n, s.sigacc p) :: h.filter (fun e => decide (e.1 ≠ n))).take 4) }) s

/-- The restart of a recall to `c` (R620, R621, R627). -/
def State.lockRestart (s : State) (c : Nat) : State :=
  let s := { s with lock.contribs := s.lock.contribs.filter (fun x => decide (x.tick ≤ c)) }
  let cut := fun (x : RowShare) => { x with shares := x.shares.filter (fun y => decide (y.1 ≤ c)) }
  let s := { s with lock.rows := (s.lock.rows.map (fun (e : Nat × RowShare) => (e.1, cut e.2))).filter (fun e => decide (e.2 ≠ RowShare.zero)) }
  let ps := (s.lock.acc.map (·.1)) ++ ((s.lock.accHist.map (·.1)).filter (fun p => !s.lock.acc.any (fun e => e.1 = p)))
  ps.foldl (fun s p =>
    let h := tabGet (fun _ => []) s.lock.accHist p
    s.setSigacc p (((h.find? (fun e => decide (e.1 = c))).map (·.2)).getD 0)) s

/-- A move carries SIGACC (R620). -/
def State.lockCarry (s : State) (x y : Nat) : State :=
  let h := tabGet (fun _ => []) s.lock.accHist x
  let s := (s.setSigacc y (s.sigacc x)).setSigacc x 0
  { s with lock.accHist := tabSet (fun _ => []) (tabSet (fun _ => []) s.lock.accHist y h) x [] }

/-! ### Step digests (R622) -/

def State.ownDigest (s : State) (n q : Nat) : Option (BitVec 64) := tabGet (fun _ => none) s.lock.own (n * 64 + q)

/-- Q(0, n) to Q(N − 1, n), once all have arrived. -/
def State.stepQuays (s : State) (n : Nat) : Option (List (BitVec 64)) := s.quayList.mapM (fun q => s.ownDigest n q)

/-- D(n). -/
def stepDigest (qs : List (BitVec 64)) : BitVec 64 := crcOfWords (qs.map (fun (w : BitVec 64) => w.toNat))

/-- QUAY_DIGEST (R622): quay `q`'s oldest digest reaches the Harbourmaster. -/
def State.quayDigest (s : State) (q : Nat) : State :=
  match s.lock.digests.find? (fun d => decide (d.1 = q)) with
  | none => s
  | some d =>
    let n := d.2.1
    let s := { s with lock.digests := s.lock.digests.erase d }
    let s := { s with lock.own := tabSet (fun _ => none) s.lock.own (n * 64 + q) (some d.2.2) }
    match s.stepQuays n with
    | none => s
    | some _ => { s with lock.doneAt := tabSet (fun _ => (0, 0)) s.lock.doneAt n (s.jt, s.time.tick) }

/-- The job tick and the tide tick at which step `n` completed. -/
def State.stepDone (s : State) (n : Nat) : Nat × Nat := tabGet (fun _ => (0, 0)) s.lock.doneAt n

/-- The tide tick in which the peer's slot of step `n` arrived. -/
def State.slotAt (s : State) (n : Nat) : Option Nat := (s.lock.arrived.find? (fun x => decide (x.1 = n))).map (fun x => x.2)

/-! ### Packets of the pair (R362, R363, R623, R625) -/

/-- Send rows to the peer's window. -/
def State.lockSend (s : State) (off : Nat) (rows : List (List (BitVec 64))) : State :=
  ({ s with lock.seq := s.lock.seq + 1, lock.sentAt := s.time.tick }).emit (.remote s.lockPeer (s.get HM_LOCKSTEP_CTL_PEER_WIN) off rows.flatten)

/-- Words in rows of eight, the last filled with zeros. -/
def inRows (n : Nat) (l : List (BitVec 64)) : List (List (BitVec 64)) :=
  (List.range n).map (fun i => let r := (l.drop (8 * i)).take 8; r ++ List.replicate (8 - r.length) 0)

/-- Row 0 of a slot. -/
def State.slotHead (s : State) (n : Nat) (d : BitVec 64) (w2 w3 : Nat) (start : Bool) : List (BitVec 64) :=
  [BitVec.ofNat 64 (n % 2 ^ 32 + s.get HM_TRIPLEX_ID_WAFER * 2 ^ 32 + bit start * 2 ^ 36), d, BitVec.ofNat 64 w2, BitVec.ofNat 64 w3, 0, 0, 0, 0]

/-- The window that receives the peer's packets: its byte address in the harbour store. -/
def State.lockWin (s : State) : Nat := hsAddr (s.get (HM_WIN_CFG_OFF (s.get HM_LOCKSTEP_CTL_WIN)))

/-- A quay's row digests of a step are still held (R622, R625). -/
def State.histHeld (s : State) (q n : Nat) : Bool := decide (n < s.lockLowest q) && decide (s.lockLowest q ≤ n + 256) && decide (tabGet (fun _ => 0) s.lock.histFrom q ≤ n) && decide (s.get (QY_RST_STAT_STATE q) = 0)

/-- The drill-down packet for step `n` and quay `q` (R623, R625). -/
def State.sendDrill (s : State) (n q : Nat) : State :=
  let held := s.histHeld q n
  let d := match s.stepQuays n with | some qs => stepDigest qs | none => 0
  let rows := s.slotHead n d q (bit (!held)) false
    :: inRows 15 (if held then s.readWords (s.histAddr q n) 120 else List.replicate 120 0)
  s.lockSend 262144 rows

/-- The START slot (R623, R626). -/
def State.sendStart (s : State) : State := s.lockSend 0 [s.slotHead 0 (s.word HM_DET_DIGEST) 0 0 true]

/-- LOCKSTEP_SLOT_SEND (R623): a packet the peer refused is sent again, else the next complete step's slot is sent; `refused` says whether the peer
refused the packet sent. While lockstep starts or drills down, it says whether the START slot or the drill-down packet sent last was refused. What was
refused is sent again at the next tick. -/
def State.slotSend (s : State) (refused : Bool) : State :=
  let again := decide (s.lock.sentAt ≠ s.time.tick)
  if s.lockState = lkStarting then (if refused && again && !s.lock.hw2 then (s.sendStart).count HM_LOCKSTEP_CNT_RESENDS 1 else s)
  else if s.lockState = lkDrilling then
    (if refused && again then (s.sendDrill (s.get HM_LOCKSTEP_DIV_STEP) (s.get HM_LOCKSTEP_DIV_QUAY)).count HM_LOCKSTEP_CNT_RESENDS 1 else s)
  else if s.lockState ≠ lkRunning then s
  else
    match s.lock.resend with
    | r :: t =>
      if !again then s
      else
      let s := (s.lockSend r.2.1 r.2.2).count HM_LOCKSTEP_CNT_RESENDS 1
      if refused then s else { s with lock.resend := t }
    | [] =>
      let n := s.lock.sendNext
      match s.stepQuays n with
      | none => s
      | some qs =>
        if s.lock.next + 255 ≤ n ∨ (s.stepDone n).2 = s.time.tick then s
        else
          let off := 1024 * (n % 256)
          let rows := s.slotHead n (stepDigest qs) (s.stepDone n).1 0 false :: inRows ((s.nQuays + 7) / 8) qs
          let s := (s.lockSend off rows)
          let s := { s with lock.sendNext := n + 1 }
          if refused then { s with lock.resend := [(n, off, rows)] } else s

/-- The lowest index at which two lists differ. -/
def firstDiff (a b : List (BitVec 64)) : Option Nat := (a.zip b).findIdx? (fun x => decide (x.1 ≠ x.2))

/-- A divergence ends once the peer's drill-down packet is present (R625). -/
def State.drillEnd (s : State) : State :=
  let n := s.get HM_LOCKSTEP_DIV_STEP
  let q := s.get HM_LOCKSTEP_DIV_QUAY
  let a := s.lockWin + 262144
  let lost := (s.readW (a + 24)).toNat.testBit 0 || !s.histHeld q n
  let row := if lost then none else firstDiff (s.readWords (s.histAddr q n) 120) (s.readWords (a + 64) 120)
  let s := match row with
    | some r => (s.put HM_LOCKSTEP_DIV_ROW r).put HM_LOCKSTEP_DIV_ROW_VALID 1
    | none => s.put HM_LOCKSTEP_DIV_ROW_VALID 0
  let s := s.logHm 0x0F04 ((s.stepDone n).1 % 2 ^ 32) q (row.getD 0xFFFFFFFF) s.lockPeer
  let s := s.lockStop 2 false
  if s.flag HM_LOCKSTEP_CTL_DIV_HALT then s.haltPull 3 0 7 5 else s

/-- Compare present steps in rising order, at most `fuel` of them (R624). -/
def State.compareSteps (s : State) : Nat → State
  | 0 => s
  | k + 1 =>
    let n := s.lock.next
    match s.stepQuays n with
    | none => s
    | some qs =>
      if (s.slotAt n).isNone then s
      else
        let a := s.lockWin + 1024 * (n % 256)
        let s := { s with lock.arrived := s.lock.arrived.filter (fun x => decide (x.1 ≠ n)) }
        if s.readW (a + 8) = stepDigest qs then
          let s := (s.put HM_LOCKSTEP_STAT_LAST_STEP n).count HM_LOCKSTEP_CNT_COMPARED 1
          let s := { s with lock.next := n + 1, lock.own := s.lock.own.filter (fun e => decide (e.1 / 64 ≠ n)),
                            lock.doneAt := s.lock.doneAt.filter (fun e => decide (e.1 ≠ n)) }
          s.compareSteps k
        else
          let q := (firstDiff qs (s.readWords (a + 64) s.nQuays)).getD 0
          let s := { s with lock.drillAt := some s.time.tick }
          let s := (s.put HM_LOCKSTEP_STAT_STATE lkDrilling).setWord HM_LOCKSTEP_DIV 0
          (((s.put HM_LOCKSTEP_DIV_STEP n).put HM_LOCKSTEP_DIV_QUAY q).put HM_LOCKSTEP_DIV_VALID 1).sendDrill n q

/-- The peer's drill-down packet in the window is that of the diverging step and quay (R623, R625). -/
def State.drillFits (s : State) : Bool :=
  let a := s.lockWin + 262144
  decide ((s.readW a).toNat % 2 ^ 32 = s.get HM_LOCKSTEP_DIV_STEP) && decide ((s.readW (a + 16)).toNat % 2 ^ 6 = s.get HM_LOCKSTEP_DIV_QUAY)

/-- LOCKSTEP_COMPARE (R624, R625, R629): `ue` says that a slot or drill-down row read returned STORE_UE. -/
def State.lockCompare (s : State) (ue : Bool) : State :=
  let s := s.at_ (s.commitAt + 1)
  let silent := fun (s : State) (w : Option Nat) => match w with
    | some t => decide (t + s.get HM_LOCKSTEP_CTL_SILENT ≤ s.time.tick)
    | none => false
  if s.lockState = lkDrilling then
    if ue then s.lockStop 3 false
    else if s.lock.drillIn && s.drillFits then s.drillEnd
    else if silent s s.lock.drillAt then s.lockStop 4 false
    else s
  else if s.lockState ≠ lkRunning then s
  else if ue then s.lockStop 3 false
  else if s.lock.stall then s.lockStop 4 true
  else
    let s := s.compareSteps 256
    if s.lockState ≠ lkRunning then s
    else
      let own := (s.stepQuays s.lock.next).isSome
      let peer := s.slotAt s.lock.next
      if own && peer.isNone && silent s (some (s.stepDone s.lock.next).2) then s.lockStop 4 false
      else if !own && silent s peer then s.lockStop 4 true
      else s

/-! ### Starting and stopping (R626, R632) -/

/-- Lockstep runs: slot 0 is cleared and comparison starts at step 0. -/
def State.lockRun (s : State) : State :=
  let s := s.writeWords s.lockWin (List.replicate 128 0)
  let s := { s with lock := { LockSt.idle with seq := s.lock.seq } }
  s.put HM_LOCKSTEP_STAT_STATE lkRunning

/-- A start is refused (R626). -/
def State.lockRefuse (s : State) (reason : Nat) (peer : BitVec 64) : State :=
  let s := (s.put HM_LOCKSTEP_STAT_STATE lkRefused).put HM_LOCKSTEP_STAT_REASON reason
  let s := { s with lock.peerStart := none }
  s.logHm 0x0F03 s.lockPeer (s.word HM_DET_DIGEST).toNat peer.toNat reason

/-- The peer's START digest is present: compare (R626). -/
def State.lockTryStart (s : State) : State :=
  if s.lockState ≠ lkStarting ∨ s.lock.hw2 then s
  else
    match s.lock.peerStart with
    | none => s
    | some d =>
      if d ≠ s.word HM_DET_DIGEST then s.lockRefuse 1 d
      else
        -- R626 gives P1 the start step 0
        let s := s.logHm 0x0F02 s.lockPeer 0 (s.word HM_DET_DIGEST).toNat 0
        if s.xen 2 then { s with lock.hw2 := true, hawser.hw2 := 2 } else s.lockRun

/-- LOCKSTEP_GO (R626, R632). -/
def State.lockGo (s : State) : State :=
  if s.phaseNo ≠ phReady ∨ !s.flag HM_LOCKSTEP_CTL_EN ∨ [lkStarting, lkRunning, lkDrilling].contains s.lockState then s
  else
    let s := s.detDigest
    let w := s.get HM_LOCKSTEP_CTL_WIN
    if s.flag (HM_WIN_CFG_AUTH w) && (s.key (1 + s.get (HM_WIN_CFG_KEY_SEL w))).isNone then s.lockRefuse 2 0
    else
      let s := ((s.put HM_LOCKSTEP_STAT_STATE lkStarting).put HM_LOCKSTEP_STAT_REASON 0).put HM_LOCKSTEP_STAT_OWN_STALL 0
      let s := { s with lock := { LockSt.idle with seq := s.lock.seq, started := s.time.tick, peerStart := s.lock.peerStart } }
      (s.sendStart).lockTryStart

/-- LOCKSTEP_START_TIMEOUT (R626). -/
def State.lockTimeout (s : State) : State :=
  if s.lockState = lkStarting ∧ s.lock.peerStart.isNone ∧ s.lock.started + s.get HM_TIME_TPS_TPS ≤ s.time.tick then s.lockRefuse 3 0 else s

/-- LOCKSTEP_STOP (R624, R629, R632). -/
def State.lockStopOp (s : State) : State :=
  if [lkStarting, lkRunning, lkDrilling].contains s.lockState then
    (if s.hawser.hw2 = 2 then { s with hawser.hw2 := 0 } else s).lockStop 1 false
  else s

/-! ### The Harbourmaster's windows (R364, R634) -/

/-- The first failing check of R363 at Harbourmaster window `w`. A bank of the harbour store is always ON, unless it is out of service. -/
def State.hmWinReason (s : State) (k : Packet) (key : Option (BitVec 256)) : Nat :=
  let w := k.win % 8
  let lo := s.getHeld (HM_WIN_CFG_OFF w) + k.off
  if s.getHeld (HM_WIN_CFG_EN w) = 0 then 1
  else if !(s.getHeld (HM_WIN_CFG_WAFERS w)).testBit k.wafer then 2
  else if 64 * s.getHeld (HM_WIN_CFG_ROWS w) < k.off + 64 * k.rows.length then 3
  else if !(List.range k.rows.length).all (fun i => decide ((s.unit (ukBank ((lo + 64 * i) / 4194304 % 4))).colour < vermilion)) then 4
  else if !seqOk k.seq (s.get (HM_WIN_STAT_LAST_SEQ w)) then 5
  else if decide (s.getHeld (HM_WIN_CFG_AUTH w) ≠ 0) && (match key with | some x => decide (k.mac x ≠ k.tag) | none => true) then 6
  else 0

/-- A packet accepted in the window of lockstep (R623 to R628). -/
def State.lockPacket (s : State) (k : Packet) : State :=
  let w0 := ((k.rows.getD 0 []).getD 0 0).toNat
  let w1 := (k.rows.getD 0 []).getD 1 0
  if k.win % 8 ≠ s.get HM_LOCKSTEP_CTL_WIN ∨ !s.flag HM_LOCKSTEP_CTL_EN then s
  else if k.off = 262144 then { s with lock.drillIn := true }
  else if w0.testBit 36 then ({ s with lock.peerStart := some w1 }).lockTryStart
  else
    let n := w0 % 2 ^ 32
    if n < s.lock.next ∨ (s.slotAt n).isSome then s
    else { s with lock.arrived := s.lock.arrived ++ [(n, s.time.tick)] }

/-- A packet at a Harbourmaster window (R363, R364). -/
def State.hmPacket (s : State) (k : Packet) (key : Option (BitVec 256)) : State :=
  let w := k.win % 8
  let r := s.hmWinReason k key
  if r ≠ 0 then
    let s := (s.count (HM_WIN_STAT_REFUSED w) 1).put (HM_WIN_STAT_REASON w) r
    let s := s.logHm 0x0809 w k.wafer r k.seq
    let s := s.emit (.winAnswer 64 w r)
    if r = 4 ∧ w = s.get HM_LOCKSTEP_CTL_WIN ∧ (s.lockState = lkRunning ∨ s.lockState = lkDrilling) then s.lockStop 3 false else s
  else
    let lo := s.getHeld (HM_WIN_CFG_OFF w) + k.off
    let s := (k.rows.zipIdx).foldl (fun s x => s.writeWords (hsAddr (lo + 64 * x.2)) (x.1.take 8)) s
    let s := if s.getHeld (HM_WIN_CFG_SETFULL w) = 0 then s
      else { s with hmTags := (List.range k.rows.length).foldl (fun t i => tabSet (fun _ => false) t (lo / 64 + i) true) s.hmTags }
    let s := (s.put (HM_WIN_STAT_LAST_SEQ w) k.seq).count (HM_WIN_STAT_ACCEPTED w) 1
    (s.emit (.winAnswer 64 w 0)).lockPacket k

end Sys2Proof.Machine
end

