-- ==== Sys2Proof/Machine/Commit.lean ====
section
/-!
DEFINITION. Commit and recall (chapter 06): the quays' and the root's deadlines, the commit broadcast, the recall sequence with its moves, the mailbox, the
restart, halts and detect-only mode.
-/

namespace Sys2Proof.Machine

/-- Halt codes (R236). -/
def haltSpares : Nat := 1
def haltLoop : Nat := 2
def haltHold : Nat := 3
def haltHost : Nat := 5

/-! ### Suspects of detect-only mode (R239) -/

/-- A detection's report. One that concerns no tile carries tile 0xFFFFF, and its quay above it. -/
def State.reportDetection (s : State) (d : Nat × Nat × Nat × Nat) : State :=
  let (p, l, n, why) := d
  let t := p % 2 ^ 20
  if t = 0xFFFFF then
    let q := p / 2 ^ 20
    if q = 64 then s.suspect 0 (srcWord tyHm 0 0) 0 0xFFFFF 0xFFFFF why n n (n - 1)
    else s.suspect (1 + q) (srcWord tyQuay q 0) q 0xFFFFF 0xFFFFF why n n (n - 1)
  else s.suspect (1 + quayOf t) (srcWord tyQuay (quayOf t) t) (quayOf t) l t why n n (n - 1)

/-- Reports are raised at the later of the detection and the commit of its tick. -/
def State.raiseSuspects (s : State) : State :=
  let due := s.detections.filter (fun d => decide (d.2.2.1 ≤ s.ctick))
  due.foldl (fun s d => s.reportDetection d) { s with detections := s.detections.filter (fun d => decide (s.ctick < d.2.2.1)) }

/-! ### Committing a tick (R222 to R225, R243) -/

/-- The commit reaches quay `q`: EGC_TICK, with every commit count of its Bollards, and EGC_STB. -/
def State.applyQuay (s : State) (q n : Nat) : State := (s.modQuay q (fun t => { t with egcTick := n })).emit (.egcStb q)

/-- The tick has an agent that is not clean at quay `q`, and how many frames were not. -/
def State.uncleanAt (s : State) (q n : Nat) : Option Nat := ((s.quay q).unclean.find? (fun x => decide (x.1 = n))).map (·.2.length)

/-- A check of job tick `n` is outstanding: a berth that is neither compared nor LATE (R215). -/
def State.outstanding (s : State) (q n : Nat) : Bool :=
  (s.quay q).berths.any (fun kv => [btTaken, btCopying, btRunning, btReturned].contains kv.2.st && decide (s.belongs kv.2 = n))

/-- The quay, or its adopter, controls region `q` (R520, R521). -/
def State.controlled (s : State) (q : Nat) : Bool :=
  decide (s.quayState q = 0) || decide (s.quayState q = 4) || s.flag (QY_RST_STAT_ADOPTED q)

/-- QUAY_DEADLINE (R36, R38, R40, R224, R239): at cycle 1,848 the quay lets go of its HW0 share for the tick before last, or, holding a check of it that is not
clean or still outstanding, pulls HW1 (the reason of that pull is the model's, notes/assumptions/40.md). In detect-only mode it lets go in either case. -/
def State.quayDeadline (s : State) (q : Nat) : State :=
  let s := s.at_ s.quayAt
  let n := s.jt - 2
  if s.cmState = cmClosed ∨ (s.cmState = cmHalted ∧ !s.donly) ∨ s.jt < s.commit.openTick + 2 ∨ n ≤ s.ctick ∨ !s.controlled q then s
  else
    let letGo := fun (s : State) =>
      if (s.commit.inRecall.isSome && !s.donly) || decide ((s.quay q).egcTick + 1 ≠ n) || s.commit.released.contains q then s
      else { s with commit.released := s.commit.released ++ [q] }
    match s.uncleanAt q n, s.outstanding q n with
    | none, false => letGo s
    | k, _ => if s.donly then (letGo s).logQuay q 0x050C n q (k.getD 0) 0 else s.pullQuay q 2

/-- The root commits tick `n` (R225): the broadcast leaves. -/
def State.rootCommit (s : State) (n : Nat) : State :=
  { s.put HM_COMMIT_STAT_COMMIT_PEND 1 with commit.pend := some n, commit.pendQuays := [], commit.released := [], commit.releasedAt := none }

/-- The HW0 round of the tick before last has completed and that tick is the next to commit. -/
def State.roundDone (s : State) : Bool :=
  s.commit.releasedAt.isSome && decide (s.jt - 2 = s.ctick + 1) && s.commit.pend.isNone

/-- ROOT_DECIDE (R38, R225): at cycle 2,024 the root commits, or pulls HW1 with reason ROOT. -/
def State.rootDecide (s : State) : State :=
  let s := s.at_ s.rootAt
  let n := s.jt - 2
  if (if s.donly then decide (s.cmState = cmClosed) else decide (s.cmState ≠ cmRun) || s.commit.inRecall.isSome) = true ∨ s.commit.pend.isSome
      ∨ n ≠ s.ctick + 1 ∨ s.jt < s.commit.openTick + 2 then
    { s with commit.released := [], commit.releasedAt := none }
  else if s.roundDone then s.rootCommit n
  else if s.donly then s.rootCommit n
  else
    let miss := s.quayList.filter (fun q => !s.commit.released.contains q)
    let s := s.at_ (s.rootAt + 1)
    let s := s.logHm 0x050A n miss.length (miss.headD 0) 0
    { s with commit.released := [], commit.releasedAt := none }.pullHw1 2 0 0 0 5

/-- The commit takes effect at the Harbourmaster and in all that follows the commit count (R163, R222, R233, R404, R414, R522, R621). -/
def State.applyCommit (s : State) (n : Nat) : State :=
  let s := { (s.put HM_COMMIT_STAT_CTICK n).put HM_COMMIT_STAT_COMMIT_PEND 0 with commit.pend := none }
  let s := if s.commit.replayTarget < n then { s with commit.replays := 0 } else s
  let s := s.quayList.foldl (fun s q =>
    let s := if (s.quay q).makeups.isEmpty then s else s.dropPatches q n
    if (s.quay q).unclean.isEmpty then s else s.modQuay q (fun t => { t with unclean := t.unclean.filter (fun x => decide (n < x.1)) })) s
  let s := ((s.syncCommit n).lockCommit n).groupDecision n
  let s := s.raiseSuspects
  if s.lantern || s.rst.reclaimDue.isEmpty then s
  else ({ s with rst.reclaim := s.rst.reclaim ++ s.rst.reclaimDue, rst.reclaimDue := [] }).pullHw1 2 0 0 0 8

/-- A Bollard sees the commit broadcast after its deadline (R38, R493): the count advances on receipt. -/
def State.hawserLate (s : State) (p : Nat) : State :=
  let s := s.modTile p (fun t => { t with commitLag := none })
  (s.latchBol p 8 false 0).logTile p 0x0B09 p s.time.cyc 0 s.tick32

/-- The Bollards of quay `q` that have not seen the last commit with it. -/
def State.lagging (s : State) (q : Nat) : List Nat := s.touchedTiles.filter (fun p => decide (quayOf p = q) && (s.tile p).commitLag.isSome)

/-- COMMIT_BROADCAST (R38, R222, R224): quay `q` receives the broadcast and holds the commit, or applies it late; `slow` are the Bollards of its region that do
not see it with their quay. They see it with the next command that names the quay. -/
def State.commitBroadcast (s : State) (q : Nat) (slow : List Nat) : State :=
  match s.commit.pend with
  | some n =>
    if s.commit.pendQuays.contains q then s
    else slow.foldl (fun s p => s.modTile p (fun t => { t with commitLag := some n })) { s with commit.pendQuays := s.commit.pendQuays ++ [q] }
  | none =>
    if s.cmState = cmClosed then s
    else
      let late := s.lagging q
      let s := late.foldl (fun s p => s.hawserLate p) s
      if s.ctick ≤ (s.quay q).egcTick then s
      else
        -- the quay itself is late: it is recorded for the quay, whose fault word names no such bit (R491)
        let s := (s.applyQuay q s.ctick).logQuay q 0x0B09 q s.time.cyc 0 s.tick32
        (slow.filter (fun p => !late.contains p)).foldl (fun s p => s.hawserLate p) s

/-- COMMIT_APPLY (R222): at cycle 2,200. -/
def State.commitApply (s : State) : State :=
  let s := s.at_ s.commitAt
  let s := match s.commit.pend with | some n => s.applyCommit n | none => s
  let l := s.commit.pendQuays
  l.foldl (fun s q => if (s.quay q).egcTick < s.ctick then s.applyQuay q s.ctick else s) { s with commit.pendQuays := [] }

/-! ### Moves of a recall (R231, R232, R247, R275) -/

/-- Core cycles of a recall move's copy (R231). -/
def copyCycles (x y : Nat) : Nat := 16 + 8192 + hopsBetween x y

/-- The first tide tick whose cycle 0 lies at least 1,100 cc after `d` core cycles from now (R228). -/
def State.restartTick (s : State) (d : Nat) : Nat := s.time.tick + (s.time.cyc + d + 1100 + s.tickLen - 1) / s.tickLen

def State.modRecall (s : State) (f : RecallSt → RecallSt) : State :=
  match s.commit.inRecall with
  | some r => { s with commit.inRecall := some (f r) }
  | none => s

/-- The recall in progress becomes a halt; the first reason stands (R236, R246). -/
def State.makeHalt (s : State) (code l : Nat) : State :=
  s.modRecall (fun r => if r.halt = 0 then { r with halt := code, haltCore := l } else r)

/-- HOLD_LOST (R232): word `w` of the local memory of tile `x` cannot be moved. -/
def State.holdLost (s : State) (x l w : Nat) : State :=
  let c := (s.commit.inRecall.map (·.target)).getD 0
  (s.logTile x 0x0507 l x w c).makeHalt haltHold l

/-- The restart tick that the recall as it stands leads to (R228): core cycles from now to the latest of the drain end, the copies' ends and the reroute. -/
def State.restartGuess (s : State) (r : RecallSt) : Nat :=
  let drain := 200 + (s.get HM_COMMIT_CTL_DRAIN_CC : Int) - s.since r.s
  let route := if r.needReroute && !r.rerouted then (s.get HM_COMMIT_CTL_REROUTE_CC : Int) - s.since r.edge else 0
  let copies := r.moves.map (fun (m : Migration) => if m.done then 0 else (copyCycles m.src m.dst : Int) - s.since m.start)
  s.restartTick (copies.foldl max (max drain route)).toNat

/-- Start the move of tile `x`'s logical core `l`, asked for by trigger code `code`, to `y`, the spare chosen (R231, R275, R282). -/
def State.startMove (s : State) (x l code : Nat) (y : Option Nat) : State :=
  -- a dead Bollard cannot serve its side-port (R515)
  if !s.cdomOk x || s.rst.restarted.any (fun y => decide (y.1 = x) && decide (y.2 = 0)) then s.holdLost x l 0
  else
    match y with
    | none =>
      let s := ((s.outOfSpares l (quayOf x) true).alarm 5).makeHalt haltSpares l
      { s with demands := s.demands ++ [(x, code)] }
    | some y =>
      let s := s.takeFromShadow y
      let s := s.modRecall (fun r => { r with moves := r.moves ++ [⟨l, x, y, code, false, s.now, 0⟩], p := none, mailed := false })
      let t := (s.commit.inRecall.map s.restartGuess).getD 0
      let s := s.modRecall (fun r => { r with moves := r.moves.map (fun (m : Migration) => if m.lcore = l then { m with told := t } else m) })
      let s := (s.setMap l x true).sendMap l y t
      s.showMove (quayOf x) l x y 3 false

/-- Of the claims on one tile, (vacated tile, tile chosen), whether this one wins (R280, R284): a move of the tile's own quay first, by local tile index under R17,
then by quay index. -/
def State.winsClaim (s : State) (claims : List (Nat × Nat)) (c : Nat × Nat) : Bool :=
  let rivals := (claims.filter (fun d => decide (d.2 = c.2))).map (·.1)
  let own := rivals.filter (fun x => decide (quayOf x = quayOf c.2))
  let k := rotWinner s.jt 64 (rivals.map quayOf)
  let pool := if own.isEmpty then rivals.filter (fun x => decide (some (quayOf x) = k)) else own
  decide (rotWinner s.jt regionTiles (pool.map localOf) = some (localOf c.1)) && pool.contains c.1

/-- One cycle after another, every move that still waits chooses its spare; a loser chooses again in the next cycle (R284). -/
def State.moveRounds : Nat → State → List (Nat × Nat) → State
  | 0, s, _ => s
  | n + 1, s, l =>
    if l.isEmpty then s
    else
      let picks := l.map (fun d => (d, s.chooseSpare d.1))
      let claims := picks.filterMap (fun x => x.2.map (fun y => (x.1.1, y)))
      let wins := fun (x : (Nat × Nat) × Option Nat) => match x.2 with | some y => s.winsClaim claims (x.1.1, y) | none => true
      let s := (picks.filter wins).foldl (fun s x => s.startMove x.1.1 (s.lcore x.1.1) x.1.2 x.2) s
      s.moveRounds n ((picks.filter (fun x => !wins x)).map (·.1))

/-- Rinol starts the moves that a recall must make, once every participant has received it, or once the drain has ended, for the quays that have (R227, R231).
Without Rinol none starts (R529); during a pause they wait for the new Rinol (R603). -/
def State.startMigrations (s : State) : State :=
  match s.commit.inRecall with
  | none => s
  | some r =>
    if s.lantern ∨ s.donly ∨ s.flag HM_TRIPLEX_STAT_ABSENT ∨ (r.received.length < s.nQuays ∧ !r.drained) then s
    else
      let ready := fun (d : Nat × Nat) => decide (s.use d.1 = useServes) && r.received.contains (quayOf d.1)
      let moving := fun (d : Nat × Nat) => r.moves.any (fun (m : Migration) => decide (m.src = d.1))
      let code := fun (x c : Nat) => (s.demands.filter (fun d => decide (d.1 = x))).foldl (fun c d => max c d.2) c
      let srcs := ((s.demands.filter (fun d => ready d && !moving d)).map (·.1)).eraseDups
      let l := srcs.map (fun x => (x, code x 0))
      let s := s.modRecall (fun r => { r with moves := r.moves.map (fun (m : Migration) => { m with code := code m.src m.code }) })
      { s with demands := s.demands.filter (fun d => !ready d) }.moveRounds (l.length + 1) l

/-- A second fault, on the spare of a move: the spare is left out, another is chosen and the migration starts again (R247). -/
def State.restartMoves (s : State) (y : Nat) : State :=
  match s.commit.inRecall with
  | none => s
  | some r =>
    let hit := r.moves.filter (fun (m : Migration) => decide (m.dst = y))
    if hit.isEmpty then s
    else
      let s := s.modRecall (fun r => { r with
        moves := r.moves.filter (fun (m : Migration) => decide (m.dst ≠ y)), spoilt := y :: r.spoilt, p := none, mailed := false })
      { s with demands := s.demands ++ hit.map (fun m => (m.src, m.code)) }

/-- The moves of a recall still run. -/
def RecallSt.busy (r : RecallSt) : Bool := r.moves.any (fun (m : Migration) => !m.done)

/-- Announce the restart once the drain, the moves, the reroute and the adoptions have ended (R228, R520, R523), and no pause of the triplex runs (R603). -/
def State.tryAnnounce (s : State) : State :=
  match s.commit.inRecall with
  | none => s
  | some r =>
    let held := s.rst.orders ≠ [] ∨ (s.rst.lost ≠ [] ∧ r.halt = 0)
    if r.p.isSome ∨ !r.drained ∨ (r.needReroute && !r.rerouted) ∨ r.busy ∨ held ∨ s.flag HM_TRIPLEX_STAT_ABSENT then s
    else
      let t := s.restartTick 0
      -- a second update only where P has moved (R275)
      let s := (r.moves.filter (fun (m : Migration) => decide (m.told ≠ t))).foldl (fun s m => s.sendMap m.lcore m.dst t) s
      let s := s.modRecall (fun r => { r with moves := r.moves.map (fun (m : Migration) => { m with told := t }) })
      let s := (r.back.filter (fun x => !r.moves.any (fun (m : Migration) => m.lcore = x.1))).foldl (fun s x => s.sendMap x.1 x.2 t) s
      s.modRecall (fun r => { r with p := some t, mailed := false })

/-- MIGRATION_DONE (R231): the copy of logical core `l`'s memory ends. -/
def State.migrationDone (s : State) (l : Nat) : State :=
  match s.commit.inRecall with
  | none => s
  | some r =>
    match r.moves.find? (fun (m : Migration) => decide (m.lcore = l) && !m.done) with
    | none => s
    | some m =>
      let s := s.modRecall (fun r => { r with moves := r.moves.map (fun (k : Migration) => if k = m then { m with done := true } else k) })
      (s.showMove (quayOf m.src) l m.src m.dst 4 false).tryAnnounce

/-- A migration's read of word `w` of tile `x` returned LM_ERR[1] (R232). -/
def State.migrationUe (s : State) (x w : Nat) : State :=
  match s.commit.inRecall with
  | none => s
  | some r =>
    match r.moves.find? (fun (m : Migration) => decide (m.src = x) && !m.done) with
    | none => s
    | some m => ((s.modRecall (fun r => { r with moves := r.moves.erase m })).holdLost x m.lcore w).tryAnnounce

/-- DRAIN_END (R227): 200 + DRAIN_CC cycles after the pull reached the root; a participant that is late holds nothing back. -/
def State.drainEnd (s : State) : State :=
  match s.commit.inRecall with
  | none => s
  | some r =>
    if r.drained ∨ s.since r.s < 200 + s.get HM_COMMIT_CTL_DRAIN_CC then s
    else
      let s := if s.cmState = cmRecall ∧ s.rst.lost = [] then s.put HM_COMMIT_STAT_STATE cmDrain else s
      (s.modRecall (fun r => { r with drained := true })).startMigrations.tryAnnounce

/-- REROUTE_DONE (R227, R234, R235): REROUTE_CC after the latest RTR_LINK_DOWN edge. -/
def State.rerouteDone (s : State) : State :=
  match s.commit.inRecall with
  | none => s
  | some r =>
    if !r.needReroute ∨ s.since r.edge < s.get HM_COMMIT_CTL_REROUTE_CC then s
    else (s.modRecall (fun r => { r with rerouted := true })).tryAnnounce

/-! ### Pulls at the root (R225, R226, R230, R239, R243, R244, R246) -/

/-- The pull that a cycle's arrivals are recorded by: the lowest reason. -/
def firstPull : List Pull → Option Pull
  | [] => none
  | k :: t =>
    match firstPull t with
    | none => some k
    | some b => some (if b.reason < k.reason then b else k)

/-- The RECALL record. -/
def State.logRecall (s : State) (k : Pull) (target depth replays : Nat) : State :=
  s.logHm 0x0501 target (k.reason + min depth 3 * 2 ^ 4 + min replays 3 * 2 ^ 6) (k.kind + k.quay * 2 ^ 2 + k.ltile * 2 ^ 8) k.cause

/-- The latest edge of the pulls with cause LINK (R227, R235). -/
def linkEdge (l : List Pull) : Option Moment := ((l.filter (fun x => decide (x.reason = 6) || x.cause.testBit cLink)).getLast?).map (·.at_)

/-- A halt in detect-only mode (R236, R239, R282): the sequence runs and the job halts, but no tick is recalled; the commit page keeps what it shows, the root goes
on committing, and the record is that of a pull that recalled nothing (DEDUCED, notes/assumptions/140.md). -/
def State.donlyHalt (s : State) (k : Pull) (halt : Nat) : State :=
  let r : RecallSt := RecallSt.mk s.ctick k.reason k.at_ s.now false false false s.now [] [] [] halt 0 none false [] false []
  let s := (({ s with commit.inRecall := some r } : State).put HM_COMMIT_STAT_STATE cmRecall).logRecall k s.ctick 0 0
  (s.moves.filter (fun (m : Move) => decide (m.phase ≠ 5))).foldl (fun s m => s.abandonMove m 1) s

/-- A recall starts. -/
def State.newRecall (s : State) (k : Pull) (edge : Option Moment) (halt : Nat) : State :=
  -- a round that completed in an earlier cycle than the pull came is committed first (R39, R225)
  let before := match s.commit.releasedAt with | some x => decide (0 < s.since x) | none => false
  let s := if s.roundDone && before then s.rootCommit (s.jt - 2) else s
  let c := s.commit.pend.getD s.ctick
  let n := if s.commit.replayTarget = c then s.commit.replays + 1 else 1
  let depth := s.jt - c
  let s := { s with commit.replayTarget := c, commit.replays := n, commit.recallsOpen := s.commit.recallsOpen + 1,
                    commit.released := [], commit.releasedAt := none }
  let r : RecallSt := RecallSt.mk c k.reason k.at_ s.now false edge.isSome false (edge.getD s.now) [] [] [] halt 0 none false [] false []
  let s := { s with commit.inRecall := some r }
  let s := (s.put HM_COMMIT_STAT_STATE cmRecall).count HM_COMMIT_CNT_RECALLS 1
  let s := ((s.put HM_COMMIT_RECALL_TARGET c).put HM_COMMIT_RECALL_REASON k.reason).put HM_COMMIT_RECALL_DEPTH (min depth 3)
  let s := s.put HM_COMMIT_RECALL_REPLAYS (min n 3)
  let s := ((s.put HM_COMMIT_SRC_KIND k.kind).put HM_COMMIT_SRC_QUAY k.quay).put HM_COMMIT_SRC_LTILE k.ltile
  let s := (s.put HM_COMMIT_SRC_CAUSE k.cause).logRecall k c depth n
  let s := if max 1 (s.get HM_COMMIT_CTL_MAX_REPLAY) < n ∧ halt = 0 then
      (s.logHm 0x0504 c (n - 1) k.reason 0).makeHalt haltLoop 0
    else s
  -- boundary moves are abandoned (R283)
  (s.moves.filter (fun (m : Move) => decide (m.phase ≠ 5))).foldl (fun s m => s.abandonMove m 1) s

/-- RECALL_ROOT: the oldest `arrive` pulls in flight reach the root in this cycle. -/
def State.recallRoot (s : State) (arrive : Nat) : State :=
  let l := s.commit.pulls.take arrive
  let s := { s with commit.pulls := s.commit.pulls.drop arrive }
  match firstPull l with
  | none => s
  | some k =>
    let s := s.count (HM_HAWSER_CNT_ROUNDS 1) l.length
    let halt := ((l.find? (fun x => decide (x.halt ≠ 0))).map (·.halt)).getD 0
    let edge := linkEdge l
    if s.cmState = cmClosed then s
    else
      match s.commit.inRecall with
      | some r =>
        let s := if s.donly then s.logRecall k s.ctick 0 0 else s.logRecall k r.target (s.jt - r.target) s.commit.replays
        let s := if halt = 0 then s else s.makeHalt halt 0
        let s := match edge with
          | some e => s.modRecall (fun r => { r with needReroute := true, rerouted := false, edge := e, p := none, mailed := false })
          | none => s
        let s := (l.filter (fun x => decide (x.kind = 0))).foldl (fun s x => s.restartMoves (tileOf x.quay x.ltile)) s
        s.startMigrations.tryAnnounce
      | none =>
        if s.cmState = cmHalted ∨ (s.donly ∧ halt = 0) then l.foldl (fun s x => s.logRecall x s.ctick 0 0) s
        else if s.donly then s.donlyHalt k halt
        else s.newRecall k edge halt

/-! ### Receipt of a recall (R227, R230, R243) -/

/-- The freeze of a JOB core. -/
def State.freezeTile (s : State) (p : Nat) : State :=
  let s := s.modTile p (fun t => { t with frozen := true })
  (((s.put (BOL_CTL_CG_HOLD p) 1).put (BOL_CTL_GUARD p) 1).discardTiles p).refreshTile p

/-- RECALL_RECEIPT: quay `q` and the Bollards of its region; `slow` are the Bollards that received it later than a + 400. -/
def State.recallReceipt (s : State) (q : Nat) (slow : List Nat) : State :=
  match s.commit.inRecall with
  | none => s
  | some r =>
    if r.received.contains q then s
    else
      let s := if s.commit.pend = some r.target then s.applyCommit r.target else s
      let s := if (s.quay q).egcTick < r.target then s.applyQuay q r.target else s
      let s := if s.donly then s else s.emit (.egcRecall q)
      let d := (s.since r.a).toNat
      let s := slow.foldl (fun s p => (s.latchBol p 9 false 0).logTile p 0x0B0A p d 0 s.tick32) s
      let s := (s.jobTilesOf q).foldl (fun s p => s.freezeTile p) s
      -- a halt in detect-only mode rolls nothing back (R239)
      let s := if s.donly then s
        else (s.pilotRecall q r.target).modQuay q (fun t => { t with unclean := t.unclean.filter (fun x => decide (x.1 ≤ r.target)) })
      let s := s.modRecall (fun r => { r with received := r.received ++ [q] })
      let s := (s.lagging q).foldl (fun s p => s.modTile p (fun t => { t with commitLag := none })) s
      if r.received.length + 1 < s.nQuays ∧ s.since r.s < 200 then s
      else
        -- the drain starts on time, whoever is late;
        -- a region without a controller holds STATE = RECALL (R523)
        (if s.rst.lost = [] ∧ s.cmState = cmRecall then s.put HM_COMMIT_STAT_STATE cmDrain else s).startMigrations.tryAnnounce

/-! ### The mailbox (R216, R227, R276, R596) -/

/-- Mailbox words of tile `p` serving logical core `l` from tide tick `t`, job tick `n`. -/
def State.mailWords (s : State) (n p l t reason replays halt : Nat) (moved : Bool) : List (BitVec 64) :=
  [n % 2 ^ 50,
   s.commit.recallsOpen % 2 ^ 32 + min replays 3 * 2 ^ 32 + reason % 16 * 2 ^ 40 + halt % 8 * 2 ^ 44,
   l % 2 ^ 20 + p % 2 ^ 20 * 2 ^ 20 + bit moved * 2 ^ 40,
   t % 2 ^ 50, 0, 0, 0, 0].map (BitVec.ofNat 64)

/-- CRST_N of a core goes low for its restart (R84, R444). -/
def State.holdCore (s : State) (p : Nat) : State := (((s.put (BOL_CDOM_RST p) 1).coreReset p).engineDown p).refreshTile p

/-- The job is halted (R236). -/
def State.haltJob (s : State) : State :=
  match s.commit.inRecall with
  | none => s
  | some r =>
    let s := (s.put HM_COMMIT_STAT_STATE cmHalted).count HM_COMMIT_CNT_HALTS 1
    let s := (s.put HM_COMMIT_OP_HALTED 1).put HM_COMMIT_OP_HALT_REASON r.halt
    let l := if r.halt = haltSpares ∨ r.halt = haltHold then r.haltCore else 0
    let s := s.logHm 0x0505 r.target r.halt l 0
    let s := s.note 8 0 0 0 0 r.halt
    let s := s.quayList.foldl (fun s q => s.modQuay q (fun t => { t with egcHalt := true })) s
    { s with commit.halted := some r, commit.inRecall := none }

/-- EGC_HALT goes low when the halt ends (R221, R237). -/
def State.haltEnds (s : State) : State := s.quayList.foldl (fun s q => s.modQuay q (fun t => { t with egcHalt := false })) s

/-- The recall mailboxes are written and CRST_N goes low. In detect-only mode the job goes on with the tick in which it restarts (R239). -/
def State.mailRecall (s : State) (r : RecallSt) (t : Nat) : State :=
  let src := r.moves.map (fun (m : Migration) => m.src)
  let n := if s.donly then t else r.target + 1
  let s := s.jobTiles.foldl (fun s p =>
    let s := if src.contains p ∨ !s.cdomOk p then s
      else s.emit (.mailbox p (s.mailWords n p (s.lcore p) t r.reason s.commit.replays r.halt false))
    s.holdCore p) s
  let s := r.moves.foldl (fun s m => s.emit (.mailbox m.dst (s.mailWords n m.dst m.lcore t r.reason s.commit.replays r.halt true))) s
  let s := (s.put HM_COMMIT_STAT_STATE cmRestart).modRecall (fun r => { r with mailed := true })
  if r.halt = 0 then s else s.haltJob

/-- MAILBOX_WRITE: at cycle TICK_LEN − 64 of the tick before a restart, the switch of a boundary move, or the opening tick. -/
def State.mailboxWrite (s : State) : State :=
  let s := s.at_ (s.tickLen - 64)
  let t := s.time.tick + 1
  let s := match s.commit.inRecall with
    | some r => if r.p = some t ∧ !r.mailed then s.mailRecall r t else s
    | none => s
  let s := s.moves.foldl (fun s (m : Move) =>
    match m.dst, m.switchAt with
    | some y, some u => if m.phase = 4 ∧ u = t then s.emit (.mailbox y (s.mailWords (s.jt + 1) y m.lcore t 0 0 0 true)) else s
    | _, _ => s) s
  if s.start.opening = 2 ∧ s.commit.openTick = t then
    s.l2p.foldl (fun s e => s.emit (.mailbox (e.2 % 2 ^ 20) (s.mailWords t (e.2 % 2 ^ 20) e.1 t 0 0 0 false))) s
  else s

/-- MAILBOX_LATE: the write of tile `p` has not completed by the tick's last cycle. -/
def State.mailboxLate (s : State) (p : Nat) : State :=
  match s.commit.inRecall with
  | none => s
  | some r =>
    if !r.mailed ∨ r.mailLate.contains p then s
    else (s.modRecall (fun r => { r with mailLate := r.mailLate ++ [p] })).latchBol p 12 false 0

/-! ### The restart (R211, R227, R231, R237, R261, R515) -/

/-- A recall move takes effect: its tiles change roles, and the vacated tile takes its colour (R257, R259, R276). -/
def State.completeMove (s : State) (c : Nat) (m : Migration) : State :=
  let hung : Bool := match (s.tile m.src).hangTick with | some t => decide (c < t) | none => false
  let s := (s.groupMoved m.src m.dst).carry m.src m.dst
  let s := (s.lockCarry m.src m.dst).lend m.lcore m.src m.dst
  -- a tile that loses its logical core never gets it back during the run (R194, R259)
  let s := s.modTile m.src (fun t => { t with lost := m.lcore :: t.lost })
  let new := max (s.colour m.src) (s.leaveColour m.src m.code)
  let u := if new = slate then useNone else if new = vermilion then useRetest else useIdle
  let s := (s.leaveJob m.src u).giveJob m.dst m.lcore
  let s := if new ≤ s.colour m.src then s else (s.setColour m.src new m.code 4).setUse m.src u
  let cycles := (s.since m.start).toNat
  let borrowed := decide (quayOf m.dst ≠ s.homeQuay m.lcore)
  let s := (s.logTile m.src 0x0602 m.lcore m.src m.dst (2 * bit borrowed + 4 * cycles)).count HM_HEALTH_CNT_MOVES 1
  let s := s.showMove (quayOf m.src) m.lcore m.src m.dst 0 false
  let s := if hung && s.flag HM_RST_CTL_DUMP_TILE then (s.startDump dkTile dkTile m.src).1 else s
  (s.refreshPool (quayOf m.src)).refreshPool (quayOf m.dst)

/-- A JOB core restarts; a recall restores BOL_WAKE.PENDING (R215, R410). -/
def State.restartCore (s : State) (c : Nat) (late : List Nat) (p : Nat) : State :=
  let s := ((s.put (BOL_CTL_CG_HOLD p) 0).put (BOL_CTL_GUARD p) 0).releaseBw p
  let pend := (((s.tile p).pendings.find? (fun x => decide (x.1 = c))).map (·.2)).getD false
  let s := if s.donly then s else s.put (BOL_WAKE_PENDING p) (bit pend)
  if late.contains p then s.refreshTile p else (s.startCore p).turnRate p

/-- RESTART: at cycle 0 of tide tick P. In detect-only mode, after a halt, JT stays equal to TICK and nothing is rolled back (R239). -/
def State.restart (s : State) : State :=
  match s.commit.inRecall with
  | none => s
  | some r =>
    match r.p with
    | none => s
    | some t =>
      if s.time.tick < t ∨ !r.mailed then s
      else if r.halt ≠ 0 then s.haltJob
      else
        let c := r.target
        let s := if s.donly then s
          else (s.put HM_COMMIT_JT_JT (c + 1)).put HM_COMMIT_OFFSET_OFFSET (s.time.tick - (c + 1))
        let s := (s.touchedTiles.filter (fun p => (s.tile p).frozen)).foldl (fun s p => s.modTile p (fun t => { t with frozen := false })) s
        let s := r.moves.foldl (fun s m => s.completeMove c m) s
        let s := s.jobTiles.foldl (fun s p => s.restartCore c r.mailLate p) s
        let s := if s.donly then s else (s.syncRestart c).lockRestart c
        let s := (s.chainRestart.takeBackAll).refreshMembers
        let s := if s.donly then s
          else s.quayList.foldl (fun s q => if (s.quay q).unclean = [] then s else s.modQuay q (fun t => { t with unclean := [] })) s
        let s := { s with demands := if s.lantern then [] else s.demands }
        let s := (s.put HM_COMMIT_STAT_STATE cmRun).put HM_COMMIT_RESTART_TICK s.time.tick
        let s := if s.donly then s
          else s.logHm 0x0502 (c + 1) s.time.tick (s.time.tick - (c + 1)) (s.since r.a).toNat
        let s := if r.resumed then (s.logHm 0x0506 c s.time.tick 0 0).note 9 0 0 0 0 0 else s
        { s with commit.inRecall := none }

/-! ### The host (R236, R237, R239, R246, R254) -/

/-- HM_COMMIT_OP.RECALL: pulls HW1 with reason HOST; no effect in detect-only mode. -/
def State.hostRecall (s : State) : State := if s.donly ∨ s.cmState = cmClosed then s else s.pullHw1 3 0 0 0 7

/-- HM_COMMIT_OP.HALT: a halting pull with reason HOST. -/
def State.hostHalt (s : State) : State := if s.cmState = cmClosed ∨ s.cmState = cmHalted then s else s.haltPull 3 0 7 haltHost

/-- The halt reason still holds (R237), or Rinol is absent (R529). -/
def State.resumeBarred (s : State) (r : RecallSt) : Bool :=
  s.lantern || decide (r.halt = haltHold)
    || (decide (r.halt = haltSpares) && s.demands.any (fun d => decide (s.use d.1 = useServes) && (s.chooseSpare d.1).isNone))

/-- HM_COMMIT_OP.RESUME: restarts a halted job, or is refused. -/
def State.hostResume (s : State) : State :=
  match s.commit.inRecall, s.commit.halted with
  | some _, _ => s.put HM_COMMIT_OP_REFUSED 1
  | none, none => s
  | none, some r =>
    if s.resumeBarred r then s.put HM_COMMIT_OP_REFUSED 1
    else
      let s := { s with commit.halted := none, commit.replays := if r.halt = haltLoop then 0 else s.commit.replays }
      let s := (((s.put HM_COMMIT_OP_HALTED 0).put HM_COMMIT_OP_HALT_REASON 0).put HM_COMMIT_STAT_STATE cmDrain).haltEnds
      let s := { s with commit.inRecall := some { r with
        halt := 0, haltCore := 0, drained := true, rerouted := true, p := none, mailed := false, mailLate := [], resumed := true } }
      s.startMigrations.tryAnnounce

end Sys2Proof.Machine
end

