-- ==== Sys2Proof/Machine/Startup.lean ====
section
/-!
DEFINITION. Power-up and start-up as far as the start test (chapters 15 and 18): reset release, power domains, the boot ROM, Rinol's image, PREPARE, the device
epoch, START_TEST.
-/

namespace Sys2Proof.Machine

/-! ### Reset release and power domains (R669, R670, R672, R673) -/

/-- PORST_N falls: every domain is reset, D75 included (R672). The queue and the model's own counter of free values are no part of the block. -/
def State.powerOnReset (s : State) : State :=
  let r := State.reset
  { r with sp := s.sp, pending := s.pending, freeCount := s.freeCount, start := { r.start with held := true, domains := [] } }

/-- PORST_N rises: D75 is on and its log store scan begins (R556, R672). -/
def State.resetRelease (s : State) : State :=
  if !s.start.held then s
  else ({ s with start := { s.start with held := false, domains := [(75, 2)] } }).setLogState lsScan

/-- The configuration has domain `d` (R669, R673). -/
def State.populated (s : State) (d : Nat) : Bool :=
  if d < 64 then decide (d < s.nQuays)
  else if 67 ≤ d ∧ d < 71 then decide (d - 67 < s.sp.variant.customs)
  else decide (d < 80)

/-- The unit of domain `d` is Slate: its domain stays off (R669). -/
def State.domainSlate (s : State) (d : Nat) : Bool := ([0, 1, 2, 3, 4, 5, 6, 8, 9, 10, 11] : List Nat).any (fun k => decide (unitDomain k = d) && decide ((s.unit k).colour = slate))

/-- At least `n` core cycles have passed since domain `d` was switched. -/
def State.domainRested (s : State) (d n : Nat) : Bool :=
  match tabGet (fun _ => none) s.start.switched d with
  | some m => decide ((n : Int) ≤ s.since m)
  | none => true

/-- DOMAIN_SWITCH_ON: a domain that was switched off has been off for 2,200 cc (R670). -/
def State.domainOn (s : State) (d : Nat) : State :=
  if s.populated d && decide (s.domain d = 0) && !s.domainSlate d && s.domainRested d 2200 then s.setDomain d 1 else s

/-- READY of a Harbourmaster page (R645, R647). -/
def State.hmPageReady (s : State) (n : Nat) : State :=
  if (hmPageRows n).isEmpty then s
  else
    let a := n * 0x1000 + 0xC
    s.setWord a (BitVec.ofNat 64 ((s.word a).toNat / 2 * 2 + 1))

/-- The pages of D75 to D79. -/
def earlyPages : List Nat := [0, 1, 2, 3, 18, 19, 20, 21, 22, 24]

/-- DOMAIN_POWER_GOOD: the domain has been good for 1,100 cc (R670). HPORT answers once D79 is on. -/
def State.domainGood (s : State) (d : Nat) : State :=
  if s.domain d ≠ 1 ∨ !s.domainRested d 1100 then s
  else
    let s := s.setDomain d 2
    if d = 79 then earlyPages.foldl (fun s n => s.hmPageReady n) s else s

/-! ### The boot ROM and the quays' self-test (R262, R520, R583) -/

/-- BOOT_ROM: bit n of `pass` says that triplex core n passes. -/
def State.bootRom (s : State) (pass : Nat) : State :=
  if s.phaseNo ≠ phSelftest then s
  else
    let m := pass % 8
    let s := s.setCores m
    let s := (List.range 3).foldl (fun s n => if m.testBit n then s else s.setUnitColour (ukCore n) vermilion) s
    if coreCount m < 2 then (s.setPhase phFailed).alarm 2
    else (s.setPhase phWaitImage).logHm 0x0E01 s.sp.stepping ((s.word OC_CONFIG).toNat % 2 ^ 32) (coreCount m) 0

/-- The end of a quay's first self-test: banks ON and zeroed (R369), `rows` store rows repaired; a failing quay is Slate. -/
def State.quayBoot (s : State) (q : Nat) (pass : Bool) (rows : Nat) : State :=
  if !pass then
    let s := (s.put (QY_RST_STAT_STATE q) 2).setQuayColour q slate
    { s with start := { s.start with quaysBad := s.start.quaysBad ++ [q] } }
  else
    let s := { s with start := { s.start with quaysOk := s.start.quaysOk ++ [q] } }
    let s := (List.range 32).foldl (fun s b =>
      if b < s.banks q then (s.put (QY_STORE_BANK_REQ q b) 0).put (QY_STORE_BANK_STATE q b) bkOn else s) (s.quayReady q true)
    s.count HM_TRIPLEX_STEST_STORE_ROWS rows

/-- QUAY_SELFTEST_DONE: the first after power-up, or one after a reset. -/
def State.selftestDone (s : State) (q : Nat) (pass : Bool) (rows : Nat) : State :=
  if s.nQuays ≤ q then s
  else if s.start.quaysOk.contains q || s.start.quaysBad.contains q then
    -- without Rinol a reset quay's self-test waits for the Harbourmaster's restart (R535)
    if s.lantern then s else (s.quaySelftest q pass).tryAnnounce
  else s.quayBoot q pass rows

/-- Every quay's first self-test has ended. -/
def State.quaysTested (s : State) : Bool := s.quayList.all (fun q => s.start.quaysOk.contains q || s.start.quaysBad.contains q)

/-! ### Rinol's image (R584, R585) -/

/-- An image in the harbour store: place and length, as HM_TRIPLEX_IMG or HM_RST_IMG give them. -/
structure Staged where
  off : Nat
  len : Nat
  deriving DecidableEq, Repr

def State.staged (s : State) : Staged := ⟨s.get HM_TRIPLEX_IMG_OFF, s.get HM_TRIPLEX_IMG_LEN⟩

/-- Bytes [lo, hi) of the image. -/
def State.imgBytes (s : State) (m : Staged) (lo hi : Nat) : List (BitVec 8) := s.readBytes (hsAddr (m.off + lo)) (hi - lo)

def State.imgNum (s : State) (m : Staged) (lo n : Nat) : Nat := bytesNat (s.imgBytes m lo (lo + n))

/-- The image fields that start-up keeps. -/
def State.imgHead (s : State) (m : Staged) : Image := ⟨s.imgNum m 5 2, s.imgNum m 8 8 / 2 ^ 20 % 2 ^ 16, s.imgNum m 8 8 / 2 ^ 36 % 2 ^ 16⟩

/-- The checks of R585, in order: RESULT, which is also IMAGE_VERIFIED's P2 but that its values there are 1, 2 and 3 alike. -/
def State.imageResult (s : State) (m : Staged) : Nat :=
  let pad := fun (n : Nat) => (n + 63) / 64 * 64
  let tcode := s.imgNum m 0x10 4
  let tdata := s.imgNum m 0x14 4
  let qcode := s.imgNum m 0x18 4
  let qdata := s.imgNum m 0x1C 4
  let w1 := s.imgNum m 8 4
  if s.imgNum m 0 4 ≠ 0x4C4F4E52 ∨ s.imgNum m 4 1 ≠ 1 then 2
  else if 524288 < tcode ∨ 523264 < tdata ∨ 262144 < qcode + qdata ∨ m.len ≠ 512 + pad tcode + pad tdata + pad qcode + pad qdata then 3
  else if s.sp.stepping < w1 % 2 ^ 16 ∨ !(w1 / 2 ^ 16).testBit s.sp.variant.code then 2
  else if !Config.keyTrusted (s.imgBytes m 0x100 0x161) then 1
  else if !Config.imageSigned (s.imgBytes m 0 0x180 ++ s.imgBytes m 0x200 m.len) (s.imgBytes m 0x180 0x200) then 1
  else 0

/-- IMAGE_VERIFIED (R572). -/
def State.logImage (s : State) (m : Staged) (result : Nat) : State := s.logHm 0x0E02 m.len (s.imgNum m 5 2) result s.tick32

/-! ### Operations of HM_TRIPLEX_OP (R580, R607, R609) -/

/-- A write of HM_TRIPLEX_OP with GO for operation `op`: refused while BUSY; ended with RESULT 4 outside the phases `ok`; else served. -/
def State.tripOp (s : State) (op : Nat) (ok : List Nat) (k : State → State) : State :=
  let s' := s.put HM_TRIPLEX_OP_OP op
  if s.flag HM_TRIPLEX_OP_BUSY then s.pageErr HM_TRIPLEX_OP errBusy
  else if !ok.contains s.phaseNo then (s'.put HM_TRIPLEX_OP_BUSY 0).tripEnd 4
  else k (s'.put HM_TRIPLEX_OP_BUSY 1)

/-! ### LOAD (R585, R586) -/

/-- Every quay that passed self-test acknowledges its load and runs Rinol: PHASE becomes CONFIG (R586, R647). -/
def State.imageLoaded (s : State) : State :=
  if s.phaseNo ≠ phLoading ∨ !s.quaysTested then s
  else
    let s := { s with start := { s.start with loading := none }, commit := { s.commit with kickAt := s.now } }
    let s := s.start.quaysOk.foldl (fun s q => s.modQuay q (fun t => { t with kickAt := s.now })) s
    let s := ((s.put HM_TRIPLEX_VER_STAGED 0).setPhase phConfig)
    ((List.range 26).foldl (fun s n => s.hmPageReady n) s).tripEnd 0

/-- LOAD: the ROM's checks; a good image is loaded into the triplex, which starts, and sent to the quays. -/
def State.load (s : State) : State :=
  s.tripOp 1 [phWaitImage] (fun s =>
    let m := s.staged
    let r := s.imageResult m
    if r ≠ 0 then (s.logImage m r).tripEnd r
    else
      let i := s.imgHead m
      let s := (s.setPhase phLoading).logImage m 0
      let s := ((s.put HM_TRIPLEX_VER_RUNNING i.version).put HM_TRIPLEX_VER_STAGED i.version).put HM_TRIPLEX_VER_HO_OUT i.hoOut
      { s with start := { s.start with image := i, loading := some i } })

/-! ### PREPARE (R273, R311, R588, R589) -/

/-- A tile of the configuration. -/
def State.isTile (s : State) (p : Nat) : Bool := decide (quayOf p < s.nQuays)

/-- Apply host entry `n` of the defect list: tiles made Slate and rows repaired so far. -/
def State.defectEntry (a : State × Nat × Nat) (n : Nat) : State × Nat × Nat :=
  let (s, tiles, rows) := a
  let w0 := (s.readW (hsAddr (s.get HM_DEFECT_BASE_OFF + 16 * n))).toNat
  let p := w0 % 2 ^ 20
  let kind := w0 / 2 ^ 20 % 16
  let row := w0 / 2 ^ 48 % 2 ^ 10
  let retire := fun (s : State) =>
    if s.colour p = slate then (s, tiles, rows)
    else
      let s := (s.put (BOL_STAT_COLOUR p) slate).logTile p 0x0601 (s.colour p + slate * 8 + 17 * 64) p 0 (s.jt % 2 ^ 32)
      (((s.irq irqTileColour).setUse p useNone).refreshPool (quayOf p), tiles + 1, rows)
  if !s.isTile p then a
  else if kind = kindCompute then retire s
  else if kind = kindLink then retire (s.bypass p)
  else if kind = kindRow then
    let used := s.get (BOL_MBIST_REPN p)
    let held := [s.get (BOL_MBIST_REP0 p), s.get (BOL_MBIST_REP1 p), s.get (BOL_MBIST_REP2 p)].take used
    if held.contains row then a
    else if s.sp.lmSpareRows ≤ used ∨ 3 ≤ used then retire s
    else ((s.setRep p used row).put (BOL_MBIST_REPN p) (used + 1), tiles, rows + 1)
  else a

/-- The longest run of consecutive taps of a list in rising order: its first tap and length; the earlier of equals. -/
def longestRun (taps : List Nat) : List Nat → Nat × Nat
  | [] => (0, 0)
  | t :: rest =>
    let n := ((List.range 64).takeWhile (fun i => decide (t + i < 64) && taps.contains (t + i))).length
    let b := longestRun taps rest
    if b.2 ≤ n then (t, n) else b

/-- XSPI training (R589): `taps` are the taps that pass. A tie between runs, and the centre of a run of even length, are not stated: a free value chooses. -/
def State.trainXspi (s : State) (taps : List Nat) : State :=
  let hint := s.get HM_TRIPLEX_HINT_XSPI_TAP
  let five := [hint, hint + 1, hint + 2, hint - 1, hint - 2]
  let s :=
    if s.flag HM_TRIPLEX_HINT_XSPI_VALID && decide (2 ≤ hint) && decide (hint + 2 < 64) && five.all (fun t => taps.contains t) then
      (s.put HM_TRIPLEX_HINT_XSPI_FOUND hint).put HM_TRIPLEX_HINT_XSPI_RESULT 0
    else
      let best := longestRun taps ((List.range 64).filter (fun t => taps.contains t))
      if best.2 < 5 then s.put HM_TRIPLEX_HINT_XSPI_RESULT 2
      else
        let starts := (List.range 64).filter (fun t => (List.range best.2).all (fun i => taps.contains (t + i)) && decide (t + best.2 ≤ 64))
        let (x, s) := s.free
        let mid := starts.flatMap (fun t => if best.2 % 2 = 1 then [t + best.2 / 2] else [t + best.2 / 2 - 1, t + best.2 / 2])
        (s.put HM_TRIPLEX_HINT_XSPI_FOUND (mid.getD (x.toNat % mid.length) 0)).put HM_TRIPLEX_HINT_XSPI_RESULT 1
  s.logHm 0x0E05 2 (s.get HM_TRIPLEX_HINT_XSPI_RESULT) (s.get HM_TRIPLEX_HINT_XSPI_FOUND) 0

def State.setPrep (s : State) (b : Nat) (v : Bool) : State :=
  { s with start := { s.start with prep := if v then setBitN s.start.prep b else clrBitN s.start.prep b } }

/-- PREPARE waits for the library scan and the regulators; then it ends. -/
def State.prepStep (s : State) : State :=
  let s := if s.start.prep.testBit 0 && s.test.flash.isNone then s.setPrep 0 false else s
  let s := if s.start.prep.testBit 1 && !s.power.pm.any (fun (x : PmTx) => decide (x.why = 4)) then s.setPrep 1 false else s
  if s.start.prep.testBit 3 && !s.start.prep.testBit 0 && !s.start.prep.testBit 1 then ((s.setPrep 3 false).setPrep 2 true).tripEnd 0 else s

/-- Tiles beyond a chain cut of the defect list are retired with the pair (R70). -/
def State.chainCuts (s : State) : State :=
  (s.touchedTiles.filter (fun p => s.flag (BOL_POS_BYPASS p))).foldl (fun s p =>
    (s.cutBeyond p).foldl (fun s y =>
      let s := s.put (BOL_POS_CUT y) 1
      if s.colour y = slate then s else (s.setColour y slate 16 4).setUse y useNone) s) s

/-- PREPARE. -/
def State.prepare (s : State) (taps : List Nat) : State :=
  s.tripOp 2 [phConfig, phReady] (fun s =>
    let s := s.emit .xspiReset
    let host := s.get HM_DEFECT_CNT_HOST
    let (s, tiles, rows) := (List.range host).foldl State.defectEntry (s, 0, 0)
    let s := s.put HM_DEFECT_CNT_TOTAL (max host (s.get HM_DEFECT_CNT_TOTAL))
    let s := s.chainCuts
    let s := (s.logHm 0x0E03 host tiles rows 0).trainXspi taps
    if s.get HM_TRIPLEX_HINT_XSPI_RESULT = 2 ∧ s.flag HM_TEST_CTL_EN then s.tripEnd 9
    else
      let s := if s.test.flash.isSome then { s with test.rescan := true } else s.startScan 0
      let s := s.quayList.foldl (fun s q => (s.pmQueue ⟨q, 0x20, false, 0, 4⟩).pmQueue ⟨q, 0x8B, false, 0, 4⟩) s
      (((s.setPrep 0 true).setPrep 1 true).setPrep 3 true).prepStep)

/-! ### EPOCH (R582, R591) -/

/-- EPOCH: the own tree's HW2 round begins. -/
def State.epochOp (s : State) : State :=
  s.tripOp 3 [phConfig] (fun s =>
    if !s.start.prep.testBit 2 ∨ s.time.epoch then s.tripEnd 4
    else { s with start := { s.start with epoch := true }, hawser.hw2 := 1 })

/-- The epoch round completes: tick 0 begins. -/
def State.epochStart (s : State) : State :=
  let s := { s with time := { s.time with tick := 0, cyc := 0, epoch := true }, start := { s.start with epoch := false }, hawser.hw2 := 0,
                    commit := { s.commit with kickAt := ⟨0, 0, 0⟩ } }
  let s := s.start.quaysOk.foldl (fun s q => s.modQuay q (fun t => { t with kickAt := ⟨0, 0, 0⟩ })) s
  let ring := s.get HM_HAWSER_XCTL_XEN ≠ 0
  let s := s.put HM_TRIPLEX_STAT_EPOCH 1
  (s.logHm 0x0E0A (if ring then s.get HM_HAWSER_XCTL_WAFERS else 1) (if ring then s.get HM_HAWSER_XCTL_POS else 0) 0 0).tripEnd 0

/-! ### START_TEST (R592) -/

/-- START_TEST. -/
def State.startTest (s : State) : State :=
  s.tripOp 4 [phConfig] (fun s =>
    if !s.time.epoch then s.tripEnd 4
    else if !s.quayList.all (fun q => s.start.quaysBad.contains q || s.flag (QY_CLEAR_CTL_EN q)) then
      let (x, s) := s.free
      s.tripEnd (1 + x.toNat % 15)
    else
      let s := s.setPhase phTesting
      let mine := s.quayList.filter (fun q => s.controlled q && !s.start.quaysBad.contains q)
      let todo : Tab (List Nat) := mine.map (fun q => (q, (List.range regionTiles).filter (fun l => decide (s.colour (tileOf q l) ≠ slate))))
      let s := { s with start := { s.start with stest := some ⟨s.now, todo.filter (fun x => !x.2.isEmpty), [], [], []⟩ } }
      let s := mine.foldl (fun s q => s.startWave q) s
      s.stestStep 0)

end Sys2Proof.Machine
end

