-- ==== Sys2Proof/Machine/Opening.lean ====
section
/-!
DEFINITION. Opening and closing the harbour (chapter 15, with R269, R270, R343, R371, R618, R691, R692): the opening checks, the Manifest, the opening tick,
CLOSE and ABANDON, and the test access network.
-/

namespace Sys2Proof.Machine

/-! ### The opening checks (R595) -/

/-- One check: page, whether it is a quay page, quay, register offset, and whether it holds. -/
structure Check where
  page : Nat
  qpage : Bool
  quay : Nat
  off : Nat
  holds : Bool
  deriving DecidableEq, Repr

def Fld.atReset (f : Fld) (sp : Straps) : Nat := fieldOf (resetWord sp f.reg) f.lo f.w

/-- The checks of the Harbourmaster pages (R204, R248, R274, R288, R289, R319, R332, R421, R430, R461, R578, R617, R626, R675, R692). -/
def State.hmChecks (s : State) : List Check :=
  let c := fun (page off : Nat) (b : Bool) => Check.mk page false 0 off b
  let harv := s.get HM_CUS_CTL_HARV_ELEMS
  let drain := s.get HM_COMMIT_CTL_DRAIN_CC
  let ep := s.get HM_HAWSER_CTL_EPOCH_LOG2
  let re := s.get HM_HAWSER_CTL_REALIGN_LOG2
  let warn := s.get HM_THERM_CTL_JWARN
  let thr := s.get HM_THERM_CTL_JTHR
  let crit := s.get HM_THERM_CTL_JCRIT
  let slices := s.get HM_TEST_CTL_LBIST_SL + s.get HM_TEST_CTL_TOPUP_SL + s.get HM_TEST_CTL_MBIST_SL + s.get HM_TEST_CTL_FUNC_SL
  [ c 2 0x48 (!(s.flag HM_TIME_CTL_PPS_EN && s.xen 2)),
    c 12 0x40 (decide (1 ≤ harv) && decide (harv ≤ 16)),
    c 13 0x40 (decide (256 ≤ drain) && decide (drain ≤ s.get HM_COMMIT_CTL_REROUTE_CC)),
    c 14 0x40 (s.flag HM_HEALTH_CTL_AMBER_MATCH && s.flag HM_HEALTH_CTL_PARK_TICKS),
    c 14 0x48 (decide (s.get HM_HEALTH_MARGIN_MV_MAX ≤ 6)),
    c 14 0x68 (decide (s.get HM_MAP_CTL_MAP_CC ≤ 8191)),
    c 15 0x40 (decide (slices ≤ 23) && s.flag HM_TEST_CTL_LBIST_SL && s.flag HM_TEST_CTL_TOPUP_SL && decide (60 ≤ s.get HM_TEST_CTL_INTERVAL_S)),
    c 15 0x48 (!s.flag HM_TEST_CTL_EN || s.flag HM_TEST_STAT_LIB_OK),
    c 17 0x40 (decide (4 ≤ ep) && decide (ep ≤ 12) && decide (8 ≤ re) && decide (re ≤ 15)),
    c 17 0xA0 (decide (s.get HM_HAWSER_XCTL_XEN = 0)
      || decide (s.get HM_HAWSER_XCAL_CAL_STATE = 2) && decide (s.get HM_HAWSER_XCAL_LOOP ≤ 2048)),
    c 18 0x50 (s.flag HM_PWR_BUS_PFAIL_PIN = false),
    c 19 0x40 (decide (warn < thr) && decide (thr < crit) && decide (warn ≤ HM_THERM_CTL_JWARN.atReset s.sp)
      && decide (thr ≤ HM_THERM_CTL_JTHR.atReset s.sp) && decide (crit ≤ HM_THERM_CTL_JCRIT.atReset s.sp)),
    c 20 0 (decide (s.start.segments = [])),
    c 22 0xF0 (!s.flag HM_LOG_CTL_STORE_EN || decide (65536 * s.get HM_LOG_STORE_BLOCKS + 2097152 ≤ Config.logDeviceBytes)),
    c 25 0x58 (!s.flag HM_LOCKSTEP_CTL_EN || decide (s.lockState = 2)) ]

/-- The region of quay `q` has a controller: a Green or Amber quay, or a Green partner that adopts it (R595). -/
def State.manned (s : State) (q : Nat) : Bool :=
  decide ((s.quay q).colour ≤ amber) && decide (s.quayState q = 0)
    || s.hasPartner && decide ((s.quay (partnerOf q)).colour = green) && decide (s.quayState (partnerOf q) = 0)

/-- FAR_XOR names a far quay (R148); in W1 it is neither checked nor used. -/
def State.farOk (s : State) (q : Nat) : Bool :=
  let x := s.get (QY_PILOT_CTL_FAR_XOR q)
  decide (s.sp.variant = .w1) || decide (s.get (QY_PILOT_CTL_FAR_EIGHTHS q) = 0) || decide (1 < x) && decide (x < s.nQuays)

/-- The checks of page `n` of quay `q`; settings are compared with those of quay `r`. -/
def State.quayChecks (s : State) (r n q : Nat) : List Check :=
  let c := fun (off : Nat) (b : Bool) => Check.mk n true q off b
  let same := fun (f : Nat → Fld) => decide (s.get (f q) = s.get (f r))
  let bad := s.badArea q
  let areas := (bad.filter (fun a => decide (a.page = n))).map (fun a => c a.reg false)
  match n with
  | 4 => c 0x40 (same QY_CSUM_CTL_TTV && same QY_CSUM_CTL_RANGE_EN)
      :: (List.range 8).map (fun k => c (0x48 + 8 * k) (same (QY_CSUM_TOL_F_EXTRA · k) && same (QY_CSUM_TOL_F_USCALE · k) && same (QY_CSUM_TOL_F_FTZ · k)))
  | 5 =>
    let rate := s.get (QY_PILOT_CTL_RATE_NUM q)
    let amb := s.get (QY_PILOT_CTL_AMBER_NUM q)
    [ c 0x40 (decide (1 ≤ rate) && decide (rate ≤ 32) && decide (32 ≤ amb) && decide (amb ≤ 256) && decide (s.get (QY_PILOT_CTL_FAR_EIGHTHS q) ≤ 8)
        && s.farOk q && decide (fieldOf (s.word (QY_PILOT_CTL q)) 0 51 = fieldOf (s.word (QY_PILOT_CTL r)) 0 51)),
      c 0x48 (same QY_PILOT_SEED_SEED), c 0x50 (same QY_PILOT_BW_BUDGET),
      c 0x58 (same QY_PILOT_BASE_KTAB_OFF && same QY_PILOT_BASE_DBERTH_OFF && same QY_PILOT_BASE_CBERTH_BLK && same QY_PILOT_BASE_KTAB_VALID) ] ++ areas
  | 6 => [c 0x68 (same QY_SPARE_ROWS0_ROWS), c 0x70 (same QY_SPARE_ROWS1_ROWS)]
  | 8 => c 0x48 (decide (s.get (QY_STORE_CTL_FORCE_TICKS q) ≤ 127)) :: areas
  | 14 => [c 0x40 (s.flag (QY_CLEAR_CTL_BUDGET q) && decide (s.get (QY_CLEAR_CTL_BUDGET q) ≤ 14400))]
  | _ => areas

/-- The rail of region `q` lies within 10 mV of NOM_MV (R595). -/
def State.railOk (s : State) (q : Nat) : Bool :=
  let v := s.get (QY_MARGIN_VOUT_MV q)
  let nom := s.get HM_HEALTH_MARGIN_NOM_MV
  decide (v ≤ nom + 10) && decide (nom ≤ v + 10)

/-- All checks in order; the settings of a quay that is not served cannot be written and are not compared, but the spare rows of every quay are (R269). -/
def State.openChecks (s : State) : List Check :=
  let served := s.quayList.filter (fun q => decide (s.quayState q = 0))
  let r := served.headD 0
  s.hmChecks ++ s.quayList.map (fun q => ⟨0, true, q, 0x0C, s.manned q⟩)
    ++ [4, 5, 6, 7, 8, 9, 10, 14].flatMap (fun n =>
      (if n = 6 then s.quayList.map (fun q => ⟨6, true, q, 0x58, s.railOk q⟩) else []) ++ (if n = 6 then s.quayList else served).flatMap (fun q => s.quayChecks r n q))

/-- OPEN ends with RESULT 5, naming a check. -/
def State.openFail (s : State) (k : Check) : State :=
  let s := ((s.put HM_TRIPLEX_OPENCHK_PAGE k.page).put HM_TRIPLEX_OPENCHK_QPAGE (bit k.qpage)).put HM_TRIPLEX_OPENCHK_QUAY k.quay
  let s := (s.put HM_TRIPLEX_OPENCHK_OFFSET k.off).put HM_TRIPLEX_OPENCHK_VALID 1
  { s with start := { s.start with opening := 0 } }.tripEnd 5

/-! ### The Manifest (R269, R270) -/

/-- Local indices of the tiles outside the spare rows, in order. -/
def State.servingIdx (s : State) (q : Nat) : List Nat := (List.range regionTiles).filter (fun l => !s.spareRow q (l / regionCols))

/-- Logical core `l` is given to tile `p`. -/
def State.seat (s : State) (l p : Nat) : State :=
  let s := (s.setMap l p false).put (BOL_PILOT_LCORE p) l
  if s.colour p ≤ ochre then s.setUse p useServes else s

/-- The first pass: local index x goes to the x-th tile outside the spare rows. -/
def State.seatAll (s : State) : State :=
  s.quayList.foldl (fun s q => (s.servingIdx q).zipIdx.foldl (fun s x => s.seat (q * s.logicalPer + x.2) (tileOf q x.1)) s) s

/-- The second pass: logical cores whose tile may not serve are moved, in ascending order; none at a core for which no spare is found. Ties are settled with
origin 0, not with the tick, for the map depends on the masks and the defect list alone (R270; DEDUCED, notes/assumptions/139.md). -/
def State.reseat : State → List (Nat × Nat) → State × Option (Nat × Nat)
  | s, [] => (s, none)
  | s, (l, p) :: t =>
    if s.colour p ≤ ochre then s.reseat t
    else
      match s.chooseSpareAt 0 p with
      | none => (s, some (l, quayOf p))
      | some y => ((s.put (BOL_PILOT_LCORE p) 0).seat l y |>.lend l p y).reseat t

/-- Build the Manifest; the logical core and quay for which no spare is found, if any. -/
def State.buildMap (s : State) : State × Option (Nat × Nat) :=
  let s := { s with l2p := [], built := false }
  let s := s.touchedTiles.foldl (fun s p => if s.use p = useServes ∧ s.colour p ≤ ochre then s.modTile p (fun t => { t with use := useIdle }) else s) s
  let s := s.quayList.foldl (fun s q => (s.put (QY_SPARE_LENT q) 0).put (QY_SPARE_BORROWED q) 0) (s.put HM_SPARE_STAT_LENT 0)
  let s := s.seatAll
  s.reseat (s.l2p.map (fun e => (e.1, e.2 % 2 ^ 20)))

/-- The tile table and the pool's counts follow (R272, R281). -/
def State.countPool (s : State) : State :=
  let s := { s with built := true }
  s.quayList.foldl (fun s q => ((regionOf q).foldl (fun s p => s.syncTile p) s).refreshPool q) s

/-! ### OPEN (R371, R596, R618) -/

/-- PG_CTL.LOCK of every page (R644). -/
def State.lockPages (s : State) (on : Bool) : State :=
  let set := fun (s : State) (base : Nat) =>
    let a := base + 8
    let w := (s.word a).toNat
    s.setWord a (BitVec.ofNat 64 (if on then setBitN w 1 else clrBitN w 1))
  let s := (List.range 26).foldl (fun s n => if (hmPageRows n).isEmpty then s else set s (n * 0x1000)) s
  s.quayList.foldl (fun s q => (List.range 16).foldl (fun s n => if (qyPageRows n).isEmpty then s else set s (qyAddr q (n * 0x1000))) s) s

/-- The opening tick is chosen: the first whose cycle 0 lies at least `d` cycles from now. -/
def State.chooseOpen (s : State) (d : Nat) : State :=
  let o := s.time.tick + (s.time.cyc + d + s.tickLen - 1) / s.tickLen
  { s.put HM_TRIPLEX_OPEN_O o with start := { s.start with opening := 2 }, commit := { s.commit with openTick := o } }

/-- The checks have passed. -/
def State.openGo (s : State) : State :=
  match s.buildMap with
  | (_, some (l, q)) =>
    -- the harbour does not open, and nothing else changes (R270, R595); the spec names no register for it
    let (x, s) := s.free
    (s.outOfSpares l q false).openFail ⟨14, false, 0, x.toNat % 2 ^ 12, false⟩
  | (s, none) =>
    let s := (s.lockPages true).countPool.detDigest
    let s := s.l2p.foldl (fun s e => s.sendMap e.1 (e.2 % 2 ^ 20) s.time.tick) s
    let s := s.quayList.foldl (fun s q =>
      if s.quayState q ≠ 0 then s
      else (List.range 32).foldl (fun s b => if b < s.banks q ∧ !s.bankUsed q b ∧ !s.resident q b then s.bankRequest q b 3 else s) s) s
    let s := s.quayList.foldl (fun s q =>
      if decide (s.quayState q = 2) && !s.flag (QY_RST_STAT_ADOPTED q) && s.canAdopt q then (s.orderAdopt q).quayAdopt q else s) s
    if s.xen 2 then { s with start := { s.start with opening := 1 }, hawser.hw2 := 3 }
    else s.chooseOpen (max (s.get HM_MAP_CTL_MAP_CC) 1100)

/-- Run the checks; only an open test segment makes OPEN wait (R692). -/
def State.openTry (s : State) : State :=
  match s.openChecks.find? (fun k => !k.holds) with
  | none => s.openGo
  | some k =>
    if k.page = 20 ∧ !k.qpage then { s with start := { s.start with opening := 3, waitFrom := if s.start.opening = 3 then s.start.waitFrom else s.time.tick } }
    else s.openFail k

/-- OPEN. -/
def State.openOp (s : State) : State := s.tripOp 5 [phReady] (fun s => s.openTry)

/-- At a tick's start: an OPEN that has waited 100 ms for a segment ends (R692). -/
def State.openWait (s : State) : State :=
  if s.start.opening = 3 ∧ s.start.waitFrom + s.get HM_TIME_TPS_TPS / 10 ≤ s.time.tick then
    let (x, s) := s.free
    s.openFail ⟨20, false, 0, x.toNat % 2 ^ 12, false⟩
  else s

/-! ### The opening tick (R209, R216, R223, R596) -/

/-- What a job leaves behind in the commit, sampling and message state. -/
def State.clearJob (s : State) : State :=
  let s := { s with
    commit := { s.commit with pulls := [], released := [], releasedAt := none, pend := none, pendQuays := [], inRecall := none, halted := none,
                              replays := 0, recallsOpen := 0 }
    alarms := [], frames := [], sampReqs := [], outSigs := [], shadowSigs := [], disputes := [], stops := [], moves := [], demands := [], detections := [] }
  let s := s.quays.foldl (fun s x =>
    s.modQuay x.1 (fun t => { t with
      unclean := [], got := [], missed := [], berths := [], capts := [], waiting := [], makeups := [], audits := [], refusedMsgs := [] })) s
  let s := s.tiles.foldl (fun s x =>
    let t := x.2
    let s := ((s.put (BOL_PILOT_AUDIT_OPEN x.1) 0).put (BOL_PILOT_PATCH_PEND x.1) 0).put (BOL_PILOT_KERNEL x.1) 0
    if t.hosts.isEmpty && !t.witness && t.use ≠ useShadow && t.lost.isEmpty && t.kernel.isNone then s
    else
      let s := s.modTile x.1 (fun t => { t with hosts := [], kernel := none, witness := false, lost := [] })
      if t.use = useShadow then (s.put (BOL_CTL_ROLE x.1) roleIdle).setUse x.1 useIdle else s) s
  let s := (s.put HM_COMMIT_STAT_COMMIT_PEND 0).put HM_COMMIT_OP_HALTED 0
  s.put HM_COMMIT_OP_HALT_REASON 0

/-- The sampling rate of the opening tick: no tick has been tallied (R146). -/
def State.firstRate (s : State) (q : Nat) : State :=
  let slots := s.get (QY_PILOT_CTL_PER_SPARE q) * (s.freeSpares q - s.get (QY_PILOT_CTL_KEEP q))
  (s.setRate q (if s.lantern ∨ slots = 0 then 0 else s.get (QY_PILOT_CTL_RATE_NUM q)) 0).rateTick q

/-- OPENING_TICK: cycle 0 of tick O. -/
def State.openingTick (s : State) : State :=
  let o := s.commit.openTick
  if s.start.opening ≠ 2 ∨ s.time.tick ≠ o then s
  else
    let s := s.clearJob
    let s := { s with commit := { s.commit with replayTarget := o - 1, kickAt := s.now } }
    let s := ((s.put HM_COMMIT_JT_JT o).put HM_COMMIT_OFFSET_OFFSET 0).put HM_COMMIT_STAT_CTICK (o - 1)
    let s := (s.put HM_COMMIT_STAT_STATE cmRun).put HM_COMMIT_STAT_DETECT_ONLY (bit (!s.flag HM_COMMIT_CTL_HELD))
    let s := s.quayList.foldl (fun s q => ((s.modQuay q (fun t => { t with kickAt := s.now, egcHalt := false, egcDonly := s.donly })).put (QY_RST_WDOG_IDLE_TICKS q) 0).applyQuay q (o - 1)) s
    let s := (s.put HM_RST_STAT_IDLE_TICKS 0).syncOpen o
    let s := s.quayList.foldl (fun s q => s.firstRate q) s
    let s := s.l2p.foldl (fun s e => (s.giveJob (e.2 % 2 ^ 20) e.1).turnRate (e.2 % 2 ^ 20)) s
    -- an alignment that still waits for its edge is given up: R32 allows it only before the opening
    let s := { s.refreshMembers with start := { s.start with opening := 0 }, time.alignReq := false }
    let d := s.get HM_DET_DIGEST_DIGEST
    let s := (s.setPhase phOpen).logHm 0x0E07 (d % 2 ^ 32) (d / 2 ^ 32) s.logicals s.tick32
    s.tripEnd 0

/-! ### CLOSE and ABANDON (R594, R598) -/

/-- The harbour closes: reason 1 ABANDON, 2 CLOSE. -/
def State.closeHarbour (s : State) (reason : Nat) : State :=
  let last := s.ctick
  let s := s.moves.foldl (fun s m => s.abandonMove m 1) s
  let s := s.jobTiles.foldl (fun s p => (((s.leaveJob p useIdle).discardTiles p).modTile p (fun t => { t with frozen := false })).breakwater p 0) s
  let s := s.clearJob
  let s := { s with customs.queue := s.customs.queue.map (fun (e : CusEntry) => if e.phase ≤ 1 then { e with captLost := true } else e) }
  let s := (s.put HM_COMMIT_STAT_STATE cmClosed).put HM_COMMIT_STAT_DETECT_ONLY 0
  let s := s.quayList.foldl (fun s q => s.modQuay q (fun t => { t with egcTick := 0, egcHalt := true, egcDonly := false })) s
  let s := s.lockPages false
  let s := s.quayList.foldl (fun s q =>
    (List.range 32).foldl (fun s b =>
      if s.banks q ≤ b ∨ s.bankState q b = bkOff ∨ s.resident q b then s
      else ((s.bankOff q b).put (QY_STORE_BANK_REQ q b) 0).setBank q b bkInit) s) s
  let s := { s.testSweep with start := { s.start with closing := 0 } }
  let s := (s.logHm 0x0E08 reason (last % 2 ^ 32) 0 s.tick32).setPhase phReady
  if reason = 2 then s.tripEnd 0 else s

/-- An epoch or an opening that waits for the ring is withdrawn (R591, R618). -/
def State.withdraw (s : State) : State :=
  let s := s.put HM_TRIPLEX_OP_OP 6
  let s := if s.start.opening = 1 then s.lockPages false else s
  { s with start := { s.start with epoch := false, opening := 0 }, hawser.hw2 := 0 }.tripEnd 0

/-- CLOSE. -/
def State.closeOp (s : State) : State :=
  if s.flag HM_TRIPLEX_OP_BUSY && (s.start.epoch || decide (s.start.opening = 1)) then s.withdraw
  else s.tripOp 6 [phOpen] (fun s =>
    if s.cmState = cmHalted then s.closeHarbour 2
    else { s.hostHalt with start := { s.start with closing := 2 } })

/-- A closing harbour closes once its job has halted. -/
def State.closeStep (s : State) : State := if s.start.closing ≠ 0 ∧ s.cmState = cmHalted then s.closeHarbour s.start.closing else s

/-- HM_COMMIT_OP.ABANDON on a halted job (R237). -/
def State.abandon (s : State) : State := if s.cmState = cmHalted then s.closeHarbour 1 else s

/-! ### The test access network (R690 to R692) -/

/-- TAP_SEGMENT: segment `seg` is inserted or closed. `kind` is 0 a BIST controller, 1 a trim, 2 a monitor; `write` asks for a trim write; `ty` and `unit` name the
block: a BIST controller of a triplex core (type 5) or of a quay (type 2) has the keys that the unit holds zeroised first; they are refilled
once the segment is closed (R306, R568, R691). -/
def State.tapSegment (s : State) (seg kind ty unit : Nat) (write opening : Bool) : State :=
  if opening then
    if s.isOpen ∧ (kind = 0 ∨ (kind = 1 ∧ write)) then s.logHm 0x0B04 ty 0xFF 0 s.tick32
    else
      let s := if kind ≠ 0 ∨ s.get HM_KEY_STAT_LOADED = 0 then s
        else if ty = tyTriplex then s.coreKeysZeroed unit
        else if ty = tyQuay then s.quayKeysZeroed unit
        else s
      if s.start.segments.contains seg then s else { s with start := { s.start with segments := s.start.segments ++ [seg] } }
  else
    let s := if kind ≠ 0 then s else if ty = tyTriplex then s.coreKeysFilled unit else if ty = tyQuay then s.quayKeysFilled unit else s
    let s := { s with start := { s.start with segments := s.start.segments.erase seg } }
    if s.start.opening = 3 then s.openTry else s

end Sys2Proof.Machine
end

