-- ==== Sys2Proof/Machine/Update.lean ====
section
/-!
DEFINITION. The rolling update, the rejoin of a triplex core, and the restart of the Harbourmaster out of Lantern mode (chapters 13 and 15: R530, R535, R536,
R599 to R603).
-/

namespace Sys2Proof.Machine

/-! ### The steps of an update (R599, R602) -/

/-- UPDATE_STEP (R572): phase 1 leaves, 2 loaded, 3 rejoined, 4 aborted. -/
def State.logStep (s : State) (core phase version : Nat) : State := s.logHm 0x0E09 core phase version s.tick32

def State.running (s : State) : Nat := s.get HM_TRIPLEX_VER_RUNNING

def State.setUpd (s : State) (step show_ : Nat) : State := { s with start := { s.start with upd := step } }.put HM_TRIPLEX_STAT_UPD show_

/-- UPDATE: the requirements of R599, in order. -/
def State.updateOp (s : State) : State :=
  s.tripOp 7 [phConfig, phReady, phOpen] (fun s =>
    let m := s.staged
    let i := s.imgHead m
    let f := s.imageResult m
    if f = 2 ∨ f = 3 then s.tripEnd f
    else if s.cores ≠ 7 then s.tripEnd 6
    else if s.lantern then
      let (x, s) := s.free
      s.tripEnd (1 + x.toNat % 15)
    else if s.get HM_TRIPLEX_VER_HO_OUT < i.hoMin ∨ i.hoOut < s.get HM_TRIPLEX_VER_HO_OUT then s.tripEnd 7
    else { s with start := { s.start with upd := 1, loading := some i } })

/-- UPDATE_LEAVE: at cycle 2,201 core 2 leaves and its RAM is zeroised, its copies of the keys included. -/
def State.updateLeave (s : State) : State :=
  if s.start.upd ≠ 1 then s
  else
    let s := (((s.at_ (s.commitAt + 1)).setCores 3).setUpd 2 1).coreKeysBlank 2
    (s.put HM_TRIPLEX_VER_STAGED ((s.start.loading.map (·.version)).getD 0)).logStep 2 1 s.running

/-- UPDATE_LOAD_DONE: core 2's verification and load end. -/
def State.updateLoaded (s : State) : State :=
  if s.start.upd ≠ 2 then s
  else
    let m := s.staged
    let r := s.imageResult m
    let s := s.logImage m r
    if r ≠ 0 then
      let s := ((s.setUpd 6 4).put HM_TRIPLEX_VER_STAGED 0).logStep 2 4 s.running
      { s with start := { s.start with result := r, rejoin := some 2, loading := none } }
    else
      let i := s.imgHead m
      let s := { s with start := { s.start with loading := some i } }
      (s.setUpd 3 2).logStep 2 2 i.version

/-- UPDATE_HANDOVER: cycle 2,201 of a tick whose cycle 2,200 held a commit. While the harbour is closed no tick commits, and none is waited for. -/
def State.updateHandover (s : State) : State :=
  match s.start.loading with
  | none => s
  | some i =>
    if s.start.upd ≠ 3 ∨ (s.isOpen ∧ (s.ctick + 2 ≠ s.jt ∨ s.commit.inRecall.isSome ∨ s.cmState ≠ cmRun)) then s
    else
      -- the key store of core 0 is copied into cores 1 and 2
      let s := ((((s.at_ (s.commitAt + 1)).setUpd 4 3).setCores 6).coreKeysFilled 1).coreKeysFilled 2
      let s := ((s.put HM_TRIPLEX_VER_RUNNING i.version).put HM_TRIPLEX_VER_HO_OUT i.hoOut).put HM_TRIPLEX_VER_STAGED 0
      { s.put HM_TRIPLEX_STAT_ABSENT 1 with start := { s.start with image := i, loading := none, pause := some (1, s.now), reload := 0, reloadAt := none } }

/-- UPDATE_QUAY_RELOAD: the next quay takes the new quay code, one a tick, without a recall (R491). -/
def State.updateReload (s : State) : State :=
  if s.start.upd ≠ 4 ∨ s.start.pause.isSome ∨ s.start.reloadAt = some s.time.tick then s
  else
    let q := s.start.reload
    let s := (s.modQuay q (fun t => { t with kickAt := s.now })).put (QY_RST_WDOG_IDLE_TICKS q) 0
    let s := { s with start := { s.start with reload := q + 1, reloadAt := some s.time.tick } }
    if q + 1 < s.nQuays then s else { s.setUpd 5 4 with start := { s.start with upd := 5, rejoin := some 0 } }

/-! ### Rejoin and the end of a pause (R600, R601) -/

/-- A core may rejoin: it is out of the triplex and sound, its domain is on, and no update stands in the way. -/
def State.mayRejoin (s : State) (core : Nat) : Bool :=
  decide (core < 3) && !s.cores.testBit core && decide (s.domain (64 + core) = 2) && decide ((s.unit (ukCore core)).colour ≤ amber) && decide (2 ≤ coreCount s.cores) && s.start.pause.isNone
    && !s.lantern && (decide (s.start.upd = 0) || decide (5 ≤ s.start.upd) && decide (s.start.rejoin = some core))

/-- TRIPLEX_REJOIN at cycle 2,201: `same` says that the image loaded into core 0 has the digest of core 2's. -/
def State.triplexRejoin (s : State) (core : Nat) (same : Bool) : State :=
  if !s.mayRejoin core then s
  else
    let s := s.at_ (s.commitAt + 1)
    if s.start.upd = 5 ∧ !same then
      let s := ((s.setUnitColour (ukCore core) vermilion).setUpd 0 0).logStep core 4 s.running
      { s with start := { s.start with rejoin := none } }.tripEnd 2
    else { s.put HM_TRIPLEX_STAT_ABSENT 1 with start := { s.start with rejoin := some core, pause := some (2, s.now) } }

/-- Core cycles of a pause (R599, R600). -/
def pauseCycles (kind : Nat) : Nat := if kind = 1 then 35200 else 17600

/-- A pause ends: Rinol is back, and a rejoining core is in service. -/
def State.endPause (s : State) : State :=
  match s.start.pause with
  | none => s
  | some (kind, t) =>
    if s.since t < pauseCycles kind then s
    else
      let s := { s.put HM_TRIPLEX_STAT_ABSENT 0 with start := { s.start with pause := none }, commit := { s.commit with kickAt := s.now } }
      let s :=
        match s.start.rejoin with
        | some core =>
          if kind = 2 then
            let upd := s.start.upd
            let s := { (s.setCores (setBitN s.cores core)).coreKeysFilled core with start := { s.start with rejoin := none } }
            if upd = 0 then s else ((s.setUpd 0 0).logStep core 3 s.running).tripEnd (if upd = 6 then s.start.result else 0)
          else s
        | none => s
      (s.keptVerdicts.groupResume).startMigrations.tryAnnounce

/-- Lantern mode ends an update (R602); the RESULT and the core it names are not stated. -/
def State.updLantern (s : State) : State :=
  if !s.lantern then s
  else
    let s := if s.start.pause.isSome then s.put HM_TRIPLEX_STAT_ABSENT 0 else s
    if s.start.upd = 0 then { s with start := { s.start with pause := none, rejoin := none } }
    else
      let (x, s) := s.free
      let (y, s) := s.free
      let s := { s with start := { s.start with pause := none, rejoin := none, loading := none } }
      let s := ((s.setUpd 0 0).put HM_TRIPLEX_VER_STAGED 0).logStep (x.toNat % 3) 4 s.running
      s.tripEnd (1 + y.toNat % 15)

/-! ### The Harbourmaster's restart (R530, R535, R536) -/

/-- HARBOURMASTER_RESTART: bit n of `pass` says that core n passes its self-test; a Slate core is off. -/
def State.hmRestart (s : State) (pass : Nat) : State :=
  s.rstOp 6 (fun s =>
    if !s.lantern ∨ s.get HM_RST_STAT_RESTART_STATE = 1 then s.rstEnd true
    else
      let ok := (List.range 3).filter (fun n => pass.testBit n && decide ((s.unit (ukCore n)).colour ≠ slate))
      let s := (List.range 3).foldl (fun s n => if ok.contains n ∨ (s.unit (ukCore n)).colour = slate then s else s.setUnitColour (ukCore n) vermilion) s
      let m : Staged := ⟨s.get HM_RST_IMG_OFF, s.get HM_RST_IMG_LEN⟩
      if ok.length < 2 then (s.put HM_RST_STAT_RESTART_STATE 3).rstEnd false
      else
        let r := s.imageResult m
        let s := s.logImage m r
        if r ≠ 0 then (s.put HM_RST_STAT_RESTART_STATE 3).rstEnd false
        else
          let i := s.imgHead m
          let s := (ok.foldl (fun s n => (s.setDomain (64 + n) 2).setUnitColour (ukCore n) green) s).setCores (ok.foldl setBitN 0)
          let s := ((s.put HM_TRIPLEX_VER_RUNNING i.version).put HM_TRIPLEX_VER_HO_OUT i.hoOut).count HM_RST_CNT_HM_RESTARTS 1
          let had := (List.range 5).filter (fun n => (s.get HM_KEY_STAT_LOADED).testBit n)
          let s := { s with rst.keysWanted := had, start := { s.start with image := i }, commit := { s.commit with kickAt := s.now } }
          (s.keysLost.put HM_RST_STAT_RESTART_STATE 1).put HM_RST_OP_BUSY 1)

/-- LANTERN_EXIT at cycle 2,201, once the keys that were held have been loaded again. -/
def State.lanternExit (s : State) : State :=
  let loaded := s.get HM_KEY_STAT_LOADED
  if !s.lantern ∨ s.get HM_RST_STAT_RESTART_STATE ≠ 1 ∨ !s.rst.keysWanted.all (fun n => loaded.testBit n) then s
  else
    let s := (s.at_ (s.commitAt + 1)).leaveLantern
    let s := { s with rst.keysWanted := [] }
    s.keptVerdicts.rstEnd false

end Sys2Proof.Machine
end

