-- ==== Sys2Proof/Machine/RegWrite.lean ====
section
/-!
DEFINITION. The host's accesses (chapters 02, 09, 12, 17, 18): the store apertures, register writes by access code and lock, the header, and the Bollard file through
quay page 3.
-/

namespace Sys2Proof.Machine

/-! ### Answers of HPORT (R636 to R640, R666) -/

def rspOk : Nat := 0
def rspDecode : Nat := 1
def rspRefused : Nat := 2

def State.reply (s : State) (rsp data : Nat) : State := s.emit (.hport rsp (BitVec.ofNat 64 data))

/-- HPORT serves accesses once D79 is on (R647, R666). -/
def State.hportUp (s : State) : Bool := decide (s.domain 79 = 2)

/-- Write-data parity is checked on every write (R492, R666); true when the write must be refused. -/
def State.parity (s : State) (bad : Bool) : State × Bool :=
  let hit := bad || s.isArmed 0 0 22
  (s.checker 0 0 22 0 0 bad, hit)

/-! ### The store apertures (R342, R346, R348, R370, R594, R637, R640, R641) -/

/-- The access's size and alignment are served: 1, 2, 4 or 8 bytes, naturally aligned. -/
def sizeOk (a size : Nat) : Bool := [1, 2, 4, 8].contains size && decide (a % size = 0)

/-- The pages flagged by an open harbour for a write of `n` bytes at offset `o` among placed regions. -/
def flagged (l : List Area) (o n : Nat) : Option Nat := (l.find? (fun r => r.meets ⟨0, 0, o, n⟩)).map (·.page)

def dataBytes (data size : Nat) : List (BitVec 8) := (List.range size).map (fun i => BitVec.ofNat 8 (data / 2 ^ (8 * i)))

/-- The harbour store aperture at offset `o`. -/
def State.harbourAccess (s : State) (o size : Nat) (write : Bool) (data : Nat) : State :=
  if s.phaseNo = phSelftest ∨ s.phaseNo = phFailed ∨ vermilion ≤ (s.unit (ukBank (o / 4194304))).colour then s.reply rspRefused 0
  else if !write then s.reply rspOk (bytesNat (s.readBytes (hsAddr o) size))
  else
    match (if s.isOpen then flagged s.hmAreas o size else none) with
    | some page => (s.pageErr (page * 0x1000) errDenied).reply rspOk 0
    | none => (s.writeBytes (hsAddr o) (dataBytes data size)).reply rspOk 0

/-- The aperture of quay `q` at offset `o`; `ue` says that the word read is uncorrectable, `ce` gives the syndrome of one that was corrected. -/
def State.quayAccess (s : State) (q o size : Nat) (write : Bool) (data : Nat) (ue : Bool) (ce : Option Nat) : State :=
  let b := bankOf o
  let st := s.bankState q b
  if s.storeBytes q ≤ o then (s.pageErr (qyAddr q 0x8000) errAperture).reply rspOk 0
  else if !s.pageReady (qyAddr q 0x8000) || st == bkDrain || st == bkOff || st == bkInit then
    (if write then s.bankRefused q 3 o else s).reply rspRefused 0
  else
    let s := (s.bankWake q b).gatherRow q (rowOf o)
    if write then
      match (if s.isOpen then flagged (s.quayAreas q ++ s.images q) o size else none) with
      | some page => (s.pageErr (qyAddr q (page * 0x1000)) errDenied).reply rspOk 0
      | none => (((s.holdRow (qsAddr q o)).wordsWritten q o size).writeBytes (qsAddr q o) (dataBytes data size)).reply rspOk 0
    else if ue || tabGet (fun _ => false) (s.quay q).badWords (o / 8 * 8) then
      -- the reader receives an error (R365); the spec gives HPORT no read data for it
      let (x, s) := (s.storeUe q o 1 false).free
      s.emit (.hport rspOk x)
    else
      let s := match ce with | some synd => s.storeCe q o synd | none => s
      s.reply rspOk (bytesNat ((List.range size).map (fun i => s.byteHeld (qsAddr q o + i))))

/-- STORE_APERTURE_ACCESS at HPORT address `a`. -/
def State.aperture (s : State) (a size : Nat) (write : Bool) (data : Nat) (parBad ue : Bool) (ce : Option Nat) : State :=
  if !s.hportUp then s
  else
    let (s, bad) := if write then s.parity parBad else (s, false)
    if bad || !sizeOk a size then s.reply rspRefused 0
    else if 0x1000000 ≤ a ∧ a < 0x2000000 then s.harbourAccess (a - 0x1000000) size write data
    else if 0x40000000 ≤ a ∧ a < 0x40000000 + s.nQuays * 0x1000000 then
      s.quayAccess ((a - 0x40000000) / 0x1000000) ((a - 0x40000000) % 0x1000000) size write data ue ce
    else s.reply rspDecode 0

/-! ### Field access codes and locks (R18, R19, R595) -/

/-- A write of `new` over a register that holds `old`, field by field: the value after, and whether it carried another value for a locked field. -/
def writeFields (locked : Bool) (old new : Word) : List FldRow → Word × Bool
  | [] => (old, false)
  | f :: t =>
    let (w, bad) := writeFields locked old new t
    let o := fieldOf old f.lo f.w
    let n := fieldOf new f.lo f.w
    match f.acc with
    | .ro | .w1s => (w, bad)
    -- an action bit starts the row of its own (R18); data registers keep what is written
    | .wo => if f.w = 64 then (withField w f.lo f.w n, bad) else (w, bad)
    | .w1c => (withField w f.lo f.w (o - (o &&& n)), bad)
    | .rw | .rt => (withField w f.lo f.w n, bad)
    | .rwl => if locked then (w, bad || decide (o ≠ n)) else (withField w f.lo f.w n, bad)

/-- RWL fields of the page of place `a` are locked. -/
def State.locked (s : State) (a : Nat) : Bool := s.pageLock a || decide (s.start.opening ≠ 0)

/-- A write to the register at place `a` by its field codes alone; `page` is flagged when a locked field would change. -/
def State.writeBy (s : State) (a page : Nat) (new : Word) (lock : Bool) : State :=
  match regRow a with
  | none => s
  | some r =>
    let (w, bad) := writeFields lock (s.word a) new r.fields
    -- a bit that an event has set in this cycle stays set (R85, R660)
    let w := w ||| (s.word a &&& s.setNow a)
    let s := s.setWord a w
    -- a write sets all three copies of an RT register (R18, R507)
    let s := if r.fields.any (fun f => decide (f.acc = .rt)) then
        (List.range 3).foldl (fun s i => { s with rtDev := tabSet (fun _ => 0#64) s.rtDev (a * 4 + i) 0 }) s
      else s
    if bad then s.pageErr page errLocked else s

/-! ### The header (R488, R490, R644) -/

/-- A summary bit whose condition persists is set again (R488, R491, R492). -/
def State.persist (s : State) (blk : Nat) : State :=
  if 0x100000 ≤ blk then
    let q := (blk - 0x100000) / 0x10000
    let rows := s.flag (QY_FAULT_ROWS0_ROWS q) || s.flag (QY_FAULT_ROWS1_ROWS q)
    (if rows && !(s.word (blk + 0x10)).toNat.testBit 16 then s.latchWord blk 16 false else s).refreshSummary q
  else if s.flag HM_FAULT_SUM_QUAYS && !(s.word (blk + 0x10)).toNat.testBit 18 then s.latchWord blk 18 false
  else s

/-- PG_ERR: the low byte of this page, the fault word of the block. -/
def State.clearErr (s : State) (hdr v : Nat) : State :=
  let blk := blockOf hdr
  let low := (s.word (hdr + 0x10)).toNat % 256
  let w := (s.word (blk + 0x10)).toNat
  let own := w % 256
  let hi := w / 256 * 256
  -- a bit latched in this cycle stays set (R502)
  let hi := hi - ((hi &&& v) - (hi &&& v &&& (s.setNow (blk + 0x10)).toNat))
  let v := v - (v &&& (s.setNow (hdr + 0x10)).toNat)
  let s := s.setWord (blk + 0x10) (BitVec.ofNat 64 (hi + own))
  let s := s.setWord (hdr + 0x10) (BitVec.ofNat 64 ((s.word (hdr + 0x10)).toNat / 256 * 256 + (low - (low &&& v))))
  let f := (s.word (blk + 0x1C)).toNat
  let s := if hi = 0 then s.setWord (blk + 0x1C) (BitVec.ofNat 64 (clrBitN f 5)) else s
  s.persist blk

/-- The bits of PG_ERR_MASK that are not reserved: those of the fault word it masks, [26:0] at a quay (R491), [25:0] at the Harbourmaster (R492). -/
def maskBits (blk : Nat) : Nat := if 0x100000 ≤ blk then 2 ^ 27 - 1 else 2 ^ 26 - 1

/-- PG_ERR_MASK: its low byte of this page, the rest of the block; a 1 written to a reserved bit is ignored (R19, R490). -/
def State.setMask (s : State) (hdr v : Nat) : State :=
  let blk := blockOf hdr
  let v := v % 2 ^ 32 &&& maskBits blk
  let own := (s.word (blk + 0x14)).toNat % 256
  let s := s.setWord (blk + 0x14) (BitVec.ofNat 64 (v % 2 ^ 32 / 256 * 256 + own))
  let s := s.setWord (hdr + 0x14) (BitVec.ofNat 64 ((s.word (hdr + 0x14)).toNat / 256 * 256 + v % 256))
  if 0x100000 ≤ blk then s.refreshSummary ((blk - 0x100000) / 0x10000) else s

/-- A 32-bit write to offset `o` of the header at `hdr`. SOFT_RESET and PG_ERR_FORCE have rows of their own. -/
def State.headerWrite (s : State) (hdr o v : Nat) : State :=
  match o with
  | 0x08 =>
    let w := (s.word (hdr + 8)).toNat
    s.setWord (hdr + 8) (BitVec.ofNat 64 (w / 2 * 2 + v % 2))
  | 0x10 => s.clearErr hdr v
  | 0x14 => s.setMask hdr v
  | _ => s

/-! ### Registers with rules of their own -/

/-- Bits that exclude each other in one write (R254, R385, R510, R579, R632). -/
def exclusive (a : Nat) : List Nat :=
  if a = HM_COMMIT_OP then [0, 1, 2, 3].map (fun i => [HM_COMMIT_OP_RECALL.lo, HM_COMMIT_OP_HALT.lo, HM_COMMIT_OP_RESUME.lo, HM_COMMIT_OP_ABANDON.lo].getD i 0)
  else if a = HM_FAULT_OP then [HM_FAULT_OP_REGION.lo, HM_FAULT_OP_WAFER.lo]
  else if a = HM_KEY_OP then [HM_KEY_OP_LOAD.lo, HM_KEY_OP_ZERO.lo]
  else if a = HM_LOCKSTEP_CTL then [HM_LOCKSTEP_CTL_GO.lo, HM_LOCKSTEP_CTL_STOP.lo]
  else []

/-- The slot of a window's key holds a key (R386, R634). -/
def State.slotLoaded (s : State) (v : Word) : Bool := (s.get HM_KEY_STAT_LOADED).testBit (1 + fieldOf v 44 2)

/-- A window register: it is not enabled without a key, and starts with sequence 0 when it is enabled (R362, R386, R634). -/
def State.windowWrite (s : State) (a : Nat) (v : Word) (last : Fld) : State :=
  let was := (s.word a).toNat.testBit 42
  -- a packet of this cycle is still judged by what the window was (R378)
  let s := s.hold a
  let v := if v.toNat.testBit 42 && !was && !s.slotLoaded v then withField v 42 1 0 else v
  let s := s.writeBy a a v false
  if v.toNat.testBit 42 && !was then s.put last 0 else s

/-- What follows a write to a Harbourmaster register. OWED, DRIFT and the accumulator are kept while PPS_EN is 0 (DESIGN CHOICE, notes/assumptions/121.md). -/
def State.afterHm (s t : State) (a : Nat) (v : Word) : State :=
  if a = HM_TIME_CTL then
    if !s.flag HM_TIME_CTL_PPS_EN && t.flag HM_TIME_CTL_PPS_EN then t.enterTime tsAcquire
    else if s.flag HM_TIME_CTL_PPS_EN && !t.flag HM_TIME_CTL_PPS_EN then t.enterTime tsFree
    else t
  else if a = HM_TIME_STAT then (if fieldOf v 32 16 ≠ 0 then t.put HM_TIME_STAT_SPURIOUS 0 else t)
  else if a = HM_LOG_CTL then
    if s.flag HM_LOG_CTL_STORE_EN && !t.flag HM_LOG_CTL_STORE_EN && !t.log.scan then
      let t := (({ t with log.wr := none, log.pf := none }.clearTrigger).setLogState lsIdle).showHold
      -- a store pass and a fetch end with it (R696)
      let t := match t.log.clear with
        | some c => if c.verified then t.endClear 0 else t
        | none => t
      if t.log.fetch.isSome then { t.showRead 2 [] with log.fetch := none } else t
    else if !s.flag HM_LOG_CTL_STORE_EN && t.flag HM_LOG_CTL_STORE_EN then t.advanceBlock.showHold
    else t
  else if 0x13048 ≤ a ∧ a < 0x13100 ∧ a % 8 = 0 then
    -- an external channel 0 to 22 with EN = 0 reads VALID = 0 and raises no fault (R459)
    let n := (a - 0x13048) / 8
    if t.flag (HM_THERM_XCFG_EN n) then t else ((t.put (HM_THERM_VAL_VALID n) 0).put (HM_THERM_VAL_FAULT n) 0).thermStat
  else if a = HM_RST_DUMP then
    match t.rst.dump with
    | some d => if s.flag HM_RST_DUMP_HELD && !t.flag HM_RST_DUMP_HELD && d.staged then { t with rst.dump := none } else t
    | none => t
  else t

/-- A host write to the Harbourmaster register at place `a`. -/
def State.hmWrite (s : State) (a : Nat) (v : Word) : State :=
  -- a command's results stand against a write of its last cycle (R658)
  if 2 ≤ ((exclusive a).filter (fun i => v.toNat.testBit i)).length then s.pageErr a errConflict
  else if a = HM_RST_KICK then s.pageErr a errDenied
  else if a = HM_LOG_RSEL then s.logSelect v.toNat
  else if (HM_CMD_ARG 4 = a ∨ HM_CMD_ARG 5 = a ∨ HM_CMD_ARG 6 = a ∨ HM_CMD_ARG 7 = a) ∧ (s.flag HM_CMD_STATUS_BUSY = true ∨ (s.setNow HM_IRQ_STAT).toNat.testBit irqCmd = true) then s
  else
    match (List.range 8).find? (fun w => decide (HM_WIN_CFG w = a)) with
    | some w => s.windowWrite a v (HM_WIN_STAT_LAST_SEQ w)
    | none =>
      -- a ring's writer sees a new RD from the next cycle on (R199, R316, R531)
      let s := if a = HM_CUS_HARV_RD ∨ a = HM_TEST_RES_RD ∨ a = HM_RST_NOTE_RD then s.hold a else s
      -- XEN bits 0 and 1 ignore writes (R434)
      let v := if a = HM_HAWSER_XCTL then v &&& ~~~3 else v
      s.afterHm (s.writeBy a a v (s.locked a)) a v

/-- A host write to the register at place `a` of quay `q`; QY_BOL_SEL is served before this. -/
def State.qyWrite (s : State) (q a : Nat) (v : Word) : State :=
  let o := (a - 0x100000) % 0x10000
  let page := o / 0x1000
  let off := o % 0x1000
  let n := (off - 0x40) / 16
  if a = QY_RST_WDOG q then s.pageErr a errDenied
  else if a = QY_CSUM_CAPT_TICK q then (s.writeBy a a v (s.locked a)).recapture q
  else if a = QY_SYNC_SEL q then s.syncSelect q (fieldOf v 0 10)
  else if a = QY_SYNC_LINK q then 
    (if s.isOpen then (if v.toNat % 2 ^ 33 = (s.obj q (s.get (QY_SYNC_SEL_INDEX q))).link then s else s.pageErr a errLocked) else s.syncLink q v.toNat)
  else if a = QY_RING_OP q then
    let push := v.toNat.testBit (QY_RING_OP_PUSH q).lo
    let pop := v.toNat.testBit (QY_RING_OP_POP q).lo
    if push && pop then (s.pageErr a errConflict).pageErr a errDenied
    else if push || pop then s.pageErr a errDenied
    else s.writeBy a a v false
  else if page = 9 ∧ off < 0x240 ∧ a = QY_RING_CFG q n then
    if s.isOpen then s.pageErr a errDenied
    else if s.flag (QY_RING_CFG_EN q n) then s.put (QY_RING_CFG_EN q n) (fieldOf v 29 1)
    else s.writeBy a a v false
  else if page = 10 ∧ a = QY_WIN_CFG q n then s.windowWrite a v (QY_WIN_STAT_LAST_SEQ q n)
  else if page = 8 ∧ 0x50 ≤ off ∧ off < 0x150 then
    let b := (off - 0x50) / 8
    if s.banks q ≤ b then s
    else
      let req := fieldOf v 0 2
      let res := if s.sp.variant = .w64 then fieldOf v 5 1 else 0
      let s := if s.locked a then (if s.get (QY_STORE_BANK_RESIDENT q b) = res then s else s.pageErr a errLocked) else s.put (QY_STORE_BANK_RESIDENT q b) res
      if req = s.get (QY_STORE_BANK_REQ q b) then s
      else if s.isOpen then s.pageErr a errDenied
      else s.bankRequest q b req
  else s.writeBy a a v (s.locked a)

/-! ### The Bollard file (R85, R87 to R90, R102, R103) -/

/-- LM_SIDEPORT_ACCESS: a write of BOL_LM_ADDR starts a side-port access. -/
def State.lmAccess (s : State) (p : Nat) (w : Word) : State :=
  let we := fieldOf w 13 1
  let s := ((s.put (BOL_LM_ADDR_WORD p) (fieldOf w 0 13)).put (BOL_LM_ADDR_WE p) we).put (BOL_LM_ADDR_ERR p) 0
  let s := s.put (BOL_LM_ADDR_DONE p) 0
  s.emit (.lmReq p (decide (we = 1)) (fieldOf w 0 13) (if we = 1 then s.word (BOL_LM_DATA p) else 0))

/-- BOL_CTL written: BW_FORCE set applies the Breakwater, which stays until the quay releases it (R76, R77, R93). -/
def State.ctlWritten (s : State) (p : Nat) (was : Bool) : State :=
  (if s.flag (BOL_CTL_BW_FORCE p) && !was then s.breakwater p 0 else s).refreshTile p

/-- BOL_POS written: the stage nearer to the quay takes its input through the delay line while this position is bypassed (R69, R104). -/
def State.posWritten (s : State) (p : Nat) : State :=
  if localOf p % 128 = 0 then s else s.put (BOL_TALLY_SKIP_IN (p - 1)) (s.get (BOL_POS_BYPASS p))

/-- A write of `w` to register `i` of the Bollard of tile `p`. -/
def State.bolWrite (s : State) (p i : Nat) (w : Word) : State :=
  let page := qyAddr (quayOf p) 0x3000
  let a := bolAddr p i
  match i with
  | 1 => (s.writeBy a page w false).posWritten p
  | 2 => (s.writeBy a page w false).ctlWritten p (s.flag (BOL_CTL_BW_FORCE p))
  | 4 => (s.writeBy a page w false).refreshRows (quayOf p)
  | 5 => s.errorForce 2 p page (w.toNat % 2 ^ 16)
  | 22 =>
    if s.isOpen then s.pageErr page errBolLocked
    else
      let t := s.writeBy a page w false
      if s.crstHigh p && !t.crstHigh p then (t.coreReset p).engineDown p else t.refreshTile p
  | 23 => s.scanStart p w
  | 24 => s.mbistStart p w
  | 25 => s.lmAccess p w
  | _ => s.writeBy a page w false

/-- BOLLARD_ACCESS: a write of QY_BOL_SEL; `answered` says that the Bollard answers within 64 cc. -/
def State.bolAccess (s : State) (q : Nat) (v : Word) (answered : Bool) : State :=
  let page := qyAddr q 0x3000
  if s.flag (QY_BOL_SEL_BUSY q) then s.pageErr page errBolBusy
  else
    let l := fieldOf v 0 14
    let i := fieldOf v 14 5
    let wr := fieldOf v 19 1
    let s := ((s.put (QY_BOL_SEL_TILE q) l).put (QY_BOL_SEL_REG q) i).put (QY_BOL_SEL_WR q) wr
    if regionTiles ≤ l then s.pageErr page errBolRange
    else if !answered then (s.put (QY_BOL_SEL_VOID q) 0).put (QY_BOL_SEL_BUSY q) 1
    else
      let p := tileOf q l
      let s := s.put (QY_BOL_SEL_VOID q) 0
      if wr = 1 then s.bolWrite p i (s.word (QY_BOL_DATA q))
      else s.setWord (QY_BOL_DATA q) (BitVec.ofNat 64 (s.readReg (bolAddr p i)))

/-- BOLLARD_ACCESS_TIMEOUT. -/
def State.bolTimeout (s : State) (q : Nat) : State :=
  if s.flag (QY_BOL_SEL_BUSY q) then ((s.put (QY_BOL_SEL_BUSY q) 0).put (QY_BOL_SEL_VOID q) 1).setWord (QY_BOL_DATA q) 0 else s

/-! ### REGISTER_WRITE (R18, R636, R637, R639, R640, R644, R646) -/

/-- A write to a page, past parity, size and alignment. -/
def State.pageWrite (s : State) (a size : Nat) (v : Word) : State :=
  let hdr := a / 0x1000 * 0x1000
  let off := a % 0x1000
  let quay := decide (0x100000 ≤ a)
  let rows := if quay then qyPageRows ((a - 0x100000) % 0x10000 / 0x1000) else hmPageRows (a / 0x1000)
  if rows.isEmpty then s.reply rspOk 0
  else if off < 0x40 then
    let s := s.headerWrite hdr off (fieldOf v 0 32)
    (if size = 8 then s.headerWrite hdr (off + 4) (fieldOf v 32 32) else s).reply rspOk 0
  else if size ≠ 8 ∨ !s.pageReady a then s.reply rspRefused 0
  else if !s.pageEn a then (s.pageErr a errDenied).reply rspOk 0
  else
    let q := (a - 0x100000) / 0x10000
    (if !quay then s.hmWrite a v else if a = QY_BOL_SEL q then s.bolAccess q v true else s.qyWrite q a v).reply rspOk 0

/-- What HPORT answers to a register read: response and data (R636, R637, R639, R640). A page that is not served shows PG_ID, PG_CAP and PG_STAT only. -/
def State.regRead (s : State) (a size : Nat) : Nat × Nat :=
  if !sizeOk a size then (rspRefused, 0)
  else if !(decide (a < 0x40000) || decide (0x100000 ≤ a) && decide (a < 0x100000 + s.nQuays * 0x10000)) then (rspDecode, 0)
  else if size < 4 ∨ (a / 8 * 8 = HM_LOG_NONCE0 ∧ size = 4) then (rspRefused, 0)
  else
    let off := a % 0x1000
    let one := fun (b : Nat) => if s.pageReady b ∨ [0, 4, 0xC].contains (b % 0x1000) then s.readReg b else 0
    if off < 0x40 then (rspOk, if size = 4 then one a else one a + one (a + 4) * 2 ^ 32)
    else (rspOk, if size = 8 then one a else one (a / 8 * 8) / 2 ^ (8 * (a % 8)) % 2 ^ 32)

/-- REGISTER_WRITE at HPORT address `a`. -/
def State.regWrite (s : State) (a size data : Nat) (parBad : Bool) : State :=
  if !s.hportUp then s
  else if 0x1000000 ≤ a then s.aperture a size true data parBad false none
  else
    let (s, bad) := s.parity parBad
    if bad || !sizeOk a size then s.reply rspRefused 0
    else if a < 0x40000 ∨ (0x100000 ≤ a ∧ a < 0x100000 + s.nQuays * 0x10000) then
      if size < 4 then s.reply rspRefused 0 else s.pageWrite a size (BitVec.ofNat 64 data)
    else s.reply rspDecode 0

end Sys2Proof.Machine
end

