-- ==== Sys2Proof/Machine/Cmd.lean ====
section
/-!
DEFINITION. The command page (R651 to R655), and the events at the power pins and the PMBus that reach several units (R455, R517, R554, R680).
-/

namespace Sys2Proof.Machine

/-! ### Command codes and results (R653, R654) -/

def cmdPing : Nat := 1
def cmdBolRead : Nat := 2
def cmdLmRead : Nat := 3
def cmdPmbusRead : Nat := 4
def cmdManifestCheck : Nat := 5
def cmdSyncDump : Nat := 6

def crDone : Nat := 0
def crBadOp : Nat := 1
def crBadArg : Nat := 2
def crPhase : Nat := 3
def crAbsent : Nat := 4
def crPartial : Nat := 5
def crNack : Nat := 6

/-- Bits of ARG0 and ARG1 that a command names; every other bit of ARG0 to ARG3 must be 0 (R653). -/
def cmdMasks (op : Nat) : Nat × Nat :=
  if op = cmdBolRead then (2 ^ 34 - 1, 2 ^ 24 - 1)
  else if op = cmdLmRead then (2 ^ 47 - 1, 2 ^ 24 - 1)
  else if op = cmdPmbusRead then (2 ^ 16 - 1, 0)
  else if op = cmdManifestCheck then (2 ^ 64 - 1, 0)
  else if op = cmdSyncDump then (2 ^ 6 - 1, 2 ^ 24 - 1)
  else (0, 0)

/-- Argument `i` of a command. -/
def CmdSt.arg (c : CmdSt) (i : Nat) : Nat := c.args.getD i 0

/-- Bits `[lo + w - 1 : lo]` of argument 0. -/
def CmdSt.fld (c : CmdSt) (lo w : Nat) : Nat := c.arg 0 / 2 ^ lo % 2 ^ w

/-- Bytes a command writes to the harbour store. -/
def CmdSt.outBytes (c : CmdSt) : Nat :=
  if c.op = cmdBolRead then 256 * c.fld 20 14
  else if c.op = cmdLmRead then 8 * c.fld 33 14
  else if c.op = cmdSyncDump then 16384
  else 0

/-- A destination obeys R655. -/
def State.destOk (s : State) (dest len : Nat) : Bool :=
  decide (dest % 64 = 0) && decide (dest + len ≤ 0x1000000) && !s.hmAreas.any (fun a => a.meets ⟨0, 0, dest, len⟩)

/-- The quays a command names. -/
def CmdSt.quays (c : CmdSt) : List Nat :=
  if c.op = cmdBolRead ∨ c.op = cmdPmbusRead ∨ c.op = cmdSyncDump then [c.fld 0 6]
  else if c.op = cmdLmRead then [quayOf (c.fld 0 20)]
  else if c.op = cmdManifestCheck then (List.range 64).filter (fun q => (c.arg 0).testBit q)
  else []

/-- The RESULT a command ends with before it does anything, 0 for none (R653, R654, R655). -/
def State.cmdRefusal (s : State) (c : CmdSt) : Nat :=
  let (m0, m1) := cmdMasks c.op
  let range :=
    if c.op = cmdBolRead then decide (1 ≤ c.fld 20 14) && decide (c.fld 6 14 + c.fld 20 14 ≤ regionTiles)
    else if c.op = cmdLmRead then decide (1 ≤ c.fld 33 14) && decide (c.fld 20 13 + c.fld 33 14 ≤ 8192)
    else if c.op = cmdPmbusRead then decide (c.fld 14 2 = 1) || decide (c.fld 14 2 = 2)
    else true
  if c.op < cmdPing ∨ cmdSyncDump < c.op then crBadOp
  else if c.arg 0 - (c.arg 0 &&& m0) ≠ 0 ∨ c.arg 1 - (c.arg 1 &&& m1) ≠ 0 ∨ c.arg 2 ≠ 0 ∨ c.arg 3 ≠ 0 ∨ !range then crBadArg
  else if 0 < c.outBytes ∧ !s.destOk (c.arg 1) c.outBytes then crBadArg
  else if c.op = cmdPmbusRead ∧ !s.start.prep.testBit 2 then crPhase
  else if c.quays.any (fun q => decide (s.nQuays ≤ q) || !s.controlled q) then crAbsent
  else if c.op = cmdLmRead ∧ !s.flag (BOL_STAT_CDOM_ON (c.fld 0 20)) then crAbsent
  else crDone

/-- An accepted GO: OP and ARG0 to ARG3 are latched and BUSY rises (R652). A PMBus read joins the bus's queue at once (R680). -/
def State.cmdAccept (s : State) (op : Nat) (args : List (BitVec 64)) : State :=
  let c : CmdSt := ⟨op % 256, args.map (·.toNat), none, []⟩
  let s := { (s.put HM_CMD_STATUS_BUSY 1).count HM_CMD_STATUS_ACCEPTED 1 with cmd := some c }
  if c.op ≠ cmdPmbusRead then s
  else
    let r := s.cmdRefusal c
    if r = 0 then s.pmQueue ⟨c.fld 0 6, c.fld 6 8, false, 0, 5⟩ else { s with cmd := some { c with result := some r } }

/-- GO with code `op` and arguments ARG0 to ARG3 (R652). -/
def State.cmdGo (s : State) (op : Nat) (args : List (BitVec 64)) : State :=
  s.hostWrite HM_CMD_GO (fun s =>
    let s := s.put HM_CMD_OP_OP op
    let s := ((args.take 4).zipIdx).foldl (fun s x => s.setWord (HM_CMD_ARG x.2) x.1) s
    if s.phaseNo < phConfig ∨ s.phaseNo = phFailed then (s.pageErr HM_CMD_GO errDenied).closedAnswer 6
    else if s.lantern then s.pageErr HM_CMD_GO errDenied
    else
      let words := (List.range 4).map (fun i => s.word (HM_CMD_ARG i))
      if s.flag HM_CMD_STATUS_BUSY then
        (s.coin (.cmd op words ((s.word (HM_CMD_GO / 0x1000 * 0x1000 + 0x10)).toNat.testBit errBusy))).pageErr HM_CMD_GO errBusy
      else s.cmdAccept op words)

/-! ### What the commands do (R653) -/

/-- The 32 registers of `n` Bollards of home quay `q` from local tile `l`; the words at `bad` positions have timed out. -/
def State.bolBlock (s : State) (q l n : Nat) (bad : List Nat) : List (BitVec 64) :=
  (List.range n).flatMap (fun k => (List.range 32).map (fun i =>
    BitVec.ofNat 64 (if bad.contains (32 * k + i) then voidWord else s.readReg (bolAddr (tileOf q (l + k)) i))))

/-- Entries of quay `q` that differ from the harbour Manifest, and entries skipped for a move. -/
def State.manifestDiff (s : State) (q : Nat) : Nat × Nat :=
  (List.range regionTiles).foldl (fun a l =>
    let p := tileOf q l
    if (s.moveOf p).isSome then (a.1, a.2 + 1)
    else if s.tileEntry p = bytesNat (s.readBytes (hsAddr (s.get HM_MANIFEST_BASE_TILE_OFF + 4 * p)) 4) then a
    else (a.1 + 1, a.2)) (0, 0)

/-- VALUE and COMMITTED of the objects of quay `q`. -/
def State.syncBlock (s : State) (q : Nat) : List (BitVec 64) :=
  (List.range 1024).flatMap (fun i => [BitVec.ofNat 64 (s.obj q i).cnt.value, BitVec.ofNat 64 (s.obj q i).cnt.committed])

/-- Serve a command: its RESULT, and ARG4 and on. `data` are the local-memory words read, `bad` the words that timed out or were uncorrectable,
`ce` how many were corrected. -/
def State.cmdServe (s : State) (c : CmdSt) (data : List (BitVec 64)) (bad : List Nat) (ce : Nat) : State × Nat × List Nat :=
  let dest := hsAddr (c.arg 1)
  if c.op = cmdPing then (s, crDone, [s.get HM_TRIPLEX_VER_RUNNING + s.get HM_TRIPLEX_VER_HO_OUT * 2 ^ 16, s.tide])
  else if c.op = cmdBolRead then
    let n := c.fld 20 14
    let voids := ((List.range (32 * n)).filter (fun i => bad.contains i)).length
    let s := s.writeWords dest (s.bolBlock (c.fld 0 6) (c.fld 6 14) n bad)
    (s, if voids = 0 then crDone else if voids = 32 * n then crAbsent else crPartial, [n, voids])
  else if c.op = cmdLmRead then
    let n := c.fld 33 14
    let words := (List.range n).map (fun i => if bad.contains i then BitVec.ofNat 64 voidWord else data.getD i 0)
    let lost := ((List.range n).filter (fun i => bad.contains i)).length
    (s.writeWords dest words, if lost = 0 then crDone else crPartial, [n, lost, ce])
  else if c.op = cmdManifestCheck then
    let l := c.quays.map (fun q => (q, s.manifestDiff q))
    let diff := (l.map (fun x => x.2.1)).sum
    let skipped := (l.map (fun x => x.2.2)).sum
    let low := ((l.find? (fun x => decide (0 < x.2.1))).map (·.1)).getD 0xFFFFFFFF
    (s, crDone, [diff, low, regionTiles * l.length - skipped, skipped])
  else (s.writeWords dest (s.syncBlock (c.fld 0 6)), crDone, [1024])

/-- A GO written in the cycle in which BUSY falls is judged after it, and accepted (R659). -/
def State.cmdAgain (s : State) : State :=
  match s.coinsNow.reverse.findSome? (fun x => match x with | .cmd op words flagged => some (op, words, flagged) | _ => none) with
  | some (op, words, flagged) =>
    let hdr := HM_CMD_GO / 0x1000 * 0x1000 + 0x10
    let s := if flagged then s else s.setWord hdr (BitVec.ofNat 64 (clrBitN (s.word hdr).toNat errBusy))
    s.cmdAccept op words
  | none => s

/-- A command ends: its results, RESULT and LAST_OP, BUSY and the event (R652). -/
def State.cmdEnd (s : State) (c : CmdSt) (result : Nat) (res : List Nat) : State :=
  let s := ((res.take 4).zipIdx).foldl (fun s x => s.setWord (HM_CMD_ARG (4 + x.2)) (BitVec.ofNat 64 x.1)) s
  let s := ((s.put HM_CMD_STATUS_RESULT result).put HM_CMD_STATUS_LAST_OP c.op).put HM_CMD_STATUS_BUSY 0
  { s with cmd := none }.irq irqCmd |>.cmdAgain

/-- CMD_COMPLETE. During a triplex pause and in Lantern mode the command waits (R529, R601, R652); a PMBus read waits for its transaction. -/
def State.cmdComplete (s : State) (data : List (BitVec 64)) (bad : List Nat) (ce : Nat) : State :=
  match s.cmd with
  | none => s
  | some c =>
    if s.lantern ∨ s.flag HM_TRIPLEX_STAT_ABSENT then s
    else
      match c.result with
      | some r => s.cmdEnd c r c.res
      | none =>
        if c.op = cmdPmbusRead then s
        else
          let r := s.cmdRefusal c
          if r ≠ 0 then s.cmdEnd c r []
          else
            let (s, r, res) := s.cmdServe c data bad ce
            s.cmdEnd c r res

/-- The transaction of a PMBUS_READ has ended (R654, R680). -/
def State.cmdPmbus (s : State) (ack : Bool) (data : Nat) : State :=
  match s.cmd with
  | some c =>
    if c.op = cmdPmbusRead ∧ c.result.isNone then
      let w := if c.fld 14 2 = 1 then 256 else 65536
      { s with cmd := some { c with result := some (if ack then crDone else crNack), res := if ack then [data % w] else [] } }
    else s
  | none => s

/-! ### The sideband (R681) -/

/-- What the sideband reads at a register address. -/
def State.sideband (s : State) (a : Nat) : Nat :=
  match a with
  | 0 => 0x0C
  | 1 => s.phaseNo + bit s.lantern * 2 ^ 3 + s.get HM_PWR_BUS_PFAIL_PIN * 2 ^ 4
  | 2 => s.get HM_FAULT_ALARM_CAUSE
  | 3 => s.get HM_FAULT_ALARM_ACKED
  | 4 => toField (signedOf (s.get HM_THERM_STAT_HOT_TEMP) 16 / 4) 8
  | 5 => min 0xFF (s.get HM_PWR_BUS_VBUS / 25)
  | 6 => s.pageColour 0
  | _ => 0

/-! ### Power pins and the PMBus -/

/-- PFAIL_FALL (R455, R554, R674). -/
def State.pfailFall (s : State) : State := ((s.put HM_PWR_BUS_PFAIL_PIN 1).pfTrigger 1).pfailEnter 1

/-- PFAIL_RISE. -/
def State.pfailRise (s : State) : State := ((s.put HM_PWR_BUS_PFAIL_PIN 0).pfailLeave).clearTrigger

/-- BUS_SAMPLE with its flush trigger (R456, R554). -/
def State.busPoint (s : State) (c0 c1 : Nat) : State :=
  let (s, low) := s.busSample c0 c1
  if low then s.pfTrigger 2 else s.clearTrigger

/-- CONVERSION_DONE: a temperature channel, or HK_AIN n as channel 88 + n (R454, R459, R478, R554). -/
def State.converted_ (s : State) (ch : Nat) (val : Int) (fault : Nat) : State :=
  if 88 ≤ ch then (if 90 ≤ ch ∧ ch < 104 then s.ainSample (ch - 88) (min 12500 val.toNat) else s)
  else
    let (s, critical) := s.conversion ch val fault
    if critical then s.pfTrigger 3 else s

/-- PMBUS_TRANSACTION_DONE: what it was for, then the next in the queue; PREPARE goes on once its reads have ended. -/
def State.pmbusDone (s : State) (ack : Bool) (data : Nat) : State :=
  let (s, x) := s.pmDone ack data
  let s := match x with
    | some x => if x.why = 5 then s.cmdPmbus ack data else s
    | none => s
  s.prepStep

/-- LINK_DOMAIN_POWER (R50, R90, R517): the Bollard of tile `p` loses its registers and everything it holds; what the quay and the
Manifest know of the tile stays. -/
def State.linkPower (s : State) (p : Nat) : State :=
  let s := ((s.coreReset p).discardTiles p).dropArmed 2 p
  let s := { s with regs := s.regs.filter (fun x => decide (x.1 < bolAddr p 0) || decide (bolAddr p 31 < x.1))
                    rtDev := s.rtDev.filter (fun x => decide (x.1 < bolAddr p 0 * 4) || decide (bolAddr p 31 * 4 + 3 < x.1)) }
  let s := (s.setEngine p Engine.idle).setSigacc p 0
  let s := s.modTile p (fun t => { t with
    asleep := false, parked := false, hawserHold := false, overrun := false, progress := false, opens := [], refused := none, sigAcc := 0,
    samples := [], frame := [], invalRun := 0, steps := [], rates := [], pendings := [], clrUsed := 0, parkSeen := false, slots := [], slotHist := [],
    frozen := false, killTick := none, commitReset := some (s.quay (quayOf p)).egcTick })
  (s.refreshTile p).refreshRows (quayOf p)

end Sys2Proof.Machine
end

