-- ==== Sys2Proof/Machine/Tick.lean ====
section
/-!
DEFINITION. The tick strobe with everything that takes force at cycle 0 of a tick (R25, R211, R213), the boundary of a housekeeping round (R459), the times
that the timebase keeps (R29, R31, R32), and operations on Harbourmaster pages that wait for the end of a triplex pause (R601).
-/

namespace Sys2Proof.Machine

/-! ### Operations during a pause of the triplex (R601) -/

/-- A GO on a Harbourmaster page: it stays BUSY while the triplex is absent, and is served when the pause ends. -/
def State.whenPresent (s : State) (busy : Option Fld) (i : Instr) (k : State → State) : State :=
  if !s.flag HM_TRIPLEX_STAT_ABSENT then k s
  else
    match busy with
    | some f => if s.flag f then s.pageErr f.reg errBusy else { s.put f 1 with start := { s.start with deferred := s.start.deferred ++ [i] } }
    | none => { s with start := { s.start with deferred := s.start.deferred ++ [i] } }

/-- OP 5 of HM_RST_OP: Lantern mode forced, while the harbour is open only with INJECT_L (R499, R513, R539). -/
def State.lanternOp (s : State) : State :=
  s.rstOp 5 (fun s =>
    if s.isOpen && !s.flag HM_FAULT_CTL_INJECT_L then ((s.pageErr HM_RST_OP errDenied).logForce 0 0 0x0B04 FClass.l.code 0xFE).rstEnd true
    else (((s.logForce 0 0 0x0B03 (bit s.isOpen) 0xFE).count HM_FAULT_CNT0_FORCED 1).enterLantern 5).rstEnd false)

/-- Serve an operation that has waited. -/
def State.serve (s : State) (i : Instr) : State :=
  match i with
  | .healthOpAmber _ p => (s.put HM_HEALTH_OP_BUSY 0).healthOp p 1
  | .healthOpVermilion _ p => (s.put HM_HEALTH_OP_BUSY 0).healthOp p 2
  | .healthOpSlate _ p => (s.put HM_HEALTH_OP_BUSY 0).healthOp p 3
  | .testNext _ p => (s.put HM_TEST_OP_BUSY 0).testNext p
  | .testAbort _ p => (s.put HM_TEST_OP_BUSY 0).testAbort p
  | .xspiProgram _ => (s.put HM_XSPI_OP_BUSY 0).xspiProgram
  | .xspiErase _ => (s.put HM_XSPI_OP_BUSY 0).xspiErase
  | .xspiRescan _ => (s.put HM_XSPI_OP_BUSY 0).xspiRescan
  | .tileReset _ p pwr => (s.put HM_RST_OP_BUSY 0).rstOp 1 (fun s => s.tileResetOp p pwr)
  | .partitionReset _ q a b c d pwr => (s.put HM_RST_OP_BUSY 0).rstOp 2 (fun s => s.partitionReset q a b c d pwr)
  | .quayResetOp _ q => (s.put HM_RST_OP_BUSY 0).rstOp 3 (fun s => s.quayResetOp q)
  | .quayReclaim _ q => (s.put HM_RST_OP_BUSY 0).rstOp 4 (fun s => s.quayReclaim q)
  | .enterLantern _ => (s.put HM_RST_OP_BUSY 0).lanternOp
  | .dump _ kind p q => (s.put HM_RST_OP_BUSY 0).rstOp 7 (fun s => s.dumpOp kind p q)
  | .keyLoad _ => (s.put HM_KEY_OP_BUSY 0).keyLoad
  | .keyZero _ => (s.put HM_KEY_OP_BUSY 0).keyZero
  | .load _ => (s.put HM_TRIPLEX_OP_BUSY 0).load
  | .prepare _ taps => (s.put HM_TRIPLEX_OP_BUSY 0).prepare taps
  | .epoch _ => (s.put HM_TRIPLEX_OP_BUSY 0).epochOp
  | .startTest _ => (s.put HM_TRIPLEX_OP_BUSY 0).startTest
  | .openHarbour _ => (s.put HM_TRIPLEX_OP_BUSY 0).openOp
  | .close _ => (s.put HM_TRIPLEX_OP_BUSY 0).closeOp
  | .update _ => (s.put HM_TRIPLEX_OP_BUSY 0).updateOp
  | .resume _ => s.hostResume
  | .abandon _ => s.abandon
  | _ => s

/-- A pause that has lasted its bound ends, and what has waited is served in order. -/
def State.pauseStep (s : State) : State :=
  if s.start.pause.isNone then s
  else
    let s := s.endPause
    if s.start.pause.isSome then s
    else
      let l := s.start.deferred
      l.foldl (fun s i => s.serve i) { s with start := { s.start with deferred := [] } }

/-! ### The end and the start of a tick -/

/-- What a restart restores is kept at the end of job tick `n` (R392, R410, R620). A tick that a recall has stopped, and one in which no job runs, is not
among the job ticks that are kept (R215, R422). -/
def State.keepTick (s : State) (n : Nat) : State :=
  if s.cmState ≠ cmRun then s
  else
  let s := s.touchedTiles.foldl (fun s p =>
    let pend := s.flag (BOL_WAKE_PENDING p)
    if !pend && (s.tile p).pendings.isEmpty then s
    else s.modTile p (fun t => { t with pendings := ((n, pend) :: t.pendings.filter (fun x => decide (x.1 ≠ n))).take 4 })) s
  (s.hawserKeep n).lockKeep n

/-- The tide counter enters the next tick (R24, R29, R32). -/
def State.advanceTick (s : State) : State :=
  let len := if s.time.alignNow then s.time.cyc + 3 else ((s.tickLen : Int) + s.time.slew).toNat
  { s with time := { s.time with tick := s.time.tick + 1, cyc := 0, slew := 0, prevLen := len, dev := s.time.dev + len - s.tickLen, alignNow := false } }

/-- The job tick that tide tick `t` carries (R211): one more than the tick before, or the first of a replay. -/
def State.nextJt (s : State) (t : Nat) : Nat :=
  match s.commit.inRecall with
  | some r => if r.p = some t && r.mailed && decide (r.halt = 0) && !s.donly then r.target + 1 else s.jt + 1
  | none => s.jt + 1

/-- A Bollard at cycle 0 (R71, R75, R65, R66, R143). -/
def State.tileTick (s : State) (p : Nat) : State :=
  let s := ((s.watchTick p).turnVerdict p).put (BOL_CTX_NEXT_SEQ p) 0
  let s := s.put (BOL_CLK_DIV p) (s.get (BOL_CTL_DIV_NEXT p))
  let s := s.greenAgain p
  if s.cmState = cmRun then s.turnRate p else s.showRate p

/-- The tile whose Bollard's fault word has armed bit `b`. -/
def armedTiles (l : List Nat) (b : Nat) : List Nat :=
  (l.filter (fun k => decide (0x100000000 ≤ k / 64) && decide (k % 64 = b))).map (fun k => (k / 64 - 0x100000000) / 32)

/-- What Rinol and the quays look at when a tick begins. -/
def State.tickWork (s : State) : State :=
  let s := (s.unparkAll).forceMoves.testSweep
  let s := if s.lantern || s.flag HM_TRIPLEX_STAT_ABSENT then s
    else
      let l := s.demands.filter (fun d => decide (s.use d.1 ≠ useServes))
      l.foldl (fun s d => s.takeOut d.1 (if d.2 = 16 then slate else vermilion) d.2 4)
        { s.donlyDemands with demands := s.donlyDemands.demands.filter (fun d => decide (s.use d.1 = useServes)) }
  let s := (s.groupTick).refreshMembers
  let s := (s.rstStep).customsTick
  let s := (s.refereeTick).raiseSuspects
  ((s.pauseStep).openWait).updLantern

/-- FLIT_OUT_KILL of tile `p`: its Breakwater is applied, or a recall has frozen its core (R52, R76, R227). -/
def State.flitKill (s : State) (p : Nat) : Bool := s.flag (BOL_STAT_BW_ACTIVE p) || (s.tile p).frozen

/-- The outgoing flits that were discarded in the tick that ends (R76, R99): tile and count, of tiles that drove FLIT_OUT_KILL in it. -/
def State.killFlits (s : State) (flits : List (Nat × Nat)) : State :=
  flits.foldl (fun s x =>
    if s.isTile x.1 && (s.flitKill x.1 || decide ((s.tile x.1).killTick = some s.time.tick)) then s.count (BOL_BW_KILLED x.1) x.2 else s) s

/-- TICK_STROBE: `bad` are the Bollards whose job tick differs from their quay's (R213), `flits` what the tiles' cores drove while
FLIT_OUT_KILL was high in the tick that ends. Before the device epoch no tick is counted (R591). -/
def State.tickStrobe (s : State) (bad : List Nat) (flits : List (Nat × Nat)) : State :=
  if !s.time.epoch then s
  else
    let old := s.jt
    let s := ((s.killFlits flits).keepTick old).advanceTick
    let t := s.time.tick
    let n := s.nextJt t
    let s := (s.put HM_COMMIT_JT_JT n).put HM_COMMIT_OFFSET_OFFSET (t - n)
    let s := s.quayList.foldl (fun s q => ((s.clrTick q).alarmTick q).rateTick q) s
    let s := s.touchedTiles.foldl (fun s p => s.tileTick p) s
    let s := s.quayList.foldl (fun s q => (s.pilotTick q old).checker 1 q 25 0 0 false) s.idleTicks
    let s := bad.foldl (fun s p => s.checker 2 p 6 0 0 true) s
    let s := (armedTiles s.armed 6).foldl (fun s p => s.checker 2 p 6 0 0 false) s
    let s := (armedTiles s.armed 7).foldl (fun s p => s.checker 2 p 7 0 0 false) s
    s.tickWork

/-! ### The housekeeping round (R257, R262, R303, R366, R457, R459, R475, R562, R568) -/

/-- A round boundary is due: before the epoch rounds follow AO_CLK, after it the tide ticks that are multiples of 4,096, each once (R459). -/
def State.roundDue (s : State) : Bool :=
  !s.time.epoch || (decide (s.time.tick % 4096 = 0) && decide (s.power.roundAt ≠ some s.time.tick))

/-- HOUSEKEEPING_ROUND: `badKey` is a key slot whose check value does not match. -/
def State.houseRound (s : State) (badKey : Option Nat) : State :=
  if !s.roundDue then s
  else
  let s := { s.count HM_THERM_STAT_ROUNDS 1 with power.roundAt := if s.time.epoch then some s.time.tick else none, power.evalDue := true }
  let s := (s.healthRound).unitsRound
  let s := (s.faultRound).customsRound
  let s := (s.logRound).testRound
  let s := s.quayList.foldl (fun s q => s.clrRound q) s
  let s := s.pmRound
  s.checker 0 0 24 0 (badKey.getD 0) badKey.isSome

/-! ### The timebase (R29, R31, R32) -/

/-- ALIGN: refused once the harbour is open. -/
def State.align (s : State) : State :=
  if s.isOpen then s.pageErr HM_TIME_CTL errLocked else { s with time.alignReq := true }

/-- Two seconds have passed since the last accepted edge (R31), which HM_TIME_PPS_CAPT holds (R46). -/
def State.edgeMissing (s : State) : Bool :=
  let due := s.get HM_TIME_PPS_CAPT_TICK + 2 * s.get HM_TIME_TPS_TPS
  decide (due < s.time.tick) || (decide (due = s.time.tick) && decide (s.get HM_TIME_PPS_CAPT_CYC * s.granule ≤ s.time.cyc))

/-- TIME_HOLDOVER: two seconds in LOCKED without an accepted edge. -/
def State.holdover (s : State) : State :=
  if s.get HM_TIME_STAT_STATE = tsLocked ∧ s.edgeMissing = true then s.enterTime tsHoldover else s

/-- The tick in progress begins with an expected second boundary (R28). -/
def State.secondStarts (s : State) : Bool :=
  decide (((s.time.tick : Int) - s.get HM_TIME_SEC_BASE_BASE) % s.get HM_TIME_TPS_TPS = 0)

/-- HOLDOVER_SECOND: an expected second boundary in holdover. -/
def State.holdoverSecond (s : State) : State :=
  if s.get HM_TIME_STAT_STATE = tsHoldover ∧ s.secondStarts = true then
    { s.put HM_TIME_SLEW_OWED (toField (clampAbs s.drift s.slewCap) 32) with time.acc := 0 }
  else s

end Sys2Proof.Machine
end

