-- ==== Sys2Proof/Machine/Operands.lean ====
section
/-!
DEFINITION. The operand forms of the commands: a tile or a quay of the configuration (R4, R7), a Harbourmaster operation register with its BUSY bit, and what
every command that can reset a quay or end the triplex's service is followed by.
-/

namespace Sys2Proof.Machine

/-- A command that names a tile of the configuration. -/
def State.onTile (s : State) (p : Nat) (k : State → State) : State := if s.isTile p then k s else s

/-- A beat or answer from the compute domain of tile `p`: the Bollard's clamp holds it inactive while CDOM_OK is low (R50). -/
def State.fromCore (s : State) (p : Nat) (k : State → State) : State := s.onTile p (fun s => if s.cdomOk p then k s else s)

/-- A command that names a quay of the configuration. -/
def State.onQuay (s : State) (q : Nat) (k : State → State) : State := if q < s.nQuays then k s else s

/-- A host GO at operation register `a` with BUSY bit `busy`; `i` waits while the triplex is absent (R601). -/
def State.go (s : State) (a : Nat) (busy : Option Fld) (i : Instr) (k : State → State) : State := s.hostWrite a (fun s => s.whenPresent busy i k)

/-- After a command from `s` to `t`: a quay that has left service ends the tests of its tiles (R605), Lantern mode ends an update (R602). -/
def State.aftermath (s t : State) : State :=
  let t := (t.quayList.filter (fun q => decide (s.quayState q = 0) && decide (t.quayState q ≠ 0))).foldl (fun t q => t.testQuayReset q) t
  if t.lantern && !s.lantern then t.updLantern else t

/-- The outcome of a command that may reset a quay or enter Lantern mode. -/
def runDown (s : State) (c : Nat) (f : State → State) : Host.Outcome State Fault Refusal := run s c (fun s => s.aftermath (f s))

end Sys2Proof.Machine
end

