-- ==== Sys2Proof/Machine/Flags.lean ====
section
/-!
DEFINITION. The fault-word flags that a command's own checkers set: each checker looks at the next event of its kind, and an injection that is armed for it
(R498, R499) is met there.
-/

namespace Sys2Proof.Machine

/-- Checkers of the Bollard of tile `p` that see an event. -/
def State.bolChecks (s : State) (p : Nat) (bits : List Nat) : State := bits.foldl (fun s b => s.checker 2 p b 0 0 false) s

/-- Checkers of quay `q` that see an event. -/
def State.quayChecks_ (s : State) (q : Nat) (bits : List Nat) : State := bits.foldl (fun s b => s.checker 1 q b 0 0 false) s

/-- The Bollards of quay `q` whose injection at bit `b` an event of the whole region meets. -/
def State.regionChecks (s : State) (q b : Nat) : State :=
  ((armedTiles s.armed b).filter (fun p => decide (quayOf p = q))).foldl (fun s p => s.checker 2 p b 0 0 false) s

/-- Bits at the close of a verdict: CHK_RESIDUE, CRC_DUP, VERDICT_LATE, STATE_PARITY (R493). -/
def verdictBits : List Nat := [0, 1, 2, 13]

/-- Bits of the report chain at a Bollard: TALLY_CE, TALLY_UE (R493), and at the quay (R491). -/
def chainBits : List Nat := [3, 4]
def tallyBits : List Nat := [14, 15]

end Sys2Proof.Machine
end

