-- ==== Sys2Proof/Machine/BollardCmds.lean ====
section
/-!
DEFINITION. Meanings of the commands of chapters 02 and 03: what reaches a Bollard from its tile, and the report chain.
-/

namespace Sys2Proof.Machine

/-- SIDEBAND_DESC (R58); it closes the steps of the tiles before it (R139). -/
def execSidebandDesc (cyc p : Nat) (d : BitVec 64) (s : State) : Host.Outcome State Fault Refusal :=
  run s cyc (fun s => s.fromCore p (fun s => (s.closeSteps p).descBeat p d))

/-- SIDEBAND_ADDR (R142). -/
def execSidebandAddr (cyc p : Nat) (w : BitVec 64) (heldA heldB : Nat) (s : State) : Host.Outcome State Fault Refusal :=
  run s cyc (fun s => s.fromCore p (fun s =>
    match s.addrBeat p with
    | (s, some n) => (s.takeAddr p n w).decide_ p n heldA heldB
    | (s, none) => s))

/-- The effect of a STEP beat: progress (R75), the step number, a functional vector's end (R313), and the lockstep contribution (R620). -/
def State.stepBeat (s : State) (p n : Nat) : State :=
  let s := ((s.closeSteps p).progressAt p).put (BOL_WDOG_LAST_STEP p) (n % 2 ^ 32)
  let s := if s.role p = roleTest ∧ (s.engine p).running = 3 then s.vectorStep p else s
  s.lockStep p (n % 2 ^ 32)

/-- SIDEBAND_STEP (R54). -/
def execSidebandStep (cyc p n : Nat) (s : State) : Host.Outcome State Fault Refusal := run s cyc (fun s => s.fromCore p (fun s => s.stepBeat p n))

/-- SIDEBAND_SLEEP (R73); mask 0 is a park (R276, R409). -/
def execSidebandSleep (cyc p mask : Nat) (s : State) : Host.Outcome State Fault Refusal :=
  run s cyc (fun s => s.fromCore p (fun s =>
    let s := s.closeSteps p
    if mask % 2 ^ 16 = 0 then s.park p else s.sleepBeat p (mask % 2 ^ 16)))

/-- OPERAND_TAP_BEAT (R60). -/
def execOperandTapBeat (cyc p : Nat) (isB scale : Bool) (data : BitVec 256) (lanes l idx : Nat) (lend : Bool) (s : State) :
    Host.Outcome State Fault Refusal :=
  run s cyc (fun s => s.fromCore p (fun s => s.operandBeat p isB scale data lanes l idx lend))

/-- What follows a write-back beat: SIGACC (R620), a shadow's alarm (R156), a park that waited for the tile (R276). -/
def State.beatDone (s t : State) (p : Nat) : State :=
  let sig := (s.tile p).sigAcc ^^^ (t.tile p).sigAcc
  let closed := decide ((t.tile p).opens.length < (s.tile p).opens.length)
  let bad := (t.alarms.drop s.alarms.length).any (fun m => decide (m.p = p) && decide (m.causes % 32 / 2 ≠ 0))
  let t := t.lockTile p sig
  let t := if t.role p = roleShadow ∧ bad then t.shadowAlarm p else t
  (if closed then t.bolChecks p verdictBits else t).tryPark p

/-- WRITEBACK_BEAT (R64). -/
def execWritebackBeat (cyc p : Nat) (data : BitVec 256) (lanes i j : Nat) (s : State) : Host.Outcome State Fault Refusal :=
  run s cyc (fun s => s.fromCore p (fun s => s.beatDone (s.writeBack p data lanes i j) p))

/-- CORE_ERROR (R76). -/
def execCoreError (cyc p bits : Nat) (s : State) : Host.Outcome State Fault Refusal := run s cyc (fun s => s.fromCore p (fun s => s.coreError p bits))

/-- LM_CE_INFO (R101). -/
def execLmCeInfo (cyc p : Nat) (s : State) : Host.Outcome State Fault Refusal := run s cyc (fun s => s.fromCore p (fun s => s.lmCe p))

/-- LINK_DOWN (R78). -/
def execLinkDown (cyc p links inflight : Nat) (s : State) : Host.Outcome State Fault Refusal :=
  run s cyc (fun s => s.onTile p (fun s => s.linkDown p links inflight))

/-- ROUTER_FAULT (R65). -/
def execRouterFault (cyc p : Nat) (s : State) : Host.Outcome State Fault Refusal := run s cyc (fun s => s.onTile p (fun s => s.routerFault p))

/-- CDOM_LOSS (R84). -/
def execCdomLoss (cyc p : Nat) (s : State) : Host.Outcome State Fault Refusal := run s cyc (fun s => s.onTile p (fun s => s.cdomLoss p))

/-- CDOM_POWER_GOOD (R518). -/
def execCdomPowerGood (cyc p : Nat) (s : State) : Host.Outcome State Fault Refusal := run s cyc (fun s => s.onTile p (fun s => (s.cdomGood p).rstStep))

/-- CDOM_POWER_TIMEOUT (R518). -/
def execCdomPowerTimeout (cyc p : Nat) (s : State) : Host.Outcome State Fault Refusal :=
  run s cyc (fun s => s.onTile p (fun s => (s.cdomTimeout p).rstStep))

/-- INGRESS_SINK (R79); while the harbour is closed the answer is counted (R594). -/
def execIngressSink (cyc p : Nat) (source : Option Nat) (tag : Nat) (s : State) : Host.Outcome State Fault Refusal :=
  run s cyc (fun s => s.onTile p (fun s =>
    (if !s.isOpen && s.flag (BOL_STAT_GUARD_ACTIVE p) && source.isSome then s.closedAnswer 1 else s).ingress p source tag))

/-- The expiry of a JOB core's watchdog with its record (R75, R543). -/
def State.hangExpiry (s : State) (p : Nat) : State :=
  if s.flag (BOL_CTL_WDOG_EN p) && decide (s.role p = roleJob) && decide (4 ≤ s.get (BOL_WDOG_IDLE_TICKS p)) then
    (s.hang p).logTile p 0x0C01 p (s.lcore p) (s.get (BOL_WDOG_LAST_STEP p)) (s.jt % 2 ^ 32)
  else s

/-- BOLLARD_WATCHDOG (R75). -/
def execBollardWatchdog (cyc p : Nat) (s : State) : Host.Outcome State Fault Refusal := run s cyc (fun s => s.onTile p (fun s => s.hangExpiry p))

/-- A side-port access of client `client` (R81) to `word` of tile `p` ends with error bits `err`; `held` says that the word was one of a tile's held
inputs. -/
def State.sideportEnd (s : State) (p client word : Nat) (data : BitVec 64) (err : Nat) (held : Bool) : State :=
  let ue := decide (err / 2 % 2 = 1)
  let s :=
    if client = 2 then
      let s := if s.flag (BOL_LM_ADDR_WE p) then s else s.setWord (BOL_LM_DATA p) data
      (s.put (BOL_LM_ADDR_ERR p) (err % 4)).put (BOL_LM_ADDR_DONE p) 1
    else s
  let s := if ue && held then s.cause p cLmue else s
  if ue && decide (client = 1) then s.migrationUe p word else s

/-- The side-port access that ends is that of the client R17 chooses, with N = 4, among those that claim in its cycle (R81). -/
def State.sideport (s : State) (p : Nat) (claims : List Nat) (word : Nat) (data : BitVec 64) (err : Nat) (held late : Bool) : State :=
  match rotWinner s.jt 4 claims with
  | some client => (s.sideportEnd p client word data err held).checker 2 p 11 0 (bit held) late
  | none => s

/-- SIDEPORT_ACK (R53). -/
def execSideportAck (cyc p : Nat) (claims : List Nat) (word : Nat) (data : BitVec 64) (err : Nat) (held : Bool) (s : State) : Host.Outcome State Fault Refusal :=
  run s cyc (fun s => s.fromCore p (fun s => s.sideport p claims word data err held false))

/-- SIDEPORT_TIMEOUT (R493): the access ends with LM_ERR[1]. -/
def execSideportTimeout (cyc p : Nat) (claims : List Nat) (word : Nat) (held : Bool) (s : State) : Host.Outcome State Fault Refusal :=
  run s cyc (fun s => s.onTile p (fun s => s.sideport p claims word 0 2 held true))

/-- BOLLARD_REPORT_LAUNCH (R67). -/
def execBollardReportLaunch (cyc p : Nat) (closed : Bool) (s : State) : Host.Outcome State Fault Refusal :=
  run s cyc (fun s => s.onTile p (fun s => s.reportLaunch p closed))

/-- The quay takes a frame: its tally (R68), its tiles (R146), its sampled signatures (R155). -/
def State.takeFrame (s : State) (p : Nat) : State :=
  match s.reportFrame p with
  | (s, none) => s
  | (s, some f) =>
    let s := s.modQuay (quayOf p) (fun t => { t with tilesNow := t.tilesNow + (f.words.getD 0 0).toNat / 2 ^ 16 % 2 ^ 12 })
    (s.frameSamples f).restartedFrame p true

/-- REPORT_FRAME (R68), with the checkers of the chain and of the tally engine (R499). -/
def execReportFrame (cyc p : Nat) (s : State) : Host.Outcome State Fault Refusal :=
  run s cyc (fun s => s.onTile p (fun s =>
    ((s.takeFrame p).bolChecks p chainBits).quayChecks_ (quayOf p) tallyBits))

/-- TALLY_TIMEOUT (R38); a restarted Bollard whose frame is missing again is given up (R515). -/
def execTallyTimeout (q : Nat) (s : State) : Host.Outcome State Fault Refusal :=
  run s 0 (fun s => s.onQuay q (fun s =>
    let s := s.tallyTimeout q
    (s.quay q).missed.foldl (fun s x => s.restartedFrame (tileOf q x.1) false) s))

/-- ALARM_MESSAGE (R130). -/
def execAlarmMessage (cyc p : Nat) (s : State) : Host.Outcome State Fault Refusal := run s cyc (fun s => s.onTile p (fun s => s.alarmMessage p))

/-- CSUM_FLOOD (R130). -/
def execCsumFlood (q : Nat) (s : State) : Host.Outcome State Fault Refusal := run s 0 (fun s => s.onQuay q (fun s => s.csumFlood q))

/-- ZEROISE_DONE (R305). -/
def execZeroiseDone (cyc p : Nat) (s : State) : Host.Outcome State Fault Refusal := run s cyc (fun s => s.fromCore p (fun s => s.zeroDone p))

/-- ZEROISE_FAIL (R305). -/
def execZeroiseFail (cyc p : Nat) (s : State) : Host.Outcome State Fault Refusal := run s cyc (fun s => s.onTile p (fun s => s.zeroFail p))

/-- MBIST_DONE (R312). -/
def execMbistDone (cyc p : Nat) (pass : Bool) (rows : List Nat) (word bitNo : Nat) (s : State) : Host.Outcome State Fault Refusal :=
  run s cyc (fun s => s.fromCore p (fun s => s.mbistDone p pass rows word bitNo))

/-- SCAN_INTERVAL_END (R308). -/
def execScanIntervalEnd (cyc p : Nat) (misr : BitVec 64) (s : State) : Host.Outcome State Fault Refusal :=
  run s cyc (fun s => s.onTile p (fun s => s.scanInterval p misr))

/-- LM_SIDEPORT_ACCESS (R103), a write of BOL_LM_ADDR through quay page 3. -/
def execLmSideportAccess (cyc p : Nat) (w : BitVec 64) (s : State) : Host.Outcome State Fault Refusal :=
  run s cyc (fun s => s.onTile p (fun s => s.lmAccess p w))

/-- SCAN_START (R330). -/
def execScanStart (cyc p : Nat) (w : BitVec 64) (s : State) : Host.Outcome State Fault Refusal := run s cyc (fun s => s.onTile p (fun s => s.scanStart p w))

/-- MBIST_START (R331). -/
def execMbistStart (cyc p : Nat) (w : BitVec 64) (s : State) : Host.Outcome State Fault Refusal := run s cyc (fun s => s.onTile p (fun s => s.mbistStart p w))

end Sys2Proof.Machine
end

