-- ==== Sys2Proof/Machine/ClearanceCmds.lean ====
section
/-!
DEFINITION. Meanings of the commands of chapter 11 that move tokens.
-/

namespace Sys2Proof.Machine

/-- CLEARANCE_REQUEST (R448). -/
def execClearanceRequest (cyc : Nat) (l : List (Nat × Bool × Nat)) (s : State) : Host.Outcome State Fault Refusal := run s cyc (fun s => s.clrRequests l)

/-- CLEARANCE_RELEASE (R444). -/
def execClearanceRelease (cyc p : Nat) (engine : Bool) (s : State) : Host.Outcome State Fault Refusal :=
  run s cyc (fun s => s.onTile p (fun s => s.clrRelease p engine))

/-- CLEARANCE_OVERHOLD (R445). -/
def execClearanceOverhold (cyc p : Nat) (s : State) : Host.Outcome State Fault Refusal := run s cyc (fun s => s.onTile p (fun s => s.overhold p))

/-- SUBTICK_REDISTRIBUTE (R447). -/
def execSubtickRedistribute (q k : Nat) (s : State) : Host.Outcome State Fault Refusal := run s 0 (fun s => s.onQuay q (fun s => s.redistribute q k))

end Sys2Proof.Machine
end

