-- ==== Sys2Proof/Machine/CommitCmds.lean ====
section
/-!
DEFINITION. Meanings of the commands of chapter 06: the commit round, the recall sequence and the operations of the commit page.
-/

namespace Sys2Proof.Machine

/-- QUAY_DEADLINE (R224). -/
def execQuayDeadline (q : Nat) (s : State) : Host.Outcome State Fault Refusal := run s 0 (fun s => s.onQuay q (fun s => s.quayDeadline q))

/-- ROOT_DECIDE (R225). -/
def execRootDecide (s : State) : Host.Outcome State Fault Refusal := run s 0 State.rootDecide

/-- COMMIT_BROADCAST (R224); `slow` are the Bollards that saw it after the deadline. -/
def execCommitBroadcast (cyc q : Nat) (slow : List Nat) (s : State) : Host.Outcome State Fault Refusal :=
  run s cyc (fun s => s.onQuay q (fun s => (s.commitBroadcast q slow).regionChecks q 8))

/-- COMMIT_APPLY (R222). -/
def execCommitApply (s : State) : Host.Outcome State Fault Refusal := run s 0 State.commitApply

/-- RECALL_ROOT (R226); `arrive` pulls reach the root in this cycle. -/
def execRecallRoot (cyc arrive : Nat) (s : State) : Host.Outcome State Fault Refusal := run s cyc (fun s => s.recallRoot arrive)

/-- RECALL_RECEIPT (R227). -/
def execRecallReceipt (cyc q : Nat) (slow : List Nat) (s : State) : Host.Outcome State Fault Refusal :=
  run s cyc (fun s => s.onQuay q (fun s => (s.recallReceipt q slow).regionChecks q 9))

/-- DRAIN_END (R227). -/
def execDrainEnd (cyc : Nat) (s : State) : Host.Outcome State Fault Refusal := run s cyc State.drainEnd

/-- MIGRATION_DONE (R231). -/
def execMigrationDone (cyc l : Nat) (s : State) : Host.Outcome State Fault Refusal := run s cyc (fun s => s.migrationDone l)

/-- REROUTE_DONE (R234). -/
def execRerouteDone (cyc : Nat) (s : State) : Host.Outcome State Fault Refusal := run s cyc State.rerouteDone

/-- MAILBOX_WRITE (R216); a CLOSE goes on once the job has halted (R598). -/
def execMailboxWrite (s : State) : Host.Outcome State Fault Refusal :=
  run s 0 (fun s => s.quayList.foldl (fun s q => s.regionChecks q 12) s.mailboxWrite.closeStep)

/-- MAILBOX_LATE (R227). -/
def execMailboxLate (p : Nat) (s : State) : Host.Outcome State Fault Refusal := run s 0 (fun s => s.onTile p (fun s => s.mailboxLate p))

/-- RESTART (R227). -/
def execRestart (s : State) : Host.Outcome State Fault Refusal := run s 0 (fun s => s.restart.closeStep)

/-- RECALL (R254). -/
def execHostRecall (cyc : Nat) (s : State) : Host.Outcome State Fault Refusal := run s cyc (fun s => s.hostWrite HM_COMMIT_OP State.hostRecall)

/-- HALT (R236). -/
def execHalt (cyc : Nat) (s : State) : Host.Outcome State Fault Refusal := run s cyc (fun s => s.hostWrite HM_COMMIT_OP State.hostHalt)

/-- RESUME (R237). -/
def execResume (cyc : Nat) (s : State) : Host.Outcome State Fault Refusal :=
  run s cyc (fun s => s.go HM_COMMIT_OP none (.resume cyc) State.hostResume)

/-- ABANDON (R598). -/
def execAbandon (cyc : Nat) (s : State) : Host.Outcome State Fault Refusal := run s cyc (fun s => s.go HM_COMMIT_OP none (.abandon cyc) State.abandon)

end Sys2Proof.Machine
end

