-- ==== Sys2Proof/Machine/CustomsCmds.lean ====
section
/-!
DEFINITION. Meanings of the commands of chapter 05: disputes, exact evaluations and referee runs.
-/

namespace Sys2Proof.Machine

/-- The fetch of unit `u` ends; `ue` is the store offset of an uncorrectable word it met, `ces` the words corrected with their syndromes (R191, R365). -/
def State.fetchEnd (s : State) (u : Nat) (ue : Option Nat) (ces : List (Nat × Nat)) : State :=
  let s := match s.served u with
    | some e => ces.foldl (fun (s : State) (x : Nat × Nat) => s.storeCe e.msg.quay x.1 x.2) s
    | none => s
  let s := match s.served u, ue with
    | some e, some o => s.storeUe e.msg.quay o 1 false
    | _, _ => s
  s.customsFetched u

/-- An evaluation ends: each accumulator is reduced and compared with its residue first (R183, R193, R492); `upsets` are the bits of the unit's accumulators
that were flipped behind the residue's back. -/
def State.evalDone (s : State) (u : Nat) (upsets : List (Nat × Nat)) : State :=
  match s.served u with
  | none => s
  | some e =>
    if e.phase ≠ 2 then s
    else
      let a := ((s.evaluation e).last.getD (tabGet (fun _ => CusUnit.idle) s.customs.units u)).upset upsets
      let s := { s with customs.units := tabSet (fun _ => CusUnit.idle) s.customs.units u a }
      let s := s.setEntry { e with cycles := (s.since e.start).toNat }
      if !a.intact || s.isArmed 0 0 14 then s.checker 0 0 14 0 u (!a.intact) else s.evalEnd u

/-- DISPUTE_MESSAGE (R187); `n` messages arrive in this cycle. -/
def execDisputeMessage (cyc n : Nat) (s : State) : Host.Outcome State Fault Refusal := run s cyc (fun s => s.disputeMessage n)

/-- DISPUTE_RESEND (R188). -/
def execDisputeResend (qs : List Nat) (s : State) : Host.Outcome State Fault Refusal :=
  run s 0 (fun s => (s.at_ (s.commitAt + 1)).disputeResend (qs.filter (fun q => decide (q < s.nQuays))))

/-- CUSTOMS_DISPATCH (R186). -/
def execCustomsDispatch (cyc : Nat) (s : State) : Host.Outcome State Fault Refusal := run s cyc State.customsDispatch

/-- CUSTOMS_FETCH_DONE (R191). -/
def execCustomsFetchDone (cyc u : Nat) (ue : Option Nat) (ces : List (Nat × Nat)) (s : State) : Host.Outcome State Fault Refusal :=
  run s cyc (fun s => s.fetchEnd u ue ces)

/-- CUSTOMS_EVAL_END (R183, R193). -/
def execCustomsEvalEnd (cyc u : Nat) (upsets : List (Nat × Nat)) (s : State) : Host.Outcome State Fault Refusal := run s cyc (fun s => s.evalDone u upsets)

/-- REFEREE_RESULT (R192). -/
def execRefereeResult (cyc slot : Nat) (tap out : BitVec 64) (s : State) : Host.Outcome State Fault Refusal :=
  run s cyc (fun s => s.refereeResult slot tap out)

/-- REFEREE_TIMEOUT (R192). -/
def execRefereeTimeout (cyc slot : Nat) (s : State) : Host.Outcome State Fault Refusal := run s cyc (fun s => s.refereeTimeout slot)

end Sys2Proof.Machine
end

