-- ==== Sys2Proof/Machine/FaultCmds.lean ====
section
/-!
DEFINITION. Meanings of the commands of chapter 12: checkers, fault messages, force bits, acknowledgements and the Breakwater.
-/

namespace Sys2Proof.Machine

/-- FAULT_LATCH names a unit that exists: a tile at level 2, a quay at level 1. -/
def State.onUnit (s : State) (level unit : Nat) (k : State → State) : State :=
  if level = 0 then k s else if level = 1 then s.onQuay unit k else s.onTile unit k

/-- An acknowledgement by the host (source 1) through HM_FAULT_ACK, or by the sideband (source 2), which D77 serves (R497, R669, R681, R682). -/
def State.ack (s : State) (mask : Nat) (host : Bool) : State :=
  if host then s.hostWrite HM_FAULT_ACK (fun s => s.alarmAck mask 1) else if s.domain 77 = 2 then s.alarmAck mask 2 else s

/-- FAULT_LATCH (R483). -/
def execFaultLatch (cyc level unit b synd aux : Nat) (real : Bool) (s : State) : Host.Outcome State Fault Refusal :=
  runDown s cyc (fun s => s.onUnit level unit (fun s => s.faultLatch level unit b synd aux real))

/-- BOLLARD_FAULT_MESSAGE (R485). -/
def execBollardFaultMessage (cyc q : Nat) (s : State) : Host.Outcome State Fault Refusal := run s cyc (fun s => s.onQuay q (fun s => s.bolMessage q))

/-- QUAY_FAULT_MESSAGE (R486). -/
def execQuayFaultMessage (cyc n : Nat) (s : State) : Host.Outcome State Fault Refusal := run s cyc (fun s => s.quayMessage n)

/-- LOCKSTEP_MISMATCH (R491). -/
def execLockstepMismatch (cyc q addr b : Nat) (s : State) : Host.Outcome State Fault Refusal :=
  runDown s cyc (fun s => s.onQuay q (fun s => s.lockstepMismatch q addr b false))

/-- TRIPLEX_VOTE (R492). -/
def execTriplexVote (cyc core addr : Nat) (s : State) : Host.Outcome State Fault Refusal := runDown s cyc (fun s => (s.triplexVote core addr false).duplexArmed)

/-- DUPLEX_MISMATCH (R492). -/
def execDuplexMismatch (cyc : Nat) (s : State) : Host.Outcome State Fault Refusal := runDown s cyc (fun s => s.checker 0 0 9 0 0 true)

/-- RT_SCRUB (R18). -/
def execRtScrub (cyc : Nat) (s : State) : Host.Outcome State Fault Refusal := run s cyc State.rtScrub

/-- ERROR_FORCE (R498). -/
def execErrorForce (cyc level unit page bits : Nat) (s : State) : Host.Outcome State Fault Refusal :=
  runDown s cyc (fun s => s.onUnit level unit (fun s => s.errorForce level unit page bits))

/-- ALARM_ACK (R497). -/
def execAlarmAck (cyc mask : Nat) (host : Bool) (s : State) : Host.Outcome State Fault Refusal := run s cyc (fun s => s.ack mask host)

/-- BREAKWATER_REGION (R510). -/
def execBreakwaterRegion (cyc q : Nat) (s : State) : Host.Outcome State Fault Refusal :=
  run s cyc (fun s => s.hostWrite HM_FAULT_OP (fun s => s.hostRegion q))

/-- BREAKWATER_WAFER (R510). -/
def execBreakwaterWafer (cyc : Nat) (s : State) : Host.Outcome State Fault Refusal := run s cyc (fun s => s.hostWrite HM_FAULT_OP State.hostWafer)

end Sys2Proof.Machine
end

