-- ==== Sys2Proof/Machine/HealthCmds.lean ====
section
/-!
DEFINITION. Meanings of the commands of chapter 07: colours requested by the host, and boundary moves.
-/

namespace Sys2Proof.Machine

/-- The switch of the boundary move of tile `x`: groups, lockstep and a rotation test go with it (R276, R302, R414, R620). -/
def State.doSwitch (s : State) (x : Nat) : State :=
  match s.moveOf x with
  | none => s
  | some m =>
    match m.dst, m.switchAt with
    | some y, some t =>
      if m.phase ≠ 4 ∨ s.time.tick < t then s
      else
        let s := ((s.groupMoved x y).switchMove x).1
        ((s.lockCarry x y).testSwitched x).refreshMembers
    | _, _ => s

/-- The chosen park tick has passed (R277); a rotation whose move is abandoned frees its slot. -/
def State.parkEnd (s : State) (x : Nat) : State := (s.parkTimeout x).testSweep

/-- HEALTH_OP_AMBER (R286). -/
def execHealthOpAmber (cyc p : Nat) (s : State) : Host.Outcome State Fault Refusal :=
  run s cyc (fun s => s.go HM_HEALTH_OP (some HM_HEALTH_OP_BUSY) (.healthOpAmber cyc p) (fun s => s.healthOp p 1))

/-- HEALTH_OP_VERMILION (R286). -/
def execHealthOpVermilion (cyc p : Nat) (s : State) : Host.Outcome State Fault Refusal :=
  run s cyc (fun s => s.go HM_HEALTH_OP (some HM_HEALTH_OP_BUSY) (.healthOpVermilion cyc p) (fun s => s.healthOp p 2))

/-- HEALTH_OP_SLATE (R286). -/
def execHealthOpSlate (cyc p : Nat) (s : State) : Host.Outcome State Fault Refusal :=
  run s cyc (fun s => s.go HM_HEALTH_OP (some HM_HEALTH_OP_BUSY) (.healthOpSlate cyc p) (fun s => s.healthOp p 3))

/-- MOVE_COPY_DONE (R276). -/
def execMoveCopyDone (cyc x : Nat) (s : State) : Host.Outcome State Fault Refusal := run s cyc (fun s => s.copyDone x)

/-- MOVE_SWITCH (R276). -/
def execMoveSwitch (x : Nat) (s : State) : Host.Outcome State Fault Refusal := run s 0 (fun s => s.doSwitch x)

/-- PARK_TIMEOUT (R277). -/
def execParkTimeout (cyc x : Nat) (s : State) : Host.Outcome State Fault Refusal := run s cyc (fun s => s.parkEnd x)

end Sys2Proof.Machine
end

