-- ==== Sys2Proof/Machine/HostCmds.lean ====
section
/-!
DEFINITION. Meanings of the commands of chapter 17: register and store accesses of the host, the Bollard file, and the command page.
-/

namespace Sys2Proof.Machine

/-- A write of QY_BOL_SEL. -/
def State.bolSelect (s : State) (q : Nat) (v : BitVec 64) (answered : Bool) : State :=
  s.onQuay q (fun s => s.hostWrite (QY_BOL_SEL q) (fun s => s.bolAccess q v answered))

/-- REGISTER_WRITE (R18). -/
def execRegisterWrite (cyc addr size : Nat) (data : BitVec 64) (parBad : Bool) (s : State) : Host.Outcome State Fault Refusal :=
  runDown s cyc (fun s => s.regWrite addr size data.toNat parBad)

/-- STORE_APERTURE_ACCESS (R640). -/
def execStoreApertureAccess (cyc addr size : Nat) (data : BitVec 64) (write parBad ue : Bool) (ce : Option Nat) (s : State) : Host.Outcome State Fault Refusal :=
  run s cyc (fun s => s.aperture addr size write data.toNat parBad ue ce)

/-- BOLLARD_ACCESS (R88). -/
def execBollardAccess (cyc q : Nat) (value : BitVec 64) (answered : Bool) (s : State) : Host.Outcome State Fault Refusal :=
  run s cyc (fun s => s.bolSelect q value answered)

/-- BOLLARD_ACCESS_TIMEOUT (R87). -/
def execBollardAccessTimeout (cyc q : Nat) (s : State) : Host.Outcome State Fault Refusal := run s cyc (fun s => s.onQuay q (fun s => s.bolTimeout q))

/-- PING (R653). -/
def execPing (cyc : Nat) (args : List (BitVec 64)) (s : State) : Host.Outcome State Fault Refusal := run s cyc (fun s => s.cmdGo cmdPing args)

/-- BOL_READ (R653). -/
def execBolRead (cyc : Nat) (args : List (BitVec 64)) (s : State) : Host.Outcome State Fault Refusal := run s cyc (fun s => s.cmdGo cmdBolRead args)

/-- LM_READ (R653). -/
def execLmRead (cyc : Nat) (args : List (BitVec 64)) (s : State) : Host.Outcome State Fault Refusal := run s cyc (fun s => s.cmdGo cmdLmRead args)

/-- PMBUS_READ (R653). -/
def execPmbusRead (cyc : Nat) (args : List (BitVec 64)) (s : State) : Host.Outcome State Fault Refusal :=
  run s cyc (fun s => s.cmdGo cmdPmbusRead args)

/-- MANIFEST_CHECK (R653). -/
def execManifestCheck (cyc : Nat) (args : List (BitVec 64)) (s : State) : Host.Outcome State Fault Refusal :=
  run s cyc (fun s => s.cmdGo cmdManifestCheck args)

/-- SYNC_DUMP (R653). -/
def execSyncDump (cyc : Nat) (args : List (BitVec 64)) (s : State) : Host.Outcome State Fault Refusal := run s cyc (fun s => s.cmdGo cmdSyncDump args)

/-- CMD_BAD_OP (R653). -/
def execCmdBadOp (cyc op : Nat) (args : List (BitVec 64)) (s : State) : Host.Outcome State Fault Refusal := run s cyc (fun s => s.cmdGo op args)

/-- CMD_COMPLETE (R652). -/
def execCmdComplete (cyc : Nat) (data : List (BitVec 64)) (bad : List Nat) (ce : Nat) (s : State) : Host.Outcome State Fault Refusal :=
  run s cyc (fun s => s.cmdComplete data bad ce)

end Sys2Proof.Machine
end

