-- ==== Sys2Proof/Machine/LockstepCmds.lean ====
section
/-!
DEFINITION. Meanings of the commands of chapter 16: lockstep with a peer wafer.
-/

namespace Sys2Proof.Machine

/-- LOCKSTEP_GO (R626). -/
def execLockstepGo (cyc : Nat) (s : State) : Host.Outcome State Fault Refusal := run s cyc (fun s => s.hostWrite HM_LOCKSTEP_CTL State.lockGo)

/-- LOCKSTEP_START_TIMEOUT (R626). -/
def execLockstepStartTimeout (cyc : Nat) (s : State) : Host.Outcome State Fault Refusal := run s cyc State.lockTimeout

/-- LOCKSTEP_STOP (R632). -/
def execLockstepStop (cyc : Nat) (s : State) : Host.Outcome State Fault Refusal := run s cyc (fun s => s.hostWrite HM_LOCKSTEP_CTL State.lockStopOp)

/-- LOCKSTEP_CONTRIBUTION (R621). -/
def execLockstepContribution (cyc l : Nat) (s : State) : Host.Outcome State Fault Refusal := run s cyc (fun s => s.lockContribution l)

/-- QUAY_DIGEST (R622). -/
def execQuayDigest (cyc q : Nat) (s : State) : Host.Outcome State Fault Refusal := run s cyc (fun s => s.onQuay q (fun s => s.quayDigest q))

/-- LOCKSTEP_SLOT_SEND (R623). -/
def execLockstepSlotSend (cyc : Nat) (refused : Bool) (s : State) : Host.Outcome State Fault Refusal := run s cyc (fun s => s.slotSend refused)

/-- LOCKSTEP_COMPARE (R624). -/
def execLockstepCompare (ue : Bool) (s : State) : Host.Outcome State Fault Refusal := run s 0 (fun s => s.lockCompare ue)

end Sys2Proof.Machine
end

