-- ==== Sys2Proof/Machine/LogCmds.lean ====
section
/-!
DEFINITION. Meanings of the commands of chapter 14: the Logbook and the keys.
-/

namespace Sys2Proof.Machine

/-- LOG_RECORD (R548); `producers` have a claim in this cycle. -/
def execLogRecord (cyc : Nat) (producers : List Nat) (s : State) : Host.Outcome State Fault Refusal := run s cyc (fun s => s.logRecord producers)

/-- TRICKLE_FLUSH (R553). -/
def execTrickleFlush (cyc : Nat) (s : State) : Host.Outcome State Fault Refusal := run s cyc State.trickle

/-- FLUSH_BLOCK_DONE (R553). -/
def execFlushBlockDone (cyc : Nat) (ok : Bool) (s : State) : Host.Outcome State Fault Refusal := run s cyc (fun s => s.flushDone ok)

/-- LOG_PORT_TIMEOUT (R555). -/
def execLogPortTimeout (cyc : Nat) (s : State) : Host.Outcome State Fault Refusal := run s cyc State.portTimeout

/-- LOG_FLUSH (R554). -/
def execLogFlush (cyc : Nat) (s : State) : Host.Outcome State Fault Refusal := run s cyc (fun s => s.hostWrite HM_LOG_CTL (fun s => s.pfTrigger 5))

/-- PFAIL_FLUSH_STOP (R554). -/
def execPfailFlushStop (cyc : Nat) (s : State) : Host.Outcome State Fault Refusal := run s cyc State.pfStop

/-- LOG_PORT_RETRY (R555). -/
def execLogPortRetry (cyc : Nat) (s : State) : Host.Outcome State Fault Refusal := run s cyc (fun s => s.hostWrite HM_LOG_CTL State.portRetry)

/-- LOG_STORE_RESUME (R556). -/
def execLogStoreResume (cyc : Nat) (trailers : List (Nat × Nat × Nat × Nat × Bool)) (s : State) : Host.Outcome State Fault Refusal :=
  run s cyc (fun s => s.storeResume (trailers.map (fun x => (⟨x.1, x.2.1, x.2.2.1, x.2.2.2.1, x.2.2.2.2⟩ : Trailer))))

/-- LOG_READ_SELECT (R558). -/
def execLogReadSelect (cyc n : Nat) (s : State) : Host.Outcome State Fault Refusal :=
  run s cyc (fun s => s.hostWrite HM_LOG_RSEL (fun s => s.logSelect n))

/-- LOG_FETCH_DONE (R558). -/
def execLogFetchDone (cyc : Nat) (words : List (BitVec 64)) (s : State) : Host.Outcome State Fault Refusal := run s cyc (fun s => s.logFetched words)

/-- NONCE_READ (R561). -/
def execNonceRead (cyc : Nat) (s : State) : Host.Outcome State Fault Refusal :=
  run s cyc (fun s => if s.pageReady HM_LOG_NONCE0 then s.nonceRead else s.emit (.hport 0 0))

/-- LOG_CLEAR (R561). -/
def execLogClear (cyc : Nat) (s : State) : Host.Outcome State Fault Refusal :=
  run s cyc (fun s => s.hostWrite HM_LOG_CLR (fun s => s.logClear (s.key 0) (s.keyId 0)))

/-- LOG_CLEAR_VERIFIED (R562); Rinol's work waits for the end of a triplex pause (R601). -/
def execLogClearVerified (cyc : Nat) (s : State) : Host.Outcome State Fault Refusal :=
  run s cyc (fun s => if s.flag HM_TRIPLEX_STAT_ABSENT then s else s.clearVerified)

/-- CLEAR_STORE_PASS_DONE (R560). -/
def execClearStorePassDone (cyc extra : Nat) (s : State) : Host.Outcome State Fault Refusal := run s cyc (fun s => s.clearDone extra)

/-- KEY_LOAD (R567). -/
def execKeyLoad (cyc : Nat) (s : State) : Host.Outcome State Fault Refusal :=
  run s cyc (fun s => s.go HM_KEY_OP (some HM_KEY_OP_BUSY) (.keyLoad cyc) State.keyLoad)

/-- KEY_SPREAD (R567). -/
def execKeySpread (s : State) : Host.Outcome State Fault Refusal := run s 0 State.keySpread

/-- KEY_ZERO (R568). -/
def execKeyZero (cyc : Nat) (s : State) : Host.Outcome State Fault Refusal :=
  run s cyc (fun s => s.go HM_KEY_OP (some HM_KEY_OP_BUSY) (.keyZero cyc) State.keyZero)

end Sys2Proof.Machine
end

