-- ==== Sys2Proof/Machine/PilotCmds.lean ====
section
/-!
DEFINITION. Meanings of the commands of chapter 04: samples, shadows, captures, audits and patches.
-/

namespace Sys2Proof.Machine

/-- RATE_UPDATE (R146). -/
def execRateUpdate (q : Nat) (s : State) : Host.Outcome State Fault Refusal := run s 0 (fun s => s.onQuay q (fun s => s.rateUpdate q))

/-- SAMPLE_REQUEST (R151): the requests of tiles `ps` come in one cycle. -/
def execSampleRequest (cyc : Nat) (ps : List Nat) (s : State) : Host.Outcome State Fault Refusal := run s cyc (fun s => s.sampleRequest ps)

/-- BERTH_FULL (R151). -/
def execBerthFull (cyc p : Nat) (s : State) : Host.Outcome State Fault Refusal := run s cyc (fun s => s.onTile p (fun s => s.berthFull p))

/-- FAR_PLACEMENT_ANSWER (R148). -/
def execFarPlacementAnswer (cyc q b : Nat) (s : State) : Host.Outcome State Fault Refusal :=
  run s cyc (fun s => s.onQuay q (fun s => s.farAnswer q b))

/-- FAR_PLACEMENT_TIMEOUT (R148). -/
def execFarPlacementTimeout (cyc q b : Nat) (s : State) : Host.Outcome State Fault Refusal :=
  run s cyc (fun s => s.onQuay q (fun s => s.farTimeout q b))

/-- OUTPUT_SIGNATURE (R155); `out` are the bytes read at C_ADDR. -/
def execOutputSignature (cyc p : Nat) (out : List (BitVec 8)) (s : State) : Host.Outcome State Fault Refusal :=
  run s cyc (fun s => s.onTile p (fun s => s.outputSignature p out))

/-- SHADOW_SIGNATURES (R155). -/
def execShadowSignatures (cyc p : Nat) (out : List (BitVec 8)) (s : State) : Host.Outcome State Fault Refusal :=
  run s cyc (fun s => s.onTile p (fun s => s.shadowSignatures p out))

/-- SHADOW_LATE (R157). -/
def execShadowLate (q b : Nat) (s : State) : Host.Outcome State Fault Refusal :=
  run s 0 (fun s => s.onQuay q (fun s => (s.at_ (s.window + 1)).shadowLate q b))

/-- SHADOW_HUNG (R157). -/
def execShadowHung (q b : Nat) (s : State) : Host.Outcome State Fault Refusal := run s 0 (fun s => s.onQuay q (fun s => s.shadowHung q b))

/-- SHADOW_STOP_CONFIRM (R150). -/
def execShadowStopConfirm (cyc q b : Nat) (s : State) : Host.Outcome State Fault Refusal :=
  run s cyc (fun s => s.onQuay q (fun s => s.stopConfirm q b))

/-- CAPTURE_PASS_DONE (R158). -/
def execCapturePassDone (cyc q c : Nat) (beats : List (BitVec 64 × BitVec 256)) (sig out : BitVec 64) (s : State) : Host.Outcome State Fault Refusal :=
  run s cyc (fun s => s.onQuay q (fun s => s.capturePass q c (beats.map (fun x => (⟨x.1, x.2⟩ : Beat))) sig out))

/-- WITNESS_TIMEOUT (R158). -/
def execWitnessTimeout (cyc q c : Nat) (s : State) : Host.Outcome State Fault Refusal :=
  run s cyc (fun s => s.onQuay q (fun s => s.witnessTimeout q c))

/-- AUDIT_RESULT (R161). -/
def execAuditResult (cyc p : Nat) (skip : BitVec 256) (rows : List (List Nat)) (s : State) : Host.Outcome State Fault Refusal :=
  run s cyc (fun s => s.onTile p (fun s => s.auditResult p skip rows))

/-- AUDIT_LATE (R162). -/
def execAuditLate (p : Nat) (s : State) : Host.Outcome State Fault Refusal :=
  run s 0 (fun s => s.onTile p (fun s => (s.at_ (s.window + 1)).auditLate p))

/-- PATCH_READY (R163). -/
def execPatchReady (cyc q i : Nat) (data : List (BitVec 64)) (s : State) : Host.Outcome State Fault Refusal :=
  run s cyc (fun s => s.onQuay q (fun s => s.patchReady q i data))

/-- PATCH_APPLIED (R163). -/
def execPatchApplied (cyc q i : Nat) (s : State) : Host.Outcome State Fault Refusal := run s cyc (fun s => s.onQuay q (fun s => s.patchApplied q i))

end Sys2Proof.Machine
end

