-- ==== Sys2Proof/Machine/ResetCmds.lean ====
section
/-!
DEFINITION. Meanings of the commands of chapter 13: watchdogs, resets, adoption, Lantern mode and dumps.
-/

namespace Sys2Proof.Machine

/-- A write of PG_CTL.SOFT_RESET in the header of the page at `a`; a reserved page ignores it (R644, R646). -/
def State.softWrite (s : State) (a : Nat) : State :=
  let q := (a - 0x100000) / 0x10000
  if a < 0x100000 then
    if (hmPageRows (a / 0x1000)).isEmpty then s.reply rspOk 0 else (s.softReset a).reply rspOk 0
  else if q < s.nQuays then
    if (qyPageRows ((a - 0x100000) % 0x10000 / 0x1000)).isEmpty then s.reply rspOk 0 else (s.softReset a).reply rspOk 0
  else s.reply rspDecode 0

/-- The partner has adopted: a recall may end, and a start test goes on (R520, R605). -/
def State.adoptDone (s : State) (q : Nat) : State :=
  let s := (s.quayAdopt q).tryAnnounce
  if s.start.stest.isSome && s.flag (QY_RST_STAT_ADOPTED q) && !s.inWave q then s.startWave q else s

/-- CHAIN_WATCHDOG (R515). -/
def execChainWatchdog (cyc q l : Nat) (answered : Bool) (s : State) : Host.Outcome State Fault Refusal :=
  runDown s cyc (fun s => s.onQuay q (fun s => s.chainWatchdog q l answered false))

/-- QUAY_WATCHDOG (R514). -/
def execQuayWatchdog (cyc q : Nat) (s : State) : Host.Outcome State Fault Refusal := runDown s cyc (fun s => s.onQuay q (fun s => s.quayWatchdog q))

/-- QUAY_WATCHDOG_KICK (R542). -/
def execQuayWatchdogKick (cyc q : Nat) (host : Bool) (s : State) : Host.Outcome State Fault Refusal :=
  run s cyc (fun s => s.onQuay q (fun s => s.quayKick q host))

/-- HM_WATCHDOG (R514). -/
def execHmWatchdog (cyc : Nat) (s : State) : Host.Outcome State Fault Refusal := runDown s cyc (fun s => s.hmWatchdog)

/-- HM_WATCHDOG_KICK (R540). -/
def execHmWatchdogKick (cyc : Nat) (host : Bool) (s : State) : Host.Outcome State Fault Refusal := run s cyc (fun s => s.hmKick host)

/-- TILE_COMPUTE_RESET (R518). -/
def execTileComputeReset (cyc p reason : Nat) (pwr : Bool) (s : State) : Host.Outcome State Fault Refusal :=
  run s cyc (fun s => s.onTile p (fun s => (s.tileReset p reason pwr).rstStep))

/-- TILE_RESET (R539). -/
def execTileReset (cyc p : Nat) (pwr : Bool) (s : State) : Host.Outcome State Fault Refusal :=
  run s cyc (fun s => s.go HM_RST_OP (some HM_RST_OP_BUSY) (.tileReset cyc p pwr) (fun s => s.rstOp 1 (fun s => s.tileResetOp p pwr)))

/-- PARTITION_RESET (R519). -/
def execPartitionReset (cyc q rowLo rowHi colLo colHi : Nat) (pwr : Bool) (s : State) : Host.Outcome State Fault Refusal :=
  run s cyc (fun s => s.go HM_RST_OP (some HM_RST_OP_BUSY) (.partitionReset cyc q rowLo rowHi colLo colHi pwr) (fun s =>
    s.rstOp 2 (fun s => s.partitionReset q rowLo rowHi colLo colHi pwr)))

/-- QUAY_RESET (R520). -/
def execQuayReset (cyc q reason : Nat) (s : State) : Host.Outcome State Fault Refusal :=
  runDown s cyc (fun s => s.onQuay q (fun s => s.quayReset q reason false))

/-- QUAY_RESET_OP (R539). -/
def execQuayResetOp (cyc q : Nat) (s : State) : Host.Outcome State Fault Refusal :=
  runDown s cyc (fun s => s.go HM_RST_OP (some HM_RST_OP_BUSY) (.quayResetOp cyc q) (fun s => s.rstOp 3 (fun s => s.quayResetOp q)))

/-- SOFT_RESET (R644); `addr` is the HPORT address of the page. -/
def execSoftReset (cyc addr : Nat) (s : State) : Host.Outcome State Fault Refusal := runDown s cyc (fun s => s.softWrite addr)

/-- QUAY_ADOPT (R520). -/
def execQuayAdopt (cyc q : Nat) (s : State) : Host.Outcome State Fault Refusal := runDown s cyc (fun s => s.onQuay q (fun s => s.adoptDone q))

/-- QUAY_SELFTEST_DONE (R520). -/
def execQuaySelftestDone (cyc q : Nat) (pass : Bool) (rows : Nat) (s : State) : Host.Outcome State Fault Refusal :=
  runDown s cyc (fun s => s.onQuay q (fun s => s.selftestDone q pass rows))

/-- QUAY_RECLAIM (R522). -/
def execQuayReclaim (cyc q : Nat) (s : State) : Host.Outcome State Fault Refusal :=
  run s cyc (fun s => s.go HM_RST_OP (some HM_RST_OP_BUSY) (.quayReclaim cyc q) (fun s => s.rstOp 4 (fun s => s.quayReclaim q)))

/-- ENTER_LANTERN (R539). -/
def execEnterLantern (cyc : Nat) (s : State) : Host.Outcome State Fault Refusal :=
  runDown s cyc (fun s => s.go HM_RST_OP (some HM_RST_OP_BUSY) (.enterLantern cyc) State.lanternOp)

/-- HARBOURMASTER_RESTART (R530). -/
def execHarbourmasterRestart (cyc pass : Nat) (s : State) : Host.Outcome State Fault Refusal :=
  run s cyc (fun s => s.hostWrite HM_RST_OP (fun s => s.hmRestart pass))

/-- LANTERN_EXIT (R530). -/
def execLanternExit (s : State) : Host.Outcome State Fault Refusal := run s 0 State.lanternExit

/-- DUMP (R525). -/
def execDump (cyc kind p q : Nat) (s : State) : Host.Outcome State Fault Refusal :=
  run s cyc (fun s => s.go HM_RST_OP (some HM_RST_OP_BUSY) (.dump cyc kind p q) (fun s => s.rstOp 7 (fun s => s.dumpOp kind p q)))

/-- DUMP_READ_TIMEOUT (R526). -/
def execDumpReadTimeout (cyc n : Nat) (s : State) : Host.Outcome State Fault Refusal := run s cyc (fun s => s.dumpVoid n)

/-- DUMP_DONE (R527). -/
def execDumpDone (cyc : Nat) (ext : List (BitVec 64)) (s : State) : Host.Outcome State Fault Refusal := run s cyc (fun s => s.dumpDone ext)

/-- DUMP_COPY_DONE (R525). -/
def execDumpCopyDone (cyc : Nat) (s : State) : Host.Outcome State Fault Refusal := run s cyc (fun s => s.dumpCopied)

end Sys2Proof.Machine
end

