-- ==== Sys2Proof/Machine/StartCmds.lean ====
section
/-!
DEFINITION. Meanings of the commands of chapter 15: boot, load, PREPARE, EPOCH, the start test, opening and closing, updates and rejoins.
-/

namespace Sys2Proof.Machine

/-- BOOT_ROM (R583); bit n of `pass` says that core n has passed. -/
def execBootRom (cyc pass : Nat) (s : State) : Host.Outcome State Fault Refusal := run s cyc (fun s => s.bootRom pass)

/-- LOAD (R585). -/
def execLoad (cyc : Nat) (s : State) : Host.Outcome State Fault Refusal :=
  run s cyc (fun s => s.go HM_TRIPLEX_OP (some HM_TRIPLEX_OP_BUSY) (.load cyc) State.load)

/-- IMAGE_LOADED (R586). -/
def execImageLoaded (cyc : Nat) (s : State) : Host.Outcome State Fault Refusal := run s cyc State.imageLoaded

/-- PREPARE (R588). -/
def execPrepare (cyc : Nat) (taps : List Nat) (s : State) : Host.Outcome State Fault Refusal :=
  run s cyc (fun s => s.go HM_TRIPLEX_OP (some HM_TRIPLEX_OP_BUSY) (.prepare cyc taps) (fun s => s.prepare taps))

/-- EPOCH (R591). -/
def execEpoch (cyc : Nat) (s : State) : Host.Outcome State Fault Refusal :=
  run s cyc (fun s => s.go HM_TRIPLEX_OP (some HM_TRIPLEX_OP_BUSY) (.epoch cyc) State.epochOp)

/-- START_TEST (R592). -/
def execStartTest (cyc : Nat) (s : State) : Host.Outcome State Fault Refusal :=
  run s cyc (fun s => s.go HM_TRIPLEX_OP (some HM_TRIPLEX_OP_BUSY) (.startTest cyc) State.startTest)

/-- OPEN (R595). -/
def execOpenHarbour (cyc : Nat) (s : State) : Host.Outcome State Fault Refusal :=
  run s cyc (fun s => s.go HM_TRIPLEX_OP (some HM_TRIPLEX_OP_BUSY) (.openHarbour cyc) State.openOp)

/-- OPENING_TICK (R596). -/
def execOpeningTick (s : State) : Host.Outcome State Fault Refusal := run s 0 State.openingTick

/-- CLOSE (R598). -/
def execClose (cyc : Nat) (s : State) : Host.Outcome State Fault Refusal :=
  run s cyc (fun s => s.go HM_TRIPLEX_OP (some HM_TRIPLEX_OP_BUSY) (.close cyc) State.closeOp)

/-- UPDATE (R599). -/
def execUpdate (cyc : Nat) (s : State) : Host.Outcome State Fault Refusal :=
  run s cyc (fun s => s.go HM_TRIPLEX_OP (some HM_TRIPLEX_OP_BUSY) (.update cyc) State.updateOp)

/-- UPDATE_LEAVE (R599). -/
def execUpdateLeave (s : State) : Host.Outcome State Fault Refusal := run s 0 State.updateLeave

/-- UPDATE_LOAD_DONE (R599). -/
def execUpdateLoadDone (cyc : Nat) (s : State) : Host.Outcome State Fault Refusal := run s cyc State.updateLoaded

/-- UPDATE_HANDOVER (R599). -/
def execUpdateHandover (s : State) : Host.Outcome State Fault Refusal := run s 0 State.updateHandover

/-- UPDATE_QUAY_RELOAD (R599). -/
def execUpdateQuayReload (cyc : Nat) (s : State) : Host.Outcome State Fault Refusal := run s cyc State.updateReload

/-- TRIPLEX_REJOIN (R600). -/
def execTriplexRejoin (core : Nat) (same : Bool) (s : State) : Host.Outcome State Fault Refusal := run s 0 (fun s => s.triplexRejoin core same)

/-- TAP_SEGMENT (R691). -/
def execTapSegment (cyc seg kind ty unit : Nat) (write opening : Bool) (s : State) : Host.Outcome State Fault Refusal :=
  run s cyc (fun s => s.tapSegment seg kind ty unit write opening)

end Sys2Proof.Machine
end

