-- ==== Sys2Proof/Machine/StoreCmds.lean ====
section
/-!
DEFINITION. Meanings of the commands of chapter 09: tender transfers, tags, the gather buffer, scrub and banks, rings and remote windows.
-/

namespace Sys2Proof.Machine

/-- A transfer ends; the words of a store source that were corrected, each offset with its syndrome, and the uncorrectable one are noted first (R360, R365). -/
def State.transferEnd (s : State) (q t ue ueOff : Nat) (ces : List (Nat × Nat)) (data : List (BitVec 64)) (refusal : Nat) : State :=
  let s := ces.foldl (fun s x => s.storeCe q x.1 x.2) s
  -- a word that is known to be uncorrectable stays so until its row is repaired or written
  let known := match (s.tender q (t % 8)).cur with
    | some (.ring d) => if ue = 0 ∧ srcStore (wType d) then
        (modeOffsets d (slotBits d 1 0 24)).find? (fun o => tabGet (fun _ => false) (s.quay q).badWords (o / 8 * 8)) else none
    | _ => none
  let (ue, ueOff) := match known with | some o => (2, o) | none => (ue, ueOff)
  let s := match (s.tender q (t % 8)).cur with
    | some (.ring d) => if ue = 2 ∧ srcStore (wType d) then s.storeUe q ueOff (3 + t % 8) false else s
    | some (.report _ _) | none => s
    | some _ => if ue = 2 then s.storeUe q ueOff (3 + t % 8) false else s
  s.tenderDone q t ue ueOff data refusal

/-- A ring operation by Rinol, or by the host, whose write is denied (R354). -/
def State.ringGo (s : State) (q ring count : Nat) (push host : Bool) : State :=
  if host then s.hostWrite (QY_RING_OP q) (fun s => s.pageErr (QY_RING_OP q) errDenied) else s.ringOp q ring count push

/-- A bank request by Rinol, or by the host while the harbour is closed (R369, R371). -/
def State.bankGo (s : State) (q b req : Nat) (host : Bool) : State :=
  let a := (QY_STORE_BANK_REQ q b).reg
  if s.banks q ≤ b then s
  else if host then s.hostWrite a (fun s => if s.isOpen then s.pageErr a errDenied else s.bankRequest q b (req % 4))
  else s.bankRequest q b (req % 4)

/-- A remote write packet at a quay window, refused with reason 1 while the harbour is closed (R363, R594), or at a Harbourmaster window (R364). -/
def State.packet (s : State) (quay : Option Nat) (k : Packet) : State :=
  match quay with
  | none => s.hmPacket k (if s.lantern then none else s.key (1 + s.getHeld (HM_WIN_CFG_KEY_SEL (k.win % 8))))
  | some q => s.onQuay q (fun s =>
    let w := k.win % 16
    if s.isOpen then s.winPacket q k (if s.lantern || s.keys.quayBlank.contains q then none else s.quayKey (1 + s.getHeld (QY_WIN_CFG_KEY_SEL q w)))
    else
      let s := ((s.count (QY_WIN_STAT_REFUSED q w) 1).put (QY_WIN_STAT_REASON q w) 1).logQuay q 0x0809 w k.wafer 1 k.seq
      (s.emit (.winAnswer q w 1)).closedAnswer 3)

/-- TENDER_TRANSFER_START (R356). -/
def execTenderTransferStart (cyc q t : Nat) (s : State) : Host.Outcome State Fault Refusal :=
  run s cyc (fun s => s.onQuay q (fun s => s.tenderStart q t))

/-- TENDER_TRANSFER_DONE (R360); `ue` 1 an uncorrectable word at a tile's side-port, 2 one of the store, at `ueOff`. -/
def execTenderTransferDone (cyc q t ue ueOff : Nat) (ces : List (Nat × Nat)) (data : List (BitVec 64)) (refusal : Nat) (s : State) :
    Host.Outcome State Fault Refusal :=
  run s cyc (fun s => s.onQuay q (fun s => s.transferEnd q t ue ueOff ces data refusal))

/-- TAGGED_ACCESS_RETRY (R352). -/
def execTaggedAccessRetry (cyc q client : Nat) (s : State) : Host.Outcome State Fault Refusal :=
  run s cyc (fun s => s.onQuay q (fun s => s.tagRetry q client))

/-- TAG_TIMEOUT (R352). -/
def execTagTimeout (cyc q client : Nat) (s : State) : Host.Outcome State Fault Refusal :=
  run s cyc (fun s => s.onQuay q (fun s => s.tagTimeout q client))

/-- FENCE (R347, R353); `acts` are the control core's accesses since its last command, in earlier cycles. -/
def execFence (cyc q : Nat) (acts : List CoreAct) (s : State) : Host.Outcome State Fault Refusal :=
  run s cyc (fun s => s.onQuay q (fun s => s.coreRun q (acts ++ [.fence])))

/-- GATHER_IDLE_FLUSH (R347, R353, R375); `same` are the accesses of the flush's own cycle: a store of a flushed row opens a new entry. -/
def execGatherIdleFlush (cyc q : Nat) (acts same : List CoreAct) (s : State) : Host.Outcome State Fault Refusal :=
  run s cyc (fun s => s.onQuay q (fun s => ((s.coreRun q acts).gatherIdle q).coreRun q same))

/-- SCRUB_SLOT (R366). -/
def execScrubSlot (cyc q b found synd word : Nat) (s : State) : Host.Outcome State Fault Refusal :=
  run s cyc (fun s => s.onQuay q (fun s => s.scrubSlot q b found synd word))

/-- FORCED_SCRUB (R366). -/
def execForcedScrub (cyc q b found synd word : Nat) (s : State) : Host.Outcome State Fault Refusal :=
  run s cyc (fun s => s.onQuay q (fun s => s.forcedScrub q b found synd word))

/-- STORE_REPAIR (R367, R383), by Rinol or by a host GO. -/
def execStoreRepair (cyc q bank row : Nat) (host : Bool) (s : State) : Host.Outcome State Fault Refusal :=
  run s cyc (fun s => s.onQuay q (fun s =>
    if host then s.hostWrite (qyAddr q 0x8160) (fun s => s.storeRepair q bank row) else s.storeRepair q bank row))

/-- BANK_REQUEST (R369). -/
def execBankRequest (cyc q b req : Nat) (host : Bool) (s : State) : Host.Outcome State Fault Refusal :=
  run s cyc (fun s => s.onQuay q (fun s => s.bankGo q b req host))

/-- BANK_DRAIN_DONE (R370). -/
def execBankDrainDone (cyc q b : Nat) (s : State) : Host.Outcome State Fault Refusal := run s cyc (fun s => s.onQuay q (fun s => s.bankDrained q b))

/-- BANK_WAKE_DONE (R369). -/
def execBankWakeDone (cyc q b : Nat) (s : State) : Host.Outcome State Fault Refusal := run s cyc (fun s => s.onQuay q (fun s => s.bankUp q b bkWake))

/-- BANK_INIT_DONE (R369). -/
def execBankInitDone (cyc q b : Nat) (s : State) : Host.Outcome State Fault Refusal := run s cyc (fun s => s.onQuay q (fun s => s.bankUp q b bkInit))

/-- PUSH (R354). -/
def execPush (cyc q ring count : Nat) (host : Bool) (s : State) : Host.Outcome State Fault Refusal :=
  run s cyc (fun s => s.onQuay q (fun s => s.ringGo q ring count true host))

/-- POP (R354). -/
def execPop (cyc q ring count : Nat) (host : Bool) (s : State) : Host.Outcome State Fault Refusal :=
  run s cyc (fun s => s.onQuay q (fun s => s.ringGo q ring count false host))

/-- REMOTE_WRITE (R363); `quay` is absent for a window of the Harbourmaster. -/
def execRemoteWrite (cyc : Nat) (quay : Option Nat) (wafer win off seq : Nat) (tag : BitVec 64) (rows : List (List (BitVec 64))) (s : State) : Host.Outcome State Fault Refusal :=
  run s cyc (fun s => s.packet quay ⟨wafer, win, off, seq, tag, rows⟩)

end Sys2Proof.Machine
end

