-- ==== Sys2Proof/Machine/SyncCmds.lean ====
section
/-!
DEFINITION. Meanings of the commands of chapter 10: hawser rounds and the ring, sync objects, wake channels, groups.
-/

namespace Sys2Proof.Machine

/-- An HW2 round has completed: what waited for it happens (R412, R591, R596, R626). -/
def State.hw2Done (s : State) (done : Bool) : State :=
  if !done then s
  else
    match s.hawser.hw2 with
    | 1 => s.epochStart
    | 2 => ({ s with hawser.hw2 := 0 }).lockRun
    | 3 => ({ s with hawser.hw2 := 0 }).chooseOpen (max (s.get HM_MAP_CTL_MAP_CC) 1100)
    | 4 => ({ s with hawser.hw2 := 0 }).rebase
    | _ => s

/-- A round completes at its node. -/
def State.lineDone (s : State) (line entry : Nat) : State :=
  let (s, hw2) := s.roundComplete line entry
  s.hw2Done hw2

/-- A frame of a ring lane, or a calibration frame `cal` with its arguments (R420, R421). -/
def State.ringFrame (s : State) (lane frame cal a b : Nat) : State :=
  if cal ≠ 0 then
    if s.isOpen then s else if s.phaseNo < phConfig then s.closedAnswer 4 else s.calFrame cal a b
  else
    let (s, hw2, bad) := s.hwxFrame lane frame
    (if bad then s.latchHm 23 false 0 else s).hw2Done hw2

/-- HAWSER_ARRIVE (R395). -/
def execHawserArrive (cyc p slot : Nat) (s : State) : Host.Outcome State Fault Refusal :=
  run s cyc (fun s => s.fromCore p (fun s => s.hawserArrive p slot))

/-- HAWSER_RELEASE (R396). -/
def execHawserRelease (cyc p slot : Nat) (s : State) : Host.Outcome State Fault Refusal :=
  run s cyc (fun s => s.onTile p (fun s => s.hawserRelease p slot))

/-- HAWSER_ROUND_COMPLETE (R392). -/
def execHawserRoundComplete (cyc line entry : Nat) (s : State) : Host.Outcome State Fault Refusal := run s cyc (fun s => s.lineDone line entry)

/-- WAKE_CHANNEL (R73). -/
def execWakeChannel (cyc q ch : Nat) (s : State) : Host.Outcome State Fault Refusal := run s cyc (fun s => s.onQuay q (fun s => s.wakeChannel q ch))

/-- SIGNAL (R402). -/
def execSignal (cyc p owner idx tick8 lcore inc : Nat) (s : State) : Host.Outcome State Fault Refusal :=
  run s cyc (fun s => s.onTile p (fun s => s.signal p owner idx tick8 lcore inc))

/-- ARM (R407). -/
def execArm (cyc p owner idx tick8 lcore ch target : Nat) (space : Bool) (s : State) : Host.Outcome State Fault Refusal :=
  run s cyc (fun s => s.onTile p (fun s => s.arm p owner idx tick8 lcore ch target space))

/-- READ (R399). -/
def execRead (cyc p owner idx tick8 lcore : Nat) (s : State) : Host.Outcome State Fault Refusal :=
  run s cyc (fun s => s.onTile p (fun s => s.readObj p owner idx tick8 lcore))

/-- HREQ (R413). -/
def execHreq (cyc p tick8 lcore slot mask group lo hi : Nat) (s : State) : Host.Outcome State Fault Refusal :=
  run s cyc (fun s => s.onTile p (fun s => s.groupReq opHreq tick8 ⟨p, lcore, 0, slot, false, mask, group, lo, hi⟩))

/-- HFREE (R417). -/
def execHfree (cyc p tick8 lcore slot group : Nat) (s : State) : Host.Outcome State Fault Refusal :=
  run s cyc (fun s => s.onTile p (fun s => s.groupReq opHfree tick8 ⟨p, lcore, 0, slot, true, 0, group, 0, 0⟩))

/-- GQUERY (R413). -/
def execGquery (cyc p tick8 lcore group : Nat) (s : State) : Host.Outcome State Fault Refusal :=
  run s cyc (fun s => s.onTile p (fun s => s.gquery p tick8 lcore group))

/-- SYNC_BAD_OP (R399). -/
def execSyncBadOp (cyc p op owner idx lcore : Nat) (s : State) : Host.Outcome State Fault Refusal :=
  run s cyc (fun s => s.onTile p (fun s => s.badOp p op owner idx lcore))

/-- WAKE_MESSAGE (R407). -/
def execWakeMessage (cyc q ch : Nat) (s : State) : Host.Outcome State Fault Refusal := run s cyc (fun s => s.onQuay q (fun s => s.wakeMessage q ch))

/-- LINK_FORWARD (R411). -/
def execLinkForward (cyc q idx : Nat) (s : State) : Host.Outcome State Fault Refusal := run s cyc (fun s => s.onQuay q (fun s => s.linkForward q idx))

/-- REALIGN (R412). -/
def execRealign (cyc : Nat) (s : State) : Host.Outcome State Fault Refusal :=
  run s cyc (fun s => let (s, done) := s.realign; s.hw2Done done)

/-- WAKE_FORCE (R439). -/
def execWakeForce (cyc q mask : Nat) (s : State) : Host.Outcome State Fault Refusal :=
  run s cyc (fun s => s.onQuay q (fun s => s.hostWrite (QY_WAKE_FORCE q) (fun s => s.wakeForce q mask)))

/-- SYNC_SELECT (R423). -/
def execSyncSelect (cyc q idx : Nat) (s : State) : Host.Outcome State Fault Refusal :=
  run s cyc (fun s => s.onQuay q (fun s => s.hostWrite (QY_SYNC_SEL q) (fun s => s.syncSelect q idx)))

/-- HWX_FRAME (R420). -/
def execHwxFrame (cyc lane frame cal a b : Nat) (s : State) : Host.Outcome State Fault Refusal := run s cyc (fun s => s.ringFrame lane frame cal a b)

/-- CAL_GO (R421). -/
def execCalGo (cyc : Nat) (s : State) : Host.Outcome State Fault Refusal := run s cyc (fun s => s.hostWrite HM_HAWSER_XCTL State.calGo)

/-- HWX_CAL_TIMEOUT (R421). -/
def execHwxCalTimeout (cyc : Nat) (s : State) : Host.Outcome State Fault Refusal := run s cyc State.calTimeout

end Sys2Proof.Machine
end

