-- ==== Sys2Proof/Machine/TestCmds.lean ====
section
/-!
DEFINITION. Meanings of the commands of chapter 08: test slots and slices, the test operations, the pattern flash and the retest of units.
-/

namespace Sys2Proof.Machine

/-- TEST_SLOT_FILL (R301); during a triplex pause no slot is filled (R601). -/
def execTestSlotFill (q : Nat) (s : State) : Host.Outcome State Fault Refusal :=
  run s 0 (fun s => s.onQuay q (fun s => let s := s.testSweep; if s.flag HM_TRIPLEX_STAT_ABSENT then s else s.slotFill q))

/-- TEST_SLICE_START (R299). -/
def execTestSliceStart (q k : Nat) (s : State) : Host.Outcome State Fault Refusal := run s 0 (fun s => s.onQuay q (fun s => s.sliceStart q k))

/-- TEST_SLICE_END (R304). -/
def execTestSliceEnd (cyc q k : Nat) (results : List (BitVec 64)) (s : State) : Host.Outcome State Fault Refusal :=
  run s cyc (fun s => s.onQuay q (fun s => s.sliceEnd q k results))

/-- SLICE_TIMEOUT (R299). -/
def execSliceTimeout (cyc q k : Nat) (waits : Bool) (results : List (BitVec 64)) (s : State) : Host.Outcome State Fault Refusal :=
  run s cyc (fun s => s.onQuay q (fun s => s.sliceTimeout q k waits results))

/-- TEST_CLEARANCE_TIMEOUT (R304). -/
def execTestClearanceTimeout (cyc q k : Nat) (s : State) : Host.Outcome State Fault Refusal :=
  run s cyc (fun s => s.onQuay q (fun s => s.testClrTimeout q k))

/-- DIAGNOSIS_DONE (R309). -/
def execDiagnosisDone (cyc q k pattern chain cell : Nat) (found : Bool) (s : State) : Host.Outcome State Fault Refusal :=
  run s cyc (fun s => s.onQuay q (fun s => s.diagDone q k pattern chain cell found))

/-- TEST_NEXT (R335). -/
def execTestNext (cyc p : Nat) (s : State) : Host.Outcome State Fault Refusal :=
  run s cyc (fun s => s.go HM_TEST_OP (some HM_TEST_OP_BUSY) (.testNext cyc p) (fun s => s.testNext p))

/-- TEST_ABORT (R335). -/
def execTestAbort (cyc p : Nat) (s : State) : Host.Outcome State Fault Refusal :=
  run s cyc (fun s => s.go HM_TEST_OP (some HM_TEST_OP_BUSY) (.testAbort cyc p) (fun s => s.testAbort p))

/-- XSPI_PROGRAM (R322). -/
def execXspiProgram (cyc : Nat) (s : State) : Host.Outcome State Fault Refusal :=
  run s cyc (fun s => s.go HM_XSPI_OP (some HM_XSPI_OP_BUSY) (.xspiProgram cyc) State.xspiProgram)

/-- XSPI_ERASE (R322). -/
def execXspiErase (cyc : Nat) (s : State) : Host.Outcome State Fault Refusal :=
  run s cyc (fun s => s.go HM_XSPI_OP (some HM_XSPI_OP_BUSY) (.xspiErase cyc) State.xspiErase)

/-- XSPI_RESCAN (R319). -/
def execXspiRescan (cyc : Nat) (s : State) : Host.Outcome State Fault Refusal :=
  run s cyc (fun s => s.go HM_XSPI_OP (some HM_XSPI_OP_BUSY) (.xspiRescan cyc) State.xspiRescan)

/-- FLASH_ACCESS_DONE (R322); PREPARE goes on once its scan has ended (R588). -/
def execFlashAccessDone (cyc : Nat) (ok : Bool) (found : List (Nat × List (BitVec 8))) (s : State) : Host.Outcome State Fault Refusal :=
  run s cyc (fun s => (s.flashDone ok found).1.prepStep)

/-- UNIT_RETEST_DONE (R323). -/
def execUnitRetestDone (cyc k : Nat) (pass : Bool) (s : State) : Host.Outcome State Fault Refusal := run s cyc (fun s => s.unitRetest k pass)

end Sys2Proof.Machine
end

