-- ==== Sys2Proof/Machine/TimeCmds.lean ====
section
/-!
DEFINITION. Meanings of the commands of chapters 01 and 18: the tick strobe, the PPS edge, alignment, holdover, slews, the housekeeping round, and the
power pins.
-/

namespace Sys2Proof.Machine

/-- What TICK_STROBE leads to falls at cycle 0 of the new tick, one past the tick of `s` (R24); before the device epoch no tick is counted. -/
def State.atStrobe (s t : State) : State := if s.time.epoch then { t with time.tick := s.time.tick + 1, time.cyc := 0 } else t

/-- TICK_STROBE (R25, R213). -/
def execTickStrobe (bad : List Nat) (flits : List (Nat × Nat)) (s : State) : Host.Outcome State Fault Refusal :=
  run s 0 (fun s => s.atStrobe (s.aftermath (s.tickStrobe bad flits)))

/-- PPS_EDGE (R28). -/
def execPpsEdge (cyc : Nat) (falling : Bool) (s : State) : Host.Outcome State Fault Refusal := run s cyc (fun s => s.ppsEdge falling)

/-- ALIGN (R32, R43). -/
def execAlign (cyc : Nat) (s : State) : Host.Outcome State Fault Refusal := run s cyc (fun s => s.hostWrite HM_TIME_CTL State.align)

/-- TIME_HOLDOVER (R31). -/
def execTimeHoldover (cyc : Nat) (s : State) : Host.Outcome State Fault Refusal := run s cyc State.holdover

/-- HOLDOVER_SECOND (R29). -/
def execHoldoverSecond (s : State) : Host.Outcome State Fault Refusal := run s 0 State.holdoverSecond

/-- SLEW_DECISION (R29, R30). -/
def execSlewDecision (s : State) : Host.Outcome State Fault Refusal := run s 0 State.slewDecide

/-- HOUSEKEEPING_ROUND (R459). -/
def execHousekeepingRound (badKey : Option Nat) (s : State) : Host.Outcome State Fault Refusal := runDown s 0 (fun s => s.houseRound badKey)

/-- THROTTLE_EVALUATION (R453). -/
def execThrottleEvaluation (s : State) : Host.Outcome State Fault Refusal := run s 0 State.throttle

/-- CONVERSION_DONE (R454); the reference's checker takes the next conversion (R492, R499). -/
def execConversionDone (cyc ch : Nat) (val : Int) (fault : Nat) (s : State) : Host.Outcome State Fault Refusal :=
  run s cyc (fun s => (s.converted_ ch val fault).checker 0 0 21 0 0 false)

/-- BUS_SAMPLE (R456). -/
def execBusSample (cyc c0 c1 : Nat) (s : State) : Host.Outcome State Fault Refusal := run s cyc (fun s => s.busPoint c0 c1)

/-- PFAIL_FALL (R455). -/
def execPfailFall (cyc : Nat) (s : State) : Host.Outcome State Fault Refusal := run s cyc State.pfailFall

/-- PFAIL_RISE (R455). -/
def execPfailRise (cyc : Nat) (s : State) : Host.Outcome State Fault Refusal := run s cyc State.pfailRise

/-- PMBUS_ALERT (R680); while the harbour is closed it is an answer to be counted (R594). -/
def execPmbusAlert (cyc q : Nat) (s : State) : Host.Outcome State Fault Refusal :=
  run s cyc (fun s => s.onQuay q (fun s => (if s.isOpen then s else s.closedAnswer 5).pmAlert q))

/-- PMBUS_TRANSACTION_DONE (R680). -/
def execPmbusTransactionDone (cyc : Nat) (ack : Bool) (data : Nat) (s : State) : Host.Outcome State Fault Refusal :=
  run s cyc (fun s => s.pmbusDone ack data)

/-- LINK_DOMAIN_POWER (R517). -/
def execLinkDomainPower (cyc p : Nat) (s : State) : Host.Outcome State Fault Refusal :=
  run s cyc (fun s => s.onTile p (fun s => s.linkPower p))

/-- POWER_ON_RESET (R672). -/
def execPowerOnReset (s : State) : Host.Outcome State Fault Refusal := ran s.powerOnReset

/-- RESET_RELEASE (R672). -/
def execResetRelease (s : State) : Host.Outcome State Fault Refusal := ran ({ s with out := [] }.resetRelease)

/-- DOMAIN_SWITCH_ON (R670). -/
def execDomainSwitchOn (cyc d : Nat) (s : State) : Host.Outcome State Fault Refusal := run s cyc (fun s => s.domainOn d)

/-- DOMAIN_POWER_GOOD (R670). -/
def execDomainPowerGood (cyc d : Nat) (s : State) : Host.Outcome State Fault Refusal := run s cyc (fun s => s.domainGood d)

end Sys2Proof.Machine
end

