-- ==== Sys2Proof/Machine/Dispatch.lean ====
section
/-!
DEFINITION. The dispatch: one arm per command, each a direct call of its meaning.
-/

namespace Sys2Proof.Machine

def exec (i : Instr) (s : State) : Host.Outcome State Fault Refusal :=
  match i with
  | .tickStrobe bad flits => Sys2Proof.Machine.execTickStrobe bad flits s
  | .ppsEdge cyc falling => Sys2Proof.Machine.execPpsEdge cyc falling s
  | .align cyc => Sys2Proof.Machine.execAlign cyc s
  | .timeHoldover cyc => Sys2Proof.Machine.execTimeHoldover cyc s
  | .holdoverSecond => Sys2Proof.Machine.execHoldoverSecond s
  | .slewDecision => Sys2Proof.Machine.execSlewDecision s
  | .sidebandDesc cyc p d => Sys2Proof.Machine.execSidebandDesc cyc p d s
  | .sidebandAddr cyc p w heldA heldB => Sys2Proof.Machine.execSidebandAddr cyc p w heldA heldB s
  | .sidebandStep cyc p n => Sys2Proof.Machine.execSidebandStep cyc p n s
  | .sidebandSleep cyc p mask => Sys2Proof.Machine.execSidebandSleep cyc p mask s
  | .operandTapBeat cyc p isB scale data lanes l idx lend => Sys2Proof.Machine.execOperandTapBeat cyc p isB scale data lanes l idx lend s
  | .writebackBeat cyc p data lanes row col => Sys2Proof.Machine.execWritebackBeat cyc p data lanes row col s
  | .coreError cyc p bits => Sys2Proof.Machine.execCoreError cyc p bits s
  | .lmCeInfo cyc p => Sys2Proof.Machine.execLmCeInfo cyc p s
  | .linkDown cyc p links inflight => Sys2Proof.Machine.execLinkDown cyc p links inflight s
  | .routerFault cyc p => Sys2Proof.Machine.execRouterFault cyc p s
  | .cdomLoss cyc p => Sys2Proof.Machine.execCdomLoss cyc p s
  | .cdomPowerGood cyc p => Sys2Proof.Machine.execCdomPowerGood cyc p s
  | .cdomPowerTimeout cyc p => Sys2Proof.Machine.execCdomPowerTimeout cyc p s
  | .clearanceRequest cyc l => Sys2Proof.Machine.execClearanceRequest cyc l s
  | .clearanceRelease cyc p engine => Sys2Proof.Machine.execClearanceRelease cyc p engine s
  | .clearanceOverhold cyc p => Sys2Proof.Machine.execClearanceOverhold cyc p s
  | .subtickRedistribute q k => Sys2Proof.Machine.execSubtickRedistribute q k s
  | .hawserArrive cyc p slot => Sys2Proof.Machine.execHawserArrive cyc p slot s
  | .hawserRelease cyc p slot => Sys2Proof.Machine.execHawserRelease cyc p slot s
  | .hawserRoundComplete cyc line entry => Sys2Proof.Machine.execHawserRoundComplete cyc line entry s
  | .ingressSink cyc p source tag => Sys2Proof.Machine.execIngressSink cyc p source tag s
  | .wakeChannel cyc q ch => Sys2Proof.Machine.execWakeChannel cyc q ch s
  | .bollardWatchdog cyc p => Sys2Proof.Machine.execBollardWatchdog cyc p s
  | .sideportAck cyc p claims word data err held => Sys2Proof.Machine.execSideportAck cyc p claims word data err held s
  | .sideportTimeout cyc p claims word held => Sys2Proof.Machine.execSideportTimeout cyc p claims word held s
  | .zeroiseDone cyc p => Sys2Proof.Machine.execZeroiseDone cyc p s
  | .zeroiseFail cyc p => Sys2Proof.Machine.execZeroiseFail cyc p s
  | .mbistDone cyc p pass rows word bitNo => Sys2Proof.Machine.execMbistDone cyc p pass rows word bitNo s
  | .scanIntervalEnd cyc p misr => Sys2Proof.Machine.execScanIntervalEnd cyc p misr s
  | .bollardReportLaunch cyc p closed => Sys2Proof.Machine.execBollardReportLaunch cyc p closed s
  | .reportFrame cyc p => Sys2Proof.Machine.execReportFrame cyc p s
  | .tallyTimeout q => Sys2Proof.Machine.execTallyTimeout q s
  | .chainWatchdog cyc q l answered => Sys2Proof.Machine.execChainWatchdog cyc q l answered s
  | .quayDeadline q => Sys2Proof.Machine.execQuayDeadline q s
  | .rootDecide => Sys2Proof.Machine.execRootDecide s
  | .commitBroadcast cyc q slow => Sys2Proof.Machine.execCommitBroadcast cyc q slow s
  | .commitApply => Sys2Proof.Machine.execCommitApply s
  | .recallRoot cyc arrive => Sys2Proof.Machine.execRecallRoot cyc arrive s
  | .recallReceipt cyc q slow => Sys2Proof.Machine.execRecallReceipt cyc q slow s
  | .drainEnd cyc => Sys2Proof.Machine.execDrainEnd cyc s
  | .migrationDone cyc l => Sys2Proof.Machine.execMigrationDone cyc l s
  | .rerouteDone cyc => Sys2Proof.Machine.execRerouteDone cyc s
  | .mailboxWrite => Sys2Proof.Machine.execMailboxWrite s
  | .mailboxLate p => Sys2Proof.Machine.execMailboxLate p s
  | .restart => Sys2Proof.Machine.execRestart s
  | .hostRecall cyc => Sys2Proof.Machine.execHostRecall cyc s
  | .halt cyc => Sys2Proof.Machine.execHalt cyc s
  | .resume cyc => Sys2Proof.Machine.execResume cyc s
  | .abandon cyc => Sys2Proof.Machine.execAbandon cyc s
  | .alarmMessage cyc p => Sys2Proof.Machine.execAlarmMessage cyc p s
  | .csumFlood q => Sys2Proof.Machine.execCsumFlood q s
  | .rateUpdate q => Sys2Proof.Machine.execRateUpdate q s
  | .sampleRequest cyc ps => Sys2Proof.Machine.execSampleRequest cyc ps s
  | .berthFull cyc p => Sys2Proof.Machine.execBerthFull cyc p s
  | .farPlacementAnswer cyc q b => Sys2Proof.Machine.execFarPlacementAnswer cyc q b s
  | .farPlacementTimeout cyc q b => Sys2Proof.Machine.execFarPlacementTimeout cyc q b s
  | .tenderTransferStart cyc q t => Sys2Proof.Machine.execTenderTransferStart cyc q t s
  | .tenderTransferDone cyc q t ue ueOff ces data refusal => Sys2Proof.Machine.execTenderTransferDone cyc q t ue ueOff ces data refusal s
  | .outputSignature cyc p out => Sys2Proof.Machine.execOutputSignature cyc p out s
  | .shadowSignatures cyc p out => Sys2Proof.Machine.execShadowSignatures cyc p out s
  | .shadowLate q b => Sys2Proof.Machine.execShadowLate q b s
  | .shadowHung q b => Sys2Proof.Machine.execShadowHung q b s
  | .shadowStopConfirm cyc q b => Sys2Proof.Machine.execShadowStopConfirm cyc q b s
  | .capturePassDone cyc q c beats sig out => Sys2Proof.Machine.execCapturePassDone cyc q c beats sig out s
  | .witnessTimeout cyc q c => Sys2Proof.Machine.execWitnessTimeout cyc q c s
  | .auditResult cyc p skip rows => Sys2Proof.Machine.execAuditResult cyc p skip rows s
  | .auditLate p => Sys2Proof.Machine.execAuditLate p s
  | .patchReady cyc q row data => Sys2Proof.Machine.execPatchReady cyc q row data s
  | .patchApplied cyc q row => Sys2Proof.Machine.execPatchApplied cyc q row s
  | .disputeMessage cyc n => Sys2Proof.Machine.execDisputeMessage cyc n s
  | .disputeResend qs => Sys2Proof.Machine.execDisputeResend qs s
  | .customsDispatch cyc => Sys2Proof.Machine.execCustomsDispatch cyc s
  | .customsFetchDone cyc u ue ces => Sys2Proof.Machine.execCustomsFetchDone cyc u ue ces s
  | .customsEvalEnd cyc u upsets => Sys2Proof.Machine.execCustomsEvalEnd cyc u upsets s
  | .refereeResult cyc slot tap out => Sys2Proof.Machine.execRefereeResult cyc slot tap out s
  | .refereeTimeout cyc slot => Sys2Proof.Machine.execRefereeTimeout cyc slot s
  | .housekeepingRound badKey => Sys2Proof.Machine.execHousekeepingRound badKey s
  | .throttleEvaluation => Sys2Proof.Machine.execThrottleEvaluation s
  | .conversionDone cyc ch val fault => Sys2Proof.Machine.execConversionDone cyc ch val fault s
  | .busSample cyc c0 c1 => Sys2Proof.Machine.execBusSample cyc c0 c1 s
  | .pfailFall cyc => Sys2Proof.Machine.execPfailFall cyc s
  | .pfailRise cyc => Sys2Proof.Machine.execPfailRise cyc s
  | .pmbusAlert cyc q => Sys2Proof.Machine.execPmbusAlert cyc q s
  | .healthOpAmber cyc p => Sys2Proof.Machine.execHealthOpAmber cyc p s
  | .healthOpVermilion cyc p => Sys2Proof.Machine.execHealthOpVermilion cyc p s
  | .healthOpSlate cyc p => Sys2Proof.Machine.execHealthOpSlate cyc p s
  | .moveCopyDone cyc x => Sys2Proof.Machine.execMoveCopyDone cyc x s
  | .moveSwitch x => Sys2Proof.Machine.execMoveSwitch x s
  | .parkTimeout cyc x => Sys2Proof.Machine.execParkTimeout cyc x s
  | .testSlotFill q => Sys2Proof.Machine.execTestSlotFill q s
  | .testSliceStart q k => Sys2Proof.Machine.execTestSliceStart q k s
  | .testSliceEnd cyc q k results => Sys2Proof.Machine.execTestSliceEnd cyc q k results s
  | .sliceTimeout cyc q k waits results => Sys2Proof.Machine.execSliceTimeout cyc q k waits results s
  | .testClearanceTimeout cyc q k => Sys2Proof.Machine.execTestClearanceTimeout cyc q k s
  | .diagnosisDone cyc q k pattern chain cell found => Sys2Proof.Machine.execDiagnosisDone cyc q k pattern chain cell found s
  | .testNext cyc p => Sys2Proof.Machine.execTestNext cyc p s
  | .testAbort cyc p => Sys2Proof.Machine.execTestAbort cyc p s
  | .xspiProgram cyc => Sys2Proof.Machine.execXspiProgram cyc s
  | .xspiErase cyc => Sys2Proof.Machine.execXspiErase cyc s
  | .xspiRescan cyc => Sys2Proof.Machine.execXspiRescan cyc s
  | .taggedAccessRetry cyc q client => Sys2Proof.Machine.execTaggedAccessRetry cyc q client s
  | .tagTimeout cyc q client => Sys2Proof.Machine.execTagTimeout cyc q client s
  | .fence cyc q acts => Sys2Proof.Machine.execFence cyc q acts s
  | .gatherIdleFlush cyc q acts same => Sys2Proof.Machine.execGatherIdleFlush cyc q acts same s
  | .scrubSlot cyc q b found synd word => Sys2Proof.Machine.execScrubSlot cyc q b found synd word s
  | .forcedScrub cyc q b found synd word => Sys2Proof.Machine.execForcedScrub cyc q b found synd word s
  | .storeRepair cyc q bank row host => Sys2Proof.Machine.execStoreRepair cyc q bank row host s
  | .bankRequest cyc q b req host => Sys2Proof.Machine.execBankRequest cyc q b req host s
  | .bankDrainDone cyc q b => Sys2Proof.Machine.execBankDrainDone cyc q b s
  | .bankWakeDone cyc q b => Sys2Proof.Machine.execBankWakeDone cyc q b s
  | .bankInitDone cyc q b => Sys2Proof.Machine.execBankInitDone cyc q b s
  | .push cyc q ring count host => Sys2Proof.Machine.execPush cyc q ring count host s
  | .pop cyc q ring count host => Sys2Proof.Machine.execPop cyc q ring count host s
  | .remoteWrite cyc quay wafer win off seq tag rows => Sys2Proof.Machine.execRemoteWrite cyc quay wafer win off seq tag rows s
  | .signal cyc p owner idx tick8 lcore inc => Sys2Proof.Machine.execSignal cyc p owner idx tick8 lcore inc s
  | .arm cyc p owner idx tick8 lcore ch target space => Sys2Proof.Machine.execArm cyc p owner idx tick8 lcore ch target space s
  | .read cyc p owner idx tick8 lcore => Sys2Proof.Machine.execRead cyc p owner idx tick8 lcore s
  | .hreq cyc p tick8 lcore slot mask group lo hi => Sys2Proof.Machine.execHreq cyc p tick8 lcore slot mask group lo hi s
  | .hfree cyc p tick8 lcore slot group => Sys2Proof.Machine.execHfree cyc p tick8 lcore slot group s
  | .gquery cyc p tick8 lcore group => Sys2Proof.Machine.execGquery cyc p tick8 lcore group s
  | .syncBadOp cyc p op owner idx lcore => Sys2Proof.Machine.execSyncBadOp cyc p op owner idx lcore s
  | .wakeMessage cyc q ch => Sys2Proof.Machine.execWakeMessage cyc q ch s
  | .linkForward cyc q idx => Sys2Proof.Machine.execLinkForward cyc q idx s
  | .realign cyc => Sys2Proof.Machine.execRealign cyc s
  | .wakeForce cyc q mask => Sys2Proof.Machine.execWakeForce cyc q mask s
  | .syncSelect cyc q idx => Sys2Proof.Machine.execSyncSelect cyc q idx s
  | .hwxFrame cyc lane frame cal a b => Sys2Proof.Machine.execHwxFrame cyc lane frame cal a b s
  | .calGo cyc => Sys2Proof.Machine.execCalGo cyc s
  | .hwxCalTimeout cyc => Sys2Proof.Machine.execHwxCalTimeout cyc s
  | .faultLatch cyc level unit b synd aux real => Sys2Proof.Machine.execFaultLatch cyc level unit b synd aux real s
  | .bollardFaultMessage cyc q => Sys2Proof.Machine.execBollardFaultMessage cyc q s
  | .quayFaultMessage cyc n => Sys2Proof.Machine.execQuayFaultMessage cyc n s
  | .lockstepMismatch cyc q addr b => Sys2Proof.Machine.execLockstepMismatch cyc q addr b s
  | .triplexVote cyc core addr => Sys2Proof.Machine.execTriplexVote cyc core addr s
  | .duplexMismatch cyc => Sys2Proof.Machine.execDuplexMismatch cyc s
  | .rtScrub cyc => Sys2Proof.Machine.execRtScrub cyc s
  | .errorForce cyc level unit page bits => Sys2Proof.Machine.execErrorForce cyc level unit page bits s
  | .alarmAck cyc mask host => Sys2Proof.Machine.execAlarmAck cyc mask host s
  | .breakwaterRegion cyc q => Sys2Proof.Machine.execBreakwaterRegion cyc q s
  | .breakwaterWafer cyc => Sys2Proof.Machine.execBreakwaterWafer cyc s
  | .quayWatchdog cyc q => Sys2Proof.Machine.execQuayWatchdog cyc q s
  | .quayWatchdogKick cyc q host => Sys2Proof.Machine.execQuayWatchdogKick cyc q host s
  | .hmWatchdog cyc => Sys2Proof.Machine.execHmWatchdog cyc s
  | .hmWatchdogKick cyc host => Sys2Proof.Machine.execHmWatchdogKick cyc host s
  | .tileComputeReset cyc p reason pwr => Sys2Proof.Machine.execTileComputeReset cyc p reason pwr s
  | .tileReset cyc p pwr => Sys2Proof.Machine.execTileReset cyc p pwr s
  | .partitionReset cyc q rowLo rowHi colLo colHi pwr => Sys2Proof.Machine.execPartitionReset cyc q rowLo rowHi colLo colHi pwr s
  | .quayReset cyc q reason => Sys2Proof.Machine.execQuayReset cyc q reason s
  | .quayResetOp cyc q => Sys2Proof.Machine.execQuayResetOp cyc q s
  | .softReset cyc addr => Sys2Proof.Machine.execSoftReset cyc addr s
  | .quayAdopt cyc q => Sys2Proof.Machine.execQuayAdopt cyc q s
  | .quaySelftestDone cyc q pass rows => Sys2Proof.Machine.execQuaySelftestDone cyc q pass rows s
  | .quayReclaim cyc q => Sys2Proof.Machine.execQuayReclaim cyc q s
  | .enterLantern cyc => Sys2Proof.Machine.execEnterLantern cyc s
  | .harbourmasterRestart cyc pass => Sys2Proof.Machine.execHarbourmasterRestart cyc pass s
  | .lanternExit => Sys2Proof.Machine.execLanternExit s
  | .dump cyc kind p q => Sys2Proof.Machine.execDump cyc kind p q s
  | .dumpReadTimeout cyc n => Sys2Proof.Machine.execDumpReadTimeout cyc n s
  | .dumpDone cyc ext => Sys2Proof.Machine.execDumpDone cyc ext s
  | .dumpCopyDone cyc => Sys2Proof.Machine.execDumpCopyDone cyc s
  | .logRecord cyc producers => Sys2Proof.Machine.execLogRecord cyc producers s
  | .trickleFlush cyc => Sys2Proof.Machine.execTrickleFlush cyc s
  | .flushBlockDone cyc ok => Sys2Proof.Machine.execFlushBlockDone cyc ok s
  | .logPortTimeout cyc => Sys2Proof.Machine.execLogPortTimeout cyc s
  | .logFlush cyc => Sys2Proof.Machine.execLogFlush cyc s
  | .pfailFlushStop cyc => Sys2Proof.Machine.execPfailFlushStop cyc s
  | .logPortRetry cyc => Sys2Proof.Machine.execLogPortRetry cyc s
  | .logStoreResume cyc trailers => Sys2Proof.Machine.execLogStoreResume cyc trailers s
  | .logReadSelect cyc n => Sys2Proof.Machine.execLogReadSelect cyc n s
  | .logFetchDone cyc words => Sys2Proof.Machine.execLogFetchDone cyc words s
  | .nonceRead cyc => Sys2Proof.Machine.execNonceRead cyc s
  | .logClear cyc => Sys2Proof.Machine.execLogClear cyc s
  | .logClearVerified cyc => Sys2Proof.Machine.execLogClearVerified cyc s
  | .clearStorePassDone cyc extra => Sys2Proof.Machine.execClearStorePassDone cyc extra s
  | .keyLoad cyc => Sys2Proof.Machine.execKeyLoad cyc s
  | .keySpread => Sys2Proof.Machine.execKeySpread s
  | .keyZero cyc => Sys2Proof.Machine.execKeyZero cyc s
  | .powerOnReset => Sys2Proof.Machine.execPowerOnReset s
  | .resetRelease => Sys2Proof.Machine.execResetRelease s
  | .domainSwitchOn cyc d => Sys2Proof.Machine.execDomainSwitchOn cyc d s
  | .domainPowerGood cyc d => Sys2Proof.Machine.execDomainPowerGood cyc d s
  | .bootRom cyc pass => Sys2Proof.Machine.execBootRom cyc pass s
  | .load cyc => Sys2Proof.Machine.execLoad cyc s
  | .imageLoaded cyc => Sys2Proof.Machine.execImageLoaded cyc s
  | .prepare cyc taps => Sys2Proof.Machine.execPrepare cyc taps s
  | .epoch cyc => Sys2Proof.Machine.execEpoch cyc s
  | .startTest cyc => Sys2Proof.Machine.execStartTest cyc s
  | .openHarbour cyc => Sys2Proof.Machine.execOpenHarbour cyc s
  | .openingTick => Sys2Proof.Machine.execOpeningTick s
  | .close cyc => Sys2Proof.Machine.execClose cyc s
  | .update cyc => Sys2Proof.Machine.execUpdate cyc s
  | .updateLeave => Sys2Proof.Machine.execUpdateLeave s
  | .updateLoadDone cyc => Sys2Proof.Machine.execUpdateLoadDone cyc s
  | .updateHandover => Sys2Proof.Machine.execUpdateHandover s
  | .updateQuayReload cyc => Sys2Proof.Machine.execUpdateQuayReload cyc s
  | .triplexRejoin core same => Sys2Proof.Machine.execTriplexRejoin core same s
  | .lockstepGo cyc => Sys2Proof.Machine.execLockstepGo cyc s
  | .lockstepStartTimeout cyc => Sys2Proof.Machine.execLockstepStartTimeout cyc s
  | .lockstepStop cyc => Sys2Proof.Machine.execLockstepStop cyc s
  | .lockstepContribution cyc l => Sys2Proof.Machine.execLockstepContribution cyc l s
  | .quayDigest cyc q => Sys2Proof.Machine.execQuayDigest cyc q s
  | .lockstepSlotSend cyc refused => Sys2Proof.Machine.execLockstepSlotSend cyc refused s
  | .lockstepCompare ue => Sys2Proof.Machine.execLockstepCompare ue s
  | .bollardAccess cyc q value answered => Sys2Proof.Machine.execBollardAccess cyc q value answered s
  | .bollardAccessTimeout cyc q => Sys2Proof.Machine.execBollardAccessTimeout cyc q s
  | .lmSideportAccess cyc p w => Sys2Proof.Machine.execLmSideportAccess cyc p w s
  | .scanStart cyc p w => Sys2Proof.Machine.execScanStart cyc p w s
  | .mbistStart cyc p w => Sys2Proof.Machine.execMbistStart cyc p w s
  | .ping cyc args => Sys2Proof.Machine.execPing cyc args s
  | .bolRead cyc args => Sys2Proof.Machine.execBolRead cyc args s
  | .lmRead cyc args => Sys2Proof.Machine.execLmRead cyc args s
  | .pmbusRead cyc args => Sys2Proof.Machine.execPmbusRead cyc args s
  | .manifestCheck cyc args => Sys2Proof.Machine.execManifestCheck cyc args s
  | .syncDump cyc args => Sys2Proof.Machine.execSyncDump cyc args s
  | .cmdBadOp cyc op args => Sys2Proof.Machine.execCmdBadOp cyc op args s
  | .cmdComplete cyc data bad ce => Sys2Proof.Machine.execCmdComplete cyc data bad ce s
  | .storeApertureAccess cyc addr size data write parBad ue ce => Sys2Proof.Machine.execStoreApertureAccess cyc addr size data write parBad ue ce s
  | .tapSegment cyc seg kind ty unit write opening => Sys2Proof.Machine.execTapSegment cyc seg kind ty unit write opening s
  | .registerWrite cyc addr size data parBad => Sys2Proof.Machine.execRegisterWrite cyc addr size data parBad s
  | .flashAccessDone cyc ok found => Sys2Proof.Machine.execFlashAccessDone cyc ok found s
  | .pmbusTransactionDone cyc ack data => Sys2Proof.Machine.execPmbusTransactionDone cyc ack data s
  | .unitRetestDone cyc k pass => Sys2Proof.Machine.execUnitRetestDone cyc k pass s
  | .linkDomainPower cyc p => Sys2Proof.Machine.execLinkDomainPower cyc p s

end Sys2Proof.Machine
end

