-- ==== Sys2Proof/Safety.lean ====
section
/-!
DEFINITION. The terms in which claims are stated: the end of a command, when a page of registers takes the host's writes, what the pins show, and what a
command leaves alone.
-/

namespace Sys2Proof.Machine

/-- The state after a command at core cycle `c` whose effect is `k`: nothing is driven at first, the queue and the design-time values are kept, and at the end the
alarms and pins follow from the state. -/
def State.after (s : State) (c : Nat) (k : State → State) : State :=
  State.settle { k (s.begin_ c) with pending := s.pending, sp := s.sp }

/-- The page of place `a` takes the host's writes: it is served and enabled (R640, R644). -/
def State.takesWrites (s : State) (a : Nat) : Prop := s.pageReady a = true ∧ s.pageEn a = true

/-- The page of place `a` takes a host's GO: it takes writes, and the triplex is present to serve it (R601, R640, R644). -/
def State.takesGo (s : State) (a : Nat) : Prop := s.takesWrites a ∧ s.flag HM_TRIPLEX_STAT_ABSENT = false

/-- Every acknowledged alarm cause is a latched one whose condition still holds (R497). -/
def State.AlarmsFollow (s : State) : Prop :=
  ∀ c < 6, (s.get HM_FAULT_ALARM_ACKED).testBit c = true → (s.get HM_FAULT_ALARM_CAUSE).testBit c = true ∧ s.alarmHolds c = true

/-- ALARM_N and the four interrupt pins show what the state says (R496, R497, R559, R650). -/
def State.PinsFollow (s : State) : Prop :=
  s.get HM_FAULT_ALARM_PIN = bit (decide (s.get HM_FAULT_ALARM_CAUSE ≠ 0))
  ∧ s.get HM_IRQ_STAT_PINS = bit s.irq0 + 2 * bit (s.irqEvents 0 8) + 4 * bit s.irq2 + 8 * bit (s.irqEvents 16 5)

/-- From `s` to `t` no register changes but those of `regs`, and HM_FAULT_ALARM and the PINS field of HM_IRQ_STAT, which follow the state at the end of every
command; no byte of a store changes. -/
def State.RegFrame (s t : State) (regs : List Nat) : Prop :=
  (∀ a, a ∉ regs → a ≠ HM_FAULT_ALARM → a ≠ HM_IRQ_STAT → t.word a = s.word a)
  ∧ (HM_IRQ_STAT ∉ regs → ∀ lo w, lo + w ≤ 24 → fieldOf (t.word HM_IRQ_STAT) lo w = fieldOf (s.word HM_IRQ_STAT) lo w)
  ∧ t.mem = s.mem ∧ t.rtDev = s.rtDev

/-- From `s` to `t` nothing that a Bollard or a quay holds beside its registers changes. -/
def State.UnitFrame (s t : State) : Prop := t.tiles = s.tiles ∧ t.quays = s.quays

/-- From `s` to `t` the triplex, the commit control, the hawsers and the queues of messages keep what they hold beside their registers. -/
def State.ControlFrame (s t : State) : Prop :=
  t.commit = s.commit ∧ t.hawser = s.hawser ∧ t.rst = s.rst ∧ t.customs = s.customs ∧ t.test = s.test ∧ t.start = s.start ∧ t.lock = s.lock
  ∧ t.alarms = s.alarms ∧ t.frames = s.frames ∧ t.sampReqs = s.sampReqs ∧ t.outSigs = s.outSigs ∧ t.shadowSigs = s.shadowSigs
  ∧ t.disputes = s.disputes ∧ t.moves = s.moves ∧ t.demands = s.demands ∧ t.l2p = s.l2p ∧ t.keys = s.keys

end Sys2Proof.Machine
end

