-- ==== Sys2Proof/Certificates/Slice0/Obligations.lean ====
section
/-!
DEFINITION. The statements for the provers: one `Obligations.<Name>` per obligation, each with the rules of spec/ that it rests on.
-/

open Sys2Proof Sys2Proof.Machine

/-- The timebase's commands complete. TICK_STROBE (R25), once the device epoch runs, enters cycle 0 of the next tick and does the work of the tick boundary.
PPS_EDGE (R28), of the configured polarity: with an alignment pending in a closed harbour (R32) it gives the tick after the present one as the base of seconds
and clears phase, drift and owed slew; else, out of FREE, it is accepted inside ±132,000 cc or while a reference is taken anew, and is a stray edge otherwise.
ALIGN (R32), in a closed harbour, asks for the alignment. TIME_HOLDOVER (R31), two seconds after the last accepted edge, takes LOCKED to HOLDOVER with its
record. HOLDOVER_SECOND (R29), at a second boundary in HOLDOVER, owes the clamped drift and restarts the accumulator. SLEW_DECISION (R29), out of FREE, slews
by one granule once the accumulator has reached the cap, and else only accumulates. -/
def Obligations.TimebaseCompletes : Prop :=
  ∀ s : State, s.start.held = false →
    (∀ bad flits, s.time.epoch = true → exec (.tickStrobe bad flits) s = .next (s.after 0 fun u =>
        { u.aftermath (u.tickStrobe bad flits) with time.tick := s.time.tick + 1, time.cyc := 0 }))
    ∧ (∀ bad flits, s.time.epoch = true → ∃ t, exec (.tickStrobe bad flits) s = .next t ∧ t.time.tick = s.time.tick + 1 ∧ t.time.cyc = 0)
    ∧ (∀ c f, s.flag HM_TIME_CTL_PPS_POL = f → s.time.alignReq = true → s.isOpen = false → exec (.ppsEdge c f) s = .next (s.after c fun u =>
        let v := u.capture (u.stampOf u.time.cyc)
        let v := (v.put HM_TIME_SEC_BASE_BASE (v.time.tick + 1)).put HM_TIME_STAT_ALIGNED 1
        let v := ((v.put HM_TIME_STAT_PHASE 0).put HM_TIME_SLEW_DRIFT 0).put HM_TIME_SLEW_OWED 0
        ({ v with time.alignReq := false, time.alignNow := true, time.acc := 0, time.nearEdges := 0 } : State).logTime 0x0105))
    ∧ (∀ c f, s.flag HM_TIME_CTL_PPS_POL = f → s.time.alignReq = false → s.get HM_TIME_STAT_STATE ≠ tsFree →
        exec (.ppsEdge c f) s = .next (s.after c fun u =>
          let m := u.stampOf u.time.cyc
          if (u.phaseOf m).natAbs ≤ 132000 ∨ s.time.reacquired = true then u.acceptEdge m (u.phaseOf m) else u.strayEdge m (u.phaseOf m)))
    ∧ (∀ c, s.takesWrites HM_TIME_CTL → s.isOpen = false →
        exec (.align c) s = .next (s.after c fun u => ({ u with time.alignReq := true } : State).emit (.hport 0 0)))
    ∧ (∀ c, s.get HM_TIME_STAT_STATE = tsLocked → (s.begin_ c).edgeMissing = true → exec (.timeHoldover c) s = .next (s.after c fun u =>
        { (u.put HM_TIME_STAT_STATE tsHoldover).logTime 0x0102 with time.afterHold := true, time.nearEdges := 0, time.strays := [] }))
    ∧ (s.get HM_TIME_STAT_STATE = tsHoldover → s.secondStarts = true → exec .holdoverSecond s = .next (s.after 0 fun u =>
        { u.put HM_TIME_SLEW_OWED (toField (clampAbs s.drift s.slewCap) 32) with time.acc := 0 }))
    ∧ (s.get HM_TIME_STAT_STATE ≠ tsFree → s.slewCap ≤ s.time.acc + s.owed.natAbs → 0 < s.slewCap → exec .slewDecision s = .next (s.after 0 fun u =>
        let v := u.at_ (s.tickLen - s.granule - 1)
        { v with time.acc := s.time.acc + s.owed.natAbs - s.slewCap, time.slew := if 0 < s.owed then (s.granule : Int) else -(s.granule : Int) }))
    ∧ (s.get HM_TIME_STAT_STATE ≠ tsFree → s.time.acc + s.owed.natAbs < s.slewCap → exec .slewDecision s = .next (s.after 0 fun u =>
        let v := u.at_ (s.tickLen - s.granule - 1)
        { v with time.acc := s.time.acc + s.owed.natAbs, time.slew := 0 }))

/-- The beats of the tile sideband complete, on a tile whose compute domain is good. SIDEBAND_DESC (R58) closes the steps before it (R139) and opens a tile:
one without fault that finds a free place joins the open tiles with its own descriptor; one that four open tiles refuse is kept as refused and sets cause
DESC. SIDEBAND_ADDR (R142) goes to the tile that awaits its address, whose sample, audit and far decisions follow; one that no tile awaits is a stray beat.
SIDEBAND_STEP (R54) closes the steps, is progress and leaves its number, which ends a functional vector and forms the lockstep contribution. SIDEBAND_SLEEP
(R73) with channels gates the core unless a wake is pending or falls in its cycle; with mask 0 it is a park (R276). -/
def Obligations.SidebandCompletes : Prop :=
  ∀ (s : State) (c p : Nat), s.start.held = false → s.isTile p = true → s.cdomOk p = true →
    (∀ d : BitVec 64, exec (.sidebandDesc c p d) s = .next (s.after c fun u => (u.closeSteps p).descBeat p d))
    ∧ (∀ d : BitVec 64, (s.tile p).steps = [] → (s.tile p).opens.length < 4 → descReason d false = 0 → exec (.sidebandDesc c p d) s = .next (s.after c fun u =>
        let v := (((u.modTile p (fun t => { t with steps := [] })).put (BOL_CTX_NEXT_SEQ p) (dSeq d + 1)).setWord (BOL_DESC p) d)
        (v.modTile p (fun t => { t with opens := t.opens ++ [OpenTile.start d v.jt 0 false] })).showCtx p))
    ∧ (∀ (w : BitVec 64) a b o l, (s.tile p).lastRefused = none → (s.tile p).awaitsAddr = some l → (s.tile p).opens[l]? = some o →
        (o.judged = false → addrBad o.desc w = false) → exec (.sidebandAddr c p w a b) s = .next (s.after c fun u =>
          ((u.setWord (BOL_ADDR p) w).setOpen p l { o with addr := some w }).decide_ p l a b))
    ∧ (∀ (w : BitVec 64) a b, (s.tile p).lastRefused = none → (s.tile p).awaitsAddr = none →
        exec (.sidebandAddr c p w a b) s = .next (s.after c fun u => u.strayBeat p))
    ∧ (∀ n, exec (.sidebandStep c p n) s = .next (s.after c fun u =>
        let v := ((u.closeSteps p).progressAt p).put (BOL_WDOG_LAST_STEP p) (n % 2 ^ 32)
        let v := if v.role p = roleTest ∧ (v.engine p).running = 3 then v.vectorStep p else v
        v.lockStep p (n % 2 ^ 32)))
    ∧ (∀ m, m % 2 ^ 16 ≠ 0 → exec (.sidebandSleep c p m) s = .next (s.after c fun u => (u.closeSteps p).sleepBeat p (m % 2 ^ 16)))
    ∧ (∀ m, m % 2 ^ 16 = 0 → exec (.sidebandSleep c p m) s = .next (s.after c fun u => (u.closeSteps p).park p))

/-- The taps complete, on a tile whose compute domain is good. OPERAND_TAP_BEAT (R60): an element beat goes to the tile in its operand phase and is folded
into its panel, cause COUNT being set where the beat does not fit; a scale beat is taken up by that tile; a beat that finds no tile in its operand phase is a
stray beat. WRITEBACK_BEAT (R64): the beat's elements and its signature are added to the first open tile; the beat that fills it closes it; without an open
tile it is a stray beat. -/
def Obligations.TapsComplete : Prop :=
  ∀ (s : State) (c p : Nat), s.start.held = false → s.isTile p = true → s.cdomOk p = true →
    (∀ isB scale (data : BitVec 256) lanes l idx lend, exec (.operandTapBeat c p isB scale data lanes l idx lend) s = .next (s.after c fun u =>
        u.operandBeat p isB scale data lanes l idx lend))
    ∧ (∀ o isB (data : BitVec 256) lanes l idx lend, (s.tile p).opens = [o] → (s.tile p).refused = none → o.touched = true → o.operandsDone = false →
        exec (.operandTapBeat c p isB false data lanes l idx lend) s = .next (s.after c fun u =>
          let r := o.elemBeat u.now isB data lanes l idx lend
          let v := (u.setOpen p 0 { r.1 with miscount := r.1.miscount || r.2 }).showCtx p
          if r.2 = true then v.cause p cCount else v))
    ∧ (∀ o isB (data : BitVec 256) lanes l idx lend, (s.tile p).opens = [o] → (s.tile p).refused = none → o.touched = true → o.operandsDone = false →
        exec (.operandTapBeat c p isB true data lanes l idx lend) s = .next (s.after c fun u => u.setOpen p 0 (o.scaleBeat isB data lanes l idx)))
    ∧ (∀ isB scale (data : BitVec 256) lanes l idx lend, (s.tile p).operandTile = none →
        exec (.operandTapBeat c p isB scale data lanes l idx lend) s = .next (s.after c fun u => u.strayBeat p))
    ∧ (∀ (data : BitVec 256) lanes i j, exec (.writebackBeat c p data lanes i j) s = .next (s.after c fun u => u.beatDone (u.writeBack p data lanes i j) p))
    ∧ (∀ o (data : BitVec 256) lanes i j, (s.tile p).opens = [o] → (s.tile p).refused = none → o.touched = true → dFmt o.desc < 8 →
        o.wb + lanes ≤ dM o.desc * dN o.desc → (o.wbBeat data lanes i j).wb < dM o.desc * dN o.desc →
        exec (.writebackBeat c p data lanes i j) s = .next (s.after c fun u =>
          u.beatDone (u.setOpen p 0 { o.wbBeat data lanes i j with sig := o.sig ^^^ wbSig (dFmt o.desc) data lanes i j }) p))

/-- What a Bollard sees of its core, router and compute domain completes. CORE_ERROR (R76), with the domain good: the edges are kept in BOL_CERR with the tick
of the first, the Breakwater is applied, and cause CORE is set. LM_CE_INFO (R101) counts a correction. LINK_DOWN (R78): DOWN becomes the present level; the
links newly lost are counted as LOSSES, or with traffic in flight as INFLIGHT_LOSSES with cause LINK, and recorded. ROUTER_FAULT (R65) sets cause ROUTER.
CDOM_LOSS (R84) lowers CDOM_OK and resets the core's side of the Bollard. CDOM_POWER_GOOD and CDOM_POWER_TIMEOUT (R518) end the wait of a compute reset.
INGRESS_SINK (R79) at a guarded tile counts the flit and answers it HARBOUR_CLOSED. BOLLARD_WATCHDOG (R75): four ticks without progress on a JOB core hang it
and record it. -/
def Obligations.TileEventsComplete : Prop :=
  ∀ (s : State) (c p : Nat), s.start.held = false → s.isTile p = true →
    (∀ b, s.cdomOk p = true → b % 16 ≠ 0 → exec (.coreError c p b) s = .next (s.after c fun u =>
        let v := if s.get (BOL_CERR_SEEN p) = 0 then u.put (BOL_CERR_TICK p) (s.jt % 2 ^ 32) else u
        let v := (v.put (BOL_CERR_SEEN p) (v.get (BOL_CERR_SEEN p) ||| b % 16)).coin (.set (BOL_CERR p) (BitVec.ofNat 64 (b % 16)))
        (v.breakwater p 1).cause p cCore))
    ∧ (s.cdomOk p = true → exec (.lmCeInfo c p) s = .next (s.after c fun u => u.lmCe p))
    ∧ (∀ links hot, exec (.linkDown c p links hot) s = .next (s.after c fun u => u.linkDown p links hot))
    ∧ (∀ links, links % 16 ≠ 0 → s.get (BOL_RTR_DOWN p) = 0 → exec (.linkDown c p links 0) s = .next (s.after c fun u =>
        let v := u.put (BOL_RTR_DOWN p) (links % 16)
        let v := v.count (BOL_RTR_LOSSES p) ((List.range 4).filter (fun i => (links % 16).testBit i)).length
        let v := v.count (BOL_RTR_INFLIGHT_LOSSES p) 0
        v.logTile p 0x050B (v.jt % 2 ^ 32) (links % 16) 0 0))
    ∧ (exec (.routerFault c p) s = .next (s.after c fun u => (u.put (BOL_RTR_FAULT p) 1).cause p cRouter))
    ∧ (exec (.cdomLoss c p) s = .next (s.after c fun u => u.cdomLoss p))
    ∧ (exec (.cdomPowerGood c p) s = .next (s.after c fun u => (u.cdomGood p).rstStep))
    ∧ (exec (.cdomPowerTimeout c p) s = .next (s.after c fun u => (u.cdomTimeout p).rstStep))
    ∧ (∀ source tag, s.flag (BOL_STAT_GUARD_ACTIVE p) = true → s.isOpen = true → exec (.ingressSink c p source tag) s = .next (s.after c fun u =>
        let v := u.bump (BOL_SINK_CNT_CNT p) 1
        match source with
        | some src => v.emit (.harbourClosed p src tag)
        | none => v))
    ∧ (∀ source tag, exec (.ingressSink c p source tag) s = .next (s.after c fun u =>
        (if !s.isOpen && s.flag (BOL_STAT_GUARD_ACTIVE p) && source.isSome then u.closedAnswer 1 else u).ingress p source tag))
    ∧ (s.flag (BOL_CTL_WDOG_EN p) = true → s.role p = roleJob → 4 ≤ s.get (BOL_WDOG_IDLE_TICKS p) →
        exec (.bollardWatchdog c p) s = .next (s.after c fun u => (u.hang p).logTile p 0x0C01 p (s.lcore p) (s.get (BOL_WDOG_LAST_STEP p)) (s.jt % 2 ^ 32)))

/-- Clearance's commands complete. CLEARANCE_REQUEST (R448): the claims of one cycle are served in the rotation of R17, each core's through its Bollard's
clamp; a single one of a core that the bucket covers, after the sub-tick's share, is granted from the bucket. CLEARANCE_RELEASE (R444): the fall of a core's
request gives its two tokens back, that of the test engine's gives back what it held. CLEARANCE_OVERHOLD (R445): a hold past HOLD_MAX is recorded once.
SUBTICK_REDISTRIBUTE (R447): a share that is due is given at the sub-tick's cycle 0. -/
def Obligations.ClearanceCompletes : Prop :=
  ∀ (s : State) (c p : Nat), s.start.held = false → s.isTile p = true →
    (∀ l, exec (.clearanceRequest c l) s = .next (s.after c fun u => u.clrRequests l))
    ∧ (∀ cls, cls < 2 → s.cdomOk p = true → (s.begin_ c).clrBusy p false = false → (s.begin_ c).beforeShare (quayOf p) = false →
        s.flag (QY_CLEAR_CTL_EN (quayOf p)) = true → s.govState (quayOf p) ≠ gvPfail → clrCost cls ≤ s.get (BOL_CLR_BUCKET p) →
        exec (.clearanceRequest c [(p, false, cls)]) s = .next (s.after c fun u =>
          let v := u.put (BOL_CLR_BUCKET p) (s.get (BOL_CLR_BUCKET p) - clrCost cls)
          let v := v.put (QY_CLEAR_TOK_BUCKETS (quayOf p)) (v.get (QY_CLEAR_TOK_BUCKETS (quayOf p)) - clrCost cls)
          v.clrGrant ⟨p, false, cls, u.now⟩ true))
    ∧ (s.flag (BOL_CLR_CORE_HOLD p) = true →
        exec (.clearanceRelease c p false) s = .next (s.after c fun u =>
          ((u.modTile p (fun t => { t with clrBad := false })).put (BOL_CLR_CORE_HOLD p) 0).giveBack p 2))
    ∧ (s.flag (BOL_CLR_ENG_HOLD p) = true →
        exec (.clearanceRelease c p true) s = .next (s.after c fun u =>
          (u.put (BOL_CLR_ENG_HOLD p) 0).giveBack p (s.get (BOL_CLR_HELD p) - if s.flag (BOL_CLR_CORE_HOLD p) = true then 2 else 0)))
    ∧ (s.flag (BOL_CLR_CORE_HOLD p) = true → (s.tile p).clrOver = false →
        s.get (QY_CLEAR_CTL_HOLD_MAX (quayOf p)) < ((s.begin_ c).since (s.tile p).clrSince).toNat →
        exec (.clearanceOverhold c p) s = .next (s.after c fun u =>
          let v := (u.modTile p (fun t => { t with clrOver := true })).count (QY_CLEAR_CNT1_OVERHOLD (quayOf p)) 1
          v.logTile p 0x0A0C p (v.get (BOL_CLR_CLASS p)) (min (u.since (s.tile p).clrSince).toNat 0xFFFFFFFF) v.tick32))
    ∧ (∀ q k, q < s.nQuays → s.shareDue q k = true → exec (.subtickRedistribute q k) s = .next (s.after 0 fun u => u.redistribute q k))

/-- The Hawser's commands complete. HAWSER_ARRIVE (R395), from a core whose domain is good: at a slot without a barrier it is recorded as a stray; the first
arrival of a round inverts B and reaches the fallback count; one more is kept as pending; a third is counted and recorded as an overrun. HAWSER_RELEASE (R396)
of a slot that is due pulses HWC_RELEASE, turns the sense, takes a pending arrival into the next round and restores the clock. HAWSER_ROUND_COMPLETE (R392): a
barrier's complete round on one device counts and releases the group; the other lines complete by their own rule. HWX_FRAME (R420): a frame on a lane in use
is checked and gathered or applied; a calibration frame of a closed device is answered. CAL_GO (R421) on the ring master of a closed device starts the pings,
or ends at once on a single wafer; HWX_CAL_TIMEOUT (R421), 4,096 cc after the last ping, ends the calibration as failed. REALIGN (R412), at a realignment tick
of an open harbour, runs the round of HW2 whose completion rebases the mirrors. -/
def Obligations.HawserCompletes : Prop :=
  ∀ (s : State) (c : Nat), s.start.held = false →
    (∀ p k, s.isTile p = true → s.cdomOk p = true →
        ((s.slot p k).entry = none → exec (.hawserArrive c p k) s = .next (s.after c fun u => u.logTile p 0x0902 p k (s.jt % 2 ^ 32) 0))
        ∧ (∀ e, (s.slot p k).entry = some e → (s.slot p k).arrived = false →
            exec (.hawserArrive c p k) s = .next (s.after c fun u => (u.setSlot p k { s.slot p k with b := (s.slot p k).sense }).fallbackArrive p e))
        ∧ (∀ e, (s.slot p k).entry = some e → (s.slot p k).arrived = true → (s.slot p k).pend = false →
            exec (.hawserArrive c p k) s = .next (s.after c fun u => (u.setSlot p k { s.slot p k with pend := true }).refreshHold p))
        ∧ (∀ e, (s.slot p k).entry = some e → (s.slot p k).arrived = true → (s.slot p k).pend = true →
            exec (.hawserArrive c p k) s = .next (s.after c fun u =>
              (((u.count (HM_HAWSER_CNT_OVERRUNS (3 + k)) 1).logTile p 0x0901 p k (s.jt % 2 ^ 32) 0).modTile p (fun t => { t with overrun := true })).refreshHold p)))
    ∧ (∀ p k e, s.isTile p = true → (s.slot p k).entry = some e → (s.slot p k).due = true →
        exec (.hawserRelease c p k) s = .next (s.after c fun u =>
          let x := s.slot p k
          let v := ((u.emit (.hwcRelease p k)).setSlot p k
            { x with due := false, sense := !x.sense, b := if x.pend then !x.sense else x.b, pend := false }).refreshHold p
          if x.pend = true then v.fallbackArrive p e else v))
    ∧ (∀ line k, exec (.hawserRoundComplete c line k) s = .next (s.after c fun u => (u.roundComplete line k).1.hw2Done (u.roundComplete line k).2))
    ∧ (∀ line k, 3 ≤ line → line ≤ 7 → (s.group k).slot = line - 3 → s.membersOf k ≠ [] →
        (∀ p ∈ s.membersOf k, (s.slot p (line - 3)).arrived = true ∧ (s.slot p (line - 3)).due = false) → (s.group k).mode = 1 →
        exec (.hawserRoundComplete c line k) s = .next (s.after c fun u => (u.countRound line).releaseGroup k))
    ∧ (∀ lane frame a b, exec (.hwxFrame c lane frame 0 a b) s = .next (s.after c fun u =>
          let r := u.hwxFrame lane frame
          (if r.2.2 = true then r.1.latchHm 23 false 0 else r.1).hw2Done r.2.1))
    ∧ (∀ lane frame a b, 2 ≤ lane → lane ≤ 7 → s.xen lane = true → s.isOpen = true → frame.testBit 0 = true →
        ((frame.testBit 1).xor ((frame.testBit 2).xor ((frame.testBit 3).xor ((frame.testBit 4).xor (frame.testBit 5))))) = false → frame.testBit 1 = false →
        exec (.hwxFrame c lane frame 0 a b) s = .next (s.after c fun u =>
          let r := (u.setExt lane { s.ext lane with gather := some (frame.testBit 2) }).driveRing lane
          r.1.hw2Done r.2))
    ∧ (∀ lane frame cal a b, cal ≠ 0 → s.isOpen = false → phConfig ≤ s.phaseNo →
        exec (.hwxFrame c lane frame cal a b) s = .next (s.after c fun u => u.calFrame cal a b))
    ∧ (s.takesWrites HM_HAWSER_XCTL → s.isOpen = false → s.ringMaster = true → exec (.calGo c) s = .next (s.after c fun u =>
        let v := ((u.put HM_HAWSER_XCAL_CAL_STATE 1).put HM_HAWSER_XCAL_DPOS 0).put HM_HAWSER_XCAL_LOOP 0
        let v := ({ v with hawser.calTrips := [] } : State)
        (if v.get HM_HAWSER_XCTL_WAFERS ≤ 1 then v.calSpread else v.calPing 1).emit (.hport 0 0)))
    ∧ (s.get HM_HAWSER_XCAL_CAL_STATE = 1 → 4096 ≤ (s.begin_ c).calSince → exec (.hwxCalTimeout c) s = .next (s.after c fun u => u.calEnd 3))
    ∧ (s.isOpen = true → s.jt % 2 ^ s.get HM_HAWSER_CTL_REALIGN_LOG2 = 0 → s.hawser.realigned ≠ some s.time.tick → s.hawser.hw2 = 0 →
        exec (.realign c) s = .next (s.after c fun u =>
          let v := u.at_ (s.commitAt + 1)
          let v : State := { v with hawser.realigned := some s.time.tick, hawser.hw2 := 4 }
          let r := if v.xen 2 = true then (v.setExt 2 { v.ext 2 with own := some (v.lineSense 2) }).driveRing 2 else (v.countRound 2, true)
          r.1.hw2Done r.2))

/-- Wakes complete. WAKE_CHANNEL (R73): a fire of the channel that has crossed the wake bus reaches every tile of the region, where it wakes a sleeper whose
mask names it and is kept as pending elsewhere. WAKE_MESSAGE (R407): a wake from another quay fires its channel, counted as remote. WAKE_FORCE (R439): a
host's write fires every channel of its mask once, in the rotating order. -/
def Obligations.WakesComplete : Prop :=
  ∀ (s : State) (c q : Nat), s.start.held = false → q < s.nQuays →
    (∀ ch e, (s.begin_ c).busDue q ch = some e → exec (.wakeChannel c q ch) s = .next (s.after c fun u =>
          let v : State := { u with hawser.bus := s.hawser.bus.erase e }
          (s.touchedTiles.filter (fun p => decide (quayOf p = q))).foldl (fun v p => v.wakeAt p ch) v))
    ∧ (∀ ch e, s.hawser.wakes.find? (fun e => decide (e.1 = q) && decide (e.2.1 = ch)) = some e →
        exec (.wakeMessage c q ch) s = .next (s.after c fun u =>
          ({ u with hawser.wakes := s.hawser.wakes.erase e } : State).fireChannel q ch e.2.2.1 e.2.2.2 true))
    ∧ (∀ mask, s.takesWrites (QY_WAKE_FORCE q) → exec (.wakeForce c q mask) s = .next (s.after c fun u =>
        ((orderBy (fun ch => (ch + 16 - s.jt % 16) % 16) ((List.range 16).filter (fun ch => mask.testBit ch))).foldl (fun v ch =>
          let r := v.free
          r.2.fireChannel q ch (r.1.toNat % 2 ^ 10) (r.1.toNat / 2 ^ 10 % 2 ^ 6) false) u).emit (.hport 0 0)))
    ∧ (∀ ch, ch < 16 → s.takesWrites (QY_WAKE_FORCE q) → exec (.wakeForce c q (2 ^ ch)) s = .next (s.after c fun u =>
        let r := u.free
        (r.2.fireChannel q ch (r.1.toNat % 2 ^ 10) (r.1.toNat / 2 ^ 10 % 2 ^ 6) false).emit (.hport 0 0)))

/-- Accesses to a Bollard and to a tile's local memory complete. LM_SIDEPORT_ACCESS (R103): a write of BOL_LM_ADDR clears ERR and DONE and puts the read or
the write to the side port. SIDEPORT_ACK (R53, R81): the access that ends is that of the claimant R17 chooses; a host's access takes the data of a read, ERR
and DONE; an uncorrectable error on a held input sets cause LMUE, and one of a migration's read is its failure. SIDEPORT_TIMEOUT (R493): the same with
LM_ERR[1] and no data, and the late checker fires. SCAN_START (R330), with ZERO_OK 1 or without START, sets MODE and SLICE and starts the engine; MBIST_START
(R331), with ZERO_OK 1 for OP 1 and 2, starts OP 1 or 2 on the engine, reloads the repairs for OP 3, and asks for OP 4. BOLLARD_ACCESS (R88), while no access
is running, reads or writes the register it selects, or stays BUSY where the Bollard does not answer; BOLLARD_ACCESS_TIMEOUT (R87) then ends it as VOID. -/
def Obligations.BollardAccessCompletes : Prop :=
  ∀ (s : State) (c p : Nat), s.start.held = false → s.isTile p = true →
    (∀ w : BitVec 64, exec (.lmSideportAccess c p w) s = .next (s.after c fun u =>
        let v := ((u.put (BOL_LM_ADDR_WORD p) (fieldOf w 0 13)).put (BOL_LM_ADDR_WE p) (fieldOf w 13 1)).put (BOL_LM_ADDR_ERR p) 0
        let v := v.put (BOL_LM_ADDR_DONE p) 0
        v.emit (.lmReq p (decide (fieldOf w 13 1 = 1)) (fieldOf w 0 13) (if fieldOf w 13 1 = 1 then v.word (BOL_LM_DATA p) else 0))))
    ∧ (∀ claims client word (data : BitVec 64) err held, s.cdomOk p = true → rotWinner s.jt 4 claims = some client →
        exec (.sideportAck c p claims word data err held) s = .next (s.after c fun u =>
          (u.sideportEnd p client word data err held).checker 2 p 11 0 (bit held) false))
    ∧ (∀ word (data : BitVec 64), s.cdomOk p = true → s.flag (BOL_LM_ADDR_WE p) = false →
        exec (.sideportAck c p [2] word data 0 false) s = .next (s.after c fun u =>
          (((u.setWord (BOL_LM_DATA p) data).put (BOL_LM_ADDR_ERR p) 0).put (BOL_LM_ADDR_DONE p) 1).checker 2 p 11 0 0 false))
    ∧ (∀ claims client word held, rotWinner s.jt 4 claims = some client →
        exec (.sideportTimeout c p claims word held) s = .next (s.after c fun u =>
          (u.sideportEnd p client word 0 2 held).checker 2 p 11 0 (bit held) true))
    ∧ (∀ word, s.flag (BOL_LM_ADDR_WE p) = false → exec (.sideportTimeout c p [2] word false) s = .next (s.after c fun u =>
        (((u.setWord (BOL_LM_DATA p) 0).put (BOL_LM_ADDR_ERR p) 2).put (BOL_LM_ADDR_DONE p) 1).checker 2 p 11 0 0 true))
    ∧ (∀ w : BitVec 64, s.get (BOL_SCAN_ZERO_OK p) = 1 → fieldOf w 0 2 ≠ 0 → fieldOf w 7 1 = 1 → exec (.scanStart c p w) s = .next (s.after c fun u =>
        let mode := fieldOf w 0 2
        let v := (u.put (BOL_SCAN_MODE p) mode).put (BOL_SCAN_SLICE p) (fieldOf w 2 5)
        let seed := if mode = 3 then (v.engine p).saved else v.scanSeed (quayOf p) (v.scanPlace p).1 mode (v.scanPlace p).2 0
        ((v.startEngine p (if mode = 3 then 4 else 1) seed).put (BOL_SCAN_STATE p) 1).put (BOL_SCAN_DIAG_DONE p) 0))
    ∧ (∀ w : BitVec 64, fieldOf w 0 2 = 0 ∨ fieldOf w 7 1 = 0 → exec (.scanStart c p w) s = .next (s.after c fun u =>
        (u.put (BOL_SCAN_MODE p) (fieldOf w 0 2)).put (BOL_SCAN_SLICE p) (fieldOf w 2 5)))
    ∧ (∀ w : BitVec 64, fieldOf w 3 1 = 1 → 1 ≤ fieldOf w 0 3 → fieldOf w 0 3 ≤ 4 → (fieldOf w 0 3 ≤ 2 → s.get (BOL_SCAN_ZERO_OK p) = 1) →
        exec (.mbistStart c p w) s = .next (s.after c fun u => u.mbistStart p w))
    ∧ (∀ w : BitVec 64, fieldOf w 3 1 = 1 → fieldOf w 0 3 = 3 → exec (.mbistStart c p w) s = .next (s.after c fun u =>
        let v := ((u.put (BOL_MBIST_OP p) 3).put (BOL_MBIST_REPN p) (fieldOf w 29 3)).put (BOL_MBIST_REP0 p) (fieldOf w 32 10)
        (((v.put (BOL_MBIST_REP1 p) (fieldOf w 42 10)).put (BOL_MBIST_REP2 p) (fieldOf w 52 10)).put (BOL_MBIST_STATE p) 1).loadRepairs p))
    ∧ (∀ q (v : BitVec 64) ok, q < s.nQuays → s.takesWrites (QY_BOL_SEL q) → s.flag (QY_BOL_SEL_BUSY q) = false → fieldOf v 0 14 < regionTiles →
        exec (.bollardAccess c q v ok) s = .next (s.after c fun u =>
          let u := ((u.put (QY_BOL_SEL_TILE q) (fieldOf v 0 14)).put (QY_BOL_SEL_REG q) (fieldOf v 14 5)).put (QY_BOL_SEL_WR q) (fieldOf v 19 1)
          let u := u.put (QY_BOL_SEL_VOID q) 0
          let p := tileOf q (fieldOf v 0 14)
          let i := fieldOf v 14 5
          (if ok = false then u.put (QY_BOL_SEL_BUSY q) 1
            else if fieldOf v 19 1 = 1 then u.bolWrite p i (u.word (QY_BOL_DATA q))
            else u.setWord (QY_BOL_DATA q) (BitVec.ofNat 64 (u.readReg (bolAddr p i)))).emit (.hport 0 0)))
    ∧ (∀ q, q < s.nQuays → s.flag (QY_BOL_SEL_BUSY q) = true → exec (.bollardAccessTimeout c q) s = .next (s.after c fun u =>
        ((u.put (QY_BOL_SEL_BUSY q) 0).put (QY_BOL_SEL_VOID q) 1).setWord (QY_BOL_DATA q) 0))

/-- The ends of a Bollard's test operations complete. ZEROISE_DONE (R305), while a zeroising runs and the domain is good, leaves ZERO_OK 1 and lets a
diagnosis that waited for it run. ZEROISE_FAIL (R305), once ZERO_CC has passed, ends the zeroising with its record and fails the test of its slot with verdict
ZEROISE. MBIST_DONE (R312) leaves PASS or FAIL, the failing rows, word and bit; outside a slot's test that is all; in one it ends the engine's run, and a
failing run is repaired and run again or fails. SCAN_INTERVAL_END (R308), when the interval's patterns have been shifted: a signature that differs from the
library's ends the run with FAIL and the interval; one that agrees ends it with PASS after the last interval, and else goes on to the next. -/
def Obligations.TileTestsComplete : Prop :=
  ∀ (s : State) (c p : Nat), s.start.held = false → s.isTile p = true →
    (∀ m, (s.engine p).zeroAt = some m → s.cdomOk p = true → exec (.zeroiseDone c p) s = .next (s.after c fun u =>
        let v := (u.put (BOL_SCAN_ZERO_OK p) 1).setEngine p { s.engine p with zeroAt := none }
        match v.diagOf p with
        | some (q, k, _) => v.runDiag q k
        | none => v))
    ∧ (∀ m k t, (s.engine p).zeroAt = some m → s.get HM_TEST_CTL_ZERO_CC ≤ ((s.begin_ c).since m).toNat → s.slotOf p = some (k, t) → s.diagOf p = none →
        exec (.zeroiseFail c p) s = .next (s.after c fun u =>
          ((u.setEngine p { s.engine p with zeroAt := none }).logTile p 0x0706 p ((s.begin_ c).since m).toNat 0 s.tick32).failTest (quayOf p) k t 5 0))
    ∧ (∀ m, (s.engine p).zeroAt = some m → s.get HM_TEST_CTL_ZERO_CC ≤ ((s.begin_ c).since m).toNat →
        exec (.zeroiseFail c p) s = .next (s.after c fun u => u.zeroFail p))
    ∧ (∀ pass rows word bitNo, s.cdomOk p = true → exec (.mbistDone c p pass rows word bitNo) s = .next (s.after c fun u => u.mbistDone p pass rows word bitNo))
    ∧ (∀ pass rows word bitNo, s.cdomOk p = true → (s.engine p).running ≠ 2 → exec (.mbistDone c p pass rows word bitNo) s = .next (s.after c fun u =>
        let v := (u.put (BOL_MBIST_STATE p) (if pass = true then 2 else 3)).put (BOL_MBIST_FROWS p) (min rows.length 7)
        let v := ((v.put (BOL_MBIST_FROW p) (rows.headD 0)).put (BOL_MBIST_FWORD p) word).put (BOL_MBIST_FBIT p) bitNo
        if v.get (BOL_MBIST_OP p) = 4 then v.put (BOL_MBIST_REPN p) 0 else v))
    ∧ (∀ misr, (s.engine p).running = 1 → (s.begin_ c).scanDue p = true → exec (.scanIntervalEnd c p misr) s = .next (s.after c fun u => u.scanInterval p misr))
    ∧ (∀ misr, (s.engine p).running = 1 → (s.begin_ c).scanDue p = true → s.get (BOL_SCAN_MODE p) = kdLbist →
        misr = s.lbistSig (quayOf p) (s.scanPlace p).1 (s.scanPlace p).2 (s.engine p).done → 15 ≤ (s.engine p).done →
        exec (.scanIntervalEnd c p misr) s = .next (s.after c fun u =>
          (u.setEngine p { s.engine p with
            misr := misr, running := 0, done := (s.engine p).done + 1, prpg := Config.prpgAfter (s.engine p).prpg (s.scanPats p) }).put (BOL_SCAN_STATE p) 2))
    ∧ (∀ misr, (s.engine p).running = 1 → (s.begin_ c).scanDue p = true → s.get (BOL_SCAN_MODE p) = kdLbist →
        misr ≠ s.lbistSig (quayOf p) (s.scanPlace p).1 (s.scanPlace p).2 (s.engine p).done → exec (.scanIntervalEnd c p misr) s = .next (s.after c fun u =>
          let v := u.setEngine p { s.engine p with misr := misr, running := 0, saved := (s.engine p).prpg }
          let v := v.put (BOL_SCAN_PATTERN p) (((s.engine p).done + 1) * ((s.libSet (quayOf p) (s.scanPlace p).1).pats1 / 16) - 1)
          ((v.put (BOL_SCAN_INTERVAL p) (s.engine p).done).put (BOL_SCAN_CELL p) 0x1FFF).put (BOL_SCAN_STATE p) 3))

/-- The report chain's commands complete. BOLLARD_REPORT_LAUNCH (R67), of a Bollard on the chain, shows its verdict and signature and puts the frame of the
tick before into the chain: the frame that its verdict formed, CLEAN = 0 with SELF where the verdict has not closed, and CLEAN = 1 alone of a Bollard with
nothing to report. REPORT_FRAME (R68): the quay takes the frame that has arrived, with its tiles, its sampled signatures and the checkers of the chain.
TALLY_TIMEOUT (R38): frames missing at the bound are kept as unclean, counted, recorded and pull HW1. CHAIN_WATCHDOG (R515): the Bollard at a position that
missed two frames is restarted. ALARM_MESSAGE (R130) is counted, captured, and recorded in full while fewer than 16 came in its tick, else counted only; a
repeated sequence number or a non-finite tile has its own record. CSUM_FLOOD (R130) records the count of the tick before. -/
def Obligations.ReportChainCompletes : Prop :=
  ∀ (s : State) (c q : Nat), s.start.held = false → q < s.nQuays →
    (∀ p closed, s.isTile p = true → s.offChain p = false → exec (.bollardReportLaunch c p closed) s = .next (s.after c fun u =>
          let words := if (s.tile p).frame.isEmpty then [1, 0, 0, 0, 0, 0] else (s.tile p).frame
          let words := if !closed && s.reportsFull p then openVerdict (words.getD 0 0) :: words.drop 1 else words
          let v := (u.setWord (BOL_VERDICT p) (words.getD 0 0)).setWord (BOL_SIG p) (words.getD 1 0)
          let v := if (words.getD 0 0).toNat % 2 = 0 then v.bump (BOL_ALARMS_CNT p) 1 else v
          let v := v.modTile p (fun t => { t with frame := [] })
          { v with frames := v.frames ++ [⟨p, v.jt - 1, words, decide (v.time.cyc = v.launchSlot (v.get (BOL_POS_HOP p)))⟩] }))
    ∧ (∀ p, s.isTile p = true → s.offChain p = false → (s.tile p).frame = [] →
        exec (.bollardReportLaunch c p true) s = .next (s.after c fun u =>
          let v := ((u.setWord (BOL_VERDICT p) 1).setWord (BOL_SIG p) 0).modTile p (fun t => { t with frame := [] })
          { v with frames := v.frames ++ [⟨p, v.jt - 1, [1, 0, 0, 0, 0, 0], decide (v.time.cyc = v.launchSlot (v.get (BOL_POS_HOP p)))⟩] }))
    ∧ (∀ p f, s.isTile p = true → s.frames.find? (fun f => f.p = p) = some f → exec (.reportFrame c p) s = .next (s.after c fun u =>
        let v := (u.reportFrame p).1
        let v := v.modQuay (quayOf p) (fun t => { t with tilesNow := t.tilesNow + (f.words.getD 0 0).toNat / 2 ^ 16 % 2 ^ 12 })
        ((((v.frameSamples f).restartedFrame p true).bolChecks p chainBits).quayChecks_ (quayOf p) tallyBits)))
    ∧ (∀ l rest, (s.reporting q).filter (fun l => !(s.quay q).got.contains l) = l :: rest →
        exec (.tallyTimeout q) s = .next (s.after 0 fun u =>
          let v := u.tallyTimeout q
          (v.quay q).missed.foldl (fun v x => v.restartedFrame (tileOf q x.1) false) v))
    ∧ (∀ l answered, (s.quay q).missed.any (fun x => decide (x.1 = l) && decide (2 ≤ x.2)) = true →
        exec (.chainWatchdog c q l answered) s = .next (s.after c fun u => u.aftermath (u.chainWatchdog q l answered false)))
    ∧ (∀ p m, s.isTile p = true → s.alarms.find? (fun m => m.p = p) = some m →
        exec (.alarmMessage c p) s = .next (s.after c fun u =>
          let h := quayOf p
          let v : State := { u with alarms := s.alarms.erase m }
          let v := match m.repeatTick with
            | some t => v.logTile p 0x0242 m.desc.toNat (m.desc.toNat / 2 ^ 32) t m.seq
            | none => v
          let v := if m.nfReason = 0 then v
            else (v.logTile p 0x0243 m.desc.toNat (m.desc.toNat / 2 ^ 32) m.nfReason m.seq).count (QY_CSUM_CNT_UNCHK_NF h) 1
          if m.causes = 0 then v
          else
            let v := (v.count (QY_CSUM_CNT_ALARM_TILES h) 1).captureAlarm m
            if (v.quay h).alarmsNow < 16 then (v.modQuay h (fun t => { t with alarmsNow := t.alarmsNow + 1 })).recordAlarm m
            else v.modQuay h (fun t => { t with floodNow := t.floodNow + 1 })))
    ∧ ((s.quay q).floodLast ≠ 0 → exec (.csumFlood q) s = .next (s.after 0 fun u =>
        (u.modQuay q (fun t => { t with floodLast := 0 })).logQuay q 0x0244 (s.quay q).floodLast ((s.jt - 1) % 2 ^ 32) 0 0))

/-- The commit's commands complete. QUAY_DEADLINE (R224), while a job tick is open to decision: a quay whose tick is clean and has no check outstanding lets
the wire go; any other pulls HW1, or in detect-only mode records the unclean tick. ROOT_DECIDE (R225): a complete round makes the commit pending; a round that
is not complete pulls HW1 with reason ROOT. COMMIT_BROADCAST (R224): a quay it reaches before the commit's cycle keeps it pending; one it reaches late applies
the commit at once and is recorded. COMMIT_APPLY (R222): the pending commit is applied at every quay that has it. -/
def Obligations.CommitCompletes : Prop :=
  ∀ s : State, s.start.held = false →
    (∀ q, q < s.nQuays → s.cmState = cmRun → s.commit.openTick + 2 ≤ s.jt → s.ctick < s.jt - 2 → s.controlled q = true → s.commit.inRecall = none →
        (s.quay q).egcTick + 1 = s.jt - 2 → q ∉ s.commit.released → (s.at_ s.quayAt).uncleanAt q (s.jt - 2) = none →
        (s.at_ s.quayAt).outstanding q (s.jt - 2) = false →
        exec (.quayDeadline q) s = .next (s.after 0 fun u =>
          let v := u.at_ s.quayAt
          { v with commit.released := v.commit.released ++ [q] }))
    ∧ (∀ q, q < s.nQuays → s.cmState = cmRun → s.commit.openTick + 2 ≤ s.jt → s.ctick < s.jt - 2 → s.controlled q = true → s.donly = false →
        (s.at_ s.quayAt).uncleanAt q (s.jt - 2) ≠ none ∨ (s.at_ s.quayAt).outstanding q (s.jt - 2) = true →
        exec (.quayDeadline q) s = .next (s.after 0 fun u => (u.at_ s.quayAt).pullQuay q 2))
    ∧ (s.cmState = cmRun → s.commit.inRecall = none → s.commit.pend = none → s.jt - 2 = s.ctick + 1 → s.commit.openTick + 2 ≤ s.jt →
        s.commit.releasedAt.isSome = true → exec .rootDecide s = .next (s.after 0 fun u =>
          let v := u.at_ s.rootAt
          { v.put HM_COMMIT_STAT_COMMIT_PEND 1 with
            commit.pend := some (s.jt - 2), commit.pendQuays := [], commit.released := [], commit.releasedAt := none }))
    ∧ (s.cmState = cmRun → s.commit.inRecall = none → s.commit.pend = none → s.jt - 2 = s.ctick + 1 → s.commit.openTick + 2 ≤ s.jt →
        s.roundDone = false → s.donly = false → exec .rootDecide s = .next (s.after 0 fun u =>
          let miss := s.quayList.filter (fun q => !s.commit.released.contains q)
          let v := ((u.at_ s.rootAt).at_ (s.rootAt + 1)).logHm 0x050A (s.jt - 2) miss.length (miss.headD 0) 0
          ({ v with commit.released := [], commit.releasedAt := none } : State).pullHw1 2 0 0 0 5))
    ∧ (∀ c q slow n, q < s.nQuays → s.commit.pend = some n → q ∉ s.commit.pendQuays →
        exec (.commitBroadcast c q slow) s = .next (s.after c fun u =>
          let v : State := { u with commit.pendQuays := s.commit.pendQuays ++ [q] }
          (slow.foldl (fun v p => v.modTile p (fun t => { t with commitLag := some n })) v).regionChecks q 8))
    ∧ (∀ c q slow, q < s.nQuays → s.commit.pend = none → s.cmState ≠ cmClosed → (s.quay q).egcTick < s.ctick → s.lagging q = [] →
        exec (.commitBroadcast c q slow) s = .next (s.after c fun u =>
          let v := (u.applyQuay q s.ctick).logQuay q 0x0B09 q u.time.cyc 0 s.tick32
          (slow.foldl (fun v p => v.hawserLate p) v).regionChecks q 8))
    ∧ (∀ n, s.commit.pend = some n → exec .commitApply s = .next (s.after 0 fun u =>
        let v := (u.at_ s.commitAt).applyCommit n
        v.commit.pendQuays.foldl (fun v q => if (v.quay q).egcTick < v.ctick then v.applyQuay q v.ctick else v) { v with commit.pendQuays := [] }))

/-- Recalls complete. RECALL_ROOT (R226): the root counts the pulls that have arrived together and opens a recall of the first of them, with the edge of the
latest lost link. RECALL_RECEIPT (R227): a quay that receives it freezes its cores and goes back to the target. DRAIN_END (R227), DRAIN_CC after the receipt,
ends the drain. MIGRATION_DONE (R231) ends the copy of a logical core. REROUTE_DONE (R234), REROUTE_CC after the latest link-down edge, ends the reroute. Each
of them lets the restart be announced once nothing else holds it. MAILBOX_WRITE (R216) writes the mailboxes 64 core cycles before the restart tick.
MAILBOX_LATE (R227) keeps the core of a mailbox not yet written in reset and latches SELF. RESTART (R227): at the announced tick, with the mailboxes written,
the job goes on from the target's next tick. -/
def Obligations.RecallCompletes : Prop :=
  ∀ (s : State) (c : Nat), s.start.held = false →
    (∀ n k, firstPull (s.commit.pulls.take n) = some k → s.cmState = cmRun → s.commit.inRecall = none → s.donly = false →
        exec (.recallRoot c n) s = .next (s.after c fun u =>
          let l := s.commit.pulls.take n
          let v : State := { u with commit.pulls := s.commit.pulls.drop n }
          (v.count (HM_HAWSER_CNT_ROUNDS 1) l.length).newRecall k (linkEdge l) (((l.find? (fun x => decide (x.halt ≠ 0))).map (·.halt)).getD 0)))
    ∧ (∀ n k, firstPull (s.commit.pulls.take n) = some k → exec (.recallRoot c n) s = .next (s.after c fun u => u.recallRoot n))
    ∧ (∀ q r slow, q < s.nQuays → s.commit.inRecall = some r → q ∉ r.received →
        exec (.recallReceipt c q slow) s = .next (s.after c fun u => (u.recallReceipt q slow).regionChecks q 9))
    ∧ (∀ r, s.commit.inRecall = some r → r.drained = false → (200 + s.get HM_COMMIT_CTL_DRAIN_CC : Int) ≤ (s.begin_ c).since r.s →
        exec (.drainEnd c) s = .next (s.after c fun u =>
          let v := if s.cmState = cmRecall ∧ s.rst.lost = [] then u.put HM_COMMIT_STAT_STATE cmDrain else u
          (v.modRecall (fun r => { r with drained := true })).startMigrations.tryAnnounce))
    ∧ (∀ r l m, s.commit.inRecall = some r → r.moves.find? (fun (m : Migration) => decide (m.lcore = l) && !m.done) = some m →
        exec (.migrationDone c l) s = .next (s.after c fun u =>
          let v := u.modRecall (fun r => { r with moves := r.moves.map (fun (k : Migration) => if k = m then { m with done := true } else k) })
          (v.showMove (quayOf m.src) l m.src m.dst 4 false).tryAnnounce))
    ∧ (∀ r, s.commit.inRecall = some r → r.needReroute = true → (s.get HM_COMMIT_CTL_REROUTE_CC : Int) ≤ (s.begin_ c).since r.edge →
        exec (.rerouteDone c) s = .next (s.after c fun u => (u.modRecall (fun r => { r with rerouted := true })).tryAnnounce))
    ∧ (∀ r, s.commit.inRecall = some r → r.p = some (s.time.tick + 1) → r.mailed = false →
        exec .mailboxWrite s = .next (s.after 0 fun u => (u.quayList.foldl (fun v q => v.regionChecks q 12) u.mailboxWrite.closeStep)))
    ∧ (∀ p r, s.isTile p = true → s.commit.inRecall = some r → r.mailed = true → p ∉ r.mailLate →
        exec (.mailboxLate p) s = .next (s.after 0 fun u =>
          (u.modRecall (fun r => { r with mailLate := r.mailLate ++ [p] })).latchBol p 12 false 0))
    ∧ (∀ r t, s.commit.inRecall = some r → r.p = some t → t ≤ s.time.tick → r.mailed = true → r.halt = 0 →
        exec .restart s = .next (s.after 0 fun u => u.restart.closeStep))

/-- The host's operations on the commit complete, on a page that takes writes. RECALL (R254), outside detect-only mode and an open harbour only, pulls HW1
with reason HOST. HALT (R236), while a job runs, pulls HW1 with the halt reason HOST. RESUME (R237) of a halted job whose halt reason no longer bars it takes
the job into a recall that ends its halt. ABANDON (R598) of a halted job closes the harbour. -/
def Obligations.CommitOpsComplete : Prop :=
  ∀ (s : State) (c : Nat), s.start.held = false → s.takesWrites HM_COMMIT_OP →
    (s.donly = false → s.cmState ≠ cmClosed → exec (.hostRecall c) s = .next (s.after c fun u => (u.pullHw1 3 0 0 0 7).emit (.hport 0 0)))
    ∧ (s.cmState ≠ cmClosed → s.cmState ≠ cmHalted → exec (.halt c) s = .next (s.after c fun u => (u.haltPull 3 0 7 haltHost).emit (.hport 0 0)))
    ∧ (∀ r, s.flag HM_TRIPLEX_STAT_ABSENT = false → s.commit.inRecall = none → s.commit.halted = some r → (s.begin_ c).resumeBarred r = false →
        exec (.resume c) s = .next (s.after c fun u =>
          let v : State := { u with commit.halted := none, commit.replays := if r.halt = haltLoop then 0 else s.commit.replays }
          let v := (((v.put HM_COMMIT_OP_HALTED 0).put HM_COMMIT_OP_HALT_REASON 0).put HM_COMMIT_STAT_STATE cmDrain).haltEnds
          let v : State := { v with commit.inRecall := some { r with
            halt := 0, haltCore := 0, drained := true, rerouted := true, p := none, mailed := false, mailLate := [], resumed := true } }
          (v.startMigrations.tryAnnounce).emit (.hport 0 0)))
    ∧ (s.flag HM_TRIPLEX_STAT_ABSENT = false → s.cmState = cmHalted → exec (.abandon c) s = .next (s.after c fun u => (u.closeHarbour 1).emit (.hport 0 0)))

/-- Sampling and placement complete. RATE_UPDATE (R146) computes the next tick's rate from the free spares, the tiles of the last complete tally and the
setting. SAMPLE_REQUEST (R151): the requests that arrive in one cycle join their quays' queues, which are then served. BERTH_FULL (R151): a request that has
waited 512 cc is taken out and counted as declined. FAR_PLACEMENT_ANSWER (R148): a far quay that finds a spare places the sample there, one that finds none
sends it back to the own region, any other refusal declines it and frees the berth. FAR_PLACEMENT_TIMEOUT (R148), 256 cc after the request, falls back to the
own region. -/
def Obligations.SamplingCompletes : Prop :=
  ∀ (s : State) (c q : Nat), s.start.held = false → q < s.nQuays →
    (exec (.rateUpdate q) s = .next (s.after 0 fun u =>
        let v := u.at_ (s.commitAt + 1)
        let v := if (s.reporting q).length ≤ (s.quay q).got.length then v.modQuay q (fun t => { t with tilesLast := t.tilesNow }) else v
        let slots := v.get (QY_PILOT_CTL_PER_SPARE q) * (v.freeSpares q - v.get (QY_PILOT_CTL_KEEP q))
        let num := v.get (QY_PILOT_CTL_RATE_NUM q)
        let total := (v.quay q).tilesLast
        v.setRate q (if v.lantern then 0 else if total = 0 then (if 0 < slots then num else 0) else min num (1024 * slots / total)) total))
    ∧ (∀ ps, exec (.sampleRequest c ps) s = .next (s.after c fun u =>
        let ps := ps.filter (fun p => decide (quayOf p < s.nQuays))
        ((ps.map s.runner).eraseDups).foldl (fun v q => v.serveAll q) (ps.foldl (fun v p => v.requestIn p) u)))
    ∧ (∀ p r, s.isTile p = true → (s.quay (s.runner p)).waiting.find? (fun r => decide (r.p = p) && decide (512 ≤ (s.begin_ c).since r.sent)) = some r →
        exec (.berthFull c p) s = .next (s.after c fun u =>
          (u.modQuay (s.runner p) (fun t => { t with waiting := t.waiting.erase r, declFull := t.declFull + 1 })).count (QY_PILOT_CNT1_BERTH_FULL (s.runner p)) 1))
    ∧ (∀ b, (s.berth q b).farAsk.isSome = true → exec (.farPlacementAnswer c q b) s = .next (s.after c fun u =>
        let r := u.placeOn q b (q ^^^ s.get (QY_PILOT_CTL_FAR_XOR q)) (u.estOf q (s.berth q b) + 400) (s.berth q b)
        match r.2 with
        | .yes => r.1
        | .noShadow => r.1.farFallback q b (s.berth q b)
        | why => (r.1.freeBerth q b).declined q why))
    ∧ (∀ b m, (s.berth q b).farAsk = some m → 256 ≤ (s.begin_ c).since m →
        exec (.farPlacementTimeout c q b) s = .next (s.after c fun u => u.farFallback q b (s.berth q b)))

/-- The comparison of shadows completes. OUTPUT_SIGNATURE (R155): the origin's output signature joins its berth, which is compared. SHADOW_SIGNATURES (R155):
a shadow's tap and output signatures join the berth that runs, is late or is disputed; a running one becomes RETURNED; it is compared. SHADOW_LATE (R157): at
n+2.1,101 a berth still without a signature becomes LATE, counted and recorded. SHADOW_HUNG (R157): at n+4.0 a late one is aborted and recorded, and its
spare, Green and of the own region, set Amber. SHADOW_STOP_CONFIRM (R150): the confirmed stop of an ABORTING berth discards its tiles and frees it. -/
def Obligations.ComparisonCompletes : Prop :=
  ∀ (s : State) (c : Nat), s.start.held = false →
    (∀ p out b len, s.isTile p = true → s.outSigs.find? (fun x => x.1 = p) = some (p, b, len) → (s.berth (s.runner p) b).origin = p →
        (s.berth (s.runner p) b).st ≠ btFree → (s.berth (s.runner p) b).st ≠ btAborting →
        exec (.outputSignature c p out) s = .next (s.after c fun u =>
          (({ u with outSigs := s.outSigs.erase (p, b, len) } : State).setBerth (s.runner p) b
            { s.berth (s.runner p) b with outO := some (BitVec.ofNat 64 (crc64 ((out.take len).map BitVec.toNat))) }).compare (s.runner p) b))
    ∧ (∀ p out q b sig, s.isTile p = true → s.shadowSigs.find? (fun x => x.1 = p) = some (p, q, b, sig) → (s.berth q b).shadow = p →
        (s.berth q b).st = btRunning ∨ (s.berth q b).st = btLate ∨ (s.berth q b).st = btDisputed →
        exec (.shadowSignatures c p out) s = .next (s.after c fun u =>
          let x := s.berth q b
          (({ u with shadowSigs := s.shadowSigs.erase (p, q, b, sig) } : State).setBerth q b
            { x with tapS := some sig
                     outS := if x.outLen = 0 then none else some (BitVec.ofNat 64 (crc64 ((out.take x.outLen).map BitVec.toNat)))
                     st := if x.st = btRunning then btReturned else x.st }).compare q b))
    ∧ (∀ q b, q < s.nQuays → (s.berth q b).st ∈ [btTaken, btCopying, btRunning, btReturned] →
        ((s.begin_ 0).at_ (s.window + 1)).overdue (s.belongs (s.berth q b)) = true →
        exec (.shadowLate q b) s = .next (s.after 0 fun u =>
          let v := u.at_ (s.window + 1)
          let d := (s.berth q b).desc.toNat
          ((v.setBerth q b { s.berth q b with st := btLate }).count (QY_PILOT_CNT1_LATE q) 1).logTile (s.berth q b).origin 0x0302 d (d / 2 ^ 32)
            (s.belongs (s.berth q b) % 2 ^ 32) (s.berth q b).shadow))
    ∧ (∀ q b, q < s.nQuays → (s.berth q b).st = btLate → s.belongs (s.berth q b) + 4 ≤ s.jt →
        exec (.shadowHung q b) s = .next (s.after 0 fun u =>
          let x := s.berth q b
          let v := (u.abortBerth q b 0).logTile x.origin 0x0303 b (s.belongs x % 2 ^ 32) 0 x.shadow
          if x.farAsk.isNone ∧ v.colour x.shadow = green ∧ v.flag HM_HEALTH_CTL_EN then v.setColour x.shadow amber 18 4 else v))
    ∧ (∀ q b, q < s.nQuays → (s.berth q b).st = btAborting → exec (.shadowStopConfirm c q b) s = .next (s.after c fun u =>
        let v : State := { u with stops := s.stops.filter (fun y => decide (y ≠ ((s.berth q b).shadow, q, b))),
                                  shadowSigs := s.shadowSigs.filter (fun y => decide (¬ (y.2.1 = q ∧ y.2.2.1 = b))) }
        (v.discardTiles (s.berth q b).shadow).freeBerth q b))

/-- Captures, audits, make-ups and disputes complete. CAPTURE_PASS_DONE (R158): a pass of a dispute's capture takes up its beats; the eighth ends the shadow's
passes and begins the witness's, the sixteenth ends the capture. WITNESS_TIMEOUT (R158), four ticks after the witness's last pass, ends it without the
witness. AUDIT_RESULT (R161): an audit is skipped where it would read more than 16,384 bytes, else counted unless it is late, and the rows that were wrongly
skipped are misses. AUDIT_LATE (R162) marks and records an audit not reported in time. PATCH_READY (R163): a make-up's output is kept, and stored as a patch
once a capture berth is free for it. PATCH_APPLIED (R163): a stored patch whose core is held is written at the step's own result buffer, and the hold ends.
DISPUTE_MESSAGE (R187): the messages that arrive together are taken in R17's order. DISPUTE_RESEND (R188): the quays' refused messages are sent again in the
same order. -/
def Obligations.CapturesComplete : Prop :=
  ∀ (s : State) (c q : Nat), s.start.held = false → q < s.nQuays →
    (∀ k beats (sig out : BitVec 64), exec (.capturePassDone c q k beats sig out) s = .next (s.after c fun u =>
        u.capturePass q k (beats.map (fun x => (⟨x.1, x.2⟩ : Beat))) sig out))
    ∧ (∀ k (beats : List (BitVec 64 × BitVec 256)) (sig out : BitVec 64), s.capt q k ≠ Capt.free → (s.capt q k).patch = false → (s.capt q k).done = false →
        (s.berth q (s.capt q k).berth).st = btDisputed → (s.capt q k).passes < 7 →
        exec (.capturePassDone c q k beats sig out) s = .next (s.after c fun u =>
          let x := ((beats.map (fun x => (⟨x.1, x.2⟩ : Beat))).filter (fun y => y.index % 8 = (s.capt q k).passes)).foldl
            (fun x y => if y.kind = 4 then { x with s1 := insBeat y x.s1 } else { x with s0 := insBeat y x.s0 }) (s.capt q k)
          u.setCapt q k { x with passes := x.passes + 1, sigs := x.sigs ++ [sig] }))
    ∧ (∀ k, s.capt q k ≠ Capt.free → (s.capt q k).patch = false → (s.capt q k).done = false → (s.capt q k).copied = true →
        (s.capt q k).witnessSince.tick + 4 ≤ s.time.tick → exec (.witnessTimeout c q k) s = .next (s.after c fun u => u.dropWitness q k))
    ∧ (∀ p skip rows a, s.isTile p = true → (s.quay (s.runner p)).audits.find? (fun a => a.p = p) = some a →
        exec (.auditResult c p skip rows) s = .next (s.after c fun u =>
          let h := s.runner p
          let n := u.auditTick a
          let fmt := dFmt a.desc
          let v := u.endAudit h a
          if 16384 * 8 < popCount skip * dK a.desc * elemBits fmt then v.count (QY_PILOT_CNT3_AUDIT_SKIPPED h) 1
          else
            let missed := ((rows.take (popCount skip)).filter (fun r => !r.all (zeroCode fmt))).length
            let v := if v.overdue n then v else v.count (QY_PILOT_CNT2_AUDITS h) 1
            if missed = 0 then v else v.predMiss h a n missed))
    ∧ (∀ p a, s.isTile p = true → (s.quay (s.runner p)).audits.find? (fun a => decide (a.p = p) && !a.late && ((s.begin_ 0).at_ (s.window + 1)).overdue (s.auditTick a)) = some a →
        exec (.auditLate p) s = .next (s.after 0 fun u =>
          ((u.at_ (s.window + 1)).modQuay (s.runner p) (fun t =>
            { t with audits := t.audits.map (fun (x : Audit) => if x = a then { x with late := true } else x) })).logTile p 0x030C a.desc.toNat (a.desc.toNat / 2 ^ 32) (s.auditTick a % 2 ^ 32) (dSeq a.desc)))
    ∧ (∀ i data m, s.makeup q i = some m → m.ran = false → m.spare.isSome = true → exec (.patchReady c q i data) s = .next (s.after c fun u =>
        let e := s.ktab q (dTag m.desc)
        let len := if ktOutLen e = 0 then resultBytes m.desc else ktOutLen e
        let v := u.setMakeup q i { m with ran := true, data := data.take (len / 8) }
        match m.capt with
        | some k => v.storePatch q i k
        | none =>
          match lowestFree (v.quay q).capts (v.captBerths q) with
          | some k => v.storePatch q i k
          | none => v))
    ∧ (∀ i m, s.makeup q i = some m → m.ready = true → m.held = true → exec (.patchApplied c q i) s = .next (s.after c fun u =>
        let v := (m.data.zipIdx).foldl (fun v x => v.emit (.lmReq m.p true (m.addr / 8 + x.2) x.1)) u
        let v := v.setMakeup q i { m with held := false, applied := true }
        let v := ((v.put (BOL_CTL_CG_HOLD m.p) 0).refreshTile m.p).count (QY_PILOT_CNT2_PATCHES q) 1
        let v := v.logTile m.p 0x030B (m.n % 2 ^ 32) (dSeq m.desc) m.lcore (8 * m.data.length)
        if m.n ≤ v.get HM_COMMIT_STAT_CTICK then v.endPatch q i else v))
    ∧ (∀ n, exec (.disputeMessage c n) s = .next (s.after c fun u =>
        (u.msgOrder (s.disputes.take n)).foldl (fun v m => v.takeMsg m) { u with disputes := s.disputes.drop n }))
    ∧ (∀ qs, exec (.disputeResend qs) s = .next (s.after 0 fun u =>
        let l := qs.filter (fun q => decide (q < s.nQuays))
        let v := u.at_ (s.commitAt + 1)
        (v.msgOrder (l.eraseDups.flatMap (fun q => (v.quay q).refusedMsgs))).foldl (fun v m => v.takeMsg m)
          (l.foldl (fun v q => v.modQuay q (fun t => { t with refusedMsgs := [] })) v)))

/-- The Customs' commands complete. CUSTOMS_DISPATCH (R186): the oldest dispute that waits, with a capture that can be judged, is given to the free unit whose
turn it is. CUSTOMS_FETCH_DONE (R191): the store's errors met by the fetch are reported, and the fetched capture goes on to the evaluation. CUSTOMS_EVAL_END
(R193): the unit's sums are left by the evaluation; with the residue intact the dispute is decided, or a referee asked for; a residue that differs is a fault
of the unit (R183). REFEREE_RESULT (R192) and REFEREE_TIMEOUT (R192), four ticks after the request with no spare found, decide an entry that waits for its
referee. -/
def Obligations.CustomsCompletes : Prop :=
  ∀ (s : State) (c : Nat), s.start.held = false →
    (∀ e u, s.customsRuns = true → s.flag HM_CUS_CTL_EN = true → s.customs.queue.find? (fun (e : CusEntry) => decide (e.phase = 0)) = some e →
        rotWinner s.jt s.sp.variant.customs s.freeUnits = some u → e.msg.kind ≠ 4 → e.hopeless s.sp.variant.customs = none →
        exec (.customsDispatch c) s = .next (s.after c fun v =>
          let v := v.put (HM_CUS_UNIT_BUSY u) 1
          let v := v.put HM_CUS_STAT_BUSY (setBitN (s.get HM_CUS_STAT_BUSY) u)
          v.setEntry { e with unit := some u, phase := 1, start := v.now }))
    ∧ (∀ u ue ces e, s.served u = some e → exec (.customsFetchDone c u ue ces) s = .next (s.after c fun v => v.fetchEnd u ue ces))
    ∧ (∀ u e, s.served u = some e → exec (.customsFetchDone c u none []) s = .next (s.after c fun v => v.customsFetched u))
    ∧ (∀ u upsets e, s.served u = some e → e.phase = 2 → exec (.customsEvalEnd c u upsets) s = .next (s.after c fun v =>
        let a := ((s.evaluation e).last.getD (tabGet (fun _ => CusUnit.idle) s.customs.units u)).upset upsets
        let w : State := { v with customs.units := tabSet (fun _ => CusUnit.idle) s.customs.units u a }
        let w := w.setEntry { e with cycles := (v.since e.start).toNat }
        if !a.intact || w.isArmed 0 0 14 then w.checker 0 0 14 0 u (!a.intact) else w.evalEnd u))
    ∧ (∀ slot tap out e, s.entry slot = some e → e.refTile.isSome = true → e.refReady = true → e.refSig = none → e.phase = 3 →
        exec (.refereeResult c slot tap out) s = .next (s.after c fun u =>
          let e' := { e with refSig := some (tap, out) }
          ((u.freeReferee e).setEntry e').settleEntry e' (.ran tap out)))
    ∧ (∀ slot tap out e, s.entry slot = some e → e.refTile.isSome = true → e.refReady = true → e.refSig = none → e.phase ≠ 3 →
        exec (.refereeResult c slot tap out) s = .next (s.after c fun u => (u.freeReferee e).setEntry { e with refSig := some (tap, out) }))
    ∧ (∀ slot e m, s.entry slot = some e → e.refAsked = some m → e.phase = 3 → e.refTile = none → m.tick + 4 ≤ s.time.tick →
        exec (.refereeTimeout c slot) s = .next (s.after c fun u => u.settleEntry e .absent))

/-- Heat and power complete. HOUSEKEEPING_ROUND (R459), once at a round's boundary, counts the round and runs its parts. THROTTLE_EVALUATION (R453) is made
once, at the commit's end of a round's first tick. CONVERSION_DONE (R454): a channel's reading is compared with its levels; a bus pin's reading is taken; the
reference's checker follows. BUS_SAMPLE (R456) checks voltage, current and power; a low bus triggers the flush. PFAIL_FALL and PFAIL_RISE (R455) move the pin
bit, the flush's trigger and the governors. PMBUS_ALERT (R680) at a quay's regulator is held and the devices of its bus are asked. PMBUS_TRANSACTION_DONE
(R680) ends the transaction in progress and starts the next. UNIT_RETEST_DONE (R323) of a Vermilion unit makes it Green or Slate. LINK_DOMAIN_POWER (R517)
leaves router and Bollard at their reset values. -/
def Obligations.PowerCompletes : Prop :=
  ∀ (s : State) (c : Nat), s.start.held = false →
    (∀ k, s.roundDue = true → exec (.housekeepingRound k) s = .next (s.after 0 fun u => u.aftermath (u.houseRound k)))
    ∧ (s.power.evalDue = true → exec .throttleEvaluation s = .next (s.after 0 fun u => u.throttle))
    ∧ (∀ ch (val : Int) fault, exec (.conversionDone c ch val fault) s = .next (s.after c fun u => (u.converted_ ch val fault).checker 0 0 21 0 0 false))
    ∧ (∀ ch (val : Int), 90 ≤ ch → ch < 104 → exec (.conversionDone c ch val 0) s = .next (s.after c fun u =>
        (u.ainSample (ch - 88) (min 12500 val.toNat)).checker 0 0 21 0 0 false))
    ∧ (∀ ch (val : Int) fault, ch < 88 → exec (.conversionDone c ch val fault) s = .next (s.after c fun u =>
        let r := u.conversion ch val fault
        (if r.2 = true then r.1.pfTrigger 3 else r.1).checker 0 0 21 0 0 false))
    ∧ (∀ c0 c1, exec (.busSample c c0 c1) s = .next (s.after c fun u =>
        let r := u.busSample c0 c1
        if r.2 = true then r.1.pfTrigger 2 else r.1.clearTrigger))
    ∧ (exec (.pfailFall c) s = .next (s.after c fun u => ((u.put HM_PWR_BUS_PFAIL_PIN 1).pfTrigger 1).pfailEnter 1))
    ∧ (exec (.pfailRise c) s = .next (s.after c fun u => ((u.put HM_PWR_BUS_PFAIL_PIN 0).pfailLeave).clearTrigger))
    ∧ (∀ q, q < s.nQuays → s.isOpen = true → s.lantern = false → exec (.pmbusAlert c q) s = .next (s.after c fun u =>
        let v := (u.put (QY_RAIL_ALERT q) 1).modQuay q (fun t => { t with alertSeen := true })
        (v.quayList.filter (fun k => decide (k / 8 = q / 8))).foldl (fun v k => v.pmQueue ⟨k, 0x79, false, 0, 3⟩) (v.pmFault q)))
    ∧ (∀ q, q < s.nQuays → exec (.pmbusAlert c q) s = .next (s.after c fun u => (if s.isOpen then u else u.closedAnswer 5).pmAlert q))
    ∧ (∀ x l ack data, s.power.pm = x :: l → exec (.pmbusTransactionDone c ack data) s = .next (s.after c fun u => u.pmbusDone ack data))
    ∧ (∀ k pass, (s.unit k).colour = vermilion → exec (.unitRetestDone c k pass) s = .next (s.after c fun u => u.unitRetest k pass))
    ∧ (∀ k, (s.unit k).colour = vermilion → k < 4 ∨ 7 ≤ k → exec (.unitRetestDone c k false) s = .next (s.after c fun u =>
        (u.setUnitColour k slate).result { TestRes.blank with p := unitDomain k, kind := 7, verdict := 1, purpose := puRetest }))
    ∧ (∀ p, s.isTile p = true → exec (.linkDomainPower c p) s = .next (s.after c fun u => u.linkPower p))

/-- The host's health operations and the moves complete. HEALTH_OP_AMBER, HEALTH_OP_VERMILION and HEALTH_OP_SLATE (R286), on a page that takes the GO and with
no operation running, of a tile that exists and is not worse already: a Green tile becomes Amber; any other is taken out of use with code 11 or 16, the
operation staying BUSY while a serving core is moved. MOVE_COPY_DONE (R276): a move whose copy has ended announces the tick of its switch, by a second map
update where it differs from the first. MOVE_SWITCH (R276) makes a switch that is due. PARK_TIMEOUT (R277), PARK_TICKS after the request: a move that may be
given up is abandoned; one that must be made is forced through a recall, or in detect-only mode at the next boundary. -/
def Obligations.HealthMovesComplete : Prop :=
  ∀ (s : State) (c : Nat), s.start.held = false →
    (∀ p, s.takesGo HM_HEALTH_OP → s.flag HM_HEALTH_OP_BUSY = false → p < 2 ^ 20 → quayOf p < s.nQuays → s.colour p = green →
        exec (.healthOpAmber c p) s = .next (s.after c fun u =>
          (((u.put HM_HEALTH_OP_PTILE p).put HM_HEALTH_OP_OP 1).setColour p amber 4 1).emit (.hport 0 0)))
    ∧ (∀ p, s.takesGo HM_HEALTH_OP → s.flag HM_HEALTH_OP_BUSY = false → p < 2 ^ 20 → quayOf p < s.nQuays → severity (s.colour p) < severity vermilion →
        exec (.healthOpVermilion c p) s = .next (s.after c fun u =>
          let v := (u.put HM_HEALTH_OP_PTILE p).put HM_HEALTH_OP_OP 2
          let v := if s.use p = useServes ∧ s.built = true ∧ s.moving p = false then v.put HM_HEALTH_OP_BUSY 1 else v
          (v.takeOut p vermilion 11 1).emit (.hport 0 0)))
    ∧ (∀ p, s.takesGo HM_HEALTH_OP → s.flag HM_HEALTH_OP_BUSY = false → p < 2 ^ 20 → quayOf p < s.nQuays → severity (s.colour p) < severity slate →
        exec (.healthOpSlate c p) s = .next (s.after c fun u =>
          let v := (u.put HM_HEALTH_OP_PTILE p).put HM_HEALTH_OP_OP 3
          let v := if s.use p = useServes ∧ s.built = true ∧ s.moving p = false then v.put HM_HEALTH_OP_BUSY 1 else v
          (v.takeOut p slate 16 1).emit (.hport 0 0)))
    ∧ (∀ x m, s.moveOf x = some m → m.phase = 3 → exec (.moveCopyDone c x) s = .next (s.after c fun u =>
        let t := u.switchTick u.time.cyc ((u.get HM_MAP_CTL_MAP_CC : Int) - u.since m.sent + u.time.cyc)
        (if m.switchAt = some t then u else u.sendMap m.lcore (m.dst.getD 0) t).setMove { m with phase := 4, switchAt := some t }))
    ∧ (∀ x m y t, s.moveOf x = some m → m.dst = some y → m.switchAt = some t → m.phase = 4 → t ≤ s.time.tick →
        exec (.moveSwitch x) s = .next (s.after 0 fun u => ((((u.groupMoved x y).switchMove x).1.lockCarry x y).testSwitched x).refreshMembers))
    ∧ (∀ x m, s.moveOf x = some m → m.phase = 1 → m.asked + s.get HM_HEALTH_CTL_PARK_TICKS ≤ s.jt → s.mustMove m = false →
        exec (.parkTimeout c x) s = .next (s.after c fun u => (u.abandonMove m 2).testSweep))
    ∧ (∀ x m, s.moveOf x = some m → m.phase = 1 → m.asked + s.get HM_HEALTH_CTL_PARK_TICKS ≤ s.jt → s.mustMove m = true → s.donly = true →
        exec (.parkTimeout c x) s = .next (s.after c fun u => (u.setMove { m with phase := 6 }).testSweep))
    ∧ (∀ x m, s.moveOf x = some m → m.phase = 1 → m.asked + s.get HM_HEALTH_CTL_PARK_TICKS ≤ s.jt → s.mustMove m = true → s.donly = false →
        exec (.parkTimeout c x) s = .next (s.after c fun u =>
          let v := u.setMap m.lcore x false
          let v := if m.why = mvHost then v.endHealthOp false else v
          let v : State := { v.dropMove m with demands := v.demands ++ [(x, 7)] }
          (v.pullQuay (quayOf x) 8).testSweep))

/-- The test slots' commands complete. TEST_SLOT_FILL (R301): at the commit's end, with the triplex present, the eight slots of the quay are filled in order.
TEST_SLICE_START (R299): a slice that may start begins, a functional one at once, the others after their zeroising and their Clearance; a failed test starts
its diagnosis. TEST_SLICE_END (R304): a slice whose engine has ended passes or fails. SLICE_TIMEOUT (R299), 2 ms after its start, ends it as failed, or puts a
waiting functional slice off. TEST_CLEARANCE_TIMEOUT (R304): a Clearance not given within 16 ticks puts the test off. DIAGNOSIS_DONE (R309) leaves pattern,
chain and cell, counts and records the diagnosis, and ends the failed test and its partner. TEST_NEXT (R335), of a tile that exists and is not Slate, asks for
its test; TEST_ABORT (R335), of a tile in a slot, ends its test at the slice's end. -/
def Obligations.TestSlotsComplete : Prop :=
  ∀ (s : State) (c q k : Nat), s.start.held = false → q < s.nQuays →
    (s.flag HM_TRIPLEX_STAT_ABSENT = false → exec (.testSlotFill q) s = .next (s.after 0 fun u =>
        if u.testSweep.flag HM_TRIPLEX_STAT_ABSENT = true then u.testSweep else u.testSweep.slotFill q))
    ∧ (∀ t, s.tslot q k = some t → t.phase = 1 ∨ t.phase = 3 → exec (.testSliceStart q k) s = .next (s.after 0 fun u => u.sliceStart q k))
    ∧ (∀ t, s.tslot q k = some t → t.phase = 1 → s.isOpen = true → ((s.begin_ 0).at_ (s.commitAt + 1)).stopReason q k t = 0 → s.cdomOk t.p = true → s.slotKind t = kdFunc →
        exec (.testSliceStart q k) s = .next (s.after 0 fun u => (u.at_ (s.commitAt + 1)).beginSlice q k t))
    ∧ (∀ t results, s.tslot q k = some t → t.phase = 2 → s.slotKind t = kdFunc ∨ (s.engine t.p).running = 0 →
        exec (.testSliceEnd c q k results) s = .next (s.after c fun u => u.sliceEnd q k results))
    ∧ (∀ t waits results, s.tslot q k = some t → t.phase = 2 → 2200000 ≤ (s.begin_ c).since t.since →
        exec (.sliceTimeout c q k waits results) s = .next (s.after c fun u => u.sliceTimeout q k waits results))
    ∧ (∀ t, s.tslot q k = some t → t.phase = 1 →
        (s.quay q).clrPend.any (fun r => decide (r.p = t.p) && r.engine && decide (16 * s.tickLen ≤ (s.begin_ c).since r.since)) = true →
        exec (.testClearanceTimeout c q k) s = .next (s.after c fun u => (u.clrRelease t.p true).preempt q k t 2))
    ∧ (∀ t pattern chain cell found, s.tslot q k = some t → t.phase = 5 →
        exec (.diagnosisDone c q k pattern chain cell found) s = .next (s.after c fun u =>
          let v := if found = true then ((u.put (BOL_SCAN_PATTERN t.p) pattern).put (BOL_SCAN_CHAIN t.p) chain).put (BOL_SCAN_CELL t.p) cell else u
          let v := ((v.put (BOL_SCAN_DIAG_DONE t.p) 1).put (BOL_SCAN_STATE t.p) 3).count HM_TEST_CNT1_DIAGS 1
          let v := v.result { v.slotRes q t 1 with cell := if found = true then cell else 0xFFFF }
          (v.endPartner t).endFail q k t 1))
    ∧ (∀ p, s.takesGo HM_TEST_OP → s.flag HM_TEST_OP_BUSY = false → p < 2 ^ 20 → quayOf p < s.nQuays → s.colour p ≠ slate →
        exec (.testNext c p) s = .next (s.after c fun u =>
          let v := (u.put HM_TEST_OP_PTILE p).put HM_TEST_OP_OP 1
          ({ v.put HM_TEST_OP_BUSY 1 with test.next := some p } : State).emit (.hport 0 0)))
    ∧ (∀ p i t, s.takesGo HM_TEST_OP → s.flag HM_TEST_OP_BUSY = false → p < 2 ^ 20 → s.slotOf p = some (i, t) →
        exec (.testAbort c p) s = .next (s.after c fun u =>
          ((((u.put HM_TEST_OP_PTILE p).put HM_TEST_OP_OP 2).setTslot (quayOf p) i (some { t with abort := true })).irq irqTest).emit (.hport 0 0)))

/-- The test library's flash commands complete, on a page that takes the GO. XSPI_PROGRAM and XSPI_ERASE (R322) start a program or an erase, or end at once
with the result of their checks; XSPI_RESCAN (R319) starts a scan, or follows the program that runs. FLASH_ACCESS_DONE (R322): each access of a program, erase
or scan that completes leads to the next one or to the operation's end; one that the device refuses ends it with RESULT 3. -/
def Obligations.LibraryCompletes : Prop :=
  ∀ (s : State) (c : Nat), s.start.held = false →
    (s.takesGo HM_XSPI_OP →
      exec (.xspiProgram c) s = .next (s.after c fun u => (u.xspiOp 1 (fun u => u.flashOp 1)).emit (.hport 0 0))
      ∧ exec (.xspiErase c) s = .next (s.after c fun u => (u.xspiOp 2 (fun u => u.flashOp 2)).emit (.hport 0 0))
      ∧ exec (.xspiRescan c) s = .next (s.after c fun u => (u.xspiOp 3 (fun u => u.startScan 3)).emit (.hport 0 0)))
    ∧ (s.takesGo HM_XSPI_OP → s.flag HM_XSPI_OP_BUSY = false → exec (.xspiRescan c) s = .next (s.after c fun u =>
        (((u.put HM_XSPI_OP_OP 3).put HM_XSPI_OP_DONE 0).startScan 3).emit (.hport 0 0)))
    ∧ (∀ f ok found, s.test.flash = some f → exec (.flashAccessDone c ok found) s = .next (s.after c fun u => (u.flashDone ok found).1.prepStep))
    ∧ (∀ f found, s.test.flash = some f → f.stage < 3 → exec (.flashAccessDone c false found) s = .next (s.after c fun u => (u.flashEnd 3).prepStep))
    ∧ (∀ f found, s.test.flash = some f → f.stage = 0 → f.op = 2 → f.sectors ≤ f.done + 1 → exec (.flashAccessDone c true found) s = .next (s.after c fun u =>
        ((u.put HM_XSPI_OP_DONE (sectorBytes * (f.done + 1))).flashEnd 0).prepStep))

/-- The tenders' commands complete. TENDER_TRANSFER_START (R356): an enabled tender that is idle takes the head of its work, with a token of the reserve, and
begins it; without a token it waits for one; a background transfer is paused for work of the foreground. TENDER_TRANSFER_DONE (R360): the errors of the reads
are reported, the token goes back, and the transfer reports to its berth or writes its completion record. TAGGED_ACCESS_RETRY (R351): an access that waited
for tags which now allow it goes on. TAG_TIMEOUT (R352), TAG_WAIT_CC after the wait began, ends it with its record. FENCE (R347) drains the gather buffer
after the core's accesses before it; GATHER_IDLE_FLUSH (R347) drains the rows idle for their bound. -/
def Obligations.TenderCompletes : Prop :=
  ∀ (s : State) (c q : Nat), s.start.held = false → q < s.nQuays →
    (∀ t w f, t < 8 → (s.get (QY_TND_CTL_EN q)).testBit t = true → (s.begin_ c).nextWork q t = some (w, f) → (s.tender q t).cur = none →
        exec (.tenderTransferStart c q t) s = .next (s.after c fun u =>
          let r := if f = 2 then (u, true) else u.tenderTake q
          if r.2 = true then r.1.beginWork q t f w else r.1.put (QY_TND_STAT_STATE q t) 1))
    ∧ (∀ t x w f, t < 8 → (s.get (QY_TND_CTL_EN q)).testBit t = true → (s.begin_ c).nextWork q t = some (w, f) → (s.tender q t).cur = some x → x.fore = false → w.fore = true →
        s.get (QY_TND_STAT_STATE q t) = 3 → exec (.tenderTransferStart c q t) s = .next (s.after c fun u => u.tenderStart q t))
    ∧ (∀ t ue off ces data refusal w, t < 8 → (s.tender q t).cur = some w →
        exec (.tenderTransferDone c q t ue off ces data refusal) s = .next (s.after c fun u => u.transferEnd q t ue off ces data refusal))
    ∧ (∀ t data d, t < 8 → (s.tender q t).cur = some (.ring d) → srcStore (wType d) = false →
        exec (.tenderTransferDone c q t 0 0 [] data 0) s = .next (s.after c fun u => u.tenderDone q t 0 0 data 0))
    ∧ (∀ t d, t < 8 → (s.quay q).tagWaits.any (fun w => w.client = t + 3) = true → (s.tender q t).cur = some (.ring d) → (s.begin_ c).tagStop q d = none →
        exec (.taggedAccessRetry c q (t + 3)) s = .next (s.after c fun u =>
          (u.modQuay q (fun y => { y with tagWaits := y.tagWaits.filter (fun w => decide (w.client ≠ t + 3)) })).put (QY_TND_STAT_STATE q t)
            (if wBg d then 3 else 2)))
    ∧ (∀ a l, (s.quay q).coreWait = a :: l → (s.begin_ c).coreStops q a = none →
        exec (.taggedAccessRetry c q 2) s = .next (s.after c fun u => u.coreGoes q (a :: l)))
    ∧ (∀ t w d, (s.quay q).tagWaits.find? (fun w => decide (w.client = t + 3) && decide ((s.get (QY_STORE_CTL_TAG_WAIT_CC q) : Int) ≤ (s.begin_ c).since w.since)) = some w →
        (s.tender q t).cur = some (.ring d) → exec (.tagTimeout c q (t + 3)) s = .next (s.after c fun u =>
          let v := u.modQuay q (fun y => { y with tagWaits := y.tagWaits.erase w })
          let v := v.logQuay q 0x0807 w.off (t + 3) w.mode (min (v.since w.since).toNat 0xFFFFFFFF)
          ((v.tenderReturn q).leaveBanks q d).ringEnd q t d 4 0 0))
    ∧ (∀ client w, (s.quay q).tagWaits.find? (fun w => decide (w.client = client) && decide ((s.get (QY_STORE_CTL_TAG_WAIT_CC q) : Int) ≤ (s.begin_ c).since w.since)) = some w →
        exec (.tagTimeout c q client) s = .next (s.after c fun u => u.tagTimeout q client))
    ∧ (∀ acts, exec (.fence c q acts) s = .next (s.after c fun u => u.coreRun q (acts ++ [.fence])))
    ∧ ((s.quay q).coreWait = [] → exec (.fence c q []) s = .next (s.after c fun u => u.gatherFlush q (fun _ => true)))
    ∧ (∀ acts same, exec (.gatherIdleFlush c q acts same) s = .next (s.after c fun u => ((u.coreRun q acts).gatherIdle q).coreRun q same))

/-- The stores' commands complete. SCRUB_SLOT (R366), with scrubbing enabled at a bank that is on or retained: the next row of the bank is scrubbed, once a
tick. FORCED_SCRUB (R366), FORCE_TICKS after the bank's last scrub, does so at the commit's end. STORE_REPAIR (R367), by Rinol or by a host's GO, with no
repair running: one of the bank's 32 spare rows takes the row's place, what was uncorrectable being lost and cleared, or FULL is set. BANK_REQUEST (R369) of a
request that the row allows is kept and applied. BANK_DRAIN_DONE (R370): a bank without a transfer in flight is retained or switched off as requested.
BANK_WAKE_DONE (R369), 220 cycles after the bank woke, and BANK_INIT_DONE (R369), 9,324 cycles after it began: the bank is on, and a request that came
meanwhile is applied. -/
def Obligations.StoreCompletes : Prop :=
  ∀ (s : State) (c q b : Nat), s.start.held = false → q < s.nQuays →
    (∀ found synd word, exec (.scrubSlot c q b found synd word) s = .next (s.after c fun u => u.scrubSlot q b found synd word))
    ∧ (∀ found synd word, s.flag (QY_STORE_CTL_SCRUB_EN q) = true → s.scrubbed q b = true →
        exec (.scrubSlot c q b found synd word) s = .next (s.after c fun u => u.scrub q b found synd word false))
    ∧ (∀ found synd word, tabGet (fun _ => 0) (s.quay q).scrubTick b + s.get (QY_STORE_CTL_FORCE_TICKS q) ≤ s.time.tick →
        exec (.forcedScrub c q b found synd word) s = .next (s.after c fun u => (u.at_ (s.commitAt + 1 + b)).scrub q b found synd word true))
    ∧ (∀ row, exec (.storeRepair c q b row false) s = .next (s.after c fun u => u.storeRepair q b row))
    ∧ (∀ row, s.takesWrites (qyAddr q 0x8160) → exec (.storeRepair c q b row true) s = .next (s.after c fun u => (u.storeRepair q b row).emit (.hport 0 0)))
    ∧ (∀ row, (s.begin_ c).repairing q = false → 32 ≤ ((s.quay q).repairs.filter (fun x => decide (x.1 = b % 32))).length →
        exec (.storeRepair c q b row false) s = .next (s.after c fun u =>
          let v := u.modQuay q (fun t => { t with repairAt := some u.now })
          let v := (v.put (QY_STORE_REPAIR_BANK q) b).put (QY_STORE_REPAIR_ROW q) row
          ((v.put (QY_STORE_REPAIR_FULL q) 1).put (QY_STORE_REPAIR_DONE q) 1).logQuay q 0x0804 (b % 32) (row % 2 ^ 13) 0 0))
    ∧ (∀ row, (s.begin_ c).repairing q = false → ((s.quay q).repairs.filter (fun x => decide (x.1 = b % 32))).length < 32 →
        (List.range 8).any (fun i => tabGet (fun _ => false) (s.quay q).badWords (b % 32 * bankBytes + 64 * (row % 2 ^ 13) + 8 * i)) = false →
        exec (.storeRepair c q b row false) s = .next (s.after c fun u =>
          let n := ((s.quay q).repairs.filter (fun x => decide (x.1 = b % 32))).length
          let i := rowOf (b % 32 * bankBytes + 64 * (row % 2 ^ 13))
          let v := u.modQuay q (fun t => { t with repairAt := some u.now })
          let v := (v.put (QY_STORE_REPAIR_BANK q) b).put (QY_STORE_REPAIR_ROW q) row
          let v := v.modQuay q (fun t => { t with
            repairs := t.repairs ++ [(b % 32, row % 2 ^ 13)], badWords := t.badWords.filter (fun x => decide (rowOf x.1 ≠ i))
            ceRuns := tabSet (fun _ => 0) t.ceRuns i 0 })
          let v := (v.put (QY_STORE_BANK_REPAIRS q (b % 32)) (n + 1)).put (QY_STORE_REPAIR_FULL q) 0
          ((v.put (QY_STORE_REPAIR_LOST q) 0).put (QY_STORE_REPAIR_DONE q) 1).logQuay q 0x0803 (b % 32) (row % 2 ^ 13) n 0))
    ∧ (∀ req, b < s.banks q → req < 4 → req ≠ 1 → exec (.bankRequest c q b req false) s = .next (s.after c fun u => (u.put (QY_STORE_BANK_REQ q b) req).bankApply q b))
    ∧ (∀ req, b < s.banks q → req < 4 → req ≠ 1 → s.takesWrites (QY_STORE_BANK_REQ q b).reg → s.isOpen = false →
        exec (.bankRequest c q b req true) s = .next (s.after c fun u => ((u.put (QY_STORE_BANK_REQ q b) req).bankApply q b).emit (.hport 0 0)))
    ∧ (s.bankState q b = bkDrain → s.get (QY_STORE_BANK_INFLIGHT q b) = 0 → exec (.bankDrainDone c q b) s = .next (s.after c fun u => u.bankDrained q b))
    ∧ (s.bankState q b = bkDrain → s.get (QY_STORE_BANK_INFLIGHT q b) = 0 → s.get (QY_STORE_BANK_REQ q b) = 2 →
        exec (.bankDrainDone c q b) s = .next (s.after c fun u => u.setBank q b bkRetain))
    ∧ (s.bankState q b = bkDrain → s.get (QY_STORE_BANK_INFLIGHT q b) = 0 → s.get (QY_STORE_BANK_REQ q b) = 3 →
        exec (.bankDrainDone c q b) s = .next (s.after c fun u => u.bankOff q b))
    ∧ (s.bankState q b = bkWake → (220 : Int) ≤ (s.begin_ c).since (tabGet (fun _ => ⟨0, 0, 0⟩) (s.quay q).bankAt b) →
        exec (.bankWakeDone c q b) s = .next (s.after c fun u =>
          let v := u.setBank q b bkOn
          if (v.quay q).bankLate.contains b then (v.modQuay q (fun t => { t with bankLate := t.bankLate.erase b })).bankApply q b else v))
    ∧ (s.bankState q b = bkInit → (1100 + 8224 : Int) ≤ (s.begin_ c).since (tabGet (fun _ => ⟨0, 0, 0⟩) (s.quay q).bankAt b) →
        exec (.bankInitDone c q b) s = .next (s.after c fun u =>
          let v := u.setBank q b bkOn
          if (v.quay q).bankLate.contains b then (v.modQuay q (fun t => { t with bankLate := t.bankLate.erase b })).bankApply q b else v))

/-- Rings, remote windows and the store apertures complete. PUSH and POP (R354) by the control core move the ring's pointers where the slots allow it, and set
REFUSED where they do not; a host's write of the operation is denied. REMOTE_WRITE (R363): a packet reaches the window of a quay of an open harbour, or of the
Harbourmaster, and is written or refused with its reason, by the key its window selects. STORE_APERTURE_ACCESS (R640): a host's read or write of legal size
and parity is served by the harbour store, by the quay's store, or answered DECODE. -/
def Obligations.RingsWindowsComplete : Prop :=
  ∀ (s : State) (c : Nat), s.start.held = false →
    (∀ q ring n, q < s.nQuays → exec (.push c q ring n false) s = .next (s.after c fun u => u.ringOp q ring n true))
    ∧ (∀ q ring n, q < s.nQuays → exec (.pop c q ring n false) s = .next (s.after c fun u => u.ringOp q ring n false))
    ∧ (∀ q ring n, q < s.nQuays → s.takesWrites (QY_RING_OP q) →
        exec (.push c q ring n true) s = .next (s.after c fun u => (u.pageErr (QY_RING_OP q) errDenied).emit (.hport 0 0))
        ∧ exec (.pop c q ring n true) s = .next (s.after c fun u => (u.pageErr (QY_RING_OP q) errDenied).emit (.hport 0 0)))
    ∧ (∀ q wafer win off seq tag rows, q < s.nQuays → s.isOpen = true →
        exec (.remoteWrite c (some q) wafer win off seq tag rows) s = .next (s.after c fun u =>
          u.winPacket q ⟨wafer, win, off, seq, tag, rows⟩
            (if s.lantern || s.keys.quayBlank.contains q then none else s.quayKey (1 + u.getHeld (QY_WIN_CFG_KEY_SEL q (win % 16))))))
    ∧ (∀ wafer win off seq tag rows, exec (.remoteWrite c none wafer win off seq tag rows) s = .next (s.after c fun u =>
          u.hmPacket ⟨wafer, win, off, seq, tag, rows⟩ (if s.lantern then none else s.key (1 + u.getHeld (HM_WIN_CFG_KEY_SEL (win % 8))))))
    ∧ (∀ a size (data : BitVec 64) write ue ce, s.hportUp = true → s.isArmed 0 0 22 = false → sizeOk a size = true → 0x1000000 ≤ a → a < 0x2000000 →
        exec (.storeApertureAccess c a size data write false ue ce) s = .next (s.after c fun u => u.harbourAccess (a - 0x1000000) size write data.toNat))
    ∧ (∀ q o size (data : BitVec 64) write ue ce, s.hportUp = true → s.isArmed 0 0 22 = false → sizeOk (0x40000000 + q * 0x1000000 + o) size = true →
        q < s.nQuays → o < 0x1000000 →
        exec (.storeApertureAccess c (0x40000000 + q * 0x1000000 + o) size data write false ue ce) s = .next (s.after c fun u =>
          u.quayAccess q o size write data.toNat ue ce))
    ∧ (∀ a size (data : BitVec 64) ue ce, s.hportUp = true → sizeOk a size = true → 0x2000000 ≤ a → a < 0x40000000 →
        exec (.storeApertureAccess c a size data false false ue ce) s = .next (s.after c fun u => u.reply rspDecode 0))

/-- Synchronisation requests complete, for a core of a tile that exists, at an enabled object below the owner's reserved range, in an open harbour, with a
request tick that the window of the harbour's tick names, outside a frozen tick. SIGNAL (R402) adds to its object. ARM (R407) whose target is met is answered
SATISFIED at once; one that is not met joins the object's waiters while a quay can still be held there, on the count or on the space. READ (R399) answers the
value. SYNC_BAD_OP (R399) at an enabled quay is answered BAD_OP, counted and recorded. LINK_FORWARD (R411), outside a frozen tick, adds to the mirror and may
fire its waiters. SYNC_SELECT (R423) loads the view of the object. -/
def Obligations.SyncCompletes : Prop :=
  ∀ (s : State) (c p : Nat), s.start.held = false → s.isTile p = true →
    (∀ owner idx t8 l t, s.isOpen = true → s.flag (QY_SYNC_CTL_EN owner) = true → idx < 1024 - s.get (QY_SYNC_CTL_RSV owner) →
        s.reqTick t8 = some t → s.frozenAt owner = none →
        (∀ inc, exec (.signal c p owner idx t8 l inc) s = .next (s.after c fun u => u.signalObj owner idx (inc % 2 ^ 16) t l))
        ∧ exec (.read c p owner idx t8 l) s = .next (s.after c fun u => u.answer p opRead stOk owner idx (u.obj owner idx).cnt.value)
        ∧ (∀ ch target, target % two64 ≤ (s.obj owner idx).cnt.value → exec (.arm c p owner idx t8 l ch target false) s = .next (s.after c fun u =>
            u.answer p opArm stSatisfied owner idx (u.obj owner idx).cnt.value))
        ∧ (∀ ch target, target % two64 ≤ (s.obj owner idx).space → exec (.arm c p owner idx t8 l ch target true) s = .next (s.after c fun u =>
            u.answer p opArm stSatisfied owner idx (u.obj owner idx).cnt.value))
        ∧ (∀ ch target, (s.obj owner idx).cnt.value < target % two64 → (s.obj owner idx).targets = [] →
            exec (.arm c p owner idx t8 l ch target false) s = .next (s.after c fun u =>
              let o := u.obj owner idx
              let o' := { o with
                tmin := some (match o.tmin with | some a => min a (target % two64) | none => target % two64)
                targets := [(quayOf p, ch % 16)], waiters := o.waiters + 1, wrec := if o.wrec.length < 4 then o.wrec ++ [l] else o.wrec }
              ((u.setObj owner idx o').count (QY_SYNC_CNT0_ARMS owner) 1).answer p opArm stOk owner idx o.cnt.value))
        ∧ (∀ ch target, (s.obj owner idx).space < target % two64 → (s.obj owner idx).targets = [] →
            exec (.arm c p owner idx t8 l ch target true) s = .next (s.after c fun u =>
              let o := u.obj owner idx
              let o' := { o with
                smin := some (match o.smin with | some a => min a (target % two64) | none => target % two64)
                targets := [(quayOf p, ch % 16)], waiters := o.waiters + 1, wrec := if o.wrec.length < 4 then o.wrec ++ [l] else o.wrec }
              ((u.setObj owner idx o').count (QY_SYNC_CNT0_ARMS owner) 1).answer p opArm stOk owner idx o.cnt.value)))
    ∧ (∀ op owner idx l, s.isOpen = true → s.flag (QY_SYNC_CTL_EN owner) = true → exec (.syncBadOp c p op owner idx l) s = .next (s.after c fun u =>
        let v := (u.emit (.syncAnswer p op stBadOp (idx % 2 ^ 10 + owner % 2 ^ 6 * 2 ^ 10) 0)).count (QY_SYNC_CNT1_REFUSED owner) 1
        v.logQuay owner 0x0908 (idx % 2 ^ 10 + owner * 2 ^ 10) l stBadOp (v.jt % 2 ^ 32)))
    ∧ (∀ q i e, q < s.nQuays → s.hawser.forwards.find? (fun e => decide (e.2.2.1 = q) && decide (e.2.2.2.1 = i)) = some e → s.frozenAt q = none →
        exec (.linkForward c q i) s = .next (s.after c fun u =>
          let v : State := { u with hawser.forwards := s.hawser.forwards.erase e }
          (v.setObj q i { v.obj q i with mirror := (v.obj q i).mirror.add e.2.2.2.2.1 e.2.2.2.2.2 (v.get HM_COMMIT_STAT_CTICK) }).checkFire q i))
    ∧ (∀ q i, q < s.nQuays → s.takesWrites (QY_SYNC_SEL q) → exec (.syncSelect c q i) s = .next (s.after c fun u =>
        ((u.put (QY_SYNC_SEL_INDEX q) i).showObj q).emit (.hport 0 0)))

/-- Group requests complete, for a core of an open harbour outside the Lantern, with requests enabled at its quay and a request tick of the window. HREQ
(R413) and HFREE (R417) of an epoch not yet decided are kept for its decision; in an epoch already decided they are answered TICK. GQUERY (R413) answers the
members of its group, or NONE. -/
def Obligations.GroupsComplete : Prop :=
  ∀ (s : State) (c p t8 l t : Nat), s.start.held = false → s.isTile p = true → s.isOpen = true → s.lantern = false →
    s.flag (QY_SYNC_CTL_EN (quayOf p)) = true → s.reqTick t8 = some t → s.frozenAt (quayOf p) = none →
    (∀ slot mask g lo hi, s.get HM_COMMIT_STAT_CTICK < (s.epochOf t + 1) * 2 ^ s.get HM_HAWSER_CTL_EPOCH_LOG2 - 1 →
        exec (.hreq c p t8 l slot mask g lo hi) s = .next (s.after c fun u => { u with hawser.reqs := u.hawser.reqs ++ [⟨p, l, t, slot, false, mask, g, lo, hi⟩] }))
    ∧ (∀ slot g, s.get HM_COMMIT_STAT_CTICK < (s.epochOf t + 1) * 2 ^ s.get HM_HAWSER_CTL_EPOCH_LOG2 - 1 →
        exec (.hfree c p t8 l slot g) s = .next (s.after c fun u => { u with hawser.reqs := u.hawser.reqs ++ [⟨p, l, t, slot, true, 0, g, 0, 0⟩] }))
    ∧ (∀ slot mask g lo hi, (s.epochOf t + 1) * 2 ^ s.get HM_HAWSER_CTL_EPOCH_LOG2 - 1 ≤ s.get HM_COMMIT_STAT_CTICK →
        exec (.hreq c p t8 l slot mask g lo hi) s = .next (s.after c fun u => u.refuse p opHreq stTick (quayOf p) 0 l 0)
        ∧ exec (.hfree c p t8 l slot g) s = .next (s.after c fun u => u.refuse p opHfree stTick (quayOf p) 0 l 0))
    ∧ (∀ g x, s.hawser.groups.find? (fun x => decide (x.2.group = g % 2 ^ 16)) = some x →
        exec (.gquery c p t8 l g) s = .next (s.after c fun u => u.answer p opGquery stOk (quayOf p) 0 ((x.2.words.getD 0 0).toNat)))
    ∧ (∀ g, s.hawser.groups.find? (fun x => decide (x.2.group = g % 2 ^ 16)) = none →
        exec (.gquery c p t8 l g) s = .next (s.after c fun u => u.answer p opGquery stNone (quayOf p) 0 0))

/-- Faults of Octulo itself complete. FAULT_LATCH (R483): a real event of a checker of the Harbourmaster, of a quay or of a Bollard is met with the reaction
of its bit, and an armed injection makes a forced one. BOLLARD_FAULT_MESSAGE (R485): the oldest message of a Bollard of the quay reaches the quay's summary
and its word of the first. QUAY_FAULT_MESSAGE (R486) of the oldest n messages: one of them, by rotation, reaches the Harbourmaster's word. LOCKSTEP_MISMATCH
(R491) at a quay takes the region out and, the second time, resets the quay. TRIPLEX_VOTE (R492) with three cores: the outvoted core leaves the triplex.
DUPLEX_MISMATCH (R492) with two cores outside Lantern mode brings it. RT_SCRUB (R18) repairs the redundant registers that differ. ERROR_FORCE (R498) forces
the bits it names. ALARM_ACK (R497), by a host's write or at the sideband while D77 is on, acknowledges latched causes. -/
def Obligations.FaultsComplete : Prop :=
  ∀ (s : State) (c : Nat), s.start.held = false →
    (∀ b synd aux real, exec (.faultLatch c 0 0 b synd aux real) s = .next (s.after c fun u => u.aftermath (u.faultLatch 0 0 b synd aux real)))
    ∧ (∀ q b synd aux real, q < s.nQuays → exec (.faultLatch c 1 q b synd aux real) s = .next (s.after c fun u => u.aftermath (u.faultLatch 1 q b synd aux real)))
    ∧ (∀ p b synd aux real, s.isTile p = true → exec (.faultLatch c 2 p b synd aux real) s = .next (s.after c fun u => u.aftermath (u.faultLatch 2 p b synd aux real)))
    ∧ (∀ b synd aux, forceable 0 b = true → b ≠ 9 → b ≠ 25 → exec (.faultLatch c 0 0 b synd aux true) s = .next (s.after c fun u =>
        u.aftermath (((u.disarm 0 0 b).hmFault b false synd aux).duplexArmed)))
    ∧ (∀ q b synd aux, q < s.nQuays → forceable 1 b = true → b ≠ 17 → exec (.faultLatch c 1 q b synd aux true) s = .next (s.after c fun u =>
        u.aftermath ((u.disarm 1 q b).quayFault q b false synd aux)))
    ∧ (∀ p b synd aux, s.isTile p = true → b ≤ 15 → b ≠ 5 → exec (.faultLatch c 2 p b synd aux true) s = .next (s.after c fun u =>
        u.aftermath ((u.disarm 2 p b).bolFault p b false synd aux)))
    ∧ (∀ q m, q < s.nQuays → s.bolMsgs.find? (fun m => quayOf m.1 = q) = some m → exec (.bollardFaultMessage c q) s = .next (s.after c fun u => u.bolMessage q))
    ∧ (∀ n, s.quayMsgs ≠ [] → 0 < n → exec (.quayFaultMessage c n) s = .next (s.after c fun u => u.quayMessage n))
    ∧ (∀ q addr b, q < s.nQuays → exec (.lockstepMismatch c q addr b) s = .next (s.after c fun u => u.aftermath (u.lockstepMismatch q addr b false)))
    ∧ (∀ n addr, n < 3 → coreCount s.cores = 3 → exec (.triplexVote c n addr) s = .next (s.after c fun u =>
        let v := (u.latchHm 8 false 0).coreOut n false
        u.aftermath ((v.logHm 0x0B08 n addr (coreCount v.cores) v.tick32).duplexArmed)))
    ∧ (s.inLantern = false → coreCount s.cores = 2 → exec (.duplexMismatch c) s = .next (s.after c fun u =>
        let v := (((u.disarm 0 0 9).latchHm 9 false 0).waferBreakwater 9 false).pullHw1 2 0 0 0 8
        let v := (List.range 3).foldl (fun v n => if v.cores.testBit n then v.coreOut n false else v) v
        u.aftermath ((v.enterLantern 1).duplexArmed)))
    ∧ (exec (.rtScrub c) s = .next (s.after c fun u => u.rtScrub))
    ∧ (∀ page bits, exec (.errorForce c 0 0 page bits) s = .next (s.after c fun u => u.aftermath (u.errorForce 0 0 page bits)))
    ∧ (∀ q page bits, q < s.nQuays → exec (.errorForce c 1 q page bits) s = .next (s.after c fun u => u.aftermath (u.errorForce 1 q page bits)))
    ∧ (∀ p page bits, s.isTile p = true → exec (.errorForce c 2 p page bits) s = .next (s.after c fun u => u.aftermath (u.errorForce 2 p page bits)))
    ∧ (∀ mask, s.takesWrites HM_FAULT_ACK → exec (.alarmAck c mask true) s = .next (s.after c fun u => (u.alarmAck mask 1).emit (.hport 0 0)))
    ∧ (∀ mask, s.domain 77 = 2 → exec (.alarmAck c mask false) s = .next (s.after c fun u => u.alarmAck mask 2))
    ∧ (∀ mask, s.domain 77 = 2 → (s.begin_ c).setNow HM_FAULT_ALARM = 0 → exec (.alarmAck c mask false) s = .next (s.after c fun u =>
        let m := mask % 64 &&& s.get HM_FAULT_ALARM_CAUSE
        let v := u.put HM_FAULT_ALARM_ACKED (s.get HM_FAULT_ALARM_ACKED ||| m)
        v.logHm 0x0B0B m 2 ((v.word HM_FAULT_ALARM).toNat % 2 ^ 12) v.tick32))

/-- Breakwaters by the host and the watchdogs of the control cores complete. BREAKWATER_REGION (R510) of a quay that exists and BREAKWATER_WAFER (R510), on a
page that takes the write, raise their Breakwater and pull HW1 as the host. QUAY_WATCHDOG (R514) of a working quay whose core has not kicked for four ticks
resets it. QUAY_WATCHDOG_KICK (R542) by the core sets the idle count back; by the host it is denied. HM_WATCHDOG (R514) of a triplex of at least two cores,
not paused, that has not kicked for four ticks enters Lantern mode. HM_WATCHDOG_KICK (R540) by the core sets the idle count back; by the host it is denied. -/
def Obligations.WatchdogsComplete : Prop :=
  ∀ (s : State) (c : Nat), s.start.held = false →
    (∀ q, q < s.nQuays → q < 64 → s.takesWrites HM_FAULT_OP → exec (.breakwaterRegion c q) s = .next (s.after c fun u =>
        (((u.put HM_FAULT_OP_QUAY q).regionBreakwater q 0xFF true).pullHw1 3 q 0 0 7).emit (.hport 0 0)))
    ∧ (s.takesWrites HM_FAULT_OP → exec (.breakwaterWafer c) s = .next (s.after c fun u => ((u.waferBreakwater 0xFF true).pullHw1 3 0 0 0 7).emit (.hport 0 0)))
    ∧ (∀ q, q < s.nQuays → s.quayState q = 0 → (4 * s.tickLen : Int) ≤ (s.begin_ c).since (s.quay q).kickAt → exec (.quayWatchdog c q) s = .next (s.after c fun u =>
        let v := (u.latchQuay q 23 false 0).put (QY_RST_WDOG_WHY q) 1
        u.aftermath ((v.logQuay q 0x0C03 q ((u.since (s.quay q).kickAt).toNat / v.tickLen) 0 v.tick32).quayForced q 1 false)))
    ∧ (∀ q, q < s.nQuays → exec (.quayWatchdogKick c q false) s = .next (s.after c fun u =>
        (u.modQuay q (fun t => { t with kickAt := u.now })).put (QY_RST_WDOG_IDLE_TICKS q) 0))
    ∧ (∀ q, q < s.nQuays → exec (.quayWatchdogKick c q true) s = .next (s.after c fun u => (u.pageErr (QY_RST_WDOG q) errDenied).emit (.hport 0 0)))
    ∧ (s.inLantern = false → s.flag HM_TRIPLEX_STAT_ABSENT = false → 2 ≤ coreCount s.cores → (4 * s.tickLen : Int) ≤ (s.begin_ c).since s.commit.kickAt →
        exec (.hmWatchdog c) s = .next (s.after c fun u =>
          u.aftermath ((u.logHm 0x0C04 (coreCount s.cores) ((u.since s.commit.kickAt).toNat / s.tickLen) 0 s.tick32).enterLantern 3)))
    ∧ (exec (.hmWatchdogKick c false) s = .next (s.after c fun u => ({ u with commit.kickAt := u.now } : State).put HM_RST_STAT_IDLE_TICKS 0))
    ∧ (exec (.hmWatchdogKick c true) s = .next (s.after c fun u => (u.pageErr HM_RST_KICK errDenied).emit (.hport 0 0)))

/-- Resets complete. TILE_COMPUTE_RESET (R518) of a tile that is out of its job, and not the object of a dump still reading it, resets and counts it. On a
page that takes the GO and with no operation running, TILE_RESET (R539) resets a tile out of its job, PARTITION_RESET (R519) a partition of a quay that
exists, QUAY_RESET_OP (R539) a quay, QUAY_RECLAIM (R522) returns a Green adopted quay's work to it, ENTER_LANTERN (R539) enters Lantern mode in a closed
harbour, or in an open one where INJECT_L allows it. QUAY_RESET (R520) with its cause standing resets the quay. SOFT_RESET (R644) of a page acts as the page's
block allows. QUAY_ADOPT (R520), ordered, makes the partner serve a reset quay. QUAY_SELFTEST_DONE (R520) ends the quay's self-test, of its boot or of its
reset. HARBOURMASTER_RESTART (R530) in Lantern mode restarts the Harbourmaster. LANTERN_EXIT (R530): Lantern mode is left once the restart has ended and its
keys are back. -/
def Obligations.ResetsComplete : Prop :=
  ∀ (s : State) (c : Nat), s.start.held = false →
    (∀ p reason pwr, s.isTile p = true → s.role p ≠ roleJob → s.rst.dump = none →
        exec (.tileComputeReset c p reason pwr) s = .next (s.after c fun u => (u.tileReset p reason pwr).rstStep))
    ∧ (∀ p, s.isTile p = true → s.role p ≠ roleJob → s.rst.dump = none → exec (.tileComputeReset c p 6 false) s = .next (s.after c fun u =>
        let v := (u.put (BOL_CTL_GUARD p) 1).put (BOL_CTL_CG_HOLD p) 1
        let v := (v.put (BOL_CDOM_RST p) 1).coreReset p
        let v := (v.count (QY_RST_CNT_TILE_RESETS (quayOf p)) 1).logTile p 0x0C05 p 6 (s.recentResets p).length v.tick32
        (v.tileReady p).rstStep))
    ∧ (∀ p pwr, quayOf p < s.nQuays → s.role p ≠ roleJob → s.takesGo HM_RST_OP → s.flag HM_RST_OP_BUSY = false → exec (.tileReset c p pwr) s = .next (s.after c fun u =>
        let v := ((u.put HM_RST_OP_OP 1).put HM_RST_ARG_PTILE p).put HM_RST_ARG_PWR (bit pwr)
        let v : State := { v.put HM_RST_OP_BUSY 1 with rst.op := some ⟨1, 0, 0, 0, 0, 0, pwr, true, if pwr then [p] else []⟩ }
        ((v.tileReset p 5 pwr).rstStep).emit (.hport 0 0)))
    ∧ (∀ q r1 r2 c1 c2 pwr, q < s.nQuays → r1 ≤ r2 → r2 ≤ 119 → c1 ≤ c2 → c2 ≤ 127 → s.takesGo HM_RST_OP → s.flag HM_RST_OP_BUSY = false →
        exec (.partitionReset c q r1 r2 c1 c2 pwr) s = .next (s.after c fun u => ((u.put HM_RST_OP_OP 2).partitionReset q r1 r2 c1 c2 pwr).emit (.hport 0 0)))
    ∧ (∀ q reason, q < s.nQuays → s.quayState q = 0 ∨ s.quayState q = 4 → (s.begin_ c).resetCause q reason = true → exec (.quayReset c q reason) s = .next (s.after c fun u =>
        u.aftermath ((u.pullQuay q 8).quayForced q reason false)))
    ∧ (∀ q, q < s.nQuays → s.takesGo HM_RST_OP → s.flag HM_RST_OP_BUSY = false → exec (.quayResetOp c q) s = .next (s.after c fun u =>
        u.aftermath (((((u.put HM_RST_OP_OP 3).put HM_RST_ARG_QUAY q).quayReset q 4 false).rstEnd false).emit (.hport 0 0))))
    ∧ (∀ page o, (hmPageRows page).isEmpty = false → page < 256 → o < 0x1000 → exec (.softReset c (0x1000 * page + o)) s = .next (s.after c fun u =>
        u.aftermath ((u.pageErr (0x1000 * page + o) errDenied).reply rspOk 0)))
    ∧ (∀ q page o, q < s.nQuays → (qyPageRows page).isEmpty = false → page < 16 → o < 0x1000 →
        exec (.softReset c (0x100000 + 0x10000 * q + 0x1000 * page + o)) s = .next (s.after c fun u => u.aftermath ((u.quayReset q 4 false).reply rspOk 0)))
    ∧ (∀ q o, q < s.nQuays → s.rst.orders.find? (fun o => decide (o.1 = q)) = some o →
        exec (.quayAdopt c q) s = .next (s.after c fun u => u.aftermath (u.adoptDone q)))
    ∧ (∀ q pass rows, q < s.nQuays → s.lantern = false → s.start.quaysOk.contains q = true → exec (.quaySelftestDone c q pass rows) s = .next (s.after c fun u =>
        u.aftermath ((u.quaySelftest q pass).tryAnnounce)))
    ∧ (∀ q pass rows, q < s.nQuays → s.start.quaysOk.contains q = false → s.start.quaysBad.contains q = false →
        exec (.quaySelftestDone c q pass rows) s = .next (s.after c fun u => u.aftermath (u.quayBoot q pass rows)))
    ∧ (∀ q, q < s.nQuays → (s.quay q).colour = green → s.flag (QY_RST_STAT_ADOPTED q) = true → s.takesGo HM_RST_OP → s.flag HM_RST_OP_BUSY = false →
        exec (.quayReclaim c q) s = .next (s.after c fun u =>
          let v : State := { ((u.put HM_RST_OP_OP 4).put HM_RST_ARG_QUAY q).put HM_RST_OP_BUSY 1 with
            rst.op := some ⟨4, q, 0, 0, 0, 0, false, true, []⟩, rst.reclaim := u.rst.reclaim ++ [q] }
          (v.pullHw1 2 0 0 0 8).emit (.hport 0 0)))
    ∧ (s.isOpen = false ∨ s.flag HM_FAULT_CTL_INJECT_L = true → s.takesGo HM_RST_OP → s.flag HM_RST_OP_BUSY = false → exec (.enterLantern c) s = .next (s.after c fun u =>
        let v := (u.put HM_RST_OP_OP 5).logForce 0 0 0x0B03 (bit s.isOpen) 0xFE
        u.aftermath ((((v.count HM_FAULT_CNT0_FORCED 1).enterLantern 5).rstEnd false).emit (.hport 0 0))))
    ∧ (∀ pass, s.takesWrites HM_RST_OP → s.flag HM_RST_OP_BUSY = false → s.lantern = true → s.get HM_RST_STAT_RESTART_STATE ≠ 1 →
        exec (.harbourmasterRestart c pass) s = .next (s.after c fun u => (u.hmRestart pass).emit (.hport 0 0)))
    ∧ (s.lantern = true → s.get HM_RST_STAT_RESTART_STATE = 1 → s.rst.keysWanted.all (fun n => (s.get HM_KEY_STAT_LOADED).testBit n) = true →
        exec .lanternExit s = .next (s.after 0 fun u =>
          (({ (u.at_ (s.commitAt + 1)).leaveLantern with rst.keysWanted := [] } : State).keptVerdicts).rstEnd false))

/-- Diagnostic dumps complete. DUMP (R525) of a tile, a quay or the wafer, on a page that takes the GO, with no operation running and no dump held: it starts.
DUMP_READ_TIMEOUT (R526) of a dump that is still reading: the word is void. DUMP_DONE (R527) of a dump that is still reading: the image is in the harbour
store and held for the host, a quay that waited for it goes down. DUMP_COPY_DONE (R525) of a finished image, where the Logbook's store is present, sets
COPIED. -/
def Obligations.DumpsComplete : Prop :=
  ∀ (s : State) (c : Nat), s.start.held = false →
    (∀ kind p q, 1 ≤ kind → kind ≤ 3 → (kind = 2 → q < s.nQuays) → (kind = 1 → quayOf p < s.nQuays) → s.rst.dump = none → s.flag HM_RST_DUMP_HELD = false →
        s.takesGo HM_RST_OP → s.flag HM_RST_OP_BUSY = false → exec (.dump c kind p q) s = .next (s.after c fun u =>
          let v := (((u.put HM_RST_OP_OP 7).put HM_RST_ARG_KIND kind).put HM_RST_ARG_PTILE p).put HM_RST_ARG_QUAY q
          let v : State := { v with rst.dump := some ⟨dkHost, kind, if kind = 1 then p else q, v.tide, v.jt, [], false⟩ }
          ({ v.put HM_RST_OP_BUSY 1 with rst.op := some ⟨7, q, 0, 0, 0, 0, false, true, []⟩ } : State).emit (.hport 0 0)))
    ∧ (∀ d n, s.rst.dump = some d → d.staged = false → d.voids.contains n = false → exec (.dumpReadTimeout c n) s = .next (s.after c fun u =>
        { u with rst.dump := some { d with voids := d.voids ++ [n] } }))
    ∧ (∀ d ext, s.rst.dump = some d → d.staged = false → exec (.dumpDone c ext) s = .next (s.after c fun u =>
        let img := u.dumpImage d ext
        let v := u.writeWords (hsAddr (s.get HM_RST_DUMP_OFF)) img
        let v := ((v.put HM_RST_DUMP_HELD 1).put HM_RST_DUMP_KIND d.kind).put HM_RST_DUMP_COPIED 0
        let v := (v.put HM_RST_DUMP_BYTES (8 * img.length)).count HM_RST_CNT_DUMPS 1
        let v := v.logHm 0x0C0B d.kind (8 * img.length) d.voids.length v.tick32
        let v : State := { v with rst.dump := some { d with staged := true } }
        let v := if d.kind = 2 ∧ v.quayState d.unit = 1 then v.quayDown d.unit else v
        match v.rst.op with
        | some o => if o.op = 7 then v.rstEnd false else v
        | none => v))
    ∧ (∀ d, s.rst.dump = some d → d.staged = true → s.flag HM_LOG_CTL_STORE_EN = true → exec (.dumpCopyDone c) s = .next (s.after c fun u =>
        { u.put HM_RST_DUMP_COPIED 1 with rst.dump := none }))

/-- The Logbook completes. LOG_RECORD (R548) with the writer free: the claim of the producer whose turn it is enters the buffer. TRICKLE_FLUSH (R553), the
store idle and 2,047 records waiting, starts a block. FLUSH_BLOCK_DONE (R553): a block that is written moves FSEQ, and the first refusal of one is tried
again. LOG_PORT_TIMEOUT (R555) of a block being written gives it up. LOG_FLUSH (R554), by the host, is a trigger. PFAIL_FLUSH_STOP (R554) at the flush's bound
ends it. LOG_PORT_RETRY (R555) takes a failed port up. LOG_STORE_RESUME (R556) while the store is scanned goes on behind the best trailer. LOG_READ_SELECT
(R558) selects the record that RDATA shows; LOG_FETCH_DONE (R558) of a record being fetched shows it. -/
def Obligations.LogCompletes : Prop :=
  ∀ (s : State) (c : Nat), s.start.held = false →
    (∀ l, s.log.scan = false → (s.begin_ c).writerBusy = false → exec (.logRecord c l) s = .next (s.after c fun u => u.logRecord l))
    ∧ (∀ r l i, s.log.scan = false → (s.begin_ c).writerBusy = false → s.logHeld = false → i ≤ 64 → (s.prod i).claims = r :: l →
        exec (.logRecord c [i]) s = .next (s.after c fun u => ((u.takeClaim i).acceptClaim r).showHold))
    ∧ (s.log.scan = false → s.flag HM_LOG_CTL_STORE_EN = true → s.logState = lsIdle → s.log.wr = none → s.log.trigger = 0 → s.fseq + 2047 ≤ s.wseq →
        exec (.trickleFlush c) s = .next (s.after c fun u => u.beginBlock false 2047))
    ∧ (∀ w, s.log.wr = some w → w.pf = false → s.log.pf = none → exec (.flushBlockDone c true) s = .next (s.after c fun u =>
        let v := (({ u with log.wr := none, log.badRun := 0 } : State).put HM_LOG_FSEQ_FSEQ (max s.fseq (w.first + w.len))).advanceBlock
        ((v.count HM_LOG_CNT_FLUSHES 1).setLogState lsIdle).showHold))
    ∧ (∀ w ok, s.log.wr = some w → w.pf = true ∨ s.log.pf.isSome = true → exec (.flushBlockDone c ok) s = .next (s.after c fun u =>
        let v := if w.pf then u.sendTrailer w else u
        let v := (({ v with log.wr := none } : State).put HM_LOG_FSEQ_FSEQ (max v.fseq (w.first + w.len))).advanceBlock
        (if v.log.pf.isSome then v.pfNext else v.setLogState lsIdle).showHold))
    ∧ (∀ w, s.log.wr = some w → w.pf = false → s.log.pf = none → w.retry = false → exec (.flushBlockDone c false) s = .next (s.after c fun u =>
        let v := (u.latchHm 19 false 0).emit (.logWrite ((u.latchHm 19 false 0).get HM_LOG_STAT_BLOCK) w.first w.len false)
        { v.sendTrailer w with log.wr := some { w with retry := true } }))
    ∧ (∀ w, s.log.wr = some w → w.pf = false → s.log.pf = none → w.retry = true → exec (.flushBlockDone c false) s = .next (s.after c fun u => u.badBlock w 1))
    ∧ (∀ w, s.log.wr = some w → exec (.logPortTimeout c) s = .next (s.after c fun u => u.badBlock w 2))
    ∧ (s.takesWrites HM_LOG_CTL → exec (.logFlush c) s = .next (s.after c fun u => (u.pfTrigger 5).emit (.hport 0 0)))
    ∧ (∀ m, s.log.pf = some m → (pfFlushCc : Int) ≤ (s.begin_ c).since m → s.log.wr = none → exec (.pfailFlushStop c) s = .next (s.after c fun u =>
        ((({ u with log.pf := none } : State).setLogState lsIdle).clearTrigger).showHold))
    ∧ (∀ m w, s.log.pf = some m → (pfFlushCc : Int) ≤ (s.begin_ c).since m → s.log.wr = some w → exec (.pfailFlushStop c) s = .next (s.after c fun u =>
        let v := if w.pf then u.sendTrailer w else u
        let v := (({ v with log.wr := none } : State).put HM_LOG_FSEQ_FSEQ (max u.fseq (w.first + w.len))).advanceBlock
        ((({ v with log.pf := none } : State).setLogState lsIdle).clearTrigger).showHold))
    ∧ (s.takesWrites HM_LOG_CTL → s.logState = lsFailed → exec (.logPortRetry c) s = .next (s.after c fun u =>
        ((({ u with log.badRun := 0 } : State).setLogState lsIdle).showHold).emit (.hport 0 0)))
    ∧ (∀ l, s.log.scan = true → exec (.logStoreResume c l) s = .next (s.after c fun u =>
        u.storeResume (l.map (fun x => (⟨x.1, x.2.1, x.2.2.1, x.2.2.2.1, x.2.2.2.2⟩ : Trailer)))))
    ∧ (s.log.scan = true → exec (.logStoreResume c []) s = .next (s.after c fun u =>
        let v := ({ u with log.scan := false, log.base := 0 } : State).setLogState lsIdle
        let v := ((v.put HM_LOG_WSEQ_WSEQ 0).put HM_LOG_FSEQ_FSEQ 0).put HM_LOG_STAT_BLOCK 0
        (v.logHm 0x0D06 0 0 0 0).showHold))
    ∧ (∀ n, s.takesWrites HM_LOG_RSEL → exec (.logReadSelect c n) s = .next (s.after c fun u => (u.logSelect n).emit (.hport 0 0)))
    ∧ (∀ n w, s.log.fetch = some n → exec (.logFetchDone c w) s = .next (s.after c fun u => u.logFetched w))
    ∧ (∀ n w l, s.log.fetch = some n → w.toNat % 2 ^ 16 ≠ 0 → exec (.logFetchDone c (w :: l)) s = .next (s.after c fun u =>
        ({ u with log.fetch := none } : State).showRead 0 (w :: l)))

/-- Clearing the Logbook and the keys complete. NONCE_READ (R561), on a page that is ready and with no clear running, gives a fresh nonce. LOG_CLEAR (R561),
on a page that takes the write and with no clear running, takes the command with its token, the nonce if it is not older than 2^20 ticks. LOG_CLEAR_VERIFIED
(R562), outside a triplex pause: a refused command is recorded with its reason, a granted one clears the records it may. CLEAR_STORE_PASS_DONE (R560) of a
granted command adds those cleared in the store. KEY_LOAD (R567) outside Lantern mode loads the key of a slot and zeroes DATA, that of slots 1 to 4 being on
its way to the quays. KEY_SPREAD (R567) of such a key gives it to the quays. KEY_ZERO (R568) zeroes a slot. -/
def Obligations.KeysComplete : Prop :=
  ∀ (s : State) (c : Nat), s.start.held = false →
    (s.pageReady HM_LOG_NONCE0 = true → s.flag HM_LOG_CLR_BUSY = false → exec (.nonceRead c) s = .next (s.after c fun u =>
        let a := u.free
        let b := a.2.free
        let v := (b.2.setWord HM_LOG_NONCE0 a.1).setWord HM_LOG_NONCE1 b.1
        ({ v with log.nonce := some (BitVec.ofNat 128 (a.1.toNat + b.1.toNat * 2 ^ 64), v.time.tick) } : State).emit (.hport 0 a.1)))
    ∧ (s.takesWrites HM_LOG_CLR → s.flag HM_LOG_CLR_BUSY = false → exec (.logClear c) s = .next (s.after c fun u =>
        let fresh := match u.log.nonce with
          | some (n, t) => if u.time.tick ≤ t + 2 ^ 20 then some n else none
          | none => none
        let token := (List.range 4).foldl (fun acc i => acc + u.get (HM_LOG_TOKEN_TOKEN i) * 2 ^ (64 * i)) 0
        let k : ClearSt := ⟨u.get HM_LOG_CLR_FIRST_FIRST, u.get HM_LOG_CLR_LAST_LAST, BitVec.ofNat 256 token, u.key 0, u.keyId 0, fresh, false⟩
        ({ u.put HM_LOG_CLR_BUSY 1 with log.clear := some k, log.nonce := none } : State).emit (.hport 0 0)))
    ∧ (∀ k, s.flag HM_TRIPLEX_STAT_ABSENT = false → s.log.clear = some k → k.verified = false → (s.begin_ c).clearRefusal k = 0 →
        exec (.logClearVerified c) s = .next (s.after c fun u =>
          let l := u.clearable k.first k.last
          let v : State := { u with log.buf := u.log.buf.filter (fun kv => !l.contains kv.1) }
          let v := (v.put HM_LOG_CLR_CLEARED l.length).logHm 0x0D01 k.first k.last l.length k.keyId
          if v.flag HM_LOG_CTL_STORE_EN then { v with log.clear := some { k with verified := true } } else v.endClear 0))
    ∧ (∀ k, s.flag HM_TRIPLEX_STAT_ABSENT = false → s.log.clear = some k → k.verified = false → (s.begin_ c).clearRefusal k ≠ 0 →
        exec (.logClearVerified c) s = .next (s.after c fun u =>
          let v : State := if u.clearRefusal k = 1 then { u with log.refusals := u.log.refusals + 1 } else u
          (v.logHm 0x0D02 k.first k.last (u.clearRefusal k) v.tick32).endClear (u.clearRefusal k)))
    ∧ (∀ k n, s.log.clear = some k → k.verified = true → exec (.clearStorePassDone c n) s = .next (s.after c fun u => (u.count HM_LOG_CLR_CLEARED n).endClear 0))
    ∧ (s.takesGo HM_KEY_OP → s.lantern = false → s.flag HM_KEY_OP_BUSY = false → s.get HM_KEY_SEL_SLOT = 0 → exec (.keyLoad c) s = .next (s.after c fun u =>
        let k := BitVec.ofNat 256 ((List.range 4).foldl (fun acc i => acc + s.get (HM_KEY_DATA_DATA i) * 2 ^ (64 * i)) 0)
        let v := (List.range 4).foldl (fun v i => v.setWord (HM_KEY_DATA i) 0) u
        let v : State := { v with keys.keys := tabSet (fun _ => none) v.keys.keys 0 (some k) }
        let v := (v.put HM_KEY_STAT_LOADED (setBitN (v.get HM_KEY_STAT_LOADED) 0)).setKeyId 0 (s.get HM_KEY_SEL_KEY_ID)
        ((v.logHm 0x0D07 0 (s.get HM_KEY_SEL_KEY_ID) 0 v.tick32).keyEnd).emit (.hport 0 0)))
    ∧ (∀ n, n = s.get HM_KEY_SEL_SLOT → 1 ≤ n → n ≤ 4 → s.takesGo HM_KEY_OP → s.lantern = false → s.flag HM_KEY_OP_BUSY = false → exec (.keyLoad c) s = .next (s.after c fun u =>
        let k := BitVec.ofNat 256 ((List.range 4).foldl (fun acc i => acc + s.get (HM_KEY_DATA_DATA i) * 2 ^ (64 * i)) 0)
        let v := (List.range 4).foldl (fun v i => v.setWord (HM_KEY_DATA i) 0) u
        let v : State := { v with keys.keys := tabSet (fun _ => none) v.keys.keys n (some k) }
        let v := (v.put HM_KEY_STAT_LOADED (setBitN (v.get HM_KEY_STAT_LOADED) n)).setKeyId n (s.get HM_KEY_SEL_KEY_ID)
        let v := v.logHm 0x0D07 n (s.get HM_KEY_SEL_KEY_ID) 0 v.tick32
        let v := v.put HM_KEY_STAT_SPREAD (clrBitN (v.get HM_KEY_STAT_SPREAD) n)
        ({ v.put HM_KEY_OP_BUSY 1 with keys.coming := some (n, k) } : State).emit (.hport 0 0)))
    ∧ (∀ slot k, s.keys.coming = some (slot, k) → exec .keySpread s = .next (s.after 0 fun u =>
        let v : State := { u with keys.quayKeys := tabSet (fun _ => none) s.keys.quayKeys slot (some k) }
        (v.put HM_KEY_STAT_SPREAD (setBitN (v.get HM_KEY_STAT_SPREAD) slot)).keyEnd))
    ∧ (s.takesGo HM_KEY_OP → s.get HM_KEY_SEL_SLOT < 5 → exec (.keyZero c) s = .next (s.after c fun u =>
        let n := s.get HM_KEY_SEL_SLOT
        ((((u.zeroKey n).logHm 0x0D08 (2 ^ n) 1 (s.keyId n) s.tick32).irq irqKey).emit (.hport 0 0))))

/-- Power-up completes. POWER_ON_RESET (R669) leaves the reset state with PORST_N low, whatever came before, but for the straps, the waiting commands and the
count of free values. RESET_RELEASE (R672) raises PORST_N. DOMAIN_SWITCH_ON (R670) of a populated domain that is off, belongs to no Slate unit and has been
off long enough switches it on. DOMAIN_POWER_GOOD (R670) of a domain switched on long enough ago ends it: the domain is on. BOOT_ROM (R583) in the self-test:
the cores that pass wait for an image, or with fewer than two the start fails. LOAD (R585), waiting for an image and on a page that takes the GO, takes a good
image, and ends with the result of a bad one. IMAGE_LOADED (R586) of an image that loads, the quays having been tested, opens the configuration. -/
def Obligations.PowerUpCompletes : Prop :=
  (∀ s : State, exec .powerOnReset s = .next (State.settle
      { State.reset with sp := s.sp, pending := s.pending, freeCount := s.freeCount, start := { State.reset.start with held := true, domains := [] } }))
  ∧ (∀ s : State, s.start.held = true → exec .resetRelease s = .next (State.settle
      (({ s with out := [], start := { s.start with held := false, domains := [(75, 2)] } } : State).setLogState lsScan)))
  ∧ ∀ (s : State) (c : Nat), s.start.held = false →
    (∀ d, s.populated d = true → s.domain d = 0 → s.domainSlate d = false → (s.begin_ c).domainRested d 2200 = true →
        exec (.domainSwitchOn c d) s = .next (s.after c fun u => u.setDomain d 1))
    ∧ (∀ d, s.domain d = 1 → (s.begin_ c).domainRested d 1100 = true → d ≠ 79 → exec (.domainPowerGood c d) s = .next (s.after c fun u => u.setDomain d 2))
    ∧ (s.domain 79 = 1 → (s.begin_ c).domainRested 79 1100 = true → exec (.domainPowerGood c 79) s = .next (s.after c fun u =>
        earlyPages.foldl (fun v n => v.hmPageReady n) (u.setDomain 79 2)))
    ∧ (∀ pass, s.phaseNo = phSelftest → 2 ≤ coreCount (pass % 8) → exec (.bootRom c pass) s = .next (s.after c fun u =>
        let v := (List.range 3).foldl (fun v n => if (pass % 8).testBit n then v else v.setUnitColour (ukCore n) vermilion) (u.setCores (pass % 8))
        (v.setPhase phWaitImage).logHm 0x0E01 v.sp.stepping ((v.word OC_CONFIG).toNat % 2 ^ 32) (coreCount (pass % 8)) 0))
    ∧ (∀ pass, s.phaseNo = phSelftest → coreCount (pass % 8) < 2 → exec (.bootRom c pass) s = .next (s.after c fun u =>
        let v := (List.range 3).foldl (fun v n => if (pass % 8).testBit n then v else v.setUnitColour (ukCore n) vermilion) (u.setCores (pass % 8))
        (v.setPhase phFailed).alarm 2))
    ∧ (s.takesGo HM_TRIPLEX_OP → s.flag HM_TRIPLEX_OP_BUSY = false → s.phaseNo = phWaitImage →
        exec (.load c) s = .next (s.after c fun u =>
          let v := (u.put HM_TRIPLEX_OP_OP 1).put HM_TRIPLEX_OP_BUSY 1
          let m := v.staged
          (if v.imageResult m ≠ 0 then (v.logImage m (v.imageResult m)).tripEnd (v.imageResult m)
           else
            let w := (v.setPhase phLoading).logImage m 0
            let w := ((w.put HM_TRIPLEX_VER_RUNNING (v.imgHead m).version).put HM_TRIPLEX_VER_STAGED (v.imgHead m).version).put
              HM_TRIPLEX_VER_HO_OUT (v.imgHead m).hoOut
            { w with start := { w.start with image := v.imgHead m, loading := some (v.imgHead m) } }).emit (.hport 0 0)))
    ∧ (s.phaseNo = phLoading → s.quaysTested = true → exec (.imageLoaded c) s = .next (s.after c fun u =>
        let v : State := { u with start := { u.start with loading := none }, commit := { u.commit with kickAt := u.now } }
        let v := v.start.quaysOk.foldl (fun v q => v.modQuay q (fun t => { t with kickAt := v.now })) v
        ((List.range 26).foldl (fun v n => v.hmPageReady n) ((v.put HM_TRIPLEX_VER_STAGED 0).setPhase phConfig)).tripEnd 0))

/-- Start-up completes. PREPARE (R588) in CONFIG or READY, EPOCH (R591) in CONFIG once the preparation allows it, START_TEST (R592) in CONFIG after the epoch,
and OPEN (R595) in READY, each on a page that takes the GO and with no operation running. OPENING_TICK (R596) at the opening tick opens the harbour. CLOSE
(R598) of an open harbour halts the job and then closes, of a halted one closes at once, and withdraws an EPOCH or an OPEN that still waits for its tick. A
command in a phase that does not allow it ends with RESULT 4. -/
def Obligations.StartUpCompletes : Prop :=
  ∀ (s : State) (c : Nat), s.start.held = false →
    (s.takesGo HM_TRIPLEX_OP → s.flag HM_TRIPLEX_OP_BUSY = false →
      (∀ taps, (s.phaseNo = phConfig ∨ s.phaseNo = phReady) → exec (.prepare c taps) s = .next (s.after c fun u => (u.prepare taps).emit (.hport 0 0)))
      ∧ (s.phaseNo = phConfig → s.start.prep.testBit 2 = true → s.time.epoch = false → exec (.epoch c) s = .next (s.after c fun u =>
          let v := (u.put HM_TRIPLEX_OP_OP 3).put HM_TRIPLEX_OP_BUSY 1
          ({ v with start := { v.start with epoch := true }, hawser.hw2 := 1 } : State).emit (.hport 0 0)))
      ∧ (s.phaseNo = phConfig → s.time.epoch = true → exec (.startTest c) s = .next (s.after c fun u => (u.startTest).emit (.hport 0 0)))
      ∧ (s.phaseNo = phReady → exec (.openHarbour c) s = .next (s.after c fun u =>
          (((u.put HM_TRIPLEX_OP_OP 5).put HM_TRIPLEX_OP_BUSY 1).openTry).emit (.hport 0 0)))
      ∧ (s.phaseNo = phOpen → s.cmState = cmHalted → exec (.close c) s = .next (s.after c fun u =>
          (((u.put HM_TRIPLEX_OP_OP 6).put HM_TRIPLEX_OP_BUSY 1).closeHarbour 2).emit (.hport 0 0)))
      ∧ (s.phaseNo = phOpen → s.cmState ≠ cmHalted → exec (.close c) s = .next (s.after c fun u =>
          let v := ((u.put HM_TRIPLEX_OP_OP 6).put HM_TRIPLEX_OP_BUSY 1).hostHalt
          ({ v with start := { v.start with closing := 2 } } : State).emit (.hport 0 0)))
      ∧ (s.phaseNo ≠ phOpen → exec (.close c) s = .next (s.after c fun u =>
          ((((u.put HM_TRIPLEX_OP_OP 6).put HM_TRIPLEX_OP_BUSY 0).tripEnd 4).emit (.hport 0 0))))
      ∧ (s.phaseNo ≠ phConfig → exec (.epoch c) s = .next (s.after c fun u =>
          ((((u.put HM_TRIPLEX_OP_OP 3).put HM_TRIPLEX_OP_BUSY 0).tripEnd 4).emit (.hport 0 0))))
      ∧ (s.phaseNo ≠ phReady → exec (.openHarbour c) s = .next (s.after c fun u =>
          ((((u.put HM_TRIPLEX_OP_OP 5).put HM_TRIPLEX_OP_BUSY 0).tripEnd 4).emit (.hport 0 0)))))
    ∧ (s.takesGo HM_TRIPLEX_OP → s.flag HM_TRIPLEX_OP_BUSY = true → s.start.opening = 1 → exec (.close c) s = .next (s.after c fun u => u.withdraw.emit (.hport 0 0)))
    ∧ (s.start.opening = 2 → s.time.tick = s.commit.openTick → exec .openingTick s = .next (s.after 0 fun u => u.openingTick))

/-- Update in service completes. UPDATE (R599) of a full triplex outside Lantern mode, with an image whose handover fits, on a page that takes the GO, begins.
UPDATE_LEAVE (R599), the update having begun: core 2 leaves at the commit's end. UPDATE_LOAD_DONE (R599), core 2 loading, ends its load: an image that R585
accepts is taken, one that it refuses ends the update with its result. UPDATE_HANDOVER (R599), core 2 loaded, in a closed harbour or at a clean commit, hands
over. UPDATE_QUAY_RELOAD (R599), after the handover's pause and once a tick, reloads the next quay. TRIPLEX_REJOIN (R600) of a core that may rejoin with the
same state pauses the triplex for it. -/
def Obligations.UpdateCompletes : Prop :=
  ∀ (s : State) (c : Nat), s.start.held = false →
    (s.takesGo HM_TRIPLEX_OP → s.flag HM_TRIPLEX_OP_BUSY = false → s.phaseNo = phOpen → exec (.update c) s = .next (s.after c fun u => u.updateOp.emit (.hport 0 0)))
    ∧ (∀ n, n = phConfig ∨ n = phReady ∨ n = phOpen → s.takesGo HM_TRIPLEX_OP → s.flag HM_TRIPLEX_OP_BUSY = false → s.phaseNo = n → s.imageResult s.staged ≠ 2 → s.imageResult s.staged ≠ 3 → s.cores = 7 →
        s.lantern = false → (s.imgHead s.staged).hoMin ≤ s.get HM_TRIPLEX_VER_HO_OUT → s.get HM_TRIPLEX_VER_HO_OUT ≤ (s.imgHead s.staged).hoOut →
        exec (.update c) s = .next (s.after c fun u =>
          let v := (u.put HM_TRIPLEX_OP_OP 7).put HM_TRIPLEX_OP_BUSY 1
          ({ v with start := { v.start with upd := 1, loading := some (s.imgHead s.staged) } } : State).emit (.hport 0 0)))
    ∧ (s.start.upd = 1 → exec .updateLeave s = .next (s.after 0 fun u =>
        let v := (((u.at_ (s.commitAt + 1)).setCores 3).setUpd 2 1).coreKeysBlank 2
        (v.put HM_TRIPLEX_VER_STAGED ((v.start.loading.map (·.version)).getD 0)).logStep 2 1 v.running))
    ∧ (s.start.upd = 2 → exec (.updateLoadDone c) s = .next (s.after c fun u => u.updateLoaded))
    ∧ (s.start.upd = 2 → exec (.updateLoadDone c) s = .next (s.after c fun u =>
        let r := u.imageResult u.staged
        let i := u.imgHead u.staged
        let v := u.logImage u.staged r
        if r = 0 then (({ v with start := { v.start with loading := some i } } : State).setUpd 3 2).logStep 2 2 i.version
        else
          let v := ((v.setUpd 6 4).put HM_TRIPLEX_VER_STAGED 0).logStep 2 4 v.running
          { v with start := { v.start with result := r, rejoin := some 2, loading := none } }))
    ∧ (∀ i, s.start.loading = some i → s.start.upd = 3 → (s.isOpen = false ∨ (s.ctick + 2 = s.jt ∧ s.commit.inRecall = none ∧ s.cmState = cmRun)) →
        exec .updateHandover s = .next (s.after 0 fun u =>
        let v := ((((u.at_ (s.commitAt + 1)).setUpd 4 3).setCores 6).coreKeysFilled 1).coreKeysFilled 2
        let v := ((v.put HM_TRIPLEX_VER_RUNNING i.version).put HM_TRIPLEX_VER_HO_OUT i.hoOut).put HM_TRIPLEX_VER_STAGED 0
        { v.put HM_TRIPLEX_STAT_ABSENT 1 with start := { v.start with image := i, loading := none, pause := some (1, v.now), reload := 0, reloadAt := none } }))
    ∧ (s.start.upd = 4 → s.start.pause = none → s.start.reloadAt ≠ some s.time.tick → exec (.updateQuayReload c) s = .next (s.after c fun u =>
        let q := s.start.reload
        let v := (u.modQuay q (fun t => { t with kickAt := u.now })).put (QY_RST_WDOG_IDLE_TICKS q) 0
        let v : State := { v with start := { v.start with reload := q + 1, reloadAt := some v.time.tick } }
        if q + 1 < v.nQuays then v else { v.setUpd 5 4 with start := { v.start with upd := 5, rejoin := some 0 } }))
    ∧ (∀ n, s.mayRejoin n = true → exec (.triplexRejoin n true) s = .next (s.after 0 fun u =>
        let v := u.at_ (s.commitAt + 1)
        { v.put HM_TRIPLEX_STAT_ABSENT 1 with start := { v.start with rejoin := some n, pause := some (2, v.now) } }))
    ∧ (∀ n, s.mayRejoin n = true → s.start.upd ≠ 5 → exec (.triplexRejoin n false) s = .next (s.after 0 fun u =>
        let v := u.at_ (s.commitAt + 1)
        { v.put HM_TRIPLEX_STAT_ABSENT 1 with start := { v.start with rejoin := some n, pause := some (2, v.now) } }))

/-- Lockstep of two wafers completes. LOCKSTEP_GO (R626), enabled in READY, starts. LOCKSTEP_START_TIMEOUT (R626) of a peer that does not answer within a
second ends the start. LOCKSTEP_STOP (R632) ends a lockstep that starts, runs or drills. LOCKSTEP_CONTRIBUTION (R621), outside a recall and within the sixteen
steps of its quay, enters its row. QUAY_DIGEST (R622) of a finished step of a quay enters the wafer's step. LOCKSTEP_SLOT_SEND (R623) sends the step that
comes next, or again the row that was refused, once a tick. LOCKSTEP_COMPARE (R624) runs at the commit's end: it compares the steps that both sides hold, and
an uncorrectable word ends the lockstep. -/
def Obligations.LockstepCompletes : Prop :=
  ∀ (s : State) (c : Nat), s.start.held = false →
    (s.takesWrites HM_LOCKSTEP_CTL → s.phaseNo = phReady → s.flag HM_LOCKSTEP_CTL_EN = true → s.lockState ∉ [lkStarting, lkRunning, lkDrilling] →
        exec (.lockstepGo c) s = .next (s.after c fun u => u.lockGo.emit (.hport 0 0)))
    ∧ (s.lockState = lkStarting → s.lock.peerStart = none → s.lock.started + s.get HM_TIME_TPS_TPS ≤ s.time.tick →
        exec (.lockstepStartTimeout c) s = .next (s.after c fun u => u.lockRefuse 3 0))
    ∧ (s.takesWrites HM_LOCKSTEP_CTL → s.lockState ∈ [lkStarting, lkRunning, lkDrilling] → s.hawser.hw2 ≠ 2 → exec (.lockstepStop c) s = .next (s.after c fun u =>
        (u.lockStop 1 false).emit (.hport 0 0)))
    ∧ (∀ l k, s.lock.contribs.find? (fun c => decide (c.lcore = l)) = some k → s.commit.inRecall = none → s.lockLowest (s.homeQuay l) ≤ k.step →
        k.step < s.lockLowest (s.homeQuay l) + 16 → exec (.lockstepContribution c l) s = .next (s.after c fun u =>
          let v : State := { u with lock.contribs := s.lock.contribs.erase k }
          let q := s.homeQuay l
          let row := (l - q * s.logicalPer) / 128
          let x := (v.rowShare q k.step row).add k.k k.tick (v.get HM_COMMIT_STAT_CTICK)
          { v with lock.rows := tabSet (fun _ => RowShare.zero) v.lock.rows (rowKey q k.step row) x }))
    ∧ (∀ q d, q < s.nQuays → s.lock.digests.find? (fun d => decide (d.1 = q)) = some d → exec (.quayDigest c q) s = .next (s.after c fun u =>
        let v : State := { u with lock.digests := s.lock.digests.erase d }
        let v : State := { v with lock.own := tabSet (fun _ => none) v.lock.own (d.2.1 * 64 + q) (some d.2.2) }
        match v.stepQuays d.2.1 with
        | none => v
        | some _ => { v with lock.doneAt := tabSet (fun _ => (0, 0)) v.lock.doneAt d.2.1 (v.jt, v.time.tick) }))
    ∧ (∀ qs refused, s.lockState = lkRunning → s.lock.resend = [] → s.stepQuays s.lock.sendNext = some qs → s.lock.sendNext < s.lock.next + 255 →
        (s.stepDone s.lock.sendNext).2 ≠ s.time.tick → exec (.lockstepSlotSend c refused) s = .next (s.after c fun u =>
          let n := s.lock.sendNext
          let rows := u.slotHead n (stepDigest qs) (u.stepDone n).1 0 false :: inRows ((u.nQuays + 7) / 8) qs
          let v := u.lockSend (1024 * (n % 256)) rows
          let v : State := { v with lock.sendNext := n + 1 }
          if refused then { v with lock.resend := [(n, 1024 * (n % 256), rows)] } else v))
    ∧ (∀ r l refused, s.lockState = lkRunning → s.lock.resend = r :: l → s.lock.sentAt ≠ s.time.tick →
        exec (.lockstepSlotSend c refused) s = .next (s.after c fun u =>
          let v := (u.lockSend r.2.1 r.2.2).count HM_LOCKSTEP_CNT_RESENDS 1
          if refused then v else { v with lock.resend := l }))
    ∧ ((s.lockState = lkRunning ∨ s.lockState = lkDrilling) → exec (.lockstepCompare true) s = .next (s.after 0 fun u => (u.at_ (s.commitAt + 1)).lockStop 3 false))
    ∧ (s.lockState = lkRunning ∨ s.lockState = lkDrilling → exec (.lockstepCompare false) s = .next (s.after 0 fun u => u.lockCompare false))

/-- The host's command block and port complete. A GO of PING, BOL_READ, LM_READ, PMBUS_READ, MANIFEST_CHECK, SYNC_DUMP or of an unknown operation (CMD_BAD_OP)
takes its operation and arguments (R653) on a page that takes the write, from CONFIG on, outside Lantern mode and with no command in service. CMD_COMPLETE
(R652) outside a triplex pause ends the service with the result its operation gives, or with its refusal. TAP_SEGMENT (R691): a segment of the test port
opens, and closes. REGISTER_WRITE (R18) of a legal size and parity reaches its place in the pages of the Harbourmaster or of a quay; one outside every block
is answered DECODE. -/
def Obligations.HostPortCompletes : Prop :=
  ∀ (s : State) (c : Nat), s.start.held = false →
    (∀ i op args, (i = .ping c args ∧ op = cmdPing ∨ i = .bolRead c args ∧ op = cmdBolRead ∨ i = .lmRead c args ∧ op = cmdLmRead
          ∨ i = .manifestCheck c args ∧ op = cmdManifestCheck ∨ i = .syncDump c args ∧ op = cmdSyncDump
          ∨ i = .pmbusRead c args ∧ op = cmdPmbusRead ∨ i = .cmdBadOp c op args) →
        s.takesWrites HM_CMD_GO → phConfig ≤ s.phaseNo → s.phaseNo ≠ phFailed → s.lantern = false → s.flag HM_CMD_STATUS_BUSY = false →
        exec i s = .next (s.after c fun u =>
          let v := ((args.take 4).zipIdx).foldl (fun v x => v.setWord (HM_CMD_ARG x.2) x.1) (u.put HM_CMD_OP_OP op)
          (v.cmdAccept op ((List.range 4).map (fun n => v.word (HM_CMD_ARG n)))).emit (.hport 0 0)))
    ∧ (∀ k r data bad ce, s.cmd = some k → k.result = some r → s.lantern = false → s.flag HM_TRIPLEX_STAT_ABSENT = false →
        exec (.cmdComplete c data bad ce) s = .next (s.after c fun u => u.cmdEnd k r k.res))
    ∧ (∀ k data bad ce, s.cmd = some k → k.result = none → k.op ≠ cmdPmbusRead → s.lantern = false → s.flag HM_TRIPLEX_STAT_ABSENT = false → s.cmdRefusal k = 0 →
        exec (.cmdComplete c data bad ce) s = .next (s.after c fun u =>
          let r := u.cmdServe k data bad ce
          r.1.cmdEnd k r.2.1 r.2.2))
    ∧ (∀ k data bad ce, s.cmd = some k → k.result = none → k.op ≠ cmdPmbusRead → s.lantern = false → s.flag HM_TRIPLEX_STAT_ABSENT = false → s.cmdRefusal k ≠ 0 →
        exec (.cmdComplete c data bad ce) s = .next (s.after c fun u => u.cmdEnd k (s.cmdRefusal k) []))
    ∧ (∀ seg kind ty unit w, exec (.tapSegment c seg kind ty unit w true) s = .next (s.after c fun u => u.tapSegment seg kind ty unit w true))
    ∧ (∀ seg kind ty unit w, exec (.tapSegment c seg kind ty unit w false) s = .next (s.after c fun u => u.tapSegment seg kind ty unit w false))
    ∧ (∀ seg kind ty unit w, kind ≠ 0 → s.isOpen = false → seg ∉ s.start.segments → exec (.tapSegment c seg kind ty unit w true) s = .next (s.after c fun u =>
        { u with start := { u.start with segments := u.start.segments ++ [seg] } }))
    ∧ (∀ seg kind ty unit w, kind ≠ 0 → s.start.opening ≠ 3 → exec (.tapSegment c seg kind ty unit w false) s = .next (s.after c fun u =>
        { u with start := { u.start with segments := u.start.segments.erase seg } }))
    ∧ (∀ a size (data : BitVec 64), s.hportUp = true → s.isArmed 0 0 22 = false → a < 0x40000 ∨ (0x100000 ≤ a ∧ a < 0x100000 + s.nQuays * 0x10000 ∧ a < 0x1000000) → 4 ≤ size →
        sizeOk a size = true → exec (.registerWrite c a size data false) s = .next (s.after c fun u => u.aftermath (u.pageWrite a size data)))
    ∧ (∀ a size (data : BitVec 64), s.hportUp = true → s.isArmed 0 0 22 = false → 0x40000 ≤ a → a < 0x100000 → sizeOk a size = true →
        exec (.registerWrite c a size data false) s = .next (s.after c fun u => u.aftermath (u.reply rspDecode 0)))

/-- A step runs the command at the front of the queue, with the queue's rest behind it. -/
def Obligations.StepRunsFront : Prop :=
  ∀ (s : State) (c : Instr) (l : List Instr), s.pending = c :: l → step s = exec c { s with pending := l }

/-- On an empty queue the block idles: the model's choice (log entry 1), no rule of the spec. -/
def Obligations.EmptyQueueIdles : Prop := ∀ s : State, s.pending = [] → step s = .next s

/-- No word spells a command, and placing a word changes nothing: the spec's table gives no row any bits (log entry 2). -/
def Obligations.NoWordSpells : Prop :=
  ∀ nbits w : Nat, decodeTableWord nbits w = none ∧ ∀ s : State, s.withFetchWord nbits w = s

/-- No command stops the block: every one answers a next state, whatever the state, and keeps the commands that wait and the design-time values. -/
def Obligations.NoCommandStops : Prop :=
  ∀ (c : Instr) (s : State), ∃ t, exec c s = .next t ∧ t.pending = s.pending ∧ t.sp = s.sp

/-- After reset the registers hold what the spec states (R43, R44, R93, R175, R248, R337, R387, R608, R650), nothing waits, and the pins show the state. -/
def Obligations.ResetState : Prop :=
  State.reset.pending = [] ∧ State.reset.mem = [] ∧ State.reset.get HM_TIME_TPS_TPS = 125000 ∧ State.reset.get HM_TIME_CTL_TICK_LEN = 1
  ∧ State.reset.word HM_IRQ_MASK = 0x00100000 ∧ State.reset.get HM_TRIPLEX_STAT_PHASE = 0 ∧ State.reset.get HM_COMMIT_CTL_DRAIN_CC = 2048
  ∧ State.reset.get HM_XSPI_TEMP_IN_WINDOW = 0 ∧ State.reset.get (QY_TND_CTL_EN 0) = 0xFF ∧ State.reset.get (QY_TND_CTL_RESERVE_TOK 0) = 8
  ∧ State.reset.get (QY_PILOT_BW_BUDGET 0) = 125697 ∧ State.reset.role 0 = roleIdle ∧ State.reset.PinsFollow ∧ State.reset.AlarmsFollow

/-- The tick (R21): its length and granule follow TICK_LEN, all positions are multiples of the sub-tick, a sixteenth of a tick, and the ticks of a second are
those of 1.1 GHz. -/
def Obligations.TickLengths : Prop :=
  (∀ s : State, s.tickLen = 16 * (275 * 2 ^ s.get HM_TIME_CTL_TICK_LEN) ∧ s.granule = max 1 (2 ^ s.get HM_TIME_CTL_TICK_LEN / 2))
  ∧ (∀ s : State, s.window = 2 * (s.tickLen / 16) ∧ s.commitAt = 4 * (s.tickLen / 16))
  ∧ (tickLenOf 0, tickLenOf 1, tickLenOf 2, tickLenOf 3) = (4400, 8800, 17600, 35200)
  ∧ (tickLenOf 0 / 16, tickLenOf 1 / 16, tickLenOf 2 / 16, tickLenOf 3 / 16) = (275, 550, 1100, 2200)
  ∧ (1100000000 / tickLenOf 0, 1100000000 / tickLenOf 1, 1100000000 / tickLenOf 2, 1100000000 / tickLenOf 3) = (250000, 125000, 62500, 31250)
  ∧ (granuleOf 0, granuleOf 1, granuleOf 2, granuleOf 3) = (1, 1, 2, 4)
  ∧ State.reset.tickLen = 8800

/-- While PORST_N is low (R672) no command but POWER_ON_RESET and RESET_RELEASE does anything: what was driven is withdrawn, and the pins follow the state. -/
def Obligations.HeldDoesNothing : Prop :=
  ∀ (c : Instr) (s : State), s.start.held = true → c ≠ .powerOnReset → c ≠ .resetRelease → exec c s = .next ({ s with out := [] } : State).settle

/-- A whole run while PORST_N is low (R672): however many commands come, as long as none is POWER_ON_RESET or RESET_RELEASE, no register changes but those
that show the pins, no byte, no unit, and the time stands; the commands are taken from the queue in order. -/
def Obligations.HeldRunChangesNothing : Prop :=
  ∀ (n : Nat) (s : State), s.start.held = true → n ≤ s.pending.length → (∀ c ∈ s.pending.take n, c ≠ .powerOnReset ∧ c ≠ .resetRelease) →
    ∃ t, Host.Core.run Sys2Proof.core n s = .next t ∧ t.pending = s.pending.drop n ∧ t.start = s.start
      ∧ (∀ a, a ≠ HM_FAULT_ALARM → a ≠ HM_IRQ_STAT → t.word a = s.word a) ∧ t.mem = s.mem ∧ t.time = s.time ∧ t.tiles = s.tiles ∧ t.quays = s.quays
      ∧ t.commit = s.commit ∧ (0 < n → t.out = [])

/-- In every state that a step leads to, ALARM_N, the acknowledged alarm causes and the four interrupt pins follow the state (R496, R497, R559, R650), if they
did before. -/
def Obligations.PinsAlwaysFollow : Prop :=
  ∀ s t : State, s.PinsFollow → s.AlarmsFollow → step s = .next t → t.PinsFollow ∧ t.AlarmsFollow

/-- IRQ_N[2] (R559): after every command it is low, that is its bit of PINS is 1, exactly while WSEQ less RMARK is at least THRESH or the log port is failed.
-/
def Obligations.LogInterrupt : Prop :=
  ∀ (c : Instr) (s t : State), exec c s = .next t →
    ((t.get HM_IRQ_STAT_PINS).testBit 2 = true ↔
      t.get HM_LOG_CTL_THRESH ≤ t.get HM_LOG_WSEQ_WSEQ - t.get HM_LOG_RMARK_RMARK ∨ t.get HM_LOG_STAT_STATE = lsFailed)

/-- Unmapped addresses (R636): a read of one returns 0 with DECODE; a write to one has no effect and is answered DECODE. (The port is up, the size and
alignment are legal, and no parity error is forced.) -/
def Obligations.UnmappedAddresses : Prop :=
  ∀ (s : State) (c a size : Nat) (data : BitVec 64) (ue : Bool) (ce : Option Nat), s.start.held = false → s.hportUp = true → s.isArmed 0 0 22 = false → sizeOk a size = true →
    (0x40000 ≤ a ∧ a < 0x100000 ∨ 0x100000 + s.nQuays * 0x10000 ≤ a ∧ a < 0x1000000 ∨ 0x2000000 ≤ a ∧ a < 0x40000000 ∨ 0x40000000 + s.nQuays * 0x1000000 ≤ a) →
    exec (.registerWrite c a size data false) s = .next (s.after c fun u => u.emit (.hport rspDecode 0))
    ∧ exec (.storeApertureAccess c a size data true false ue ce) s = .next (s.after c fun u => u.emit (.hport rspDecode 0))
    ∧ exec (.storeApertureAccess c a size data false false ue ce) s = .next (s.after c fun u => u.emit (.hport rspDecode 0))

/-- The quay windows (R342): HPORT address 0x4000_0000 + q × 0x0100_0000 + o reaches offset o of quay q's store; at or beyond the configured size a read gives
0, a write does nothing else, and either sets APERTURE_RANGE on the quay's store page. (The port is up, the size and alignment are legal, and no parity error
is forced.) -/
def Obligations.QuayStoreWindow : Prop :=
  ∀ (s : State) (c q o size : Nat) (data : BitVec 64) (write ue : Bool) (ce : Option Nat), s.start.held = false → s.hportUp = true → s.isArmed 0 0 22 = false → q < s.nQuays → o < 0x1000000 →
    sizeOk (0x40000000 + q * 0x1000000 + o) size = true →
    exec (.storeApertureAccess c (0x40000000 + q * 0x1000000 + o) size data write false ue ce) s = .next (s.after c fun u => u.quayAccess q o size write data.toNat ue ce)
    ∧ (s.storeBytes q ≤ o → exec (.storeApertureAccess c (0x40000000 + q * 0x1000000 + o) size data write false ue ce) s
        = .next (s.after c fun u => (u.pageErr (qyAddr q 0x8000) errAperture).emit (.hport rspOk 0)))

/-- The gate of a host write (R640, R644): on a page that is not served the write is REFUSED and nothing else happens; on a page whose EN is 0 it only sets
HOST_DENIED. -/
def Obligations.HostGate : Prop :=
  ∀ (s : State) (c : Nat) (i : Instr) (a : Nat), s.start.held = false →
    (i, a) ∈ ([(.align c, HM_TIME_CTL), (.calGo c, HM_HAWSER_XCTL), (.hostRecall c, HM_COMMIT_OP), (.halt c, HM_COMMIT_OP), (.resume c, HM_COMMIT_OP),
      (.abandon c, HM_COMMIT_OP), (.xspiProgram c, HM_XSPI_OP), (.xspiErase c, HM_XSPI_OP), (.xspiRescan c, HM_XSPI_OP), (.breakwaterWafer c, HM_FAULT_OP),
      (.logFlush c, HM_LOG_CTL), (.logPortRetry c, HM_LOG_CTL), (.logClear c, HM_LOG_CLR), (.keyLoad c, HM_KEY_OP), (.keyZero c, HM_KEY_OP), (.load c, HM_TRIPLEX_OP),
      (.epoch c, HM_TRIPLEX_OP), (.startTest c, HM_TRIPLEX_OP), (.openHarbour c, HM_TRIPLEX_OP), (.close c, HM_TRIPLEX_OP), (.update c, HM_TRIPLEX_OP),
      (.lockstepGo c, HM_LOCKSTEP_CTL), (.lockstepStop c, HM_LOCKSTEP_CTL)] : List (Instr × Nat)) →
    (s.pageReady a = false → exec i s = .next (s.after c fun u => u.emit (.hport rspRefused 0)))
    ∧ (s.pageReady a = true → s.pageEn a = false → exec i s = .next (s.after c fun u => (u.pageErr a errDenied).emit (.hport 0 0)))

/-- A triplex operation in a phase that does not allow it (R580, R609) ends at once: RESULT 4, REFUSED 1, BUSY 0, the phase as it was, and the end raises its
event bit. -/
def Obligations.PhaseRefusals : Prop :=
  ∀ (s : State) (c : Nat) (i : Instr) (op : Nat) (ok : List Nat), s.start.held = false → s.takesGo HM_TRIPLEX_OP → s.flag HM_TRIPLEX_OP_BUSY = false →
    (i, op, ok) ∈ ([(.load c, 1, [phWaitImage]), (.epoch c, 3, [phConfig]), (.startTest c, 4, [phConfig]), (.openHarbour c, 5, [phReady]), (.close c, 6, [phOpen]),
      (.update c, 7, [phConfig, phReady, phOpen])] : List (Instr × Nat × List Nat)) →
    s.phaseNo ∉ ok →
    ∃ t, exec i s = .next t ∧ t.get HM_TRIPLEX_OP_OP = op ∧ t.get HM_TRIPLEX_OP_RESULT = 4 ∧ t.get HM_TRIPLEX_OP_REFUSED = 1 ∧ t.get HM_TRIPLEX_OP_BUSY = 0
      ∧ t.phaseNo = s.phaseNo ∧ t.get HM_IRQ_STAT_TRIPLEX = 1 ∧ t.out = [.hport 0 0] ∧ s.UnitFrame t ∧ t.mem = s.mem

/-- CERR on a core (R65, R66, R76, R101, R695): the error bits are kept in BOL_CERR, CORE is latched in BOL_OPEN and CLEAN is 0, the Breakwater is applied for
it, and a tile that reports in full pulls HW1 once as a Bollard; a tile that does not report in full, and that no recall's move takes, pulls nothing. -/
def Obligations.CoreErrorPulls : Prop :=
  ∀ (s : State) (c p b : Nat), s.start.held = false → s.isTile p = true → s.cdomOk p = true → b % 16 ≠ 0 →
    ∃ t, exec (.coreError c p b) s = .next t ∧ t.get (BOL_CERR_SEEN p) = s.get (BOL_CERR_SEEN p) ||| b % 16
      ∧ (∀ i, 1 ≤ i → (t.word (BOL_OPEN p)).toNat.testBit i = (decide (i = cCore) || (s.word (BOL_OPEN p)).toNat.testBit i))
      ∧ (t.word (BOL_OPEN p)).toNat.testBit 0 = false ∧ t.get (BOL_STAT_BW_ACTIVE p) = 1 ∧ (t.get (BOL_BW_WHY p)).testBit 1 = true
      ∧ (s.reportsFull p = true → (s.word (BOL_OPEN p)).toNat.testBit cCore = false →
          ∃ k, t.commit.pulls = s.commit.pulls ++ [k] ∧ k.kind = 0 ∧ k.quay = quayOf p ∧ k.ltile = localOf p ∧ k.reason = 1 ∧ k.halt = 0)
      ∧ (s.reportsFull p = false → s.migratesTo p = false → t.commit.pulls = s.commit.pulls)

/-- A link that is lost with traffic in flight (R65, R78, R100) sets cause LINK, DOWN shows the present level of the four links, and the loss is counted as
one in flight; on a tile that reports in full it pulls HW1 with reason 6. -/
def Obligations.LinkLossPulls : Prop :=
  ∀ (s : State) (c p m : Nat), s.start.held = false → s.isTile p = true → (∃ i, i < 4 ∧ m.testBit i = true ∧ (s.get (BOL_RTR_DOWN p)).testBit i = false) →
    ∃ t, exec (.linkDown c p m m) s = .next t ∧ t.get (BOL_RTR_DOWN p) = m % 16
      ∧ t.get (BOL_RTR_LOSSES p) = s.get (BOL_RTR_LOSSES p) ∧ (t.word (BOL_OPEN p)).toNat.testBit cLink = true ∧ (t.word (BOL_OPEN p)).toNat.testBit 0 = false
      ∧ (s.reportsFull p = true → (s.word (BOL_OPEN p)).toNat.testBit cLink = false → ∃ k, t.commit.pulls = s.commit.pulls ++ [k] ∧ k.kind = 0 ∧ k.reason = 6)
      ∧ (s.reportsFull p = false → s.migratesTo p = false → t.commit.pulls = s.commit.pulls)

/-- SLEEP and the pending wake (R73, R82): a sleep that finds PENDING set, or a wake of its channels in its own cycle, clears it and does not gate the core;
one that finds neither gates it, which GATE_WHY shows. -/
def Obligations.SleepNeedsNoPendingWake : Prop :=
  ∀ (s : State) (c p m : Nat), s.start.held = false → s.isTile p = true → s.cdomOk p = true → (s.tile p).steps = [] → m % 2 ^ 16 ≠ 0 →
    (s.flag (BOL_WAKE_PENDING p) = true ∨ (s.begin_ c).wokeNow p (m % 2 ^ 16) = true → ∃ t, exec (.sidebandSleep c p m) s = .next t ∧ t.get (BOL_WAKE_PENDING p) = 0
        ∧ t.get (BOL_WAKE_MASK p) = m % 2 ^ 16 ∧ (t.tile p).asleep = (s.tile p).asleep ∧ t.word (BOL_CLK p) = s.word (BOL_CLK p))
    ∧ (s.flag (BOL_WAKE_PENDING p) = false → (s.begin_ c).wokeNow p (m % 2 ^ 16) = false → ∃ t, exec (.sidebandSleep c p m) s = .next t ∧ t.get (BOL_WAKE_PENDING p) = 0
        ∧ t.get (BOL_WAKE_MASK p) = m % 2 ^ 16 ∧ (t.tile p).asleep = true ∧ t.get (BOL_CLK_RUN p) = 0 ∧ (t.get (BOL_CLK_GATE_WHY p)).testBit 1 = true
        ∧ t.get (BOL_STAT_SLEEP p) = 1)

/-- A core's request of class 2 or 3 (R443), taken by a Bollard that has no request of the core in hand, is never granted: it sets BAD_CLASS and is counted
and recorded; the core's tokens, its bucket and every account stay, and nothing else, but that the Bollard keeps the line's level. -/
def Obligations.BadClassNeverGranted : Prop :=
  ∀ (s : State) (c p cls : Nat), s.start.held = false → s.isTile p = true → s.cdomOk p = true → s.clrBusy p false = false → 2 ≤ cls % 4 →
    ∃ t, exec (.clearanceRequest c [(p, false, cls)]) s = .next t ∧ t.get (BOL_CLR_BAD_CLASS p) = 1
      ∧ t.get (QY_CLEAR_CNT1_BAD_CLASS (quayOf p)) = min (s.get (QY_CLEAR_CNT1_BAD_CLASS (quayOf p)) + 1) 0xFFFF
      ∧ (∀ lo w, lo + w ≤ 11 ∨ 12 ≤ lo → fieldOf (t.word (BOL_CLR p)) lo w = fieldOf (s.word (BOL_CLR p)) lo w)
      ∧ s.RegFrame t [BOL_CLR p, QY_CLEAR_CNT1 (quayOf p), HM_LOG_CNT] ∧ t.quays = s.quays ∧ t.tile p = { s.tile p with clrBad := true }
      ∧ (∀ r, r ≠ p → t.tile r = s.tile r) ∧ s.ControlFrame t ∧ t.out = []

/-- The quay's deadline (R38, R222, R224): while a job tick is open to decision, one that is not clean, for an unclean verdict or a check still outstanding,
is not let go: HW1 is pulled as the quay, with reason REPORT. -/
def Obligations.UncleanTickPulls : Prop :=
  ∀ (s : State) (q : Nat), s.start.held = false → q < s.nQuays → s.cmState = cmRun → s.commit.openTick + 2 ≤ s.jt → s.ctick < s.jt - 2 →
    s.controlled q = true → s.donly = false → (s.uncleanAt q (s.jt - 2)).isSome = true ∨ s.outstanding q (s.jt - 2) = true →
    ∃ t x, exec (.quayDeadline q) s = .next t ∧ t.commit.pulls = s.commit.pulls ++ [x] ∧ x.kind = 1 ∧ x.quay = q ∧ x.reason = 2
      ∧ t.commit.released = s.commit.released ∧ t.commit.pend = s.commit.pend ∧ t.ctick = s.ctick

/-- The producers' queues (R548, R550): a claim never takes a queue past its room, 256 records at the Harbourmaster and 64 at a quay; a claim that is dropped
is counted and changes nothing else in its queue; the other producers' queues stay. -/
def Obligations.ProducerQueues : Prop :=
  ∀ (s : State) (i : Nat) (claim : List Rec),
    (queued (s.prod i).claims ≤ prodRoom i → queued ((s.enqueue i claim).prod i).claims ≤ prodRoom i)
    ∧ (∀ j, j ≠ i → (s.enqueue i claim).prod j = s.prod j)
    ∧ (2 ≤ claim.length → prodRoom i < queued (s.prod i).claims + claim.length →
        ((s.enqueue i claim).prod i).claims = (s.prod i).claims ∧ ((s.enqueue i claim).prod i).dropped = (s.prod i).dropped + claim.length
        ∧ (s.enqueue i claim).get HM_LOG_CNT_DROPPED = min (s.get HM_LOG_CNT_DROPPED + claim.length) (2 ^ HM_LOG_CNT_DROPPED.w - 1))

/-- A host's write to the harbour store (R635, R640): while the harbour is closed and the bank serves, the bytes of the data are stored lowest first from the
address up, every other byte of every store stays, and the store keeps its canonical form. -/
def Obligations.HarbourStoreWrite : Prop :=
  ∀ (s : State) (c o size : Nat) (data : BitVec 64) (ue : Bool) (ce : Option Nat), s.start.held = false → s.hportUp = true → s.isArmed 0 0 22 = false → o < 0x1000000 → sizeOk (0x1000000 + o) size = true →
    s.phaseNo ≠ phSelftest → s.phaseNo ≠ phFailed → s.isOpen = false → (s.unit (ukBank (o / 4194304))).colour < vermilion →
    ∃ t, exec (.storeApertureAccess c (0x1000000 + o) size data true false ue ce) s = .next t
      ∧ (∀ i, i < size → t.byte (hsAddr o + i) = BitVec.ofNat 8 (data.toNat / 2 ^ (8 * i)))
      ∧ (∀ a, a < hsAddr o ∨ hsAddr o + size ≤ a → t.byte a = s.byte a) ∧ (memWf s.mem → memWf t.mem)
      ∧ (∀ a, a ≠ HM_FAULT_ALARM → a ≠ HM_IRQ_STAT → t.word a = s.word a) ∧ s.UnitFrame t ∧ t.out = [.hport rspOk 0]

/-- The frame of the timebase's commands: beside the timebase's own registers, the count of lost records and the answer's error word they change no register,
no store, no unit and none of the machine's other parts. -/
def Obligations.TimebaseFrame : Prop :=
  ∀ (s t : State) (i : Instr) (c : Nat), i ∈ ([.align c, .timeHoldover c, .holdoverSecond, .slewDecision] : List Instr) → s.start.held = false → exec i s = .next t →
    s.RegFrame t [HM_TIME_STAT, HM_TIME_SLEW, HM_TIME_CTL / 0x1000 * 0x1000 + 0x10, HM_LOG_CNT] ∧ s.UnitFrame t ∧ s.ControlFrame t

/-- The frame of the commands that read or acknowledge: selecting a log record, a fetched record, the kicks, an alarm's acknowledgement, the end of a Bollard
access that nobody answers, and a host's request to a tile's side port. -/
def Obligations.ReadingFrame : Prop :=
  ∀ (s t : State) (c p q n : Nat) (l : List (BitVec 64)) (w : BitVec 64), s.start.held = false →
    (exec (.logFetchDone c l) s = .next t → s.RegFrame t [HM_LOG_RSTAT, HM_LOG_RDATA 0, HM_LOG_RDATA 1, HM_LOG_RDATA 2, HM_LOG_RDATA 3] ∧ s.UnitFrame t ∧ s.ControlFrame t)
    ∧ (exec (.quayWatchdogKick c q false) s = .next t → s.RegFrame t [QY_RST_WDOG q] ∧ t.tiles = s.tiles ∧ s.ControlFrame t)
    ∧ (exec (.hmWatchdogKick c false) s = .next t → s.RegFrame t [HM_RST_STAT] ∧ s.UnitFrame t ∧ t.rst = s.rst)
    ∧ (exec (.alarmAck c n false) s = .next t → s.RegFrame t [HM_LOG_CNT] ∧ s.UnitFrame t ∧ s.ControlFrame t)
    ∧ (exec (.bollardAccessTimeout c q) s = .next t → s.RegFrame t [QY_BOL_SEL q, QY_BOL_DATA q] ∧ s.UnitFrame t ∧ s.ControlFrame t)
    ∧ (exec (.lmSideportAccess c p w) s = .next t → s.RegFrame t [BOL_LM_ADDR p] ∧ s.UnitFrame t ∧ s.ControlFrame t)
    ∧ (exec (.dumpReadTimeout c n) s = .next t → s.RegFrame t [] ∧ s.UnitFrame t ∧ t.commit = s.commit)
end

