-- ==== Sys2Proof/Laws/State.lean ====
section
/-!
SUPPORT. What each basic update of the state leaves alone: one lemma per field and update, true by definition.
-/

namespace Sys2Proof.Machine

@[simp] theorem State.setWord_sp (s : State) (a : Nat) (w : Word) : (s.setWord a w).sp = s.sp := (rfl)
@[simp] theorem State.setWord_pending (s : State) (a : Nat) (w : Word) : (s.setWord a w).pending = s.pending := (rfl)
@[simp] theorem State.setWord_rtDev (s : State) (a : Nat) (w : Word) : (s.setWord a w).rtDev = s.rtDev := (rfl)
@[simp] theorem State.setWord_mem (s : State) (a : Nat) (w : Word) : (s.setWord a w).mem = s.mem := (rfl)
@[simp] theorem State.setWord_hmTags (s : State) (a : Nat) (w : Word) : (s.setWord a w).hmTags = s.hmTags := (rfl)
@[simp] theorem State.setWord_time (s : State) (a : Nat) (w : Word) : (s.setWord a w).time = s.time := (rfl)
@[simp] theorem State.setWord_commit (s : State) (a : Nat) (w : Word) : (s.setWord a w).commit = s.commit := (rfl)
@[simp] theorem State.setWord_power (s : State) (a : Nat) (w : Word) : (s.setWord a w).power = s.power := (rfl)
@[simp] theorem State.setWord_hawser (s : State) (a : Nat) (w : Word) : (s.setWord a w).hawser = s.hawser := (rfl)
@[simp] theorem State.setWord_rst (s : State) (a : Nat) (w : Word) : (s.setWord a w).rst = s.rst := (rfl)
@[simp] theorem State.setWord_customs (s : State) (a : Nat) (w : Word) : (s.setWord a w).customs = s.customs := (rfl)
@[simp] theorem State.setWord_test (s : State) (a : Nat) (w : Word) : (s.setWord a w).test = s.test := (rfl)
@[simp] theorem State.setWord_log (s : State) (a : Nat) (w : Word) : (s.setWord a w).log = s.log := (rfl)
@[simp] theorem State.setWord_keys (s : State) (a : Nat) (w : Word) : (s.setWord a w).keys = s.keys := (rfl)
@[simp] theorem State.setWord_start (s : State) (a : Nat) (w : Word) : (s.setWord a w).start = s.start := (rfl)
@[simp] theorem State.setWord_lock (s : State) (a : Nat) (w : Word) : (s.setWord a w).lock = s.lock := (rfl)
@[simp] theorem State.setWord_cmd (s : State) (a : Nat) (w : Word) : (s.setWord a w).cmd = s.cmd := (rfl)
@[simp] theorem State.setWord_tiles (s : State) (a : Nat) (w : Word) : (s.setWord a w).tiles = s.tiles := (rfl)
@[simp] theorem State.setWord_quays (s : State) (a : Nat) (w : Word) : (s.setWord a w).quays = s.quays := (rfl)
@[simp] theorem State.setWord_prods (s : State) (a : Nat) (w : Word) : (s.setWord a w).prods = s.prods := (rfl)
@[simp] theorem State.setWord_armed (s : State) (a : Nat) (w : Word) : (s.setWord a w).armed = s.armed := (rfl)
@[simp] theorem State.setWord_alarms (s : State) (a : Nat) (w : Word) : (s.setWord a w).alarms = s.alarms := (rfl)
@[simp] theorem State.setWord_frames (s : State) (a : Nat) (w : Word) : (s.setWord a w).frames = s.frames := (rfl)
@[simp] theorem State.setWord_bolMsgs (s : State) (a : Nat) (w : Word) : (s.setWord a w).bolMsgs = s.bolMsgs := (rfl)
@[simp] theorem State.setWord_quayMsgs (s : State) (a : Nat) (w : Word) : (s.setWord a w).quayMsgs = s.quayMsgs := (rfl)
@[simp] theorem State.setWord_sampReqs (s : State) (a : Nat) (w : Word) : (s.setWord a w).sampReqs = s.sampReqs := (rfl)
@[simp] theorem State.setWord_outSigs (s : State) (a : Nat) (w : Word) : (s.setWord a w).outSigs = s.outSigs := (rfl)
@[simp] theorem State.setWord_shadowSigs (s : State) (a : Nat) (w : Word) : (s.setWord a w).shadowSigs = s.shadowSigs := (rfl)
@[simp] theorem State.setWord_disputes (s : State) (a : Nat) (w : Word) : (s.setWord a w).disputes = s.disputes := (rfl)
@[simp] theorem State.setWord_stops (s : State) (a : Nat) (w : Word) : (s.setWord a w).stops = s.stops := (rfl)
@[simp] theorem State.setWord_l2p (s : State) (a : Nat) (w : Word) : (s.setWord a w).l2p = s.l2p := (rfl)
@[simp] theorem State.setWord_built (s : State) (a : Nat) (w : Word) : (s.setWord a w).built = s.built := (rfl)
@[simp] theorem State.setWord_moves (s : State) (a : Nat) (w : Word) : (s.setWord a w).moves = s.moves := (rfl)
@[simp] theorem State.setWord_demands (s : State) (a : Nat) (w : Word) : (s.setWord a w).demands = s.demands := (rfl)
@[simp] theorem State.setWord_detections (s : State) (a : Nat) (w : Word) : (s.setWord a w).detections = s.detections := (rfl)
@[simp] theorem State.setWord_out (s : State) (a : Nat) (w : Word) : (s.setWord a w).out = s.out := (rfl)
@[simp] theorem State.setWord_coins (s : State) (a : Nat) (w : Word) : (s.setWord a w).coins = s.coins := (rfl)
@[simp] theorem State.setWord_closed (s : State) (a : Nat) (w : Word) : (s.setWord a w).closed = s.closed := (rfl)
@[simp] theorem State.setWord_freeCount (s : State) (a : Nat) (w : Word) : (s.setWord a w).freeCount = s.freeCount := (rfl)

@[simp] theorem State.put_sp (s : State) (f : Fld) (v : Nat) : (s.put f v).sp = s.sp := (rfl)
@[simp] theorem State.put_pending (s : State) (f : Fld) (v : Nat) : (s.put f v).pending = s.pending := (rfl)
@[simp] theorem State.put_rtDev (s : State) (f : Fld) (v : Nat) : (s.put f v).rtDev = s.rtDev := (rfl)
@[simp] theorem State.put_mem (s : State) (f : Fld) (v : Nat) : (s.put f v).mem = s.mem := (rfl)
@[simp] theorem State.put_hmTags (s : State) (f : Fld) (v : Nat) : (s.put f v).hmTags = s.hmTags := (rfl)
@[simp] theorem State.put_time (s : State) (f : Fld) (v : Nat) : (s.put f v).time = s.time := (rfl)
@[simp] theorem State.put_commit (s : State) (f : Fld) (v : Nat) : (s.put f v).commit = s.commit := (rfl)
@[simp] theorem State.put_power (s : State) (f : Fld) (v : Nat) : (s.put f v).power = s.power := (rfl)
@[simp] theorem State.put_hawser (s : State) (f : Fld) (v : Nat) : (s.put f v).hawser = s.hawser := (rfl)
@[simp] theorem State.put_rst (s : State) (f : Fld) (v : Nat) : (s.put f v).rst = s.rst := (rfl)
@[simp] theorem State.put_customs (s : State) (f : Fld) (v : Nat) : (s.put f v).customs = s.customs := (rfl)
@[simp] theorem State.put_test (s : State) (f : Fld) (v : Nat) : (s.put f v).test = s.test := (rfl)
@[simp] theorem State.put_log (s : State) (f : Fld) (v : Nat) : (s.put f v).log = s.log := (rfl)
@[simp] theorem State.put_keys (s : State) (f : Fld) (v : Nat) : (s.put f v).keys = s.keys := (rfl)
@[simp] theorem State.put_start (s : State) (f : Fld) (v : Nat) : (s.put f v).start = s.start := (rfl)
@[simp] theorem State.put_lock (s : State) (f : Fld) (v : Nat) : (s.put f v).lock = s.lock := (rfl)
@[simp] theorem State.put_cmd (s : State) (f : Fld) (v : Nat) : (s.put f v).cmd = s.cmd := (rfl)
@[simp] theorem State.put_tiles (s : State) (f : Fld) (v : Nat) : (s.put f v).tiles = s.tiles := (rfl)
@[simp] theorem State.put_quays (s : State) (f : Fld) (v : Nat) : (s.put f v).quays = s.quays := (rfl)
@[simp] theorem State.put_prods (s : State) (f : Fld) (v : Nat) : (s.put f v).prods = s.prods := (rfl)
@[simp] theorem State.put_armed (s : State) (f : Fld) (v : Nat) : (s.put f v).armed = s.armed := (rfl)
@[simp] theorem State.put_alarms (s : State) (f : Fld) (v : Nat) : (s.put f v).alarms = s.alarms := (rfl)
@[simp] theorem State.put_frames (s : State) (f : Fld) (v : Nat) : (s.put f v).frames = s.frames := (rfl)
@[simp] theorem State.put_bolMsgs (s : State) (f : Fld) (v : Nat) : (s.put f v).bolMsgs = s.bolMsgs := (rfl)
@[simp] theorem State.put_quayMsgs (s : State) (f : Fld) (v : Nat) : (s.put f v).quayMsgs = s.quayMsgs := (rfl)
@[simp] theorem State.put_sampReqs (s : State) (f : Fld) (v : Nat) : (s.put f v).sampReqs = s.sampReqs := (rfl)
@[simp] theorem State.put_outSigs (s : State) (f : Fld) (v : Nat) : (s.put f v).outSigs = s.outSigs := (rfl)
@[simp] theorem State.put_shadowSigs (s : State) (f : Fld) (v : Nat) : (s.put f v).shadowSigs = s.shadowSigs := (rfl)
@[simp] theorem State.put_disputes (s : State) (f : Fld) (v : Nat) : (s.put f v).disputes = s.disputes := (rfl)
@[simp] theorem State.put_stops (s : State) (f : Fld) (v : Nat) : (s.put f v).stops = s.stops := (rfl)
@[simp] theorem State.put_l2p (s : State) (f : Fld) (v : Nat) : (s.put f v).l2p = s.l2p := (rfl)
@[simp] theorem State.put_built (s : State) (f : Fld) (v : Nat) : (s.put f v).built = s.built := (rfl)
@[simp] theorem State.put_moves (s : State) (f : Fld) (v : Nat) : (s.put f v).moves = s.moves := (rfl)
@[simp] theorem State.put_demands (s : State) (f : Fld) (v : Nat) : (s.put f v).demands = s.demands := (rfl)
@[simp] theorem State.put_detections (s : State) (f : Fld) (v : Nat) : (s.put f v).detections = s.detections := (rfl)
@[simp] theorem State.put_out (s : State) (f : Fld) (v : Nat) : (s.put f v).out = s.out := (rfl)
@[simp] theorem State.put_coins (s : State) (f : Fld) (v : Nat) : (s.put f v).coins = s.coins := (rfl)
@[simp] theorem State.put_closed (s : State) (f : Fld) (v : Nat) : (s.put f v).closed = s.closed := (rfl)
@[simp] theorem State.put_freeCount (s : State) (f : Fld) (v : Nat) : (s.put f v).freeCount = s.freeCount := (rfl)

@[simp] theorem State.count_sp (s : State) (f : Fld) (n : Nat) : (s.count f n).sp = s.sp := (rfl)
@[simp] theorem State.count_pending (s : State) (f : Fld) (n : Nat) : (s.count f n).pending = s.pending := (rfl)
@[simp] theorem State.count_rtDev (s : State) (f : Fld) (n : Nat) : (s.count f n).rtDev = s.rtDev := (rfl)
@[simp] theorem State.count_mem (s : State) (f : Fld) (n : Nat) : (s.count f n).mem = s.mem := (rfl)
@[simp] theorem State.count_hmTags (s : State) (f : Fld) (n : Nat) : (s.count f n).hmTags = s.hmTags := (rfl)
@[simp] theorem State.count_time (s : State) (f : Fld) (n : Nat) : (s.count f n).time = s.time := (rfl)
@[simp] theorem State.count_commit (s : State) (f : Fld) (n : Nat) : (s.count f n).commit = s.commit := (rfl)
@[simp] theorem State.count_power (s : State) (f : Fld) (n : Nat) : (s.count f n).power = s.power := (rfl)
@[simp] theorem State.count_hawser (s : State) (f : Fld) (n : Nat) : (s.count f n).hawser = s.hawser := (rfl)
@[simp] theorem State.count_rst (s : State) (f : Fld) (n : Nat) : (s.count f n).rst = s.rst := (rfl)
@[simp] theorem State.count_customs (s : State) (f : Fld) (n : Nat) : (s.count f n).customs = s.customs := (rfl)
@[simp] theorem State.count_test (s : State) (f : Fld) (n : Nat) : (s.count f n).test = s.test := (rfl)
@[simp] theorem State.count_log (s : State) (f : Fld) (n : Nat) : (s.count f n).log = s.log := (rfl)
@[simp] theorem State.count_keys (s : State) (f : Fld) (n : Nat) : (s.count f n).keys = s.keys := (rfl)
@[simp] theorem State.count_start (s : State) (f : Fld) (n : Nat) : (s.count f n).start = s.start := (rfl)
@[simp] theorem State.count_lock (s : State) (f : Fld) (n : Nat) : (s.count f n).lock = s.lock := (rfl)
@[simp] theorem State.count_cmd (s : State) (f : Fld) (n : Nat) : (s.count f n).cmd = s.cmd := (rfl)
@[simp] theorem State.count_tiles (s : State) (f : Fld) (n : Nat) : (s.count f n).tiles = s.tiles := (rfl)
@[simp] theorem State.count_quays (s : State) (f : Fld) (n : Nat) : (s.count f n).quays = s.quays := (rfl)
@[simp] theorem State.count_prods (s : State) (f : Fld) (n : Nat) : (s.count f n).prods = s.prods := (rfl)
@[simp] theorem State.count_armed (s : State) (f : Fld) (n : Nat) : (s.count f n).armed = s.armed := (rfl)
@[simp] theorem State.count_alarms (s : State) (f : Fld) (n : Nat) : (s.count f n).alarms = s.alarms := (rfl)
@[simp] theorem State.count_frames (s : State) (f : Fld) (n : Nat) : (s.count f n).frames = s.frames := (rfl)
@[simp] theorem State.count_bolMsgs (s : State) (f : Fld) (n : Nat) : (s.count f n).bolMsgs = s.bolMsgs := (rfl)
@[simp] theorem State.count_quayMsgs (s : State) (f : Fld) (n : Nat) : (s.count f n).quayMsgs = s.quayMsgs := (rfl)
@[simp] theorem State.count_sampReqs (s : State) (f : Fld) (n : Nat) : (s.count f n).sampReqs = s.sampReqs := (rfl)
@[simp] theorem State.count_outSigs (s : State) (f : Fld) (n : Nat) : (s.count f n).outSigs = s.outSigs := (rfl)
@[simp] theorem State.count_shadowSigs (s : State) (f : Fld) (n : Nat) : (s.count f n).shadowSigs = s.shadowSigs := (rfl)
@[simp] theorem State.count_disputes (s : State) (f : Fld) (n : Nat) : (s.count f n).disputes = s.disputes := (rfl)
@[simp] theorem State.count_stops (s : State) (f : Fld) (n : Nat) : (s.count f n).stops = s.stops := (rfl)
@[simp] theorem State.count_l2p (s : State) (f : Fld) (n : Nat) : (s.count f n).l2p = s.l2p := (rfl)
@[simp] theorem State.count_built (s : State) (f : Fld) (n : Nat) : (s.count f n).built = s.built := (rfl)
@[simp] theorem State.count_moves (s : State) (f : Fld) (n : Nat) : (s.count f n).moves = s.moves := (rfl)
@[simp] theorem State.count_demands (s : State) (f : Fld) (n : Nat) : (s.count f n).demands = s.demands := (rfl)
@[simp] theorem State.count_detections (s : State) (f : Fld) (n : Nat) : (s.count f n).detections = s.detections := (rfl)
@[simp] theorem State.count_out (s : State) (f : Fld) (n : Nat) : (s.count f n).out = s.out := (rfl)
@[simp] theorem State.count_coins (s : State) (f : Fld) (n : Nat) : (s.count f n).coins = s.coins := (rfl)
@[simp] theorem State.count_closed (s : State) (f : Fld) (n : Nat) : (s.count f n).closed = s.closed := (rfl)
@[simp] theorem State.count_freeCount (s : State) (f : Fld) (n : Nat) : (s.count f n).freeCount = s.freeCount := (rfl)

@[simp] theorem State.setTile_sp (s : State) (p : Nat) (t : TileSt) : (s.setTile p t).sp = s.sp := (rfl)
@[simp] theorem State.setTile_pending (s : State) (p : Nat) (t : TileSt) : (s.setTile p t).pending = s.pending := (rfl)
@[simp] theorem State.setTile_regs (s : State) (p : Nat) (t : TileSt) : (s.setTile p t).regs = s.regs := (rfl)
@[simp] theorem State.setTile_rtDev (s : State) (p : Nat) (t : TileSt) : (s.setTile p t).rtDev = s.rtDev := (rfl)
@[simp] theorem State.setTile_mem (s : State) (p : Nat) (t : TileSt) : (s.setTile p t).mem = s.mem := (rfl)
@[simp] theorem State.setTile_hmTags (s : State) (p : Nat) (t : TileSt) : (s.setTile p t).hmTags = s.hmTags := (rfl)
@[simp] theorem State.setTile_time (s : State) (p : Nat) (t : TileSt) : (s.setTile p t).time = s.time := (rfl)
@[simp] theorem State.setTile_commit (s : State) (p : Nat) (t : TileSt) : (s.setTile p t).commit = s.commit := (rfl)
@[simp] theorem State.setTile_power (s : State) (p : Nat) (t : TileSt) : (s.setTile p t).power = s.power := (rfl)
@[simp] theorem State.setTile_hawser (s : State) (p : Nat) (t : TileSt) : (s.setTile p t).hawser = s.hawser := (rfl)
@[simp] theorem State.setTile_rst (s : State) (p : Nat) (t : TileSt) : (s.setTile p t).rst = s.rst := (rfl)
@[simp] theorem State.setTile_customs (s : State) (p : Nat) (t : TileSt) : (s.setTile p t).customs = s.customs := (rfl)
@[simp] theorem State.setTile_test (s : State) (p : Nat) (t : TileSt) : (s.setTile p t).test = s.test := (rfl)
@[simp] theorem State.setTile_log (s : State) (p : Nat) (t : TileSt) : (s.setTile p t).log = s.log := (rfl)
@[simp] theorem State.setTile_keys (s : State) (p : Nat) (t : TileSt) : (s.setTile p t).keys = s.keys := (rfl)
@[simp] theorem State.setTile_start (s : State) (p : Nat) (t : TileSt) : (s.setTile p t).start = s.start := (rfl)
@[simp] theorem State.setTile_lock (s : State) (p : Nat) (t : TileSt) : (s.setTile p t).lock = s.lock := (rfl)
@[simp] theorem State.setTile_cmd (s : State) (p : Nat) (t : TileSt) : (s.setTile p t).cmd = s.cmd := (rfl)
@[simp] theorem State.setTile_quays (s : State) (p : Nat) (t : TileSt) : (s.setTile p t).quays = s.quays := (rfl)
@[simp] theorem State.setTile_prods (s : State) (p : Nat) (t : TileSt) : (s.setTile p t).prods = s.prods := (rfl)
@[simp] theorem State.setTile_armed (s : State) (p : Nat) (t : TileSt) : (s.setTile p t).armed = s.armed := (rfl)
@[simp] theorem State.setTile_alarms (s : State) (p : Nat) (t : TileSt) : (s.setTile p t).alarms = s.alarms := (rfl)
@[simp] theorem State.setTile_frames (s : State) (p : Nat) (t : TileSt) : (s.setTile p t).frames = s.frames := (rfl)
@[simp] theorem State.setTile_bolMsgs (s : State) (p : Nat) (t : TileSt) : (s.setTile p t).bolMsgs = s.bolMsgs := (rfl)
@[simp] theorem State.setTile_quayMsgs (s : State) (p : Nat) (t : TileSt) : (s.setTile p t).quayMsgs = s.quayMsgs := (rfl)
@[simp] theorem State.setTile_sampReqs (s : State) (p : Nat) (t : TileSt) : (s.setTile p t).sampReqs = s.sampReqs := (rfl)
@[simp] theorem State.setTile_outSigs (s : State) (p : Nat) (t : TileSt) : (s.setTile p t).outSigs = s.outSigs := (rfl)
@[simp] theorem State.setTile_shadowSigs (s : State) (p : Nat) (t : TileSt) : (s.setTile p t).shadowSigs = s.shadowSigs := (rfl)
@[simp] theorem State.setTile_disputes (s : State) (p : Nat) (t : TileSt) : (s.setTile p t).disputes = s.disputes := (rfl)
@[simp] theorem State.setTile_stops (s : State) (p : Nat) (t : TileSt) : (s.setTile p t).stops = s.stops := (rfl)
@[simp] theorem State.setTile_l2p (s : State) (p : Nat) (t : TileSt) : (s.setTile p t).l2p = s.l2p := (rfl)
@[simp] theorem State.setTile_built (s : State) (p : Nat) (t : TileSt) : (s.setTile p t).built = s.built := (rfl)
@[simp] theorem State.setTile_moves (s : State) (p : Nat) (t : TileSt) : (s.setTile p t).moves = s.moves := (rfl)
@[simp] theorem State.setTile_demands (s : State) (p : Nat) (t : TileSt) : (s.setTile p t).demands = s.demands := (rfl)
@[simp] theorem State.setTile_detections (s : State) (p : Nat) (t : TileSt) : (s.setTile p t).detections = s.detections := (rfl)
@[simp] theorem State.setTile_out (s : State) (p : Nat) (t : TileSt) : (s.setTile p t).out = s.out := (rfl)
@[simp] theorem State.setTile_coins (s : State) (p : Nat) (t : TileSt) : (s.setTile p t).coins = s.coins := (rfl)
@[simp] theorem State.setTile_closed (s : State) (p : Nat) (t : TileSt) : (s.setTile p t).closed = s.closed := (rfl)
@[simp] theorem State.setTile_freeCount (s : State) (p : Nat) (t : TileSt) : (s.setTile p t).freeCount = s.freeCount := (rfl)

@[simp] theorem State.setQuay_sp (s : State) (q : Nat) (t : QuaySt) : (s.setQuay q t).sp = s.sp := (rfl)
@[simp] theorem State.setQuay_pending (s : State) (q : Nat) (t : QuaySt) : (s.setQuay q t).pending = s.pending := (rfl)
@[simp] theorem State.setQuay_regs (s : State) (q : Nat) (t : QuaySt) : (s.setQuay q t).regs = s.regs := (rfl)
@[simp] theorem State.setQuay_rtDev (s : State) (q : Nat) (t : QuaySt) : (s.setQuay q t).rtDev = s.rtDev := (rfl)
@[simp] theorem State.setQuay_mem (s : State) (q : Nat) (t : QuaySt) : (s.setQuay q t).mem = s.mem := (rfl)
@[simp] theorem State.setQuay_hmTags (s : State) (q : Nat) (t : QuaySt) : (s.setQuay q t).hmTags = s.hmTags := (rfl)
@[simp] theorem State.setQuay_time (s : State) (q : Nat) (t : QuaySt) : (s.setQuay q t).time = s.time := (rfl)
@[simp] theorem State.setQuay_commit (s : State) (q : Nat) (t : QuaySt) : (s.setQuay q t).commit = s.commit := (rfl)
@[simp] theorem State.setQuay_power (s : State) (q : Nat) (t : QuaySt) : (s.setQuay q t).power = s.power := (rfl)
@[simp] theorem State.setQuay_hawser (s : State) (q : Nat) (t : QuaySt) : (s.setQuay q t).hawser = s.hawser := (rfl)
@[simp] theorem State.setQuay_rst (s : State) (q : Nat) (t : QuaySt) : (s.setQuay q t).rst = s.rst := (rfl)
@[simp] theorem State.setQuay_customs (s : State) (q : Nat) (t : QuaySt) : (s.setQuay q t).customs = s.customs := (rfl)
@[simp] theorem State.setQuay_test (s : State) (q : Nat) (t : QuaySt) : (s.setQuay q t).test = s.test := (rfl)
@[simp] theorem State.setQuay_log (s : State) (q : Nat) (t : QuaySt) : (s.setQuay q t).log = s.log := (rfl)
@[simp] theorem State.setQuay_keys (s : State) (q : Nat) (t : QuaySt) : (s.setQuay q t).keys = s.keys := (rfl)
@[simp] theorem State.setQuay_start (s : State) (q : Nat) (t : QuaySt) : (s.setQuay q t).start = s.start := (rfl)
@[simp] theorem State.setQuay_lock (s : State) (q : Nat) (t : QuaySt) : (s.setQuay q t).lock = s.lock := (rfl)
@[simp] theorem State.setQuay_cmd (s : State) (q : Nat) (t : QuaySt) : (s.setQuay q t).cmd = s.cmd := (rfl)
@[simp] theorem State.setQuay_tiles (s : State) (q : Nat) (t : QuaySt) : (s.setQuay q t).tiles = s.tiles := (rfl)
@[simp] theorem State.setQuay_prods (s : State) (q : Nat) (t : QuaySt) : (s.setQuay q t).prods = s.prods := (rfl)
@[simp] theorem State.setQuay_armed (s : State) (q : Nat) (t : QuaySt) : (s.setQuay q t).armed = s.armed := (rfl)
@[simp] theorem State.setQuay_alarms (s : State) (q : Nat) (t : QuaySt) : (s.setQuay q t).alarms = s.alarms := (rfl)
@[simp] theorem State.setQuay_frames (s : State) (q : Nat) (t : QuaySt) : (s.setQuay q t).frames = s.frames := (rfl)
@[simp] theorem State.setQuay_bolMsgs (s : State) (q : Nat) (t : QuaySt) : (s.setQuay q t).bolMsgs = s.bolMsgs := (rfl)
@[simp] theorem State.setQuay_quayMsgs (s : State) (q : Nat) (t : QuaySt) : (s.setQuay q t).quayMsgs = s.quayMsgs := (rfl)
@[simp] theorem State.setQuay_sampReqs (s : State) (q : Nat) (t : QuaySt) : (s.setQuay q t).sampReqs = s.sampReqs := (rfl)
@[simp] theorem State.setQuay_outSigs (s : State) (q : Nat) (t : QuaySt) : (s.setQuay q t).outSigs = s.outSigs := (rfl)
@[simp] theorem State.setQuay_shadowSigs (s : State) (q : Nat) (t : QuaySt) : (s.setQuay q t).shadowSigs = s.shadowSigs := (rfl)
@[simp] theorem State.setQuay_disputes (s : State) (q : Nat) (t : QuaySt) : (s.setQuay q t).disputes = s.disputes := (rfl)
@[simp] theorem State.setQuay_stops (s : State) (q : Nat) (t : QuaySt) : (s.setQuay q t).stops = s.stops := (rfl)
@[simp] theorem State.setQuay_l2p (s : State) (q : Nat) (t : QuaySt) : (s.setQuay q t).l2p = s.l2p := (rfl)
@[simp] theorem State.setQuay_built (s : State) (q : Nat) (t : QuaySt) : (s.setQuay q t).built = s.built := (rfl)
@[simp] theorem State.setQuay_moves (s : State) (q : Nat) (t : QuaySt) : (s.setQuay q t).moves = s.moves := (rfl)
@[simp] theorem State.setQuay_demands (s : State) (q : Nat) (t : QuaySt) : (s.setQuay q t).demands = s.demands := (rfl)
@[simp] theorem State.setQuay_detections (s : State) (q : Nat) (t : QuaySt) : (s.setQuay q t).detections = s.detections := (rfl)
@[simp] theorem State.setQuay_out (s : State) (q : Nat) (t : QuaySt) : (s.setQuay q t).out = s.out := (rfl)
@[simp] theorem State.setQuay_coins (s : State) (q : Nat) (t : QuaySt) : (s.setQuay q t).coins = s.coins := (rfl)
@[simp] theorem State.setQuay_closed (s : State) (q : Nat) (t : QuaySt) : (s.setQuay q t).closed = s.closed := (rfl)
@[simp] theorem State.setQuay_freeCount (s : State) (q : Nat) (t : QuaySt) : (s.setQuay q t).freeCount = s.freeCount := (rfl)

@[simp] theorem State.emit_sp (s : State) (o : Out) : (s.emit o).sp = s.sp := (rfl)
@[simp] theorem State.emit_pending (s : State) (o : Out) : (s.emit o).pending = s.pending := (rfl)
@[simp] theorem State.emit_regs (s : State) (o : Out) : (s.emit o).regs = s.regs := (rfl)
@[simp] theorem State.emit_rtDev (s : State) (o : Out) : (s.emit o).rtDev = s.rtDev := (rfl)
@[simp] theorem State.emit_mem (s : State) (o : Out) : (s.emit o).mem = s.mem := (rfl)
@[simp] theorem State.emit_hmTags (s : State) (o : Out) : (s.emit o).hmTags = s.hmTags := (rfl)
@[simp] theorem State.emit_time (s : State) (o : Out) : (s.emit o).time = s.time := (rfl)
@[simp] theorem State.emit_commit (s : State) (o : Out) : (s.emit o).commit = s.commit := (rfl)
@[simp] theorem State.emit_power (s : State) (o : Out) : (s.emit o).power = s.power := (rfl)
@[simp] theorem State.emit_hawser (s : State) (o : Out) : (s.emit o).hawser = s.hawser := (rfl)
@[simp] theorem State.emit_rst (s : State) (o : Out) : (s.emit o).rst = s.rst := (rfl)
@[simp] theorem State.emit_customs (s : State) (o : Out) : (s.emit o).customs = s.customs := (rfl)
@[simp] theorem State.emit_test (s : State) (o : Out) : (s.emit o).test = s.test := (rfl)
@[simp] theorem State.emit_log (s : State) (o : Out) : (s.emit o).log = s.log := (rfl)
@[simp] theorem State.emit_keys (s : State) (o : Out) : (s.emit o).keys = s.keys := (rfl)
@[simp] theorem State.emit_start (s : State) (o : Out) : (s.emit o).start = s.start := (rfl)
@[simp] theorem State.emit_lock (s : State) (o : Out) : (s.emit o).lock = s.lock := (rfl)
@[simp] theorem State.emit_cmd (s : State) (o : Out) : (s.emit o).cmd = s.cmd := (rfl)
@[simp] theorem State.emit_tiles (s : State) (o : Out) : (s.emit o).tiles = s.tiles := (rfl)
@[simp] theorem State.emit_quays (s : State) (o : Out) : (s.emit o).quays = s.quays := (rfl)
@[simp] theorem State.emit_prods (s : State) (o : Out) : (s.emit o).prods = s.prods := (rfl)
@[simp] theorem State.emit_armed (s : State) (o : Out) : (s.emit o).armed = s.armed := (rfl)
@[simp] theorem State.emit_alarms (s : State) (o : Out) : (s.emit o).alarms = s.alarms := (rfl)
@[simp] theorem State.emit_frames (s : State) (o : Out) : (s.emit o).frames = s.frames := (rfl)
@[simp] theorem State.emit_bolMsgs (s : State) (o : Out) : (s.emit o).bolMsgs = s.bolMsgs := (rfl)
@[simp] theorem State.emit_quayMsgs (s : State) (o : Out) : (s.emit o).quayMsgs = s.quayMsgs := (rfl)
@[simp] theorem State.emit_sampReqs (s : State) (o : Out) : (s.emit o).sampReqs = s.sampReqs := (rfl)
@[simp] theorem State.emit_outSigs (s : State) (o : Out) : (s.emit o).outSigs = s.outSigs := (rfl)
@[simp] theorem State.emit_shadowSigs (s : State) (o : Out) : (s.emit o).shadowSigs = s.shadowSigs := (rfl)
@[simp] theorem State.emit_disputes (s : State) (o : Out) : (s.emit o).disputes = s.disputes := (rfl)
@[simp] theorem State.emit_stops (s : State) (o : Out) : (s.emit o).stops = s.stops := (rfl)
@[simp] theorem State.emit_l2p (s : State) (o : Out) : (s.emit o).l2p = s.l2p := (rfl)
@[simp] theorem State.emit_built (s : State) (o : Out) : (s.emit o).built = s.built := (rfl)
@[simp] theorem State.emit_moves (s : State) (o : Out) : (s.emit o).moves = s.moves := (rfl)
@[simp] theorem State.emit_demands (s : State) (o : Out) : (s.emit o).demands = s.demands := (rfl)
@[simp] theorem State.emit_detections (s : State) (o : Out) : (s.emit o).detections = s.detections := (rfl)
@[simp] theorem State.emit_coins (s : State) (o : Out) : (s.emit o).coins = s.coins := (rfl)
@[simp] theorem State.emit_closed (s : State) (o : Out) : (s.emit o).closed = s.closed := (rfl)
@[simp] theorem State.emit_freeCount (s : State) (o : Out) : (s.emit o).freeCount = s.freeCount := (rfl)

@[simp] theorem State.atCyc_sp (s : State) (c : Nat) : (s.at_ c).sp = s.sp := (rfl)
@[simp] theorem State.atCyc_pending (s : State) (c : Nat) : (s.at_ c).pending = s.pending := (rfl)
@[simp] theorem State.atCyc_regs (s : State) (c : Nat) : (s.at_ c).regs = s.regs := (rfl)
@[simp] theorem State.atCyc_rtDev (s : State) (c : Nat) : (s.at_ c).rtDev = s.rtDev := (rfl)
@[simp] theorem State.atCyc_mem (s : State) (c : Nat) : (s.at_ c).mem = s.mem := (rfl)
@[simp] theorem State.atCyc_hmTags (s : State) (c : Nat) : (s.at_ c).hmTags = s.hmTags := (rfl)
@[simp] theorem State.atCyc_commit (s : State) (c : Nat) : (s.at_ c).commit = s.commit := (rfl)
@[simp] theorem State.atCyc_power (s : State) (c : Nat) : (s.at_ c).power = s.power := (rfl)
@[simp] theorem State.atCyc_hawser (s : State) (c : Nat) : (s.at_ c).hawser = s.hawser := (rfl)
@[simp] theorem State.atCyc_rst (s : State) (c : Nat) : (s.at_ c).rst = s.rst := (rfl)
@[simp] theorem State.atCyc_customs (s : State) (c : Nat) : (s.at_ c).customs = s.customs := (rfl)
@[simp] theorem State.atCyc_test (s : State) (c : Nat) : (s.at_ c).test = s.test := (rfl)
@[simp] theorem State.atCyc_log (s : State) (c : Nat) : (s.at_ c).log = s.log := (rfl)
@[simp] theorem State.atCyc_keys (s : State) (c : Nat) : (s.at_ c).keys = s.keys := (rfl)
@[simp] theorem State.atCyc_start (s : State) (c : Nat) : (s.at_ c).start = s.start := (rfl)
@[simp] theorem State.atCyc_lock (s : State) (c : Nat) : (s.at_ c).lock = s.lock := (rfl)
@[simp] theorem State.atCyc_cmd (s : State) (c : Nat) : (s.at_ c).cmd = s.cmd := (rfl)
@[simp] theorem State.atCyc_tiles (s : State) (c : Nat) : (s.at_ c).tiles = s.tiles := (rfl)
@[simp] theorem State.atCyc_quays (s : State) (c : Nat) : (s.at_ c).quays = s.quays := (rfl)
@[simp] theorem State.atCyc_prods (s : State) (c : Nat) : (s.at_ c).prods = s.prods := (rfl)
@[simp] theorem State.atCyc_armed (s : State) (c : Nat) : (s.at_ c).armed = s.armed := (rfl)
@[simp] theorem State.atCyc_alarms (s : State) (c : Nat) : (s.at_ c).alarms = s.alarms := (rfl)
@[simp] theorem State.atCyc_frames (s : State) (c : Nat) : (s.at_ c).frames = s.frames := (rfl)
@[simp] theorem State.atCyc_bolMsgs (s : State) (c : Nat) : (s.at_ c).bolMsgs = s.bolMsgs := (rfl)
@[simp] theorem State.atCyc_quayMsgs (s : State) (c : Nat) : (s.at_ c).quayMsgs = s.quayMsgs := (rfl)
@[simp] theorem State.atCyc_sampReqs (s : State) (c : Nat) : (s.at_ c).sampReqs = s.sampReqs := (rfl)
@[simp] theorem State.atCyc_outSigs (s : State) (c : Nat) : (s.at_ c).outSigs = s.outSigs := (rfl)
@[simp] theorem State.atCyc_shadowSigs (s : State) (c : Nat) : (s.at_ c).shadowSigs = s.shadowSigs := (rfl)
@[simp] theorem State.atCyc_disputes (s : State) (c : Nat) : (s.at_ c).disputes = s.disputes := (rfl)
@[simp] theorem State.atCyc_stops (s : State) (c : Nat) : (s.at_ c).stops = s.stops := (rfl)
@[simp] theorem State.atCyc_l2p (s : State) (c : Nat) : (s.at_ c).l2p = s.l2p := (rfl)
@[simp] theorem State.atCyc_built (s : State) (c : Nat) : (s.at_ c).built = s.built := (rfl)
@[simp] theorem State.atCyc_moves (s : State) (c : Nat) : (s.at_ c).moves = s.moves := (rfl)
@[simp] theorem State.atCyc_demands (s : State) (c : Nat) : (s.at_ c).demands = s.demands := (rfl)
@[simp] theorem State.atCyc_detections (s : State) (c : Nat) : (s.at_ c).detections = s.detections := (rfl)
@[simp] theorem State.atCyc_out (s : State) (c : Nat) : (s.at_ c).out = s.out := (rfl)
@[simp] theorem State.atCyc_coins (s : State) (c : Nat) : (s.at_ c).coins = s.coins := (rfl)
@[simp] theorem State.atCyc_closed (s : State) (c : Nat) : (s.at_ c).closed = s.closed := (rfl)
@[simp] theorem State.atCyc_freeCount (s : State) (c : Nat) : (s.at_ c).freeCount = s.freeCount := (rfl)

@[simp] theorem State.coin_sp (s : State) (x : Coin) : (s.coin x).sp = s.sp := (rfl)
@[simp] theorem State.coin_pending (s : State) (x : Coin) : (s.coin x).pending = s.pending := (rfl)
@[simp] theorem State.coin_regs (s : State) (x : Coin) : (s.coin x).regs = s.regs := (rfl)
@[simp] theorem State.coin_rtDev (s : State) (x : Coin) : (s.coin x).rtDev = s.rtDev := (rfl)
@[simp] theorem State.coin_mem (s : State) (x : Coin) : (s.coin x).mem = s.mem := (rfl)
@[simp] theorem State.coin_hmTags (s : State) (x : Coin) : (s.coin x).hmTags = s.hmTags := (rfl)
@[simp] theorem State.coin_time (s : State) (x : Coin) : (s.coin x).time = s.time := (rfl)
@[simp] theorem State.coin_commit (s : State) (x : Coin) : (s.coin x).commit = s.commit := (rfl)
@[simp] theorem State.coin_power (s : State) (x : Coin) : (s.coin x).power = s.power := (rfl)
@[simp] theorem State.coin_hawser (s : State) (x : Coin) : (s.coin x).hawser = s.hawser := (rfl)
@[simp] theorem State.coin_rst (s : State) (x : Coin) : (s.coin x).rst = s.rst := (rfl)
@[simp] theorem State.coin_customs (s : State) (x : Coin) : (s.coin x).customs = s.customs := (rfl)
@[simp] theorem State.coin_test (s : State) (x : Coin) : (s.coin x).test = s.test := (rfl)
@[simp] theorem State.coin_log (s : State) (x : Coin) : (s.coin x).log = s.log := (rfl)
@[simp] theorem State.coin_keys (s : State) (x : Coin) : (s.coin x).keys = s.keys := (rfl)
@[simp] theorem State.coin_start (s : State) (x : Coin) : (s.coin x).start = s.start := (rfl)
@[simp] theorem State.coin_lock (s : State) (x : Coin) : (s.coin x).lock = s.lock := (rfl)
@[simp] theorem State.coin_cmd (s : State) (x : Coin) : (s.coin x).cmd = s.cmd := (rfl)
@[simp] theorem State.coin_tiles (s : State) (x : Coin) : (s.coin x).tiles = s.tiles := (rfl)
@[simp] theorem State.coin_quays (s : State) (x : Coin) : (s.coin x).quays = s.quays := (rfl)
@[simp] theorem State.coin_prods (s : State) (x : Coin) : (s.coin x).prods = s.prods := (rfl)
@[simp] theorem State.coin_armed (s : State) (x : Coin) : (s.coin x).armed = s.armed := (rfl)
@[simp] theorem State.coin_alarms (s : State) (x : Coin) : (s.coin x).alarms = s.alarms := (rfl)
@[simp] theorem State.coin_frames (s : State) (x : Coin) : (s.coin x).frames = s.frames := (rfl)
@[simp] theorem State.coin_bolMsgs (s : State) (x : Coin) : (s.coin x).bolMsgs = s.bolMsgs := (rfl)
@[simp] theorem State.coin_quayMsgs (s : State) (x : Coin) : (s.coin x).quayMsgs = s.quayMsgs := (rfl)
@[simp] theorem State.coin_sampReqs (s : State) (x : Coin) : (s.coin x).sampReqs = s.sampReqs := (rfl)
@[simp] theorem State.coin_outSigs (s : State) (x : Coin) : (s.coin x).outSigs = s.outSigs := (rfl)
@[simp] theorem State.coin_shadowSigs (s : State) (x : Coin) : (s.coin x).shadowSigs = s.shadowSigs := (rfl)
@[simp] theorem State.coin_disputes (s : State) (x : Coin) : (s.coin x).disputes = s.disputes := (rfl)
@[simp] theorem State.coin_stops (s : State) (x : Coin) : (s.coin x).stops = s.stops := (rfl)
@[simp] theorem State.coin_l2p (s : State) (x : Coin) : (s.coin x).l2p = s.l2p := (rfl)
@[simp] theorem State.coin_built (s : State) (x : Coin) : (s.coin x).built = s.built := (rfl)
@[simp] theorem State.coin_moves (s : State) (x : Coin) : (s.coin x).moves = s.moves := (rfl)
@[simp] theorem State.coin_demands (s : State) (x : Coin) : (s.coin x).demands = s.demands := (rfl)
@[simp] theorem State.coin_detections (s : State) (x : Coin) : (s.coin x).detections = s.detections := (rfl)
@[simp] theorem State.coin_out (s : State) (x : Coin) : (s.coin x).out = s.out := (rfl)
@[simp] theorem State.coin_closed (s : State) (x : Coin) : (s.coin x).closed = s.closed := (rfl)
@[simp] theorem State.coin_freeCount (s : State) (x : Coin) : (s.coin x).freeCount = s.freeCount := (rfl)

end Sys2Proof.Machine
end

