-- ==== Sys2Proof/Laws/Tab.lean ====
section
/-!
SUPPORT. Laws of the sparse maps: what a read gives after a write, and that a write keeps the canonical form.
-/

namespace Sys2Proof.Machine

variable {α : Type}

/-- A deleted key reads as its default. -/
theorem tabGet_tabDel_same (d : Nat → α) (t : Tab α) (k : Nat) : tabGet d (tabDel k t) k = d k := by
  induction t with
  | nil => rfl
  | cons e t ih =>
    obtain ⟨k', v⟩ := e
    by_cases h : k' = k <;> simp [tabDel, tabGet, h, ih]

/-- A deletion leaves every other key alone. -/
theorem tabGet_tabDel_other (d : Nat → α) (t : Tab α) {k j : Nat} (h : j ≠ k) : tabGet d (tabDel k t) j = tabGet d t j := by
  induction t with
  | nil => rfl
  | cons e t ih =>
    obtain ⟨k', v⟩ := e
    by_cases hk : k' = k
    · subst hk
      simp [tabDel, tabGet, ih, Ne.symm h]
    · simp [tabDel, tabGet, hk, ih]

/-- The key just inserted reads as its value, when no entry had it. -/
theorem tabGet_tabIns_same (d : Nat → α) (t : Tab α) (k : Nat) (v : α) : tabGet d (tabIns k v (tabDel k t)) k = v := by
  induction t with
  | nil => simp [tabDel, tabIns, tabGet]
  | cons e t ih =>
    obtain ⟨k', w⟩ := e
    by_cases hk : k' = k
    · simpa [tabDel, hk] using ih
    · simp only [tabDel, if_neg hk, tabIns]
      split
      · simp [tabGet]
      · simp [tabGet, hk, ih]

/-- An insertion leaves every other key alone. -/
theorem tabGet_tabIns_other (d : Nat → α) (t : Tab α) {k j : Nat} (v : α) (h : j ≠ k) : tabGet d (tabIns k v t) j = tabGet d t j := by
  induction t with
  | nil => simp [tabIns, tabGet, Ne.symm h]
  | cons e t ih =>
    obtain ⟨k', w⟩ := e
    simp only [tabIns]
    split
    · simp [tabGet, Ne.symm h]
    · simp [tabGet, ih]

/-- A read after a write to the same key. -/
@[simp] theorem tabGet_tabSet_same [DecidableEq α] (d : Nat → α) (t : Tab α) (k : Nat) (v : α) : tabGet d (tabSet d t k v) k = v := by
  unfold tabSet
  split
  · rename_i h
    rw [tabGet_tabDel_same, h]
  · exact tabGet_tabIns_same d t k v

/-- A write leaves every other key alone. -/
theorem tabGet_tabSet_other [DecidableEq α] (d : Nat → α) (t : Tab α) {k j : Nat} (v : α) (h : j ≠ k) :
    tabGet d (tabSet d t k v) j = tabGet d t j := by
  unfold tabSet
  split
  · exact tabGet_tabDel_other d t h
  · rw [tabGet_tabIns_other d _ v h, tabGet_tabDel_other d t h]

/-- A sparse map in its canonical form keeps it under a smaller bound. -/
theorem tabSorted_weaken {t : Tab α} {lo : Nat} (h : tabSorted (some lo) t = true) : tabSorted none t = true := by
  cases t with
  | nil => rfl
  | cons e t => simpa [tabSorted] using (by simpa [tabSorted] using h : _ ∧ _).2

theorem tabSorted_lower {t : Tab α} {a b : Nat} (hab : a ≤ b) (h : tabSorted (some b) t = true) : tabSorted (some a) t = true := by
  cases t with
  | nil => rfl
  | cons e t =>
    simp only [tabSorted, Bool.and_eq_true, decide_eq_true_eq] at h ⊢
    exact ⟨lt_of_le_of_lt hab h.1, h.2⟩

theorem tabSorted_tabDel {t : Tab α} {lo : Option Nat} (k : Nat) (h : tabSorted lo t = true) : tabSorted lo (tabDel k t) = true := by
  induction t generalizing lo with
  | nil => exact h
  | cons e t ih =>
    obtain ⟨k', v⟩ := e
    simp only [tabSorted, Bool.and_eq_true] at h
    obtain ⟨h1, h2⟩ := h
    by_cases hk : k' = k
    · simp only [tabDel, if_pos hk]
      have := ih h2
      cases lo with
      | none => exact tabSorted_weaken this
      | some l =>
        simp only [decide_eq_true_eq] at h1
        exact tabSorted_lower (Nat.le_of_lt h1) this
    · simp only [tabDel, if_neg hk, tabSorted, Bool.and_eq_true]
      exact ⟨h1, ih h2⟩

theorem tabSorted_tabIns {t : Tab α} {lo : Option Nat} {k : Nat} (v : α) (h : tabSorted lo t = true) (hk : ∀ e ∈ t, e.1 ≠ k)
    (hlo : ∀ l, lo = some l → l < k) : tabSorted lo (tabIns k v t) = true := by
  induction t generalizing lo with
  | nil => cases lo <;> simp_all [tabIns, tabSorted]
  | cons e t ih =>
    obtain ⟨k', w⟩ := e
    simp only [tabSorted, Bool.and_eq_true] at h
    obtain ⟨h1, h2⟩ := h
    simp only [tabIns]
    split
    · rename_i hlt
      simp only [tabSorted, Bool.and_eq_true, decide_eq_true_eq]
      refine ⟨?_, hlt, h2⟩
      cases lo with
      | none => rfl
      | some l => simpa using hlo l rfl
    · rename_i hge
      simp only [tabSorted, Bool.and_eq_true]
      refine ⟨h1, ih h2 (fun e he => hk e (List.mem_cons_of_mem _ he)) ?_⟩
      intro l hl
      have hne : k' ≠ k := hk (k', w) (List.mem_cons_self ..)
      cases hl
      omega

theorem mem_tabDel {t : Tab α} {k : Nat} {e : Nat × α} (h : e ∈ tabDel k t) : e ∈ t ∧ e.1 ≠ k := by
  induction t with
  | nil => cases h
  | cons x t ih =>
    obtain ⟨k', v⟩ := x
    by_cases hk : k' = k
    · simp only [tabDel, if_pos hk] at h
      exact ⟨List.mem_cons_of_mem _ (ih h).1, (ih h).2⟩
    · simp only [tabDel, if_neg hk, List.mem_cons] at h
      rcases h with rfl | h
      · exact ⟨List.mem_cons_self .., hk⟩
      · exact ⟨List.mem_cons_of_mem _ (ih h).1, (ih h).2⟩

theorem mem_tabIns {t : Tab α} {k : Nat} {v : α} {e : Nat × α} (h : e ∈ tabIns k v t) : e = (k, v) ∨ e ∈ t := by
  induction t with
  | nil => simpa [tabIns] using h
  | cons x t ih =>
    obtain ⟨k', w⟩ := x
    simp only [tabIns] at h
    split at h
    · simpa using h
    · rcases List.mem_cons.1 h with rfl | h
      · exact .inr (List.mem_cons_self ..)
      · exact (ih h).imp id (List.mem_cons_of_mem _)

/-- A write keeps the canonical form. -/
theorem tabWf_tabSet [DecidableEq α] {d : Nat → α} {t : Tab α} (k : Nat) (v : α) (h : tabWf d t = true) : tabWf d (tabSet d t k v) = true := by
  simp only [tabWf, Bool.and_eq_true, List.all_eq_true, decide_eq_true_eq] at h ⊢
  obtain ⟨hs, hd⟩ := h
  unfold tabSet
  split
  · exact ⟨tabSorted_tabDel k hs, fun e he => hd e (mem_tabDel he).1⟩
  · rename_i hv
    refine ⟨tabSorted_tabIns v (tabSorted_tabDel k hs) (fun e he => (mem_tabDel he).2) (by simp), ?_⟩
    intro e he
    rcases mem_tabIns he with rfl | he
    · exact hv
    · exact hd e (mem_tabDel he).1

/-- Dropping entries keeps the canonical form. -/
theorem tabWf_filter [DecidableEq α] {d : Nat → α} {t : Tab α} (p : Nat × α → Bool) (h : tabWf d t = true) : tabWf d (t.filter p) = true := by
  simp only [tabWf, Bool.and_eq_true, List.all_eq_true, decide_eq_true_eq] at h ⊢
  refine ⟨?_, fun e he => h.2 e (List.mem_of_mem_filter he)⟩
  have key : ∀ (lo : Option Nat), tabSorted lo t = true → tabSorted lo (t.filter p) = true := by
    intro lo
    clear h
    induction t generalizing lo with
    | nil => exact id
    | cons e t ih =>
      obtain ⟨k, v⟩ := e
      intro h
      simp only [tabSorted, Bool.and_eq_true] at h
      by_cases hp : p (k, v) = true
      · simp only [List.filter_cons, hp, if_true, tabSorted, Bool.and_eq_true]
        exact ⟨h.1, ih _ h.2⟩
      · simp only [List.filter_cons, hp]
        have := ih _ h.2
        cases lo with
        | none => exact tabSorted_weaken this
        | some l =>
          have hl := h.1
          simp only [decide_eq_true_eq] at hl
          exact tabSorted_lower (Nat.le_of_lt hl) this
  exact key none h.1

end Sys2Proof.Machine
end

