-- ==== Sys2Proof/Laws/Word.lean ====
section
/-!
SUPPORT. Laws of the register file and of its fields: a field written reads back, and nothing else changes.
-/

namespace Sys2Proof.Machine

/-! ### Fields of a word -/

/-- Every bit of a word with a field replaced. -/
theorem testBit_withField {x : Word} {lo w v : Nat} (h : lo + w ≤ 64) (i : Nat) :
    (withField x lo w v).toNat.testBit i = if lo ≤ i ∧ i < lo + w then v.testBit (i - lo) else x.toNat.testBit i := by
  have hx := x.isLt
  have hb : x.toNat % 2 ^ lo + v % 2 ^ w * 2 ^ lo + x.toNat >>> (lo + w) * 2 ^ (lo + w)
      = 2 ^ lo * (2 ^ w * (x.toNat >>> (lo + w)) + v % 2 ^ w) + x.toNat % 2 ^ lo := by
    rw [pow_add]; ring
  have hlt : x.toNat % 2 ^ lo + v % 2 ^ w * 2 ^ lo + x.toNat >>> (lo + w) * 2 ^ (lo + w) < 2 ^ 64 := by
    have h1 : x.toNat % 2 ^ lo < 2 ^ lo := Nat.mod_lt _ (by positivity)
    have h2 : v % 2 ^ w < 2 ^ w := Nat.mod_lt _ (by positivity)
    have h3 : x.toNat >>> (lo + w) < 2 ^ (64 - (lo + w)) := by
      rw [Nat.shiftRight_eq_div_pow]
      apply Nat.div_lt_of_lt_mul
      rwa [← pow_add, Nat.add_sub_cancel' h]
    have h4 : v % 2 ^ w * 2 ^ lo + 2 ^ lo ≤ 2 ^ (lo + w) := by
      rw [pow_add, Nat.mul_comm (2 ^ lo)]
      calc v % 2 ^ w * 2 ^ lo + 2 ^ lo = (v % 2 ^ w + 1) * 2 ^ lo := by ring
        _ ≤ 2 ^ w * 2 ^ lo := Nat.mul_le_mul_right _ h2
    have h5 : x.toNat >>> (lo + w) * 2 ^ (lo + w) + 2 ^ (lo + w) ≤ 2 ^ 64 := by
      calc x.toNat >>> (lo + w) * 2 ^ (lo + w) + 2 ^ (lo + w) = (x.toNat >>> (lo + w) + 1) * 2 ^ (lo + w) := by ring
        _ ≤ 2 ^ (64 - (lo + w)) * 2 ^ (lo + w) := Nat.mul_le_mul_right _ h3
        _ = 2 ^ 64 := by rw [← pow_add, Nat.sub_add_cancel h]
    omega
  unfold withField
  rw [BitVec.toNat_ofNat, Nat.mod_eq_of_lt hlt, hb,
    Nat.testBit_two_pow_mul_add _ (Nat.mod_lt _ (by positivity))]
  split
  · rename_i hi
    rw [if_neg (by omega), Nat.testBit_mod_two_pow]
    simp [hi]
  · rename_i hi
    rw [Nat.testBit_two_pow_mul_add _ (Nat.mod_lt _ (by positivity)), Nat.testBit_mod_two_pow, Nat.testBit_shiftRight]
    split
    · rename_i h1
      rw [if_pos (by omega)]
      simp [h1]
    · rename_i h1
      rw [if_neg (by omega)]
      congr 1
      omega

/-- A field just written reads as the value written. -/
theorem fieldOf_withField_same {x : Word} {lo w v : Nat} (h : lo + w ≤ 64) : fieldOf (withField x lo w v) lo w = v % 2 ^ w := by
  apply Nat.eq_of_testBit_eq
  intro i
  unfold fieldOf
  rw [Nat.testBit_mod_two_pow, Nat.testBit_shiftRight, testBit_withField h, Nat.testBit_mod_two_pow]
  by_cases hi : i < w
  · simp [hi]
  · simp [hi]

/-- A field that does not meet the one written is unchanged. -/
theorem fieldOf_withField_other {x : Word} {lo w v lo' w' : Nat} (h : lo + w ≤ 64) (hd : lo' + w' ≤ lo ∨ lo + w ≤ lo') :
    fieldOf (withField x lo w v) lo' w' = fieldOf x lo' w' := by
  apply Nat.eq_of_testBit_eq
  intro i
  unfold fieldOf
  rw [Nat.testBit_mod_two_pow, Nat.testBit_shiftRight, testBit_withField h, Nat.testBit_mod_two_pow, Nat.testBit_shiftRight]
  by_cases hi : i < w'
  · rw [if_neg (by omega)]
  · simp [hi]

theorem fieldOf_lt (x : Word) (lo w : Nat) : fieldOf x lo w < 2 ^ w := Nat.mod_lt _ (by positivity)

/-! ### The register file -/

@[simp] theorem State.word_setWord_same (s : State) (a : Nat) (w : Word) : (s.setWord a w).word a = w := by
  simp [State.word, State.setWord]

theorem State.word_setWord_other (s : State) {a b : Nat} (w : Word) (h : b ≠ a) : (s.setWord a w).word b = s.word b := by
  simpa [State.word, State.setWord] using tabGet_tabSet_other (resetWord s.sp) s.regs w h

/-- A write to one register leaves every other alone. -/
theorem State.word_put_other (s : State) {f : Fld} {b : Nat} (v : Nat) (h : b ≠ f.reg) : (s.put f v).word b = s.word b :=
  s.word_setWord_other _ h

/-- A field just written reads as the value written. -/
theorem State.get_put_same (s : State) (f : Fld) (v : Nat) (h : f.lo + f.w ≤ 64) : (s.put f v).get f = v % 2 ^ f.w := by
  simp [State.get, State.put, fieldOf_withField_same h]

/-- A write to a field leaves a field of another register alone. -/
theorem State.get_put_reg (s : State) {f g : Fld} (v : Nat) (h : g.reg ≠ f.reg) : (s.put f v).get g = s.get g := by
  simp [State.get, s.word_put_other v h]

/-- A write to a field leaves a field beside it alone. -/
theorem State.get_put_other (s : State) {f g : Fld} (v : Nat) (hf : f.lo + f.w ≤ 64) (h : g.lo + g.w ≤ f.lo ∨ f.lo + f.w ≤ g.lo) :
    (s.put f v).get g = s.get g := by
  by_cases hr : g.reg = f.reg
  · simp [State.get, State.put, hr, fieldOf_withField_other hf h]
  · exact s.get_put_reg v hr

theorem State.get_lt (s : State) (f : Fld) : s.get f < 2 ^ f.w := fieldOf_lt _ _ _

/-- A count that is not yet at its largest value rises. -/
theorem State.get_count_same (s : State) (f : Fld) (n : Nat) (h : f.lo + f.w ≤ 64) : (s.count f n).get f = min (s.get f + n) (2 ^ f.w - 1) := by
  rw [State.count, s.get_put_same _ _ h]
  have : 0 < 2 ^ f.w := by positivity
  exact Nat.mod_eq_of_lt (by omega)

/-! ### Tiles and quays -/

@[simp] theorem State.tile_setTile_same (s : State) (p : Nat) (t : TileSt) : (s.setTile p t).tile p = t := by
  simp [State.tile, State.setTile]

theorem State.tile_setTile_other (s : State) {p r : Nat} (t : TileSt) (h : r ≠ p) : (s.setTile p t).tile r = s.tile r := by
  simpa [State.tile, State.setTile] using tabGet_tabSet_other _ s.tiles t h

@[simp] theorem State.quay_setQuay_same (s : State) (q : Nat) (t : QuaySt) : (s.setQuay q t).quay q = t := by
  simp [State.quay, State.setQuay]

theorem State.quay_setQuay_other (s : State) {q r : Nat} (t : QuaySt) (h : r ≠ q) : (s.setQuay q t).quay r = s.quay r := by
  simpa [State.quay, State.setQuay] using tabGet_tabSet_other _ s.quays t h

end Sys2Proof.Machine
end

