-- ==== Sys2Proof/Laws/Pins.lean ====
section
/-!
SUPPORT. Laws of the end of a command: what the settling of alarms and pins leaves alone, what the pins show after it, and the outcome of a command.
-/

namespace Sys2Proof.Machine

/-! ### What settling leaves alone -/

/-- Settling is four writes of fields of HM_FAULT_ALARM and HM_IRQ_STAT. -/
theorem State.settle_eq (s : State) : ∃ a b c d, s.settle =
    (((s.put HM_FAULT_ALARM_CAUSE a).put HM_FAULT_ALARM_ACKED b).put HM_FAULT_ALARM_PIN c).put HM_IRQ_STAT_PINS d := ⟨_, _, _, _, rfl⟩

@[simp] theorem State.settle_sp (s : State) : s.settle.sp = s.sp := by obtain ⟨_, _, _, _, h⟩ := s.settle_eq; simp [h]
@[simp] theorem State.settle_pending (s : State) : s.settle.pending = s.pending := by obtain ⟨_, _, _, _, h⟩ := s.settle_eq; simp [h]
@[simp] theorem State.settle_rtDev (s : State) : s.settle.rtDev = s.rtDev := by obtain ⟨_, _, _, _, h⟩ := s.settle_eq; simp [h]
@[simp] theorem State.settle_mem (s : State) : s.settle.mem = s.mem := by obtain ⟨_, _, _, _, h⟩ := s.settle_eq; simp [h]
@[simp] theorem State.settle_time (s : State) : s.settle.time = s.time := by obtain ⟨_, _, _, _, h⟩ := s.settle_eq; simp [h]
@[simp] theorem State.settle_commit (s : State) : s.settle.commit = s.commit := by obtain ⟨_, _, _, _, h⟩ := s.settle_eq; simp [h]
@[simp] theorem State.settle_power (s : State) : s.settle.power = s.power := by obtain ⟨_, _, _, _, h⟩ := s.settle_eq; simp [h]
@[simp] theorem State.settle_hawser (s : State) : s.settle.hawser = s.hawser := by obtain ⟨_, _, _, _, h⟩ := s.settle_eq; simp [h]
@[simp] theorem State.settle_rst (s : State) : s.settle.rst = s.rst := by obtain ⟨_, _, _, _, h⟩ := s.settle_eq; simp [h]
@[simp] theorem State.settle_customs (s : State) : s.settle.customs = s.customs := by obtain ⟨_, _, _, _, h⟩ := s.settle_eq; simp [h]
@[simp] theorem State.settle_test (s : State) : s.settle.test = s.test := by obtain ⟨_, _, _, _, h⟩ := s.settle_eq; simp [h]
@[simp] theorem State.settle_log (s : State) : s.settle.log = s.log := by obtain ⟨_, _, _, _, h⟩ := s.settle_eq; simp [h]
@[simp] theorem State.settle_keys (s : State) : s.settle.keys = s.keys := by obtain ⟨_, _, _, _, h⟩ := s.settle_eq; simp [h]
@[simp] theorem State.settle_start (s : State) : s.settle.start = s.start := by obtain ⟨_, _, _, _, h⟩ := s.settle_eq; simp [h]
@[simp] theorem State.settle_lock (s : State) : s.settle.lock = s.lock := by obtain ⟨_, _, _, _, h⟩ := s.settle_eq; simp [h]
@[simp] theorem State.settle_cmd (s : State) : s.settle.cmd = s.cmd := by obtain ⟨_, _, _, _, h⟩ := s.settle_eq; simp [h]
@[simp] theorem State.settle_tiles (s : State) : s.settle.tiles = s.tiles := by obtain ⟨_, _, _, _, h⟩ := s.settle_eq; simp [h]
@[simp] theorem State.settle_quays (s : State) : s.settle.quays = s.quays := by obtain ⟨_, _, _, _, h⟩ := s.settle_eq; simp [h]
@[simp] theorem State.settle_prods (s : State) : s.settle.prods = s.prods := by obtain ⟨_, _, _, _, h⟩ := s.settle_eq; simp [h]
@[simp] theorem State.settle_armed (s : State) : s.settle.armed = s.armed := by obtain ⟨_, _, _, _, h⟩ := s.settle_eq; simp [h]
@[simp] theorem State.settle_alarms (s : State) : s.settle.alarms = s.alarms := by obtain ⟨_, _, _, _, h⟩ := s.settle_eq; simp [h]
@[simp] theorem State.settle_frames (s : State) : s.settle.frames = s.frames := by obtain ⟨_, _, _, _, h⟩ := s.settle_eq; simp [h]
@[simp] theorem State.settle_bolMsgs (s : State) : s.settle.bolMsgs = s.bolMsgs := by obtain ⟨_, _, _, _, h⟩ := s.settle_eq; simp [h]
@[simp] theorem State.settle_quayMsgs (s : State) : s.settle.quayMsgs = s.quayMsgs := by obtain ⟨_, _, _, _, h⟩ := s.settle_eq; simp [h]
@[simp] theorem State.settle_sampReqs (s : State) : s.settle.sampReqs = s.sampReqs := by obtain ⟨_, _, _, _, h⟩ := s.settle_eq; simp [h]
@[simp] theorem State.settle_outSigs (s : State) : s.settle.outSigs = s.outSigs := by obtain ⟨_, _, _, _, h⟩ := s.settle_eq; simp [h]
@[simp] theorem State.settle_shadowSigs (s : State) : s.settle.shadowSigs = s.shadowSigs := by obtain ⟨_, _, _, _, h⟩ := s.settle_eq; simp [h]
@[simp] theorem State.settle_disputes (s : State) : s.settle.disputes = s.disputes := by obtain ⟨_, _, _, _, h⟩ := s.settle_eq; simp [h]
@[simp] theorem State.settle_stops (s : State) : s.settle.stops = s.stops := by obtain ⟨_, _, _, _, h⟩ := s.settle_eq; simp [h]
@[simp] theorem State.settle_l2p (s : State) : s.settle.l2p = s.l2p := by obtain ⟨_, _, _, _, h⟩ := s.settle_eq; simp [h]
@[simp] theorem State.settle_built (s : State) : s.settle.built = s.built := by obtain ⟨_, _, _, _, h⟩ := s.settle_eq; simp [h]
@[simp] theorem State.settle_moves (s : State) : s.settle.moves = s.moves := by obtain ⟨_, _, _, _, h⟩ := s.settle_eq; simp [h]
@[simp] theorem State.settle_demands (s : State) : s.settle.demands = s.demands := by obtain ⟨_, _, _, _, h⟩ := s.settle_eq; simp [h]
@[simp] theorem State.settle_detections (s : State) : s.settle.detections = s.detections := by obtain ⟨_, _, _, _, h⟩ := s.settle_eq; simp [h]
@[simp] theorem State.settle_out (s : State) : s.settle.out = s.out := by obtain ⟨_, _, _, _, h⟩ := s.settle_eq; simp [h]
@[simp] theorem State.settle_closed (s : State) : s.settle.closed = s.closed := by obtain ⟨_, _, _, _, h⟩ := s.settle_eq; simp [h]
@[simp] theorem State.settle_freeCount (s : State) : s.settle.freeCount = s.freeCount := by obtain ⟨_, _, _, _, h⟩ := s.settle_eq; simp [h]

/-- Settling writes HM_FAULT_ALARM and HM_IRQ_STAT and no other register. -/
theorem State.word_settle (s : State) {a : Nat} (h1 : a ≠ HM_FAULT_ALARM) (h2 : a ≠ HM_IRQ_STAT) : s.settle.word a = s.word a := by
  obtain ⟨_, _, _, _, h⟩ := s.settle_eq
  rw [h, State.word_put_other, State.word_put_other, State.word_put_other, State.word_put_other] <;> assumption

/-- Settling leaves every field of another register alone. -/
theorem State.get_settle (s : State) {f : Fld} (h1 : f.reg ≠ HM_FAULT_ALARM) (h2 : f.reg ≠ HM_IRQ_STAT) : s.settle.get f = s.get f := by
  simp [State.get, s.word_settle h1 h2]

theorem State.tile_settle (s : State) (p : Nat) : s.settle.tile p = s.tile p := by simp [State.tile]
theorem State.quay_settle (s : State) (q : Nat) : s.settle.quay q = s.quay q := by simp [State.quay]

/-! ### The outcome of a command -/

/-- A command's outcome while PORST_N is high. -/
theorem run_of_released {s : State} {c : Nat} {f : State → State} (h : s.start.held = false) :
    run s c f = .next { f (s.begin_ c) with pending := s.pending, sp := s.sp }.settle := by
  simp [run, ran, h]

/-- A command's outcome while PORST_N is low. -/
theorem run_of_held {s : State} {c : Nat} {f : State → State} (h : s.start.held = true) : run s c f = .next { s with out := [] }.settle := by
  simp [run, ran, h]

/-- Every command has a next state, which is a settled one. -/
theorem run_settled (s : State) (c : Nat) (f : State → State) : ∃ t : State, run s c f = .next t.settle := ⟨_, rfl⟩

/-- No command touches the queue or the design-time values. -/
theorem run_keeps {s t : State} {c : Nat} {f : State → State} (h : run s c f = .next t) : t.pending = s.pending ∧ t.sp = s.sp := by
  unfold run ran at h
  cases h
  split <;> simp

end Sys2Proof.Machine
end

