-- ==== Sys2Proof/Laws/Run.lean ====
section
/-!
SUPPORT. Laws of the beginning and of the outcome of a command: what a command finds, and the form every outcome has.
-/

namespace Sys2Proof.Machine

/-! ### The beginning of a command -/

@[simp] theorem State.begin_sp (s : State) (c : Nat) : (s.begin_ c).sp = s.sp := (rfl)
@[simp] theorem State.begin_pending (s : State) (c : Nat) : (s.begin_ c).pending = s.pending := (rfl)
@[simp] theorem State.begin_regs (s : State) (c : Nat) : (s.begin_ c).regs = s.regs := (rfl)
@[simp] theorem State.begin_rtDev (s : State) (c : Nat) : (s.begin_ c).rtDev = s.rtDev := (rfl)
@[simp] theorem State.begin_mem (s : State) (c : Nat) : (s.begin_ c).mem = s.mem := (rfl)
@[simp] theorem State.begin_commit (s : State) (c : Nat) : (s.begin_ c).commit = s.commit := (rfl)
@[simp] theorem State.begin_power (s : State) (c : Nat) : (s.begin_ c).power = s.power := (rfl)
@[simp] theorem State.begin_hawser (s : State) (c : Nat) : (s.begin_ c).hawser = s.hawser := (rfl)
@[simp] theorem State.begin_rst (s : State) (c : Nat) : (s.begin_ c).rst = s.rst := (rfl)
@[simp] theorem State.begin_customs (s : State) (c : Nat) : (s.begin_ c).customs = s.customs := (rfl)
@[simp] theorem State.begin_test (s : State) (c : Nat) : (s.begin_ c).test = s.test := (rfl)
@[simp] theorem State.begin_log (s : State) (c : Nat) : (s.begin_ c).log = s.log := (rfl)
@[simp] theorem State.begin_keys (s : State) (c : Nat) : (s.begin_ c).keys = s.keys := (rfl)
@[simp] theorem State.begin_start (s : State) (c : Nat) : (s.begin_ c).start = s.start := (rfl)
@[simp] theorem State.begin_lock (s : State) (c : Nat) : (s.begin_ c).lock = s.lock := (rfl)
@[simp] theorem State.begin_cmd (s : State) (c : Nat) : (s.begin_ c).cmd = s.cmd := (rfl)
@[simp] theorem State.begin_tiles (s : State) (c : Nat) : (s.begin_ c).tiles = s.tiles := (rfl)
@[simp] theorem State.begin_quays (s : State) (c : Nat) : (s.begin_ c).quays = s.quays := (rfl)
@[simp] theorem State.begin_prods (s : State) (c : Nat) : (s.begin_ c).prods = s.prods := (rfl)
@[simp] theorem State.begin_armed (s : State) (c : Nat) : (s.begin_ c).armed = s.armed := (rfl)
@[simp] theorem State.begin_alarms (s : State) (c : Nat) : (s.begin_ c).alarms = s.alarms := (rfl)
@[simp] theorem State.begin_frames (s : State) (c : Nat) : (s.begin_ c).frames = s.frames := (rfl)
@[simp] theorem State.begin_bolMsgs (s : State) (c : Nat) : (s.begin_ c).bolMsgs = s.bolMsgs := (rfl)
@[simp] theorem State.begin_quayMsgs (s : State) (c : Nat) : (s.begin_ c).quayMsgs = s.quayMsgs := (rfl)
@[simp] theorem State.begin_sampReqs (s : State) (c : Nat) : (s.begin_ c).sampReqs = s.sampReqs := (rfl)
@[simp] theorem State.begin_outSigs (s : State) (c : Nat) : (s.begin_ c).outSigs = s.outSigs := (rfl)
@[simp] theorem State.begin_shadowSigs (s : State) (c : Nat) : (s.begin_ c).shadowSigs = s.shadowSigs := (rfl)
@[simp] theorem State.begin_disputes (s : State) (c : Nat) : (s.begin_ c).disputes = s.disputes := (rfl)
@[simp] theorem State.begin_stops (s : State) (c : Nat) : (s.begin_ c).stops = s.stops := (rfl)
@[simp] theorem State.begin_l2p (s : State) (c : Nat) : (s.begin_ c).l2p = s.l2p := (rfl)
@[simp] theorem State.begin_built (s : State) (c : Nat) : (s.begin_ c).built = s.built := (rfl)
@[simp] theorem State.begin_moves (s : State) (c : Nat) : (s.begin_ c).moves = s.moves := (rfl)
@[simp] theorem State.begin_demands (s : State) (c : Nat) : (s.begin_ c).demands = s.demands := (rfl)
@[simp] theorem State.begin_detections (s : State) (c : Nat) : (s.begin_ c).detections = s.detections := (rfl)
@[simp] theorem State.begin_closed (s : State) (c : Nat) : (s.begin_ c).closed = s.closed := (rfl)
@[simp] theorem State.begin_freeCount (s : State) (c : Nat) : (s.begin_ c).freeCount = s.freeCount := (rfl)
@[simp] theorem State.begin_time_tick (s : State) (c : Nat) : (s.begin_ c).time.tick = s.time.tick := (rfl)
@[simp] theorem State.begin_time_epoch (s : State) (c : Nat) : (s.begin_ c).time.epoch = s.time.epoch := (rfl)
@[simp] theorem State.begin_time_acc (s : State) (c : Nat) : (s.begin_ c).time.acc = s.time.acc := (rfl)
@[simp] theorem State.begin_time_slew (s : State) (c : Nat) : (s.begin_ c).time.slew = s.time.slew := (rfl)
@[simp] theorem State.begin_time_nearEdges (s : State) (c : Nat) : (s.begin_ c).time.nearEdges = s.time.nearEdges := (rfl)
@[simp] theorem State.begin_time_strays (s : State) (c : Nat) : (s.begin_ c).time.strays = s.time.strays := (rfl)
@[simp] theorem State.begin_time_afterHold (s : State) (c : Nat) : (s.begin_ c).time.afterHold = s.time.afterHold := (rfl)
@[simp] theorem State.begin_time_reacquired (s : State) (c : Nat) : (s.begin_ c).time.reacquired = s.time.reacquired := (rfl)
@[simp] theorem State.begin_time_prevLen (s : State) (c : Nat) : (s.begin_ c).time.prevLen = s.time.prevLen := (rfl)
@[simp] theorem State.begin_time_alignReq (s : State) (c : Nat) : (s.begin_ c).time.alignReq = s.time.alignReq := (rfl)
@[simp] theorem State.begin_time_alignNow (s : State) (c : Nat) : (s.begin_ c).time.alignNow = s.time.alignNow := (rfl)
@[simp] theorem State.begin_out (s : State) (c : Nat) : (s.begin_ c).out = [] := (rfl)
@[simp] theorem State.begin_cyc (s : State) (c : Nat) : (s.begin_ c).time.cyc = max s.time.cyc c := (rfl)
@[simp] theorem State.begin_word (s : State) (c a : Nat) : (s.begin_ c).word a = s.word a := (rfl)
@[simp] theorem State.begin_get (s : State) (c : Nat) (f : Fld) : (s.begin_ c).get f = s.get f := (rfl)
@[simp] theorem State.begin_flag (s : State) (c : Nat) (f : Fld) : (s.begin_ c).flag f = s.flag f := (rfl)
@[simp] theorem State.begin_tile (s : State) (c p : Nat) : (s.begin_ c).tile p = s.tile p := (rfl)
@[simp] theorem State.begin_quay (s : State) (c q : Nat) : (s.begin_ c).quay q = s.quay q := (rfl)
@[simp] theorem State.begin_nQuays (s : State) (c : Nat) : (s.begin_ c).nQuays = s.nQuays := (rfl)
@[simp] theorem State.begin_pageReady (s : State) (c a : Nat) : (s.begin_ c).pageReady a = s.pageReady a := (rfl)
@[simp] theorem State.begin_pageEn (s : State) (c a : Nat) : (s.begin_ c).pageEn a = s.pageEn a := (rfl)
@[simp] theorem State.begin_isOpen (s : State) (c : Nat) : (s.begin_ c).isOpen = s.isOpen := (rfl)
@[simp] theorem State.begin_isTile (s : State) (c p : Nat) : (s.begin_ c).isTile p = s.isTile p := (rfl)
@[simp] theorem State.begin_phaseNo (s : State) (c : Nat) : (s.begin_ c).phaseNo = s.phaseNo := (rfl)
@[simp] theorem State.begin_jt (s : State) (c : Nat) : (s.begin_ c).jt = s.jt := (rfl)
@[simp] theorem State.begin_role (s : State) (c p : Nat) : (s.begin_ c).role p = s.role p := (rfl)
@[simp] theorem State.begin_lantern (s : State) (c : Nat) : (s.begin_ c).lantern = s.lantern := (rfl)
@[simp] theorem State.begin_cdomOk (s : State) (c p : Nat) : (s.begin_ c).cdomOk p = s.cdomOk p := (rfl)

/-! ### The outcome of a command -/

/-- A command's outcome while PORST_N is high. -/
theorem run_eq_after {s : State} {c : Nat} {f : State → State} (h : s.start.held = false) : run s c f = .next (s.after c f) := by
  simp [run, ran, State.after, h]

/-- Two effects that agree on the state a command begins in have the same end. -/
theorem after_congr {s : State} {c : Nat} {f g : State → State} (h : f (s.begin_ c) = g (s.begin_ c)) : s.after c f = s.after c g := by
  simp [State.after, h]

/-- A host write that is taken. -/
theorem hostWrite_taken {s : State} {a : Nat} {k : State → State} (h1 : s.pageReady a = true) (h2 : s.pageEn a = true) :
    s.hostWrite a k = (k s).emit (.hport 0 0) := by
  simp [State.hostWrite, h1, h2]

/-- An operation that does not wait for the triplex. -/
theorem whenPresent_present {s : State} {b : Option Fld} {i : Instr} {k : State → State} (h : s.flag HM_TRIPLEX_STAT_ABSENT = false) :
    s.whenPresent b i k = k s := by
  simp [State.whenPresent, h]

/-- A host GO that is taken. -/
theorem go_taken {s : State} {a : Nat} {b : Option Fld} {i : Instr} {k : State → State} (h1 : s.pageReady a = true) (h2 : s.pageEn a = true)
    (h : s.flag HM_TRIPLEX_STAT_ABSENT = false) : s.go a b i k = (k s).emit (.hport 0 0) := by
  simp [State.go, State.hostWrite, State.whenPresent, h1, h2, h]

/-- What the end of a command keeps of the effect. -/
theorem after_word {s : State} {c : Nat} {f : State → State} {a : Nat} (h1 : a ≠ HM_FAULT_ALARM) (h2 : a ≠ HM_IRQ_STAT)
    (hsp : (f (s.begin_ c)).sp = s.sp) : (s.after c f).word a = (f (s.begin_ c)).word a := by
  rw [State.after, State.word_settle _ h1 h2]
  simp only [State.word, hsp]

/-- A register field after a command: what the effect gave it, for a register that settling does not write. -/
theorem after_get {s : State} {c : Nat} {f : State → State} {g : Fld} (h1 : g.reg ≠ HM_FAULT_ALARM) (h2 : g.reg ≠ HM_IRQ_STAT)
    (hsp : (f (s.begin_ c)).sp = s.sp) : (s.after c f).get g = (f (s.begin_ c)).get g := by
  simp only [State.get, after_word h1 h2 hsp]

@[simp] theorem after_time {s : State} {c : Nat} {f : State → State} : (s.after c f).time = (f (s.begin_ c)).time := by simp [State.after]
@[simp] theorem after_commit {s : State} {c : Nat} {f : State → State} : (s.after c f).commit = (f (s.begin_ c)).commit := by simp [State.after]
@[simp] theorem after_power {s : State} {c : Nat} {f : State → State} : (s.after c f).power = (f (s.begin_ c)).power := by simp [State.after]
@[simp] theorem after_mem {s : State} {c : Nat} {f : State → State} : (s.after c f).mem = (f (s.begin_ c)).mem := by simp [State.after]
@[simp] theorem after_hawser {s : State} {c : Nat} {f : State → State} : (s.after c f).hawser = (f (s.begin_ c)).hawser := by simp [State.after]
@[simp] theorem after_rst {s : State} {c : Nat} {f : State → State} : (s.after c f).rst = (f (s.begin_ c)).rst := by simp [State.after]
@[simp] theorem after_customs {s : State} {c : Nat} {f : State → State} : (s.after c f).customs = (f (s.begin_ c)).customs := by simp [State.after]
@[simp] theorem after_test {s : State} {c : Nat} {f : State → State} : (s.after c f).test = (f (s.begin_ c)).test := by simp [State.after]
@[simp] theorem after_log {s : State} {c : Nat} {f : State → State} : (s.after c f).log = (f (s.begin_ c)).log := by simp [State.after]
@[simp] theorem after_keys {s : State} {c : Nat} {f : State → State} : (s.after c f).keys = (f (s.begin_ c)).keys := by simp [State.after]
@[simp] theorem after_start {s : State} {c : Nat} {f : State → State} : (s.after c f).start = (f (s.begin_ c)).start := by simp [State.after]
@[simp] theorem after_lock {s : State} {c : Nat} {f : State → State} : (s.after c f).lock = (f (s.begin_ c)).lock := by simp [State.after]
@[simp] theorem after_cmd {s : State} {c : Nat} {f : State → State} : (s.after c f).cmd = (f (s.begin_ c)).cmd := by simp [State.after]
@[simp] theorem after_prods {s : State} {c : Nat} {f : State → State} : (s.after c f).prods = (f (s.begin_ c)).prods := by simp [State.after]
@[simp] theorem after_out {s : State} {c : Nat} {f : State → State} : (s.after c f).out = (f (s.begin_ c)).out := by simp [State.after]
@[simp] theorem after_tile {s : State} {c : Nat} {f : State → State} (p : Nat) : (s.after c f).tile p = (f (s.begin_ c)).tile p := by
  simp [State.after, State.tile]
@[simp] theorem after_quay {s : State} {c : Nat} {f : State → State} (q : Nat) : (s.after c f).quay q = (f (s.begin_ c)).quay q := by
  simp [State.after, State.quay]

/-- Claims that coincide with no other need no rotation (R17). -/
@[simp] theorem State.rotated_single {α : Type} (s : State) (n : Nat) (f : α → Nat) (x : α) : s.rotated n f [x] = [x] := rfl

@[simp] theorem State.inRotation_single {α : Type} (s : State) (f : α → Nat) (x : α) : s.inRotation f [x] = [x] := rfl

@[simp] theorem rotWinner_single (o n x : Nat) : rotWinner o n [x] = some x := rfl

/-- A write-back beat leaves the descriptor of its tile. -/
@[simp] theorem OpenTile.wbBeat_desc (t : OpenTile) (data : BitVec 256) (lanes i j : Nat) : (t.wbBeat data lanes i j).desc = t.desc := by
  unfold OpenTile.wbBeat
  refine List.foldlRecOn (motive := fun x : OpenTile => x.desc = t.desc) _ _ rfl ?_
  intro x hx k _
  by_cases h : dM t.desc * dN t.desc ≤ x.wb <;> simp [h, hx]

/-- Disarming a check that is not armed changes nothing (R498, R503). -/
theorem State.disarm_of_not_armed (s : State) (l u b : Nat) (h : s.isArmed l u b = false) : s.disarm l u b = s := by
  have h' : armKey l u b ∉ s.armed := by simpa [State.isArmed] using h
  have e : s.armed.filter (fun k => decide (k ≠ armKey l u b)) = s.armed := by
    rw [List.filter_eq_self]; intro k hk; simp; rintro rfl; exact h' hk
  unfold State.disarm; rw [e]

/-- A word of good parity passes the host port's check, when no error is forced (R492, R498). -/
theorem State.parity_clean (s : State) (h : s.isArmed 0 0 22 = false) : s.parity false = (s, false) := by
  simp [State.parity, State.checker, State.disarm_of_not_armed s 0 0 22 h, h]

end Sys2Proof.Machine
end

