-- ==== Sys2Proof/Laws/Frames.lean ====
section
/-!
SUPPORT. What the shared operations leave alone: a record queued at a producer, a pull of HW1, a page's error bit, a Bollard's derived fields and its
Breakwater, the change of a tile or of a quay.
-/

namespace Sys2Proof.Machine

/-! ### Records -/

/-- Queueing a record changes the producers, and at most HM_LOG_CNT. -/
theorem State.enqueue_eq (s : State) (i : Nat) (claim : List Rec) :
    (∃ l, s.enqueue i claim = { s with prods := l }) ∨ ∃ n l, s.enqueue i claim = { s.count HM_LOG_CNT_DROPPED n with prods := l } := by
  simp only [State.enqueue, State.setProd]
  repeat' split
  all_goals first | exact .inl ⟨_, rfl⟩ | exact .inr ⟨_, _, rfl⟩

theorem State.word_withProds (s : State) (l : Tab ProdQ) (a : Nat) : ({ s with prods := l } : State).word a = s.word a := (rfl)

/-- A record changes no register but HM_LOG_CNT. -/
theorem State.word_enqueue (s : State) (i : Nat) (claim : List Rec) {a : Nat} (h : a ≠ HM_LOG_CNT) : (s.enqueue i claim).word a = s.word a := by
  rcases s.enqueue_eq i claim with ⟨l, e⟩ | ⟨n, l, e⟩
  · rw [e, State.word_withProds]
  · rw [e, State.word_withProds, State.count, State.word_put_other _ _ h]

theorem State.get_enqueue (s : State) (i : Nat) (claim : List Rec) {f : Fld} (h : f.reg ≠ HM_LOG_CNT) : (s.enqueue i claim).get f = s.get f := by
  simp [State.get, s.word_enqueue i claim h]

@[simp] theorem State.enqueue_sp (s : State) (i : Nat) (claim : List Rec) : (s.enqueue i claim).sp = s.sp := by
  rcases s.enqueue_eq i claim with ⟨l, e⟩ | ⟨n, l, e⟩ <;> rw [e]; simp
@[simp] theorem State.enqueue_pending (s : State) (i : Nat) (claim : List Rec) : (s.enqueue i claim).pending = s.pending := by
  rcases s.enqueue_eq i claim with ⟨l, e⟩ | ⟨n, l, e⟩ <;> rw [e]; simp
@[simp] theorem State.enqueue_rtDev (s : State) (i : Nat) (claim : List Rec) : (s.enqueue i claim).rtDev = s.rtDev := by
  rcases s.enqueue_eq i claim with ⟨l, e⟩ | ⟨n, l, e⟩ <;> rw [e]; simp
@[simp] theorem State.enqueue_mem (s : State) (i : Nat) (claim : List Rec) : (s.enqueue i claim).mem = s.mem := by
  rcases s.enqueue_eq i claim with ⟨l, e⟩ | ⟨n, l, e⟩ <;> rw [e]; simp
@[simp] theorem State.enqueue_time (s : State) (i : Nat) (claim : List Rec) : (s.enqueue i claim).time = s.time := by
  rcases s.enqueue_eq i claim with ⟨l, e⟩ | ⟨n, l, e⟩ <;> rw [e]; simp
@[simp] theorem State.enqueue_commit (s : State) (i : Nat) (claim : List Rec) : (s.enqueue i claim).commit = s.commit := by
  rcases s.enqueue_eq i claim with ⟨l, e⟩ | ⟨n, l, e⟩ <;> rw [e]; simp
@[simp] theorem State.enqueue_power (s : State) (i : Nat) (claim : List Rec) : (s.enqueue i claim).power = s.power := by
  rcases s.enqueue_eq i claim with ⟨l, e⟩ | ⟨n, l, e⟩ <;> rw [e]; simp
@[simp] theorem State.enqueue_hawser (s : State) (i : Nat) (claim : List Rec) : (s.enqueue i claim).hawser = s.hawser := by
  rcases s.enqueue_eq i claim with ⟨l, e⟩ | ⟨n, l, e⟩ <;> rw [e]; simp
@[simp] theorem State.enqueue_rst (s : State) (i : Nat) (claim : List Rec) : (s.enqueue i claim).rst = s.rst := by
  rcases s.enqueue_eq i claim with ⟨l, e⟩ | ⟨n, l, e⟩ <;> rw [e]; simp
@[simp] theorem State.enqueue_customs (s : State) (i : Nat) (claim : List Rec) : (s.enqueue i claim).customs = s.customs := by
  rcases s.enqueue_eq i claim with ⟨l, e⟩ | ⟨n, l, e⟩ <;> rw [e]; simp
@[simp] theorem State.enqueue_test (s : State) (i : Nat) (claim : List Rec) : (s.enqueue i claim).test = s.test := by
  rcases s.enqueue_eq i claim with ⟨l, e⟩ | ⟨n, l, e⟩ <;> rw [e]; simp
@[simp] theorem State.enqueue_log (s : State) (i : Nat) (claim : List Rec) : (s.enqueue i claim).log = s.log := by
  rcases s.enqueue_eq i claim with ⟨l, e⟩ | ⟨n, l, e⟩ <;> rw [e]; simp
@[simp] theorem State.enqueue_keys (s : State) (i : Nat) (claim : List Rec) : (s.enqueue i claim).keys = s.keys := by
  rcases s.enqueue_eq i claim with ⟨l, e⟩ | ⟨n, l, e⟩ <;> rw [e]; simp
@[simp] theorem State.enqueue_start (s : State) (i : Nat) (claim : List Rec) : (s.enqueue i claim).start = s.start := by
  rcases s.enqueue_eq i claim with ⟨l, e⟩ | ⟨n, l, e⟩ <;> rw [e]; simp
@[simp] theorem State.enqueue_lock (s : State) (i : Nat) (claim : List Rec) : (s.enqueue i claim).lock = s.lock := by
  rcases s.enqueue_eq i claim with ⟨l, e⟩ | ⟨n, l, e⟩ <;> rw [e]; simp
@[simp] theorem State.enqueue_cmd (s : State) (i : Nat) (claim : List Rec) : (s.enqueue i claim).cmd = s.cmd := by
  rcases s.enqueue_eq i claim with ⟨l, e⟩ | ⟨n, l, e⟩ <;> rw [e]; simp
@[simp] theorem State.enqueue_tiles (s : State) (i : Nat) (claim : List Rec) : (s.enqueue i claim).tiles = s.tiles := by
  rcases s.enqueue_eq i claim with ⟨l, e⟩ | ⟨n, l, e⟩ <;> rw [e]; simp
@[simp] theorem State.enqueue_quays (s : State) (i : Nat) (claim : List Rec) : (s.enqueue i claim).quays = s.quays := by
  rcases s.enqueue_eq i claim with ⟨l, e⟩ | ⟨n, l, e⟩ <;> rw [e]; simp
@[simp] theorem State.enqueue_armed (s : State) (i : Nat) (claim : List Rec) : (s.enqueue i claim).armed = s.armed := by
  rcases s.enqueue_eq i claim with ⟨l, e⟩ | ⟨n, l, e⟩ <;> rw [e]; simp
@[simp] theorem State.enqueue_alarms (s : State) (i : Nat) (claim : List Rec) : (s.enqueue i claim).alarms = s.alarms := by
  rcases s.enqueue_eq i claim with ⟨l, e⟩ | ⟨n, l, e⟩ <;> rw [e]; simp
@[simp] theorem State.enqueue_frames (s : State) (i : Nat) (claim : List Rec) : (s.enqueue i claim).frames = s.frames := by
  rcases s.enqueue_eq i claim with ⟨l, e⟩ | ⟨n, l, e⟩ <;> rw [e]; simp
@[simp] theorem State.enqueue_bolMsgs (s : State) (i : Nat) (claim : List Rec) : (s.enqueue i claim).bolMsgs = s.bolMsgs := by
  rcases s.enqueue_eq i claim with ⟨l, e⟩ | ⟨n, l, e⟩ <;> rw [e]; simp
@[simp] theorem State.enqueue_quayMsgs (s : State) (i : Nat) (claim : List Rec) : (s.enqueue i claim).quayMsgs = s.quayMsgs := by
  rcases s.enqueue_eq i claim with ⟨l, e⟩ | ⟨n, l, e⟩ <;> rw [e]; simp
@[simp] theorem State.enqueue_sampReqs (s : State) (i : Nat) (claim : List Rec) : (s.enqueue i claim).sampReqs = s.sampReqs := by
  rcases s.enqueue_eq i claim with ⟨l, e⟩ | ⟨n, l, e⟩ <;> rw [e]; simp
@[simp] theorem State.enqueue_outSigs (s : State) (i : Nat) (claim : List Rec) : (s.enqueue i claim).outSigs = s.outSigs := by
  rcases s.enqueue_eq i claim with ⟨l, e⟩ | ⟨n, l, e⟩ <;> rw [e]; simp
@[simp] theorem State.enqueue_shadowSigs (s : State) (i : Nat) (claim : List Rec) : (s.enqueue i claim).shadowSigs = s.shadowSigs := by
  rcases s.enqueue_eq i claim with ⟨l, e⟩ | ⟨n, l, e⟩ <;> rw [e]; simp
@[simp] theorem State.enqueue_disputes (s : State) (i : Nat) (claim : List Rec) : (s.enqueue i claim).disputes = s.disputes := by
  rcases s.enqueue_eq i claim with ⟨l, e⟩ | ⟨n, l, e⟩ <;> rw [e]; simp
@[simp] theorem State.enqueue_stops (s : State) (i : Nat) (claim : List Rec) : (s.enqueue i claim).stops = s.stops := by
  rcases s.enqueue_eq i claim with ⟨l, e⟩ | ⟨n, l, e⟩ <;> rw [e]; simp
@[simp] theorem State.enqueue_l2p (s : State) (i : Nat) (claim : List Rec) : (s.enqueue i claim).l2p = s.l2p := by
  rcases s.enqueue_eq i claim with ⟨l, e⟩ | ⟨n, l, e⟩ <;> rw [e]; simp
@[simp] theorem State.enqueue_built (s : State) (i : Nat) (claim : List Rec) : (s.enqueue i claim).built = s.built := by
  rcases s.enqueue_eq i claim with ⟨l, e⟩ | ⟨n, l, e⟩ <;> rw [e]; simp
@[simp] theorem State.enqueue_moves (s : State) (i : Nat) (claim : List Rec) : (s.enqueue i claim).moves = s.moves := by
  rcases s.enqueue_eq i claim with ⟨l, e⟩ | ⟨n, l, e⟩ <;> rw [e]; simp
@[simp] theorem State.enqueue_demands (s : State) (i : Nat) (claim : List Rec) : (s.enqueue i claim).demands = s.demands := by
  rcases s.enqueue_eq i claim with ⟨l, e⟩ | ⟨n, l, e⟩ <;> rw [e]; simp
@[simp] theorem State.enqueue_detections (s : State) (i : Nat) (claim : List Rec) : (s.enqueue i claim).detections = s.detections := by
  rcases s.enqueue_eq i claim with ⟨l, e⟩ | ⟨n, l, e⟩ <;> rw [e]; simp
@[simp] theorem State.enqueue_out (s : State) (i : Nat) (claim : List Rec) : (s.enqueue i claim).out = s.out := by
  rcases s.enqueue_eq i claim with ⟨l, e⟩ | ⟨n, l, e⟩ <;> rw [e]; simp
@[simp] theorem State.enqueue_closed (s : State) (i : Nat) (claim : List Rec) : (s.enqueue i claim).closed = s.closed := by
  rcases s.enqueue_eq i claim with ⟨l, e⟩ | ⟨n, l, e⟩ <;> rw [e]; simp
@[simp] theorem State.enqueue_freeCount (s : State) (i : Nat) (claim : List Rec) : (s.enqueue i claim).freeCount = s.freeCount := by
  rcases s.enqueue_eq i claim with ⟨l, e⟩ | ⟨n, l, e⟩ <;> rw [e]; simp
@[simp] theorem State.enqueue_tile (s : State) (i : Nat) (claim : List Rec) (p : Nat) : (s.enqueue i claim).tile p = s.tile p := by
  simp [State.tile]
@[simp] theorem State.enqueue_quay (s : State) (i : Nat) (claim : List Rec) (q : Nat) : (s.enqueue i claim).quay q = s.quay q := by
  simp [State.quay]

end Sys2Proof.Machine
end

