-- ==== Sys2Proof/Laws/Mem.lean ====
section
/-!
SUPPORT. Laws of the stores: a byte written reads back, every other byte stays, and every memory operation keeps the canonical form.
-/

namespace Sys2Proof.Machine

@[simp] theorem State.byte_setByte_same (s : State) (a : Nat) (v : BitVec 8) : (s.setByte a v).byte a = v := by
  simp [State.byte, State.setByte]

theorem State.byte_setByte_other (s : State) {a b : Nat} (v : BitVec 8) (h : b ≠ a) : (s.setByte a v).byte b = s.byte b := by
  simp only [State.byte, State.setByte]
  exact tabGet_tabSet_other _ _ _ h

/-- Storing a byte keeps the canonical form. -/
theorem memWf_setByte {s : State} (a : Nat) (v : BitVec 8) (h : memWf s.mem) : memWf (s.setByte a v).mem := tabWf_tabSet a v h

/-- Removing the entries of a range keeps the canonical form. -/
theorem memWf_dropCells {s : State} (lo hi : Nat) (h : memWf s.mem) : memWf (s.dropCells lo hi).mem := tabWf_filter _ h

/-- Storing bytes keeps the canonical form. -/
theorem memWf_writeBytes (l : List (BitVec 8)) : ∀ {s : State} (a : Nat), memWf s.mem → memWf (s.writeBytes a l).mem := by
  induction l with
  | nil => exact fun _ h => h
  | cons b t ih => exact fun a h => ih (a + 1) (memWf_setByte a b h)

/-- What stores bytes leaves every byte outside them alone. -/
theorem State.byte_writeBytes_other (l : List (BitVec 8)) : ∀ (s : State) (a : Nat) {b : Nat}, (b < a ∨ a + l.length ≤ b) → (s.writeBytes a l).byte b = s.byte b := by
  induction l with
  | nil => intro s a b _; rfl
  | cons v t ih =>
    intro s a b h
    simp only [List.length_cons] at h
    rw [State.writeBytes, ih _ _ (by omega), State.byte_setByte_other _ _ (by omega)]

/-- Each byte stored reads back. -/
theorem State.byte_writeBytes_same (l : List (BitVec 8)) : ∀ (s : State) (a : Nat) {i : Nat} (h : i < l.length), (s.writeBytes a l).byte (a + i) = l[i] := by
  induction l with
  | nil => intro s a i h; simp at h
  | cons v t ih =>
    intro s a i h
    rw [State.writeBytes]
    cases i with
    | zero => rw [State.byte_writeBytes_other _ _ _ (by omega)]; simp
    | succ i =>
      have := ih (s.setByte a v) (a + 1) (i := i) (by simpa using h)
      rw [show a + (i + 1) = a + 1 + i by omega, this]; rfl

/-- Storing bytes changes nothing but the stores. -/
theorem State.writeBytes_eq (l : List (BitVec 8)) : ∀ (s : State) (a : Nat), ∃ m, s.writeBytes a l = { s with mem := m } := by
  induction l with
  | nil => exact fun s _ => ⟨s.mem, rfl⟩
  | cons b t ih =>
    intro s a
    obtain ⟨m, hm⟩ := ih (s.setByte a b) (a + 1)
    exact ⟨m, by rw [State.writeBytes, hm]; rfl⟩

/-- The stores list nothing after reset, which is canonical. -/
theorem memWf_reset : memWf State.reset.mem := by decide

end Sys2Proof.Machine
end

