-- ==== Sys2Proof/Laws/Ops.lean ====
section
/-!
SUPPORT. Laws of the shared operations that place a command in its tick and that take up an edge of PPS.
-/

namespace Sys2Proof.Machine

/-! ### A command's place in the tick -/

@[simp] theorem State.placed_time_tick (s : State) (c : Nat) : (s.at_ c).time.tick = s.time.tick := (rfl)
@[simp] theorem State.placed_time_epoch (s : State) (c : Nat) : (s.at_ c).time.epoch = s.time.epoch := (rfl)
@[simp] theorem State.placed_time_acc (s : State) (c : Nat) : (s.at_ c).time.acc = s.time.acc := (rfl)
@[simp] theorem State.placed_time_slew (s : State) (c : Nat) : (s.at_ c).time.slew = s.time.slew := (rfl)
@[simp] theorem State.placed_time_nearEdges (s : State) (c : Nat) : (s.at_ c).time.nearEdges = s.time.nearEdges := (rfl)
@[simp] theorem State.placed_time_strays (s : State) (c : Nat) : (s.at_ c).time.strays = s.time.strays := (rfl)
@[simp] theorem State.placed_time_afterHold (s : State) (c : Nat) : (s.at_ c).time.afterHold = s.time.afterHold := (rfl)
@[simp] theorem State.placed_time_reacquired (s : State) (c : Nat) : (s.at_ c).time.reacquired = s.time.reacquired := (rfl)
@[simp] theorem State.placed_time_prevLen (s : State) (c : Nat) : (s.at_ c).time.prevLen = s.time.prevLen := (rfl)
@[simp] theorem State.placed_time_alignReq (s : State) (c : Nat) : (s.at_ c).time.alignReq = s.time.alignReq := (rfl)
@[simp] theorem State.placed_time_alignNow (s : State) (c : Nat) : (s.at_ c).time.alignNow = s.time.alignNow := (rfl)

/-! ### What an output and a trace of this cycle leave alone -/

@[simp] theorem State.word_emit (s : State) (o : Out) (a : Nat) : (s.emit o).word a = s.word a := (rfl)
@[simp] theorem State.get_emit (s : State) (o : Out) (f : Fld) : (s.emit o).get f = s.get f := (rfl)
@[simp] theorem State.flag_emit (s : State) (o : Out) (f : Fld) : (s.emit o).flag f = s.flag f := (rfl)
@[simp] theorem State.tile_emit (s : State) (o : Out) (p : Nat) : (s.emit o).tile p = s.tile p := (rfl)
@[simp] theorem State.quay_emit (s : State) (o : Out) (q : Nat) : (s.emit o).quay q = s.quay q := (rfl)
@[simp] theorem State.word_coin (s : State) (x : Coin) (a : Nat) : (s.coin x).word a = s.word a := (rfl)
@[simp] theorem State.get_coin (s : State) (x : Coin) (f : Fld) : (s.coin x).get f = s.get f := (rfl)
@[simp] theorem State.flag_coin (s : State) (x : Coin) (f : Fld) : (s.coin x).flag f = s.flag f := (rfl)
@[simp] theorem State.tile_coin (s : State) (x : Coin) (p : Nat) : (s.coin x).tile p = s.tile p := (rfl)
@[simp] theorem State.quay_coin (s : State) (x : Coin) (q : Nat) : (s.coin x).quay q = s.quay q := (rfl)

/-! ### An edge of PPS -/

@[simp] theorem State.capture_time (s : State) (m : Moment) : (s.capture m).time = s.time := by simp [State.capture]
@[simp] theorem State.capture_sp (s : State) (m : Moment) : (s.capture m).sp = s.sp := by simp [State.capture]
@[simp] theorem State.capture_out (s : State) (m : Moment) : (s.capture m).out = s.out := by simp [State.capture]

end Sys2Proof.Machine
end

