-- ==== Sys2Proof/Laws/Reads.lean ====
section
/-!
SUPPORT. What a command reads at its beginning is what the state before it holds: one lemma for each function that reads the state.
-/

namespace Sys2Proof.Machine

@[simp] theorem State.begin_tileSpan (s : State) (c : Nat) : (s.begin_ c).tileSpan = s.tileSpan := (rfl)
@[simp] theorem State.begin_logicals (s : State) (c : Nat) : (s.begin_ c).logicals = s.logicals := (rfl)
@[simp] theorem State.begin_hmAreas (s : State) (c : Nat) : (s.begin_ c).hmAreas = s.hmAreas := (rfl)
@[simp] theorem State.begin_images (s : State) (c : Nat) (q : Nat) : (s.begin_ c).images q = s.images q := (rfl)
@[simp] theorem State.begin_quayAreas (s : State) (c : Nat) (q : Nat) : (s.begin_ c).quayAreas q = s.quayAreas q := (rfl)
@[simp] theorem State.begin_resident (s : State) (c : Nat) (q b : Nat) : (s.begin_ c).resident q b = s.resident q b := (rfl)
@[simp] theorem State.begin_residents (s : State) (c : Nat) (q : Nat) : (s.begin_ c).residents q = s.residents q := (rfl)
@[simp] theorem State.begin_badArea (s : State) (c : Nat) (q : Nat) : (s.begin_ c).badArea q = s.badArea q := (rfl)
@[simp] theorem State.begin_bankUsed (s : State) (c : Nat) (q b : Nat) : (s.begin_ c).bankUsed q b = s.bankUsed q b := (rfl)
@[simp] theorem State.begin_tol (s : State) (c : Nat) (p fmt : Nat) : (s.begin_ c).tol p fmt = s.tol p fmt := (rfl)
@[simp] theorem State.begin_frameWords (s : State) (c : Nat) (p : Nat) : (s.begin_ c).frameWords p = s.frameWords p := (rfl)
@[simp] theorem State.begin_launchSlot (s : State) (c : Nat) (h : Nat) : (s.begin_ c).launchSlot h = s.launchSlot h := (rfl)
@[simp] theorem State.begin_arriveSlot (s : State) (c : Nat) (h : Nat) : (s.begin_ c).arriveSlot h = s.arriveSlot h := (rfl)
@[simp] theorem State.begin_regionTemp (s : State) (c : Nat) (q : Nat) : (s.begin_ c).regionTemp q = s.regionTemp q := (rfl)
@[simp] theorem State.begin_regionRail (s : State) (c : Nat) (q : Nat) : (s.begin_ c).regionRail q = s.regionRail q := (rfl)
@[simp] theorem State.begin_reporting (s : State) (c : Nat) (q : Nat) : (s.begin_ c).reporting q = s.reporting q := (rfl)
@[simp] theorem State.begin_govState (s : State) (c : Nat) (q : Nat) : (s.begin_ c).govState q = s.govState q := (rfl)
@[simp] theorem State.begin_bucketMax (s : State) (c : Nat) (q : Nat) : (s.begin_ c).bucketMax q = s.bucketMax q := (rfl)
@[simp] theorem State.begin_clrCeil (s : State) (c : Nat) (q t : Nat) : (s.begin_ c).clrCeil q t = s.clrCeil q t := (rfl)
@[simp] theorem State.begin_clrRise (s : State) (c : Nat) (q : Nat) : (s.begin_ c).clrRise q = s.clrRise q := (rfl)
@[simp] theorem State.begin_keepable (s : State) (c : Nat) (q n : Nat) : (s.begin_ c).keepable q n = s.keepable q n := (rfl)
@[simp] theorem State.begin_destOk (s : State) (c : Nat) (dest len : Nat) : (s.begin_ c).destOk dest len = s.destOk dest len := (rfl)
@[simp] theorem State.begin_manifestDiff (s : State) (c : Nat) (q : Nat) : (s.begin_ c).manifestDiff q = s.manifestDiff q := (rfl)
@[simp] theorem State.begin_syncBlock (s : State) (c : Nat) (q : Nat) : (s.begin_ c).syncBlock q = s.syncBlock q := (rfl)
@[simp] theorem State.begin_cmState (s : State) (c : Nat) : (s.begin_ c).cmState = s.cmState := (rfl)
@[simp] theorem State.begin_ctick (s : State) (c : Nat) : (s.begin_ c).ctick = s.ctick := (rfl)
@[simp] theorem State.begin_uncleanAt (s : State) (c : Nat) (q n : Nat) : (s.begin_ c).uncleanAt q n = s.uncleanAt q n := (rfl)
@[simp] theorem State.begin_outstanding (s : State) (c : Nat) (q n : Nat) : (s.begin_ c).outstanding q n = s.outstanding q n := (rfl)
@[simp] theorem State.begin_controlled (s : State) (c : Nat) (q : Nat) : (s.begin_ c).controlled q = s.controlled q := (rfl)
@[simp] theorem State.begin_roundDone (s : State) (c : Nat) : (s.begin_ c).roundDone = s.roundDone := (rfl)
@[simp] theorem State.begin_mailWords (s : State) (c : Nat) (n p l t reason replays halt : Nat) (moved : Bool) : (s.begin_ c).mailWords n p l t reason replays halt moved = s.mailWords n p l t reason replays halt moved := (rfl)
@[simp] theorem State.begin_customsRuns (s : State) (c : Nat) : (s.begin_ c).customsRuns = s.customsRuns := (rfl)
@[simp] theorem State.begin_entry (s : State) (c : Nat) (slot : Nat) : (s.begin_ c).entry slot = s.entry slot := (rfl)
@[simp] theorem State.begin_captGone (s : State) (c : Nat) (m : DispMsg) : (s.begin_ c).captGone m = s.captGone m := (rfl)
@[simp] theorem State.begin_queueSlot (s : State) (c : Nat) : (s.begin_ c).queueSlot = s.queueSlot := (rfl)
@[simp] theorem State.begin_harvWords (s : State) (c : Nat) (e : CusEntry) (r : Ruling) (h : HarvRec) (full : Bool) : (s.begin_ c).harvWords e r h full = s.harvWords e r h full := (rfl)
@[simp] theorem State.begin_customsTol (s : State) (c : Nat) (e : CusEntry) : (s.begin_ c).customsTol e = s.customsTol e := (rfl)
@[simp] theorem State.begin_evaluation (s : State) (c : Nat) (e : CusEntry) : (s.begin_ c).evaluation e = s.evaluation e := (rfl)
@[simp] theorem State.begin_freeUnits (s : State) (c : Nat) : (s.begin_ c).freeUnits = s.freeUnits := (rfl)
@[simp] theorem State.begin_served (s : State) (c : Nat) (u : Nat) : (s.begin_ c).served u = s.served u := (rfl)
@[simp] theorem State.begin_refereeSpare (s : State) (c : Nat) (e : CusEntry) : (s.begin_ c).refereeSpare e = s.refereeSpare e := (rfl)
@[simp] theorem State.begin_refereeOf (s : State) (c : Nat) (e : CusEntry) : (s.begin_ c).refereeOf e = s.refereeOf e := (rfl)
@[simp] theorem State.begin_isArmed (s : State) (c : Nat) (level unit b : Nat) : (s.begin_ c).isArmed level unit b = s.isArmed level unit b := (rfl)
@[simp] theorem State.begin_faultClass (s : State) (c : Nat) (level b : Nat) : (s.begin_ c).faultClass level b = s.faultClass level b := (rfl)
@[simp] theorem State.begin_forceOk (s : State) (c : Nat) (level unit b : Nat) : (s.begin_ c).forceOk level unit b = s.forceOk level unit b := (rfl)
@[simp] theorem State.begin_moveOf (s : State) (c : Nat) (x : Nat) : (s.begin_ c).moveOf x = s.moveOf x := (rfl)
@[simp] theorem State.begin_switchTick (s : State) (c : Nat) (copyEnd inPlace : Int) : (s.begin_ c).switchTick copyEnd inPlace = s.switchTick copyEnd inPlace := (rfl)
@[simp] theorem State.begin_key (s : State) (c : Nat) (slot : Nat) : (s.begin_ c).key slot = s.key slot := (rfl)
@[simp] theorem State.begin_quayKey (s : State) (c : Nat) (slot : Nat) : (s.begin_ c).quayKey slot = s.quayKey slot := (rfl)
@[simp] theorem State.begin_keyId (s : State) (c : Nat) (slot : Nat) : (s.begin_ c).keyId slot = s.keyId slot := (rfl)
@[simp] theorem State.begin_halfBytes (s : State) (c : Nat) (q : Nat) : (s.begin_ c).halfBytes q = s.halfBytes q := (rfl)
@[simp] theorem State.begin_halfAddr (s : State) (c : Nat) (q h : Nat) : (s.begin_ c).halfAddr q h = s.halfAddr q h := (rfl)
@[simp] theorem State.begin_tableAddr (s : State) (c : Nat) (p : Nat) : (s.begin_ c).tableAddr p = s.tableAddr p := (rfl)
@[simp] theorem State.begin_libSet (s : State) (c : Nat) (q h : Nat) : (s.begin_ c).libSet q h = s.libSet q h := (rfl)
@[simp] theorem State.begin_lbistSig (s : State) (c : Nat) (q h j i : Nat) : (s.begin_ c).lbistSig q h j i = s.lbistSig q h j i := (rfl)
@[simp] theorem State.begin_topupSig (s : State) (c : Nat) (q h t n : Nat) : (s.begin_ c).topupSig q h t n = s.topupSig q h t n := (rfl)
@[simp] theorem State.begin_slicing (s : State) (c : Nat) (q : Nat) : (s.begin_ c).slicing q = s.slicing q := (rfl)
@[simp] theorem State.begin_touchesLive (s : State) (c : Nat) (f : Flash) : (s.begin_ c).touchesLive f = s.touchesLive f := (rfl)
@[simp] theorem State.begin_detWords (s : State) (c : Nat) : (s.begin_ c).detWords = s.detWords := (rfl)
@[simp] theorem State.begin_lockState (s : State) (c : Nat) : (s.begin_ c).lockState = s.lockState := (rfl)
@[simp] theorem State.begin_lockPeer (s : State) (c : Nat) : (s.begin_ c).lockPeer = s.lockPeer := (rfl)
@[simp] theorem State.begin_sigacc (s : State) (c : Nat) (p : Nat) : (s.begin_ c).sigacc p = s.sigacc p := (rfl)
@[simp] theorem State.begin_lockRows (s : State) (c : Nat) : (s.begin_ c).lockRows = s.lockRows := (rfl)
@[simp] theorem State.begin_rowCores (s : State) (c : Nat) (r : Nat) : (s.begin_ c).rowCores r = s.rowCores r := (rfl)
@[simp] theorem State.begin_lockLowest (s : State) (c : Nat) (q : Nat) : (s.begin_ c).lockLowest q = s.lockLowest q := (rfl)
@[simp] theorem State.begin_rowShare (s : State) (c : Nat) (q step row : Nat) : (s.begin_ c).rowShare q step row = s.rowShare q step row := (rfl)
@[simp] theorem State.begin_histAddr (s : State) (c : Nat) (q n : Nat) : (s.begin_ c).histAddr q n = s.histAddr q n := (rfl)
@[simp] theorem State.begin_ownDigest (s : State) (c : Nat) (n q : Nat) : (s.begin_ c).ownDigest n q = s.ownDigest n q := (rfl)
@[simp] theorem State.begin_stepQuays (s : State) (c : Nat) (n : Nat) : (s.begin_ c).stepQuays n = s.stepQuays n := (rfl)
@[simp] theorem State.begin_slotHead (s : State) (c : Nat) (n : Nat) (d : BitVec 64) (w2 w3 : Nat) (start : Bool) : (s.begin_ c).slotHead n d w2 w3 start = s.slotHead n d w2 w3 start := (rfl)
@[simp] theorem State.begin_lockWin (s : State) (c : Nat) : (s.begin_ c).lockWin = s.lockWin := (rfl)
@[simp] theorem State.begin_histHeld (s : State) (c : Nat) (q n : Nat) : (s.begin_ c).histHeld q n = s.histHeld q n := (rfl)
@[simp] theorem State.begin_wseq (s : State) (c : Nat) : (s.begin_ c).wseq = s.wseq := (rfl)
@[simp] theorem State.begin_fseq (s : State) (c : Nat) : (s.begin_ c).fseq = s.fseq := (rfl)
@[simp] theorem State.begin_bufRec (s : State) (c : Nat) (n : Nat) : (s.begin_ c).bufRec n = s.bufRec n := (rfl)
@[simp] theorem State.begin_logState (s : State) (c : Nat) : (s.begin_ c).logState = s.logState := (rfl)
@[simp] theorem State.begin_logHeld (s : State) (c : Nat) : (s.begin_ c).logHeld = s.logHeld := (rfl)
@[simp] theorem State.begin_lastOpen (s : State) (c : Nat) : (s.begin_ c).lastOpen = s.lastOpen := (rfl)
@[simp] theorem State.begin_clearable (s : State) (c : Nat) (first last : Nat) : (s.begin_ c).clearable first last = s.clearable first last := (rfl)
@[simp] theorem State.begin_hmChecks (s : State) (c : Nat) : (s.begin_ c).hmChecks = s.hmChecks := (rfl)
@[simp] theorem State.begin_manned (s : State) (c : Nat) (q : Nat) : (s.begin_ c).manned q = s.manned q := (rfl)
@[simp] theorem State.begin_farOk (s : State) (c : Nat) (q : Nat) : (s.begin_ c).farOk q = s.farOk q := (rfl)
@[simp] theorem State.begin_quayChecks (s : State) (c : Nat) (r n q : Nat) : (s.begin_ c).quayChecks r n q = s.quayChecks r n q := (rfl)
@[simp] theorem State.begin_railOk (s : State) (c : Nat) (q : Nat) : (s.begin_ c).railOk q = s.railOk q := (rfl)
@[simp] theorem State.begin_openChecks (s : State) (c : Nat) : (s.begin_ c).openChecks = s.openChecks := (rfl)
@[simp] theorem State.begin_servingIdx (s : State) (c : Nat) (q : Nat) : (s.begin_ c).servingIdx q = s.servingIdx q := (rfl)
@[simp] theorem State.begin_quayList (s : State) (c : Nat) : (s.begin_ c).quayList = s.quayList := (rfl)
@[simp] theorem State.begin_hasPartner (s : State) (c : Nat) : (s.begin_ c).hasPartner = s.hasPartner := (rfl)
@[simp] theorem State.begin_tickLen (s : State) (c : Nat) : (s.begin_ c).tickLen = s.tickLen := (rfl)
@[simp] theorem State.begin_granule (s : State) (c : Nat) : (s.begin_ c).granule = s.granule := (rfl)
@[simp] theorem State.begin_window (s : State) (c : Nat) : (s.begin_ c).window = s.window := (rfl)
@[simp] theorem State.begin_tallyBound (s : State) (c : Nat) : (s.begin_ c).tallyBound = s.tallyBound := (rfl)
@[simp] theorem State.begin_commitAt (s : State) (c : Nat) : (s.begin_ c).commitAt = s.commitAt := (rfl)
@[simp] theorem State.begin_rootAt (s : State) (c : Nat) : (s.begin_ c).rootAt = s.rootAt := (rfl)
@[simp] theorem State.begin_quayAt (s : State) (c : Nat) : (s.begin_ c).quayAt = s.quayAt := (rfl)
@[simp] theorem State.begin_tick32 (s : State) (c : Nat) : (s.begin_ c).tick32 = s.tick32 := (rfl)
@[simp] theorem State.begin_touchedTiles (s : State) (c : Nat) : (s.begin_ c).touchedTiles = s.touchedTiles := (rfl)
@[simp] theorem State.begin_jobTiles (s : State) (c : Nat) : (s.begin_ c).jobTiles = s.jobTiles := (rfl)
@[simp] theorem State.begin_jobTilesOf (s : State) (c : Nat) (q : Nat) : (s.begin_ c).jobTilesOf q = s.jobTilesOf q := (rfl)
@[simp] theorem State.begin_crstHigh (s : State) (c : Nat) (p : Nat) : (s.begin_ c).crstHigh p = s.crstHigh p := (rfl)
@[simp] theorem State.begin_prod (s : State) (c : Nat) (i : Nat) : (s.begin_ c).prod i = s.prod i := (rfl)
@[simp] theorem State.begin_reportsFull (s : State) (c : Nat) (p : Nat) : (s.begin_ c).reportsFull p = s.reportsFull p := (rfl)
@[simp] theorem State.begin_engine (s : State) (c : Nat) (p : Nat) : (s.begin_ c).engine p = s.engine p := (rfl)
@[simp] theorem State.begin_escWindow (s : State) (c : Nat) : (s.begin_ c).escWindow = s.escWindow := (rfl)
@[simp] theorem State.begin_recentResets (s : State) (c : Nat) (key : Nat) : (s.begin_ c).recentResets key = s.recentResets key := (rfl)
@[simp] theorem State.begin_shadowMax (s : State) (c : Nat) : (s.begin_ c).shadowMax = s.shadowMax := (rfl)
@[simp] theorem State.begin_eligible (s : State) (c : Nat) (p : Nat) (o : OpenTile) (heldA heldB : Nat) : (s.begin_ c).eligible p o heldA heldB = s.eligible p o heldA heldB := (rfl)
@[simp] theorem State.begin_rateFor (s : State) (c : Nat) (p : Nat) : (s.begin_ c).rateFor p = s.rateFor p := (rfl)
@[simp] theorem State.begin_berth (s : State) (c : Nat) (q b : Nat) : (s.begin_ c).berth q b = s.berth q b := (rfl)
@[simp] theorem State.begin_belongs (s : State) (c : Nat) (x : Berth) : (s.begin_ c).belongs x = s.belongs x := (rfl)
@[simp] theorem State.begin_charge (s : State) (c : Nat) (q src p copy : Nat) (d : BitVec 64) : (s.begin_ c).charge q src p copy d = s.charge q src p copy d := (rfl)
@[simp] theorem State.begin_estOf (s : State) (c : Nat) (q : Nat) (x : Berth) : (s.begin_ c).estOf q x = s.estOf q x := (rfl)
@[simp] theorem State.begin_capt (s : State) (k : Nat) (q c : Nat) : (s.begin_ k).capt q c = s.capt q c := (rfl)
@[simp] theorem State.begin_lateE (s : State) (c : Nat) (x : Berth) (n : Nat) : (s.begin_ c).lateE x n = s.lateE x n := (rfl)
@[simp] theorem State.begin_makeup (s : State) (c : Nat) (q i : Nat) : (s.begin_ c).makeup q i = s.makeup q i := (rfl)
@[simp] theorem State.begin_witnessRuns (s : State) (c : Nat) (x : Berth) : (s.begin_ c).witnessRuns x = s.witnessRuns x := (rfl)
@[simp] theorem State.begin_auditTick (s : State) (c : Nat) (a : Audit) : (s.begin_ c).auditTick a = s.auditTick a := (rfl)
@[simp] theorem State.begin_alarmHolds (s : State) (k : Nat) (c : Nat) : (s.begin_ k).alarmHolds c = s.alarmHolds c := (rfl)
@[simp] theorem State.begin_irq0 (s : State) (c : Nat) : (s.begin_ c).irq0 = s.irq0 := (rfl)
@[simp] theorem State.begin_irqEvents (s : State) (c : Nat) (lo w : Nat) : (s.begin_ c).irqEvents lo w = s.irqEvents lo w := (rfl)
@[simp] theorem State.begin_irq2 (s : State) (c : Nat) : (s.begin_ c).irq2 = s.irq2 := (rfl)
@[simp] theorem State.begin_pageLock (s : State) (c : Nat) (a : Nat) : (s.begin_ c).pageLock a = s.pageLock a := (rfl)
@[simp] theorem State.begin_colour (s : State) (c : Nat) (p : Nat) : (s.begin_ c).colour p = s.colour p := (rfl)
@[simp] theorem State.begin_use (s : State) (c : Nat) (p : Nat) : (s.begin_ c).use p = s.use p := (rfl)
@[simp] theorem State.begin_lcore (s : State) (c : Nat) (p : Nat) : (s.begin_ c).lcore p = s.lcore p := (rfl)
@[simp] theorem State.begin_spareRow (s : State) (c : Nat) (q r : Nat) : (s.begin_ c).spareRow q r = s.spareRow q r := (rfl)
@[simp] theorem State.begin_spareRows (s : State) (c : Nat) (q : Nat) : (s.begin_ c).spareRows q = s.spareRows q := (rfl)
@[simp] theorem State.begin_logicalPer (s : State) (c : Nat) : (s.begin_ c).logicalPer = s.logicalPer := (rfl)
@[simp] theorem State.begin_homeQuay (s : State) (c : Nat) (l : Nat) : (s.begin_ c).homeQuay l = s.homeQuay l := (rfl)
@[simp] theorem State.begin_tileEntry (s : State) (c : Nat) (p : Nat) : (s.begin_ c).tileEntry p = s.tileEntry p := (rfl)
@[simp] theorem State.begin_server (s : State) (c : Nat) (l : Nat) : (s.begin_ c).server l = s.server l := (rfl)
@[simp] theorem State.begin_nearest (s : State) (c : Nat) (x : Nat) (cands : List Nat) : (s.begin_ c).nearest x cands = s.nearest x cands := (rfl)
@[simp] theorem State.begin_inPool (s : State) (c : Nat) (p : Nat) : (s.begin_ c).inPool p = s.inPool p := (rfl)
@[simp] theorem State.begin_avail (s : State) (c : Nat) (q : Nat) : (s.begin_ c).avail q = s.avail q := (rfl)
@[simp] theorem State.begin_isFree (s : State) (c : Nat) (p : Nat) : (s.begin_ c).isFree p = s.isFree p := (rfl)
@[simp] theorem State.begin_freeSpares (s : State) (c : Nat) (q : Nat) : (s.begin_ c).freeSpares q = s.freeSpares q := (rfl)
@[simp] theorem State.begin_inPartition (s : State) (c : Nat) (p : Nat) : (s.begin_ c).inPartition p = s.inPartition p := (rfl)
@[simp] theorem State.begin_claimable (s : State) (c : Nat) (p : Nat) : (s.begin_ c).claimable p = s.claimable p := (rfl)
@[simp] theorem State.begin_quayOrder (s : State) (c : Nat) (q : Nat) : (s.begin_ c).quayOrder q = s.quayOrder q := (rfl)
@[simp] theorem State.begin_donly (s : State) (c : Nat) : (s.begin_ c).donly = s.donly := (rfl)
@[simp] theorem State.begin_pgErr (s : State) (c : Nat) (hdr : Nat) : (s.begin_ c).pgErr hdr = s.pgErr hdr := (rfl)
@[simp] theorem State.begin_pgMask (s : State) (c : Nat) (hdr : Nat) : (s.begin_ c).pgMask hdr = s.pgMask hdr := (rfl)
@[simp] theorem State.begin_pageColour (s : State) (c : Nat) (hdr : Nat) : (s.begin_ c).pageColour hdr = s.pageColour hdr := (rfl)
@[simp] theorem State.begin_hportUp (s : State) (c : Nat) : (s.begin_ c).hportUp = s.hportUp := (rfl)
@[simp] theorem State.begin_locked (s : State) (c : Nat) (a : Nat) : (s.begin_ c).locked a = s.locked a := (rfl)
@[simp] theorem State.begin_slotLoaded (s : State) (c : Nat) (v : Word) : (s.begin_ c).slotLoaded v = s.slotLoaded v := (rfl)
@[simp] theorem State.begin_unit (s : State) (c : Nat) (k : Nat) : (s.begin_ c).unit k = s.unit k := (rfl)
@[simp] theorem State.begin_cores (s : State) (c : Nat) : (s.begin_ c).cores = s.cores := (rfl)
@[simp] theorem State.begin_faultyBollards (s : State) (c : Nat) (q : Nat) : (s.begin_ c).faultyBollards q = s.faultyBollards q := (rfl)
@[simp] theorem State.begin_quayState (s : State) (c : Nat) (q : Nat) : (s.begin_ c).quayState q = s.quayState q := (rfl)
@[simp] theorem State.begin_canAdopt (s : State) (c : Nat) (q : Nat) : (s.begin_ c).canAdopt q = s.canAdopt q := (rfl)
@[simp] theorem State.begin_topCore (s : State) (c : Nat) : (s.begin_ c).topCore = s.topCore := (rfl)
@[simp] theorem State.begin_populated (s : State) (c : Nat) (d : Nat) : (s.begin_ c).populated d = s.populated d := (rfl)
@[simp] theorem State.begin_domain (s : State) (c : Nat) (d : Nat) : (s.begin_ c).domain d = s.domain d := (rfl)
@[simp] theorem State.begin_quaysTested (s : State) (c : Nat) : (s.begin_ c).quaysTested = s.quaysTested := (rfl)
@[simp] theorem State.begin_staged (s : State) (c : Nat) : (s.begin_ c).staged = s.staged := (rfl)
@[simp] theorem State.begin_imgHead (s : State) (c : Nat) (m : Staged) : (s.begin_ c).imgHead m = s.imgHead m := (rfl)
@[simp] theorem State.begin_byte (s : State) (c : Nat) (a : Nat) : (s.begin_ c).byte a = s.byte a := (rfl)
@[simp] theorem State.begin_readW (s : State) (c : Nat) (a : Nat) : (s.begin_ c).readW a = s.readW a := (rfl)
@[simp] theorem State.begin_readWords (s : State) (c : Nat) (a n : Nat) : (s.begin_ c).readWords a n = s.readWords a n := (rfl)
@[simp] theorem State.begin_banks (s : State) (c : Nat) (q : Nat) : (s.begin_ c).banks q = s.banks q := (rfl)
@[simp] theorem State.begin_storeBytes (s : State) (c : Nat) (q : Nat) : (s.begin_ c).storeBytes q = s.storeBytes q := (rfl)
@[simp] theorem State.begin_bankState (s : State) (c : Nat) (q b : Nat) : (s.begin_ c).bankState q b = s.bankState q b := (rfl)
@[simp] theorem State.begin_bankServes (s : State) (c : Nat) (q b : Nat) : (s.begin_ c).bankServes q b = s.bankServes q b := (rfl)
@[simp] theorem State.begin_tag (s : State) (c : Nat) (q row : Nat) : (s.begin_ c).tag q row = s.tag q row := (rfl)
@[simp] theorem State.begin_ringSlots (s : State) (c : Nat) (q n : Nat) : (s.begin_ c).ringSlots q n = s.ringSlots q n := (rfl)
@[simp] theorem State.begin_ringOcc (s : State) (c : Nat) (q n : Nat) : (s.begin_ c).ringOcc q n = s.ringOcc q n := (rfl)
@[simp] theorem State.begin_ringSlot (s : State) (c : Nat) (q n i : Nat) : (s.begin_ c).ringSlot q n i = s.ringSlot q n i := (rfl)
@[simp] theorem State.begin_ktab (s : State) (c : Nat) (q tag : Nat) : (s.begin_ c).ktab q tag = s.ktab q tag := (rfl)
@[simp] theorem State.begin_captBerths (s : State) (c : Nat) (q : Nat) : (s.begin_ c).captBerths q = s.captBerths q := (rfl)
@[simp] theorem State.begin_inKernel (s : State) (c : Nat) (q o : Nat) : (s.begin_ c).inKernel q o = s.inKernel q o := (rfl)
@[simp] theorem State.begin_owner (s : State) (c : Nat) (q o : Nat) : (s.begin_ c).owner q o = s.owner q o := (rfl)
@[simp] theorem State.begin_rowServed (s : State) (c : Nat) (q b r : Nat) : (s.begin_ c).rowServed q b r = s.rowServed q b r := (rfl)
@[simp] theorem State.begin_scrubbed (s : State) (c : Nat) (q b : Nat) : (s.begin_ c).scrubbed q b = s.scrubbed q b := (rfl)
@[simp] theorem State.begin_obj (s : State) (c : Nat) (q i : Nat) : (s.begin_ c).obj q i = s.obj q i := (rfl)
@[simp] theorem State.begin_reqTick (s : State) (c : Nat) (tick8 : Nat) : (s.begin_ c).reqTick tick8 = s.reqTick tick8 := (rfl)
@[simp] theorem State.begin_frozenAt (s : State) (c : Nat) (q : Nat) : (s.begin_ c).frozenAt q = s.frozenAt q := (rfl)
@[simp] theorem State.begin_linkedTo (s : State) (c : Nat) (q i : Nat) : (s.begin_ c).linkedTo q i = s.linkedTo q i := (rfl)
@[simp] theorem State.begin_slot (s : State) (c : Nat) (p k : Nat) : (s.begin_ c).slot p k = s.slot p k := (rfl)
@[simp] theorem State.begin_group (s : State) (c : Nat) (k : Nat) : (s.begin_ c).group k = s.group k := (rfl)
@[simp] theorem State.begin_memberOf (s : State) (c : Nat) (p : Nat) (g : Group) : (s.begin_ c).memberOf p g = s.memberOf p g := (rfl)
@[simp] theorem State.begin_membersOf (s : State) (c : Nat) (k : Nat) : (s.begin_ c).membersOf k = s.membersOf k := (rfl)
@[simp] theorem State.begin_noRound (s : State) (c : Nat) (k : Nat) : (s.begin_ c).noRound k = s.noRound k := (rfl)
@[simp] theorem State.begin_xen (s : State) (c : Nat) (line : Nat) : (s.begin_ c).xen line = s.xen line := (rfl)
@[simp] theorem State.begin_ringMaster (s : State) (c : Nat) : (s.begin_ c).ringMaster = s.ringMaster := (rfl)
@[simp] theorem State.begin_ext (s : State) (c : Nat) (line : Nat) : (s.begin_ c).ext line = s.ext line := (rfl)
@[simp] theorem State.begin_lineSense (s : State) (c : Nat) (line : Nat) : (s.begin_ c).lineSense line = s.lineSense line := (rfl)
@[simp] theorem State.begin_epochOf (s : State) (c : Nat) (t : Nat) : (s.begin_ c).epochOf t = s.epochOf t := (rfl)
@[simp] theorem State.begin_canLine (s : State) (c : Nat) (k slot mask : Nat) : (s.begin_ c).canLine k slot mask = s.canLine k slot mask := (rfl)
@[simp] theorem State.begin_freeObj (s : State) (c : Nat) (q : Nat) : (s.begin_ c).freeObj q = s.freeObj q := (rfl)
@[simp] theorem State.begin_freeEntry (s : State) (c : Nat) : (s.begin_ c).freeEntry = s.freeEntry := (rfl)
@[simp] theorem State.begin_countMembers (s : State) (c : Nat) (g : Group) : (s.begin_ c).countMembers g = s.countMembers g := (rfl)
@[simp] theorem State.begin_tender (s : State) (c : Nat) (q t : Nat) : (s.begin_ c).tender q t = s.tender q t := (rfl)
@[simp] theorem State.begin_plan (s : State) (c : Nat) (purpose : Nat) : (s.begin_ c).plan purpose = s.plan purpose := (rfl)
@[simp] theorem State.begin_slotKind (s : State) (c : Nat) (t : TSlot) : (s.begin_ c).slotKind t = s.slotKind t := (rfl)
@[simp] theorem State.begin_slotNth (s : State) (c : Nat) (t : TSlot) : (s.begin_ c).slotNth t = s.slotNth t := (rfl)
@[simp] theorem State.begin_tslot (s : State) (c : Nat) (q k : Nat) : (s.begin_ c).tslot q k = s.tslot q k := (rfl)
@[simp] theorem State.begin_qslots (s : State) (c : Nat) (q : Nat) : (s.begin_ c).qslots q = s.qslots q := (rfl)
@[simp] theorem State.begin_allSlots (s : State) (c : Nat) : (s.begin_ c).allSlots = s.allSlots := (rfl)
@[simp] theorem State.begin_slotOf (s : State) (c : Nat) (p : Nat) : (s.begin_ c).slotOf p = s.slotOf p := (rfl)
@[simp] theorem State.begin_resWords (s : State) (c : Nat) (r : TestRes) : (s.begin_ c).resWords r = s.resWords r := (rfl)
@[simp] theorem State.begin_slotSeq (s : State) (c : Nat) (q : Nat) (t : TSlot) : (s.begin_ c).slotSeq q t = s.slotSeq q t := (rfl)
@[simp] theorem State.begin_inWave (s : State) (c : Nat) (q : Nat) : (s.begin_ c).inWave q = s.inWave q := (rfl)
@[simp] theorem State.begin_wholeRes (s : State) (c : Nat) (t : TSlot) (verdict : Nat) : (s.begin_ c).wholeRes t verdict = s.wholeRes t verdict := (rfl)
@[simp] theorem State.begin_stopReason (s : State) (c : Nat) (q k : Nat) (t : TSlot) : (s.begin_ c).stopReason q k t = s.stopReason q k t := (rfl)
@[simp] theorem State.begin_lastTest (s : State) (c : Nat) (p : Nat) : (s.begin_ c).lastTest p = s.lastTest p := (rfl)
@[simp] theorem State.begin_testable (s : State) (c : Nat) (p : Nat) : (s.begin_ c).testable p = s.testable p := (rfl)
@[simp] theorem State.begin_mayRotate (s : State) (c : Nat) (q : Nat) : (s.begin_ c).mayRotate q = s.mayRotate q := (rfl)
@[simp] theorem State.begin_diagPartner (s : State) (c : Nat) (p : Nat) : (s.begin_ c).diagPartner p = s.diagPartner p := (rfl)
@[simp] theorem State.begin_chan (s : State) (c : Nat) (ch : Nat) : (s.begin_ c).chan ch = s.chan ch := (rfl)
@[simp] theorem State.begin_chScope (s : State) (c : Nat) (ch : Nat) : (s.begin_ c).chScope ch = s.chScope ch := (rfl)
@[simp] theorem State.begin_chLevels (s : State) (c : Nat) (ch : Nat) : (s.begin_ c).chLevels ch = s.chLevels ch := (rfl)
@[simp] theorem State.begin_converted (s : State) (c : Nat) (ch : Nat) : (s.begin_ c).converted ch = s.converted ch := (rfl)
@[simp] theorem State.begin_inScope (s : State) (c : Nat) (ch : Nat) : (s.begin_ c).inScope ch = s.inScope ch := (rfl)
@[simp] theorem State.begin_scopeCode (s : State) (c : Nat) (ch : Nat) : (s.begin_ c).scopeCode ch = s.scopeCode ch := (rfl)
@[simp] theorem State.begin_temp (s : State) (c : Nat) (ch : Nat) : (s.begin_ c).temp ch = s.temp ch := (rfl)
@[simp] theorem State.begin_ruleChans (s : State) (c : Nat) : (s.begin_ c).ruleChans = s.ruleChans := (rfl)
@[simp] theorem State.begin_commandedMv (s : State) (c : Nat) (q : Nat) : (s.begin_ c).commandedMv q = s.commandedMv q := (rfl)
@[simp] theorem State.begin_nextJt (s : State) (c : Nat) (t : Nat) : (s.begin_ c).nextJt t = s.nextJt t := (rfl)
@[simp] theorem State.begin_phase (s : State) (c : Nat) : (s.begin_ c).phase = s.phase := (rfl)
@[simp] theorem State.begin_drift (s : State) (c : Nat) : (s.begin_ c).drift = s.drift := (rfl)
@[simp] theorem State.begin_owed (s : State) (c : Nat) : (s.begin_ c).owed = s.owed := (rfl)
@[simp] theorem State.begin_slewCap (s : State) (c : Nat) : (s.begin_ c).slewCap = s.slewCap := (rfl)
@[simp] theorem State.begin_stampOf (s : State) (k : Nat) (c : Nat) : (s.begin_ k).stampOf c = s.stampOf c := (rfl)
@[simp] theorem State.begin_phasePos (s : State) (k : Nat) (c : Nat) : (s.begin_ k).phasePos c = s.phasePos c := (rfl)
@[simp] theorem State.begin_phaseOf (s : State) (c : Nat) (m : Moment) : (s.begin_ c).phaseOf m = s.phaseOf m := (rfl)
@[simp] theorem State.begin_running (s : State) (c : Nat) : (s.begin_ c).running = s.running := (rfl)
@[simp] theorem State.begin_mayRejoin (s : State) (c : Nat) (core : Nat) : (s.begin_ c).mayRejoin core = s.mayRejoin core := (rfl)
@[simp] theorem State.begin_chainCut (s : State) (c : Nat) (p : Nat) : (s.begin_ c).chainCut p = s.chainCut p := (rfl)
@[simp] theorem State.begin_offChain (s : State) (c : Nat) (p : Nat) : (s.begin_ c).offChain p = s.offChain p := (rfl)
@[simp] theorem State.begin_clrWaits (s : State) (c : Nat) (p : Nat) : (s.begin_ c).clrWaits p = s.clrWaits p := (rfl)
@[simp] theorem State.begin_clrBusy (s : State) (c : Nat) (p : Nat) (engine : Bool) : (s.begin_ c).clrBusy p engine = s.clrBusy p engine := (rfl)
@[simp] theorem State.begin_sideband (s : State) (c : Nat) (a : Nat) : (s.begin_ c).sideband a = s.sideband a := (rfl)
@[simp] theorem State.begin_lagging (s : State) (c : Nat) (q : Nat) : (s.begin_ c).lagging q = s.lagging q := (rfl)
@[simp] theorem State.begin_mustMove (s : State) (c : Nat) (m : Move) : (s.begin_ c).mustMove m = s.mustMove m := (rfl)
@[simp] theorem State.begin_moving (s : State) (c : Nat) (p : Nat) : (s.begin_ c).moving p = s.moving p := (rfl)
@[simp] theorem State.begin_underTest (s : State) (c : Nat) (p : Nat) : (s.begin_ c).underTest p = s.underTest p := (rfl)
@[simp] theorem State.begin_divOf (s : State) (c : Nat) (p : Nat) : (s.begin_ c).divOf p = s.divOf p := (rfl)
@[simp] theorem State.begin_leaveColour (s : State) (c : Nat) (p code : Nat) : (s.begin_ c).leaveColour p code = s.leaveColour p code := (rfl)
@[simp] theorem State.begin_scanSeed (s : State) (c : Nat) (q h kind j n : Nat) : (s.begin_ c).scanSeed q h kind j n = s.scanSeed q h kind j n := (rfl)
@[simp] theorem State.begin_stepDone (s : State) (c : Nat) (n : Nat) : (s.begin_ c).stepDone n = s.stepDone n := (rfl)
@[simp] theorem State.begin_slotAt (s : State) (c : Nat) (n : Nat) : (s.begin_ c).slotAt n = s.slotAt n := (rfl)
@[simp] theorem State.begin_drillFits (s : State) (c : Nat) : (s.begin_ c).drillFits = s.drillFits := (rfl)
@[simp] theorem State.begin_blockBytes (s : State) (c : Nat) (first len : Nat) : (s.begin_ c).blockBytes first len = s.blockBytes first len := (rfl)
@[simp] theorem State.begin_trailer (s : State) (c : Nat) (w : BlockWr) : (s.begin_ c).trailer w = s.trailer w := (rfl)
@[simp] theorem State.begin_migratesTo (s : State) (c : Nat) (p : Nat) : (s.begin_ c).migratesTo p = s.migratesTo p := (rfl)
@[simp] theorem State.begin_rateNow (s : State) (c : Nat) (p : Nat) : (s.begin_ c).rateNow p = s.rateNow p := (rfl)
@[simp] theorem State.begin_kernelBad (s : State) (c : Nat) (q tag : Nat) : (s.begin_ c).kernelBad q tag = s.kernelBad q tag := (rfl)
@[simp] theorem State.begin_patchFor (s : State) (c : Nat) (p : Nat) (st : StepSt) : (s.begin_ c).patchFor p st = s.patchFor p st := (rfl)
@[simp] theorem State.begin_patchHeld (s : State) (c : Nat) (l : Nat) : (s.begin_ c).patchHeld l = s.patchHeld l := (rfl)
@[simp] theorem State.begin_makeupSpare (s : State) (c : Nat) (p : Nat) : (s.begin_ c).makeupSpare p = s.makeupSpare p := (rfl)
@[simp] theorem State.begin_runner (s : State) (c : Nat) (p : Nat) : (s.begin_ c).runner p = s.runner p := (rfl)
@[simp] theorem State.begin_movesTo (s : State) (c : Nat) (p : Nat) : (s.begin_ c).movesTo p = s.movesTo p := (rfl)
@[simp] theorem State.begin_cutBeyond (s : State) (c : Nat) (p : Nat) : (s.begin_ c).cutBeyond p = s.cutBeyond p := (rfl)
@[simp] theorem State.begin_keepsInputs (s : State) (c : Nat) (p : Nat) : (s.begin_ c).keepsInputs p = s.keepsInputs p := (rfl)
@[simp] theorem State.begin_spoilt (s : State) (c : Nat) (p : Nat) : (s.begin_ c).spoilt p = s.spoilt p := (rfl)
@[simp] theorem State.begin_inLantern (s : State) (c : Nat) : (s.begin_ c).inLantern = s.inLantern := (rfl)
@[simp] theorem State.begin_domainSlate (s : State) (c : Nat) (d : Nat) : (s.begin_ c).domainSlate d = s.domainSlate d := (rfl)
@[simp] theorem State.begin_diagOf (s : State) (c : Nat) (p : Nat) : (s.begin_ c).diagOf p = s.diagOf p := (rfl)
@[simp] theorem State.begin_scanPlace (s : State) (c : Nat) (p : Nat) : (s.begin_ c).scanPlace p = s.scanPlace p := (rfl)
@[simp] theorem State.begin_scanPats (s : State) (c : Nat) (p : Nat) : (s.begin_ c).scanPats p = s.scanPats p := (rfl)
@[simp] theorem State.begin_flitKill (s : State) (c : Nat) (p : Nat) : (s.begin_ c).flitKill p = s.flitKill p := (rfl)
@[simp] theorem State.begin_roundDue (s : State) (c : Nat) : (s.begin_ c).roundDue = s.roundDue := (rfl)
@[simp] theorem State.begin_secondStarts (s : State) (c : Nat) : (s.begin_ c).secondStarts = s.secondStarts := (rfl)

end Sys2Proof.Machine
end

