-- ==== Sys2Proof/Laws/Step.lean ====
section
/-!
SUPPORT. Laws of the dispatch: every command is a run of some effect at some core cycle, but the two that move PORST_N.
-/

namespace Sys2Proof.Machine

theorem execTickStrobe_run (bad : List Nat) (flits : List (Nat × Nat)) (s : State) : ∃ n' f', execTickStrobe bad flits s = run s n' f' := by unfold execTickStrobe; exact ⟨_, _, rfl⟩
theorem execPpsEdge_run (cyc : Nat) (falling : Bool) (s : State) : ∃ n' f', execPpsEdge cyc falling s = run s n' f' := by unfold execPpsEdge; exact ⟨_, _, rfl⟩
theorem execAlign_run (cyc : Nat) (s : State) : ∃ n' f', execAlign cyc s = run s n' f' := by unfold execAlign; exact ⟨_, _, rfl⟩
theorem execTimeHoldover_run (cyc : Nat) (s : State) : ∃ n' f', execTimeHoldover cyc s = run s n' f' := by unfold execTimeHoldover; exact ⟨_, _, rfl⟩
theorem execHoldoverSecond_run (s : State) : ∃ n' f', execHoldoverSecond s = run s n' f' := by unfold execHoldoverSecond; exact ⟨_, _, rfl⟩
theorem execSlewDecision_run (s : State) : ∃ n' f', execSlewDecision s = run s n' f' := by unfold execSlewDecision; exact ⟨_, _, rfl⟩
theorem execSidebandDesc_run (cyc p : Nat) (d : BitVec 64) (s : State) : ∃ n' f', execSidebandDesc cyc p d s = run s n' f' := by unfold execSidebandDesc; exact ⟨_, _, rfl⟩
theorem execSidebandAddr_run (cyc p : Nat) (w : BitVec 64) (heldA heldB : Nat) (s : State) : ∃ n' f', execSidebandAddr cyc p w heldA heldB s = run s n' f' := by unfold execSidebandAddr; exact ⟨_, _, rfl⟩
theorem execSidebandStep_run (cyc p n : Nat) (s : State) : ∃ n' f', execSidebandStep cyc p n s = run s n' f' := by unfold execSidebandStep; exact ⟨_, _, rfl⟩
theorem execSidebandSleep_run (cyc p mask : Nat) (s : State) : ∃ n' f', execSidebandSleep cyc p mask s = run s n' f' := by unfold execSidebandSleep; exact ⟨_, _, rfl⟩
theorem execOperandTapBeat_run (cyc p : Nat) (isB scale : Bool) (data : BitVec 256) (lanes l idx : Nat) (lend : Bool) (s : State) : ∃ n' f', execOperandTapBeat cyc p isB scale data lanes l idx lend s = run s n' f' := by unfold execOperandTapBeat; exact ⟨_, _, rfl⟩
theorem execWritebackBeat_run (cyc p : Nat) (data : BitVec 256) (lanes i j : Nat) (s : State) : ∃ n' f', execWritebackBeat cyc p data lanes i j s = run s n' f' := by unfold execWritebackBeat; exact ⟨_, _, rfl⟩
theorem execCoreError_run (cyc p bits : Nat) (s : State) : ∃ n' f', execCoreError cyc p bits s = run s n' f' := by unfold execCoreError; exact ⟨_, _, rfl⟩
theorem execLmCeInfo_run (cyc p : Nat) (s : State) : ∃ n' f', execLmCeInfo cyc p s = run s n' f' := by unfold execLmCeInfo; exact ⟨_, _, rfl⟩
theorem execLinkDown_run (cyc p links inflight : Nat) (s : State) : ∃ n' f', execLinkDown cyc p links inflight s = run s n' f' := by unfold execLinkDown; exact ⟨_, _, rfl⟩
theorem execRouterFault_run (cyc p : Nat) (s : State) : ∃ n' f', execRouterFault cyc p s = run s n' f' := by unfold execRouterFault; exact ⟨_, _, rfl⟩
theorem execCdomLoss_run (cyc p : Nat) (s : State) : ∃ n' f', execCdomLoss cyc p s = run s n' f' := by unfold execCdomLoss; exact ⟨_, _, rfl⟩
theorem execCdomPowerGood_run (cyc p : Nat) (s : State) : ∃ n' f', execCdomPowerGood cyc p s = run s n' f' := by unfold execCdomPowerGood; exact ⟨_, _, rfl⟩
theorem execCdomPowerTimeout_run (cyc p : Nat) (s : State) : ∃ n' f', execCdomPowerTimeout cyc p s = run s n' f' := by unfold execCdomPowerTimeout; exact ⟨_, _, rfl⟩
theorem execClearanceRequest_run (cyc : Nat) (l : List (Nat × Bool × Nat)) (s : State) : ∃ n' f', execClearanceRequest cyc l s = run s n' f' := by unfold execClearanceRequest; exact ⟨_, _, rfl⟩
theorem execClearanceRelease_run (cyc p : Nat) (engine : Bool) (s : State) : ∃ n' f', execClearanceRelease cyc p engine s = run s n' f' := by unfold execClearanceRelease; exact ⟨_, _, rfl⟩
theorem execClearanceOverhold_run (cyc p : Nat) (s : State) : ∃ n' f', execClearanceOverhold cyc p s = run s n' f' := by unfold execClearanceOverhold; exact ⟨_, _, rfl⟩
theorem execSubtickRedistribute_run (q k : Nat) (s : State) : ∃ n' f', execSubtickRedistribute q k s = run s n' f' := by unfold execSubtickRedistribute; exact ⟨_, _, rfl⟩
theorem execHawserArrive_run (cyc p slot : Nat) (s : State) : ∃ n' f', execHawserArrive cyc p slot s = run s n' f' := by unfold execHawserArrive; exact ⟨_, _, rfl⟩
theorem execHawserRelease_run (cyc p slot : Nat) (s : State) : ∃ n' f', execHawserRelease cyc p slot s = run s n' f' := by unfold execHawserRelease; exact ⟨_, _, rfl⟩
theorem execHawserRoundComplete_run (cyc line entry : Nat) (s : State) : ∃ n' f', execHawserRoundComplete cyc line entry s = run s n' f' := by unfold execHawserRoundComplete; exact ⟨_, _, rfl⟩
theorem execIngressSink_run (cyc p : Nat) (source : Option Nat) (tag : Nat) (s : State) : ∃ n' f', execIngressSink cyc p source tag s = run s n' f' := by unfold execIngressSink; exact ⟨_, _, rfl⟩
theorem execWakeChannel_run (cyc q ch : Nat) (s : State) : ∃ n' f', execWakeChannel cyc q ch s = run s n' f' := by unfold execWakeChannel; exact ⟨_, _, rfl⟩
theorem execBollardWatchdog_run (cyc p : Nat) (s : State) : ∃ n' f', execBollardWatchdog cyc p s = run s n' f' := by unfold execBollardWatchdog; exact ⟨_, _, rfl⟩
theorem execSideportAck_run (cyc p : Nat) (claims : List Nat) (word : Nat) (data : BitVec 64) (err : Nat) (held : Bool) (s : State) : ∃ n' f', execSideportAck cyc p claims word data err held s = run s n' f' := by unfold execSideportAck; exact ⟨_, _, rfl⟩
theorem execSideportTimeout_run (cyc p : Nat) (claims : List Nat) (word : Nat) (held : Bool) (s : State) : ∃ n' f', execSideportTimeout cyc p claims word held s = run s n' f' := by unfold execSideportTimeout; exact ⟨_, _, rfl⟩
theorem execZeroiseDone_run (cyc p : Nat) (s : State) : ∃ n' f', execZeroiseDone cyc p s = run s n' f' := by unfold execZeroiseDone; exact ⟨_, _, rfl⟩
theorem execZeroiseFail_run (cyc p : Nat) (s : State) : ∃ n' f', execZeroiseFail cyc p s = run s n' f' := by unfold execZeroiseFail; exact ⟨_, _, rfl⟩
theorem execMbistDone_run (cyc p : Nat) (pass : Bool) (rows : List Nat) (word bitNo : Nat) (s : State) : ∃ n' f', execMbistDone cyc p pass rows word bitNo s = run s n' f' := by unfold execMbistDone; exact ⟨_, _, rfl⟩
theorem execScanIntervalEnd_run (cyc p : Nat) (misr : BitVec 64) (s : State) : ∃ n' f', execScanIntervalEnd cyc p misr s = run s n' f' := by unfold execScanIntervalEnd; exact ⟨_, _, rfl⟩
theorem execBollardReportLaunch_run (cyc p : Nat) (closed : Bool) (s : State) : ∃ n' f', execBollardReportLaunch cyc p closed s = run s n' f' := by unfold execBollardReportLaunch; exact ⟨_, _, rfl⟩
theorem execReportFrame_run (cyc p : Nat) (s : State) : ∃ n' f', execReportFrame cyc p s = run s n' f' := by unfold execReportFrame; exact ⟨_, _, rfl⟩
theorem execTallyTimeout_run (q : Nat) (s : State) : ∃ n' f', execTallyTimeout q s = run s n' f' := by unfold execTallyTimeout; exact ⟨_, _, rfl⟩
theorem execChainWatchdog_run (cyc q l : Nat) (answered : Bool) (s : State) : ∃ n' f', execChainWatchdog cyc q l answered s = run s n' f' := by unfold execChainWatchdog runDown; exact ⟨_, _, rfl⟩
theorem execQuayDeadline_run (q : Nat) (s : State) : ∃ n' f', execQuayDeadline q s = run s n' f' := by unfold execQuayDeadline; exact ⟨_, _, rfl⟩
theorem execRootDecide_run (s : State) : ∃ n' f', execRootDecide s = run s n' f' := by unfold execRootDecide; exact ⟨_, _, rfl⟩
theorem execCommitBroadcast_run (cyc q : Nat) (slow : List Nat) (s : State) : ∃ n' f', execCommitBroadcast cyc q slow s = run s n' f' := by unfold execCommitBroadcast; exact ⟨_, _, rfl⟩
theorem execCommitApply_run (s : State) : ∃ n' f', execCommitApply s = run s n' f' := by unfold execCommitApply; exact ⟨_, _, rfl⟩
theorem execRecallRoot_run (cyc arrive : Nat) (s : State) : ∃ n' f', execRecallRoot cyc arrive s = run s n' f' := by unfold execRecallRoot; exact ⟨_, _, rfl⟩
theorem execRecallReceipt_run (cyc q : Nat) (slow : List Nat) (s : State) : ∃ n' f', execRecallReceipt cyc q slow s = run s n' f' := by unfold execRecallReceipt; exact ⟨_, _, rfl⟩
theorem execDrainEnd_run (cyc : Nat) (s : State) : ∃ n' f', execDrainEnd cyc s = run s n' f' := by unfold execDrainEnd; exact ⟨_, _, rfl⟩
theorem execMigrationDone_run (cyc l : Nat) (s : State) : ∃ n' f', execMigrationDone cyc l s = run s n' f' := by unfold execMigrationDone; exact ⟨_, _, rfl⟩
theorem execRerouteDone_run (cyc : Nat) (s : State) : ∃ n' f', execRerouteDone cyc s = run s n' f' := by unfold execRerouteDone; exact ⟨_, _, rfl⟩
theorem execMailboxWrite_run (s : State) : ∃ n' f', execMailboxWrite s = run s n' f' := by unfold execMailboxWrite; exact ⟨_, _, rfl⟩
theorem execMailboxLate_run (p : Nat) (s : State) : ∃ n' f', execMailboxLate p s = run s n' f' := by unfold execMailboxLate; exact ⟨_, _, rfl⟩
theorem execRestart_run (s : State) : ∃ n' f', execRestart s = run s n' f' := by unfold execRestart; exact ⟨_, _, rfl⟩
theorem execHostRecall_run (cyc : Nat) (s : State) : ∃ n' f', execHostRecall cyc s = run s n' f' := by unfold execHostRecall; exact ⟨_, _, rfl⟩
theorem execHalt_run (cyc : Nat) (s : State) : ∃ n' f', execHalt cyc s = run s n' f' := by unfold execHalt; exact ⟨_, _, rfl⟩
theorem execResume_run (cyc : Nat) (s : State) : ∃ n' f', execResume cyc s = run s n' f' := by unfold execResume; exact ⟨_, _, rfl⟩
theorem execAbandon_run (cyc : Nat) (s : State) : ∃ n' f', execAbandon cyc s = run s n' f' := by unfold execAbandon; exact ⟨_, _, rfl⟩
theorem execAlarmMessage_run (cyc p : Nat) (s : State) : ∃ n' f', execAlarmMessage cyc p s = run s n' f' := by unfold execAlarmMessage; exact ⟨_, _, rfl⟩
theorem execCsumFlood_run (q : Nat) (s : State) : ∃ n' f', execCsumFlood q s = run s n' f' := by unfold execCsumFlood; exact ⟨_, _, rfl⟩
theorem execRateUpdate_run (q : Nat) (s : State) : ∃ n' f', execRateUpdate q s = run s n' f' := by unfold execRateUpdate; exact ⟨_, _, rfl⟩
theorem execSampleRequest_run (cyc : Nat) (ps : List Nat) (s : State) : ∃ n' f', execSampleRequest cyc ps s = run s n' f' := by unfold execSampleRequest; exact ⟨_, _, rfl⟩
theorem execBerthFull_run (cyc p : Nat) (s : State) : ∃ n' f', execBerthFull cyc p s = run s n' f' := by unfold execBerthFull; exact ⟨_, _, rfl⟩
theorem execFarPlacementAnswer_run (cyc q b : Nat) (s : State) : ∃ n' f', execFarPlacementAnswer cyc q b s = run s n' f' := by unfold execFarPlacementAnswer; exact ⟨_, _, rfl⟩
theorem execFarPlacementTimeout_run (cyc q b : Nat) (s : State) : ∃ n' f', execFarPlacementTimeout cyc q b s = run s n' f' := by unfold execFarPlacementTimeout; exact ⟨_, _, rfl⟩
theorem execTenderTransferStart_run (cyc q t : Nat) (s : State) : ∃ n' f', execTenderTransferStart cyc q t s = run s n' f' := by unfold execTenderTransferStart; exact ⟨_, _, rfl⟩
theorem execTenderTransferDone_run (cyc q t ue ueOff : Nat) (ces : List (Nat × Nat)) (data : List (BitVec 64)) (refusal : Nat) (s : State) : ∃ n' f', execTenderTransferDone cyc q t ue ueOff ces data refusal s = run s n' f' := by unfold execTenderTransferDone; exact ⟨_, _, rfl⟩
theorem execOutputSignature_run (cyc p : Nat) (out : List (BitVec 8)) (s : State) : ∃ n' f', execOutputSignature cyc p out s = run s n' f' := by unfold execOutputSignature; exact ⟨_, _, rfl⟩
theorem execShadowSignatures_run (cyc p : Nat) (out : List (BitVec 8)) (s : State) : ∃ n' f', execShadowSignatures cyc p out s = run s n' f' := by unfold execShadowSignatures; exact ⟨_, _, rfl⟩
theorem execShadowLate_run (q b : Nat) (s : State) : ∃ n' f', execShadowLate q b s = run s n' f' := by unfold execShadowLate; exact ⟨_, _, rfl⟩
theorem execShadowHung_run (q b : Nat) (s : State) : ∃ n' f', execShadowHung q b s = run s n' f' := by unfold execShadowHung; exact ⟨_, _, rfl⟩
theorem execShadowStopConfirm_run (cyc q b : Nat) (s : State) : ∃ n' f', execShadowStopConfirm cyc q b s = run s n' f' := by unfold execShadowStopConfirm; exact ⟨_, _, rfl⟩
theorem execCapturePassDone_run (cyc q c : Nat) (beats : List (BitVec 64 × BitVec 256)) (sig out : BitVec 64) (s : State) : ∃ n' f', execCapturePassDone cyc q c beats sig out s = run s n' f' := by unfold execCapturePassDone; exact ⟨_, _, rfl⟩
theorem execWitnessTimeout_run (cyc q c : Nat) (s : State) : ∃ n' f', execWitnessTimeout cyc q c s = run s n' f' := by unfold execWitnessTimeout; exact ⟨_, _, rfl⟩
theorem execAuditResult_run (cyc p : Nat) (skip : BitVec 256) (rows : List (List Nat)) (s : State) : ∃ n' f', execAuditResult cyc p skip rows s = run s n' f' := by unfold execAuditResult; exact ⟨_, _, rfl⟩
theorem execAuditLate_run (p : Nat) (s : State) : ∃ n' f', execAuditLate p s = run s n' f' := by unfold execAuditLate; exact ⟨_, _, rfl⟩
theorem execPatchReady_run (cyc q i : Nat) (data : List (BitVec 64)) (s : State) : ∃ n' f', execPatchReady cyc q i data s = run s n' f' := by unfold execPatchReady; exact ⟨_, _, rfl⟩
theorem execPatchApplied_run (cyc q i : Nat) (s : State) : ∃ n' f', execPatchApplied cyc q i s = run s n' f' := by unfold execPatchApplied; exact ⟨_, _, rfl⟩
theorem execDisputeMessage_run (cyc n : Nat) (s : State) : ∃ n' f', execDisputeMessage cyc n s = run s n' f' := by unfold execDisputeMessage; exact ⟨_, _, rfl⟩
theorem execDisputeResend_run (qs : List Nat) (s : State) : ∃ n' f', execDisputeResend qs s = run s n' f' := by unfold execDisputeResend; exact ⟨_, _, rfl⟩
theorem execCustomsDispatch_run (cyc : Nat) (s : State) : ∃ n' f', execCustomsDispatch cyc s = run s n' f' := by unfold execCustomsDispatch; exact ⟨_, _, rfl⟩
theorem execCustomsFetchDone_run (cyc u : Nat) (ue : Option Nat) (ces : List (Nat × Nat)) (s : State) : ∃ n' f', execCustomsFetchDone cyc u ue ces s = run s n' f' := by unfold execCustomsFetchDone; exact ⟨_, _, rfl⟩
theorem execCustomsEvalEnd_run (cyc u : Nat) (upsets : List (Nat × Nat)) (s : State) : ∃ n' f', execCustomsEvalEnd cyc u upsets s = run s n' f' := by unfold execCustomsEvalEnd; exact ⟨_, _, rfl⟩
theorem execRefereeResult_run (cyc slot : Nat) (tap out : BitVec 64) (s : State) : ∃ n' f', execRefereeResult cyc slot tap out s = run s n' f' := by unfold execRefereeResult; exact ⟨_, _, rfl⟩
theorem execRefereeTimeout_run (cyc slot : Nat) (s : State) : ∃ n' f', execRefereeTimeout cyc slot s = run s n' f' := by unfold execRefereeTimeout; exact ⟨_, _, rfl⟩
theorem execHousekeepingRound_run (badKey : Option Nat) (s : State) : ∃ n' f', execHousekeepingRound badKey s = run s n' f' := by unfold execHousekeepingRound runDown; exact ⟨_, _, rfl⟩
theorem execThrottleEvaluation_run (s : State) : ∃ n' f', execThrottleEvaluation s = run s n' f' := by unfold execThrottleEvaluation; exact ⟨_, _, rfl⟩
theorem execConversionDone_run (cyc ch : Nat) (val : Int) (fault : Nat) (s : State) : ∃ n' f', execConversionDone cyc ch val fault s = run s n' f' := by unfold execConversionDone; exact ⟨_, _, rfl⟩
theorem execBusSample_run (cyc c0 c1 : Nat) (s : State) : ∃ n' f', execBusSample cyc c0 c1 s = run s n' f' := by unfold execBusSample; exact ⟨_, _, rfl⟩
theorem execPfailFall_run (cyc : Nat) (s : State) : ∃ n' f', execPfailFall cyc s = run s n' f' := by unfold execPfailFall; exact ⟨_, _, rfl⟩
theorem execPfailRise_run (cyc : Nat) (s : State) : ∃ n' f', execPfailRise cyc s = run s n' f' := by unfold execPfailRise; exact ⟨_, _, rfl⟩
theorem execPmbusAlert_run (cyc q : Nat) (s : State) : ∃ n' f', execPmbusAlert cyc q s = run s n' f' := by unfold execPmbusAlert; exact ⟨_, _, rfl⟩
theorem execHealthOpAmber_run (cyc p : Nat) (s : State) : ∃ n' f', execHealthOpAmber cyc p s = run s n' f' := by unfold execHealthOpAmber; exact ⟨_, _, rfl⟩
theorem execHealthOpVermilion_run (cyc p : Nat) (s : State) : ∃ n' f', execHealthOpVermilion cyc p s = run s n' f' := by unfold execHealthOpVermilion; exact ⟨_, _, rfl⟩
theorem execHealthOpSlate_run (cyc p : Nat) (s : State) : ∃ n' f', execHealthOpSlate cyc p s = run s n' f' := by unfold execHealthOpSlate; exact ⟨_, _, rfl⟩
theorem execMoveCopyDone_run (cyc x : Nat) (s : State) : ∃ n' f', execMoveCopyDone cyc x s = run s n' f' := by unfold execMoveCopyDone; exact ⟨_, _, rfl⟩
theorem execMoveSwitch_run (x : Nat) (s : State) : ∃ n' f', execMoveSwitch x s = run s n' f' := by unfold execMoveSwitch; exact ⟨_, _, rfl⟩
theorem execParkTimeout_run (cyc x : Nat) (s : State) : ∃ n' f', execParkTimeout cyc x s = run s n' f' := by unfold execParkTimeout; exact ⟨_, _, rfl⟩
theorem execTestSlotFill_run (q : Nat) (s : State) : ∃ n' f', execTestSlotFill q s = run s n' f' := by unfold execTestSlotFill; exact ⟨_, _, rfl⟩
theorem execTestSliceStart_run (q k : Nat) (s : State) : ∃ n' f', execTestSliceStart q k s = run s n' f' := by unfold execTestSliceStart; exact ⟨_, _, rfl⟩
theorem execTestSliceEnd_run (cyc q k : Nat) (results : List (BitVec 64)) (s : State) : ∃ n' f', execTestSliceEnd cyc q k results s = run s n' f' := by unfold execTestSliceEnd; exact ⟨_, _, rfl⟩
theorem execSliceTimeout_run (cyc q k : Nat) (waits : Bool) (results : List (BitVec 64)) (s : State) : ∃ n' f', execSliceTimeout cyc q k waits results s = run s n' f' := by unfold execSliceTimeout; exact ⟨_, _, rfl⟩
theorem execTestClearanceTimeout_run (cyc q k : Nat) (s : State) : ∃ n' f', execTestClearanceTimeout cyc q k s = run s n' f' := by unfold execTestClearanceTimeout; exact ⟨_, _, rfl⟩
theorem execDiagnosisDone_run (cyc q k pattern chain cell : Nat) (found : Bool) (s : State) : ∃ n' f', execDiagnosisDone cyc q k pattern chain cell found s = run s n' f' := by unfold execDiagnosisDone; exact ⟨_, _, rfl⟩
theorem execTestNext_run (cyc p : Nat) (s : State) : ∃ n' f', execTestNext cyc p s = run s n' f' := by unfold execTestNext; exact ⟨_, _, rfl⟩
theorem execTestAbort_run (cyc p : Nat) (s : State) : ∃ n' f', execTestAbort cyc p s = run s n' f' := by unfold execTestAbort; exact ⟨_, _, rfl⟩
theorem execXspiProgram_run (cyc : Nat) (s : State) : ∃ n' f', execXspiProgram cyc s = run s n' f' := by unfold execXspiProgram; exact ⟨_, _, rfl⟩
theorem execXspiErase_run (cyc : Nat) (s : State) : ∃ n' f', execXspiErase cyc s = run s n' f' := by unfold execXspiErase; exact ⟨_, _, rfl⟩
theorem execXspiRescan_run (cyc : Nat) (s : State) : ∃ n' f', execXspiRescan cyc s = run s n' f' := by unfold execXspiRescan; exact ⟨_, _, rfl⟩
theorem execTaggedAccessRetry_run (cyc q client : Nat) (s : State) : ∃ n' f', execTaggedAccessRetry cyc q client s = run s n' f' := by unfold execTaggedAccessRetry; exact ⟨_, _, rfl⟩
theorem execTagTimeout_run (cyc q client : Nat) (s : State) : ∃ n' f', execTagTimeout cyc q client s = run s n' f' := by unfold execTagTimeout; exact ⟨_, _, rfl⟩
theorem execFence_run (cyc q : Nat) (acts : List CoreAct) (s : State) : ∃ n' f', execFence cyc q acts s = run s n' f' := by unfold execFence; exact ⟨_, _, rfl⟩
theorem execGatherIdleFlush_run (cyc q : Nat) (acts same : List CoreAct) (s : State) : ∃ n' f', execGatherIdleFlush cyc q acts same s = run s n' f' := by unfold execGatherIdleFlush; exact ⟨_, _, rfl⟩
theorem execScrubSlot_run (cyc q b found synd word : Nat) (s : State) : ∃ n' f', execScrubSlot cyc q b found synd word s = run s n' f' := by unfold execScrubSlot; exact ⟨_, _, rfl⟩
theorem execForcedScrub_run (cyc q b found synd word : Nat) (s : State) : ∃ n' f', execForcedScrub cyc q b found synd word s = run s n' f' := by unfold execForcedScrub; exact ⟨_, _, rfl⟩
theorem execStoreRepair_run (cyc q bank row : Nat) (host : Bool) (s : State) : ∃ n' f', execStoreRepair cyc q bank row host s = run s n' f' := by unfold execStoreRepair; exact ⟨_, _, rfl⟩
theorem execBankRequest_run (cyc q b req : Nat) (host : Bool) (s : State) : ∃ n' f', execBankRequest cyc q b req host s = run s n' f' := by unfold execBankRequest; exact ⟨_, _, rfl⟩
theorem execBankDrainDone_run (cyc q b : Nat) (s : State) : ∃ n' f', execBankDrainDone cyc q b s = run s n' f' := by unfold execBankDrainDone; exact ⟨_, _, rfl⟩
theorem execBankWakeDone_run (cyc q b : Nat) (s : State) : ∃ n' f', execBankWakeDone cyc q b s = run s n' f' := by unfold execBankWakeDone; exact ⟨_, _, rfl⟩
theorem execBankInitDone_run (cyc q b : Nat) (s : State) : ∃ n' f', execBankInitDone cyc q b s = run s n' f' := by unfold execBankInitDone; exact ⟨_, _, rfl⟩
theorem execPush_run (cyc q ring count : Nat) (host : Bool) (s : State) : ∃ n' f', execPush cyc q ring count host s = run s n' f' := by unfold execPush; exact ⟨_, _, rfl⟩
theorem execPop_run (cyc q ring count : Nat) (host : Bool) (s : State) : ∃ n' f', execPop cyc q ring count host s = run s n' f' := by unfold execPop; exact ⟨_, _, rfl⟩
theorem execRemoteWrite_run (cyc : Nat) (quay : Option Nat) (wafer win off seq : Nat) (tag : BitVec 64) (rows : List (List (BitVec 64))) (s : State) : ∃ n' f', execRemoteWrite cyc quay wafer win off seq tag rows s = run s n' f' := by unfold execRemoteWrite; exact ⟨_, _, rfl⟩
theorem execSignal_run (cyc p owner idx tick8 lcore inc : Nat) (s : State) : ∃ n' f', execSignal cyc p owner idx tick8 lcore inc s = run s n' f' := by unfold execSignal; exact ⟨_, _, rfl⟩
theorem execArm_run (cyc p owner idx tick8 lcore ch target : Nat) (space : Bool) (s : State) : ∃ n' f', execArm cyc p owner idx tick8 lcore ch target space s = run s n' f' := by unfold execArm; exact ⟨_, _, rfl⟩
theorem execRead_run (cyc p owner idx tick8 lcore : Nat) (s : State) : ∃ n' f', execRead cyc p owner idx tick8 lcore s = run s n' f' := by unfold execRead; exact ⟨_, _, rfl⟩
theorem execHreq_run (cyc p tick8 lcore slot mask group lo hi : Nat) (s : State) : ∃ n' f', execHreq cyc p tick8 lcore slot mask group lo hi s = run s n' f' := by unfold execHreq; exact ⟨_, _, rfl⟩
theorem execHfree_run (cyc p tick8 lcore slot group : Nat) (s : State) : ∃ n' f', execHfree cyc p tick8 lcore slot group s = run s n' f' := by unfold execHfree; exact ⟨_, _, rfl⟩
theorem execGquery_run (cyc p tick8 lcore group : Nat) (s : State) : ∃ n' f', execGquery cyc p tick8 lcore group s = run s n' f' := by unfold execGquery; exact ⟨_, _, rfl⟩
theorem execSyncBadOp_run (cyc p op owner idx lcore : Nat) (s : State) : ∃ n' f', execSyncBadOp cyc p op owner idx lcore s = run s n' f' := by unfold execSyncBadOp; exact ⟨_, _, rfl⟩
theorem execWakeMessage_run (cyc q ch : Nat) (s : State) : ∃ n' f', execWakeMessage cyc q ch s = run s n' f' := by unfold execWakeMessage; exact ⟨_, _, rfl⟩
theorem execLinkForward_run (cyc q idx : Nat) (s : State) : ∃ n' f', execLinkForward cyc q idx s = run s n' f' := by unfold execLinkForward; exact ⟨_, _, rfl⟩
theorem execRealign_run (cyc : Nat) (s : State) : ∃ n' f', execRealign cyc s = run s n' f' := by unfold execRealign; exact ⟨_, _, rfl⟩
theorem execWakeForce_run (cyc q mask : Nat) (s : State) : ∃ n' f', execWakeForce cyc q mask s = run s n' f' := by unfold execWakeForce; exact ⟨_, _, rfl⟩
theorem execSyncSelect_run (cyc q idx : Nat) (s : State) : ∃ n' f', execSyncSelect cyc q idx s = run s n' f' := by unfold execSyncSelect; exact ⟨_, _, rfl⟩
theorem execHwxFrame_run (cyc lane frame cal a b : Nat) (s : State) : ∃ n' f', execHwxFrame cyc lane frame cal a b s = run s n' f' := by unfold execHwxFrame; exact ⟨_, _, rfl⟩
theorem execCalGo_run (cyc : Nat) (s : State) : ∃ n' f', execCalGo cyc s = run s n' f' := by unfold execCalGo; exact ⟨_, _, rfl⟩
theorem execHwxCalTimeout_run (cyc : Nat) (s : State) : ∃ n' f', execHwxCalTimeout cyc s = run s n' f' := by unfold execHwxCalTimeout; exact ⟨_, _, rfl⟩
theorem execFaultLatch_run (cyc level unit b synd aux : Nat) (real : Bool) (s : State) : ∃ n' f', execFaultLatch cyc level unit b synd aux real s = run s n' f' := by unfold execFaultLatch runDown; exact ⟨_, _, rfl⟩
theorem execBollardFaultMessage_run (cyc q : Nat) (s : State) : ∃ n' f', execBollardFaultMessage cyc q s = run s n' f' := by unfold execBollardFaultMessage; exact ⟨_, _, rfl⟩
theorem execQuayFaultMessage_run (cyc n : Nat) (s : State) : ∃ n' f', execQuayFaultMessage cyc n s = run s n' f' := by unfold execQuayFaultMessage; exact ⟨_, _, rfl⟩
theorem execLockstepMismatch_run (cyc q addr b : Nat) (s : State) : ∃ n' f', execLockstepMismatch cyc q addr b s = run s n' f' := by unfold execLockstepMismatch runDown; exact ⟨_, _, rfl⟩
theorem execTriplexVote_run (cyc core addr : Nat) (s : State) : ∃ n' f', execTriplexVote cyc core addr s = run s n' f' := by unfold execTriplexVote runDown; exact ⟨_, _, rfl⟩
theorem execDuplexMismatch_run (cyc : Nat) (s : State) : ∃ n' f', execDuplexMismatch cyc s = run s n' f' := by unfold execDuplexMismatch runDown; exact ⟨_, _, rfl⟩
theorem execRtScrub_run (cyc : Nat) (s : State) : ∃ n' f', execRtScrub cyc s = run s n' f' := by unfold execRtScrub; exact ⟨_, _, rfl⟩
theorem execErrorForce_run (cyc level unit page bits : Nat) (s : State) : ∃ n' f', execErrorForce cyc level unit page bits s = run s n' f' := by unfold execErrorForce runDown; exact ⟨_, _, rfl⟩
theorem execAlarmAck_run (cyc mask : Nat) (host : Bool) (s : State) : ∃ n' f', execAlarmAck cyc mask host s = run s n' f' := by unfold execAlarmAck; exact ⟨_, _, rfl⟩
theorem execBreakwaterRegion_run (cyc q : Nat) (s : State) : ∃ n' f', execBreakwaterRegion cyc q s = run s n' f' := by unfold execBreakwaterRegion; exact ⟨_, _, rfl⟩
theorem execBreakwaterWafer_run (cyc : Nat) (s : State) : ∃ n' f', execBreakwaterWafer cyc s = run s n' f' := by unfold execBreakwaterWafer; exact ⟨_, _, rfl⟩
theorem execQuayWatchdog_run (cyc q : Nat) (s : State) : ∃ n' f', execQuayWatchdog cyc q s = run s n' f' := by unfold execQuayWatchdog runDown; exact ⟨_, _, rfl⟩
theorem execQuayWatchdogKick_run (cyc q : Nat) (host : Bool) (s : State) : ∃ n' f', execQuayWatchdogKick cyc q host s = run s n' f' := by unfold execQuayWatchdogKick; exact ⟨_, _, rfl⟩
theorem execHmWatchdog_run (cyc : Nat) (s : State) : ∃ n' f', execHmWatchdog cyc s = run s n' f' := by unfold execHmWatchdog runDown; exact ⟨_, _, rfl⟩
theorem execHmWatchdogKick_run (cyc : Nat) (host : Bool) (s : State) : ∃ n' f', execHmWatchdogKick cyc host s = run s n' f' := by unfold execHmWatchdogKick; exact ⟨_, _, rfl⟩
theorem execTileComputeReset_run (cyc p reason : Nat) (pwr : Bool) (s : State) : ∃ n' f', execTileComputeReset cyc p reason pwr s = run s n' f' := by unfold execTileComputeReset; exact ⟨_, _, rfl⟩
theorem execTileReset_run (cyc p : Nat) (pwr : Bool) (s : State) : ∃ n' f', execTileReset cyc p pwr s = run s n' f' := by unfold execTileReset; exact ⟨_, _, rfl⟩
theorem execPartitionReset_run (cyc q rowLo rowHi colLo colHi : Nat) (pwr : Bool) (s : State) : ∃ n' f', execPartitionReset cyc q rowLo rowHi colLo colHi pwr s = run s n' f' := by unfold execPartitionReset; exact ⟨_, _, rfl⟩
theorem execQuayReset_run (cyc q reason : Nat) (s : State) : ∃ n' f', execQuayReset cyc q reason s = run s n' f' := by unfold execQuayReset runDown; exact ⟨_, _, rfl⟩
theorem execQuayResetOp_run (cyc q : Nat) (s : State) : ∃ n' f', execQuayResetOp cyc q s = run s n' f' := by unfold execQuayResetOp runDown; exact ⟨_, _, rfl⟩
theorem execSoftReset_run (cyc addr : Nat) (s : State) : ∃ n' f', execSoftReset cyc addr s = run s n' f' := by unfold execSoftReset runDown; exact ⟨_, _, rfl⟩
theorem execQuayAdopt_run (cyc q : Nat) (s : State) : ∃ n' f', execQuayAdopt cyc q s = run s n' f' := by unfold execQuayAdopt runDown; exact ⟨_, _, rfl⟩
theorem execQuaySelftestDone_run (cyc q : Nat) (pass : Bool) (rows : Nat) (s : State) : ∃ n' f', execQuaySelftestDone cyc q pass rows s = run s n' f' := by unfold execQuaySelftestDone runDown; exact ⟨_, _, rfl⟩
theorem execQuayReclaim_run (cyc q : Nat) (s : State) : ∃ n' f', execQuayReclaim cyc q s = run s n' f' := by unfold execQuayReclaim; exact ⟨_, _, rfl⟩
theorem execEnterLantern_run (cyc : Nat) (s : State) : ∃ n' f', execEnterLantern cyc s = run s n' f' := by unfold execEnterLantern runDown; exact ⟨_, _, rfl⟩
theorem execHarbourmasterRestart_run (cyc pass : Nat) (s : State) : ∃ n' f', execHarbourmasterRestart cyc pass s = run s n' f' := by unfold execHarbourmasterRestart; exact ⟨_, _, rfl⟩
theorem execLanternExit_run (s : State) : ∃ n' f', execLanternExit s = run s n' f' := by unfold execLanternExit; exact ⟨_, _, rfl⟩
theorem execDump_run (cyc kind p q : Nat) (s : State) : ∃ n' f', execDump cyc kind p q s = run s n' f' := by unfold execDump; exact ⟨_, _, rfl⟩
theorem execDumpReadTimeout_run (cyc n : Nat) (s : State) : ∃ n' f', execDumpReadTimeout cyc n s = run s n' f' := by unfold execDumpReadTimeout; exact ⟨_, _, rfl⟩
theorem execDumpDone_run (cyc : Nat) (ext : List (BitVec 64)) (s : State) : ∃ n' f', execDumpDone cyc ext s = run s n' f' := by unfold execDumpDone; exact ⟨_, _, rfl⟩
theorem execDumpCopyDone_run (cyc : Nat) (s : State) : ∃ n' f', execDumpCopyDone cyc s = run s n' f' := by unfold execDumpCopyDone; exact ⟨_, _, rfl⟩
theorem execLogRecord_run (cyc : Nat) (producers : List Nat) (s : State) : ∃ n' f', execLogRecord cyc producers s = run s n' f' := by unfold execLogRecord; exact ⟨_, _, rfl⟩
theorem execTrickleFlush_run (cyc : Nat) (s : State) : ∃ n' f', execTrickleFlush cyc s = run s n' f' := by unfold execTrickleFlush; exact ⟨_, _, rfl⟩
theorem execFlushBlockDone_run (cyc : Nat) (ok : Bool) (s : State) : ∃ n' f', execFlushBlockDone cyc ok s = run s n' f' := by unfold execFlushBlockDone; exact ⟨_, _, rfl⟩
theorem execLogPortTimeout_run (cyc : Nat) (s : State) : ∃ n' f', execLogPortTimeout cyc s = run s n' f' := by unfold execLogPortTimeout; exact ⟨_, _, rfl⟩
theorem execLogFlush_run (cyc : Nat) (s : State) : ∃ n' f', execLogFlush cyc s = run s n' f' := by unfold execLogFlush; exact ⟨_, _, rfl⟩
theorem execPfailFlushStop_run (cyc : Nat) (s : State) : ∃ n' f', execPfailFlushStop cyc s = run s n' f' := by unfold execPfailFlushStop; exact ⟨_, _, rfl⟩
theorem execLogPortRetry_run (cyc : Nat) (s : State) : ∃ n' f', execLogPortRetry cyc s = run s n' f' := by unfold execLogPortRetry; exact ⟨_, _, rfl⟩
theorem execLogStoreResume_run (cyc : Nat) (trailers : List (Nat × Nat × Nat × Nat × Bool)) (s : State) : ∃ n' f', execLogStoreResume cyc trailers s = run s n' f' := by unfold execLogStoreResume; exact ⟨_, _, rfl⟩
theorem execLogReadSelect_run (cyc n : Nat) (s : State) : ∃ n' f', execLogReadSelect cyc n s = run s n' f' := by unfold execLogReadSelect; exact ⟨_, _, rfl⟩
theorem execLogFetchDone_run (cyc : Nat) (words : List (BitVec 64)) (s : State) : ∃ n' f', execLogFetchDone cyc words s = run s n' f' := by unfold execLogFetchDone; exact ⟨_, _, rfl⟩
theorem execNonceRead_run (cyc : Nat) (s : State) : ∃ n' f', execNonceRead cyc s = run s n' f' := by unfold execNonceRead; exact ⟨_, _, rfl⟩
theorem execLogClear_run (cyc : Nat) (s : State) : ∃ n' f', execLogClear cyc s = run s n' f' := by unfold execLogClear; exact ⟨_, _, rfl⟩
theorem execLogClearVerified_run (cyc : Nat) (s : State) : ∃ n' f', execLogClearVerified cyc s = run s n' f' := by unfold execLogClearVerified; exact ⟨_, _, rfl⟩
theorem execClearStorePassDone_run (cyc extra : Nat) (s : State) : ∃ n' f', execClearStorePassDone cyc extra s = run s n' f' := by unfold execClearStorePassDone; exact ⟨_, _, rfl⟩
theorem execKeyLoad_run (cyc : Nat) (s : State) : ∃ n' f', execKeyLoad cyc s = run s n' f' := by unfold execKeyLoad; exact ⟨_, _, rfl⟩
theorem execKeySpread_run (s : State) : ∃ n' f', execKeySpread s = run s n' f' := by unfold execKeySpread; exact ⟨_, _, rfl⟩
theorem execKeyZero_run (cyc : Nat) (s : State) : ∃ n' f', execKeyZero cyc s = run s n' f' := by unfold execKeyZero; exact ⟨_, _, rfl⟩
theorem execDomainSwitchOn_run (cyc d : Nat) (s : State) : ∃ n' f', execDomainSwitchOn cyc d s = run s n' f' := by unfold execDomainSwitchOn; exact ⟨_, _, rfl⟩
theorem execDomainPowerGood_run (cyc d : Nat) (s : State) : ∃ n' f', execDomainPowerGood cyc d s = run s n' f' := by unfold execDomainPowerGood; exact ⟨_, _, rfl⟩
theorem execBootRom_run (cyc pass : Nat) (s : State) : ∃ n' f', execBootRom cyc pass s = run s n' f' := by unfold execBootRom; exact ⟨_, _, rfl⟩
theorem execLoad_run (cyc : Nat) (s : State) : ∃ n' f', execLoad cyc s = run s n' f' := by unfold execLoad; exact ⟨_, _, rfl⟩
theorem execImageLoaded_run (cyc : Nat) (s : State) : ∃ n' f', execImageLoaded cyc s = run s n' f' := by unfold execImageLoaded; exact ⟨_, _, rfl⟩
theorem execPrepare_run (cyc : Nat) (taps : List Nat) (s : State) : ∃ n' f', execPrepare cyc taps s = run s n' f' := by unfold execPrepare; exact ⟨_, _, rfl⟩
theorem execEpoch_run (cyc : Nat) (s : State) : ∃ n' f', execEpoch cyc s = run s n' f' := by unfold execEpoch; exact ⟨_, _, rfl⟩
theorem execStartTest_run (cyc : Nat) (s : State) : ∃ n' f', execStartTest cyc s = run s n' f' := by unfold execStartTest; exact ⟨_, _, rfl⟩
theorem execOpenHarbour_run (cyc : Nat) (s : State) : ∃ n' f', execOpenHarbour cyc s = run s n' f' := by unfold execOpenHarbour; exact ⟨_, _, rfl⟩
theorem execOpeningTick_run (s : State) : ∃ n' f', execOpeningTick s = run s n' f' := by unfold execOpeningTick; exact ⟨_, _, rfl⟩
theorem execClose_run (cyc : Nat) (s : State) : ∃ n' f', execClose cyc s = run s n' f' := by unfold execClose; exact ⟨_, _, rfl⟩
theorem execUpdate_run (cyc : Nat) (s : State) : ∃ n' f', execUpdate cyc s = run s n' f' := by unfold execUpdate; exact ⟨_, _, rfl⟩
theorem execUpdateLeave_run (s : State) : ∃ n' f', execUpdateLeave s = run s n' f' := by unfold execUpdateLeave; exact ⟨_, _, rfl⟩
theorem execUpdateLoadDone_run (cyc : Nat) (s : State) : ∃ n' f', execUpdateLoadDone cyc s = run s n' f' := by unfold execUpdateLoadDone; exact ⟨_, _, rfl⟩
theorem execUpdateHandover_run (s : State) : ∃ n' f', execUpdateHandover s = run s n' f' := by unfold execUpdateHandover; exact ⟨_, _, rfl⟩
theorem execUpdateQuayReload_run (cyc : Nat) (s : State) : ∃ n' f', execUpdateQuayReload cyc s = run s n' f' := by unfold execUpdateQuayReload; exact ⟨_, _, rfl⟩
theorem execTriplexRejoin_run (core : Nat) (same : Bool) (s : State) : ∃ n' f', execTriplexRejoin core same s = run s n' f' := by unfold execTriplexRejoin; exact ⟨_, _, rfl⟩
theorem execLockstepGo_run (cyc : Nat) (s : State) : ∃ n' f', execLockstepGo cyc s = run s n' f' := by unfold execLockstepGo; exact ⟨_, _, rfl⟩
theorem execLockstepStartTimeout_run (cyc : Nat) (s : State) : ∃ n' f', execLockstepStartTimeout cyc s = run s n' f' := by unfold execLockstepStartTimeout; exact ⟨_, _, rfl⟩
theorem execLockstepStop_run (cyc : Nat) (s : State) : ∃ n' f', execLockstepStop cyc s = run s n' f' := by unfold execLockstepStop; exact ⟨_, _, rfl⟩
theorem execLockstepContribution_run (cyc l : Nat) (s : State) : ∃ n' f', execLockstepContribution cyc l s = run s n' f' := by unfold execLockstepContribution; exact ⟨_, _, rfl⟩
theorem execQuayDigest_run (cyc q : Nat) (s : State) : ∃ n' f', execQuayDigest cyc q s = run s n' f' := by unfold execQuayDigest; exact ⟨_, _, rfl⟩
theorem execLockstepSlotSend_run (cyc : Nat) (refused : Bool) (s : State) : ∃ n' f', execLockstepSlotSend cyc refused s = run s n' f' := by unfold execLockstepSlotSend; exact ⟨_, _, rfl⟩
theorem execLockstepCompare_run (ue : Bool) (s : State) : ∃ n' f', execLockstepCompare ue s = run s n' f' := by unfold execLockstepCompare; exact ⟨_, _, rfl⟩
theorem execBollardAccess_run (cyc q : Nat) (value : BitVec 64) (answered : Bool) (s : State) : ∃ n' f', execBollardAccess cyc q value answered s = run s n' f' := by unfold execBollardAccess; exact ⟨_, _, rfl⟩
theorem execBollardAccessTimeout_run (cyc q : Nat) (s : State) : ∃ n' f', execBollardAccessTimeout cyc q s = run s n' f' := by unfold execBollardAccessTimeout; exact ⟨_, _, rfl⟩
theorem execLmSideportAccess_run (cyc p : Nat) (w : BitVec 64) (s : State) : ∃ n' f', execLmSideportAccess cyc p w s = run s n' f' := by unfold execLmSideportAccess; exact ⟨_, _, rfl⟩
theorem execScanStart_run (cyc p : Nat) (w : BitVec 64) (s : State) : ∃ n' f', execScanStart cyc p w s = run s n' f' := by unfold execScanStart; exact ⟨_, _, rfl⟩
theorem execMbistStart_run (cyc p : Nat) (w : BitVec 64) (s : State) : ∃ n' f', execMbistStart cyc p w s = run s n' f' := by unfold execMbistStart; exact ⟨_, _, rfl⟩
theorem execPing_run (cyc : Nat) (args : List (BitVec 64)) (s : State) : ∃ n' f', execPing cyc args s = run s n' f' := by unfold execPing; exact ⟨_, _, rfl⟩
theorem execBolRead_run (cyc : Nat) (args : List (BitVec 64)) (s : State) : ∃ n' f', execBolRead cyc args s = run s n' f' := by unfold execBolRead; exact ⟨_, _, rfl⟩
theorem execLmRead_run (cyc : Nat) (args : List (BitVec 64)) (s : State) : ∃ n' f', execLmRead cyc args s = run s n' f' := by unfold execLmRead; exact ⟨_, _, rfl⟩
theorem execPmbusRead_run (cyc : Nat) (args : List (BitVec 64)) (s : State) : ∃ n' f', execPmbusRead cyc args s = run s n' f' := by unfold execPmbusRead; exact ⟨_, _, rfl⟩
theorem execManifestCheck_run (cyc : Nat) (args : List (BitVec 64)) (s : State) : ∃ n' f', execManifestCheck cyc args s = run s n' f' := by unfold execManifestCheck; exact ⟨_, _, rfl⟩
theorem execSyncDump_run (cyc : Nat) (args : List (BitVec 64)) (s : State) : ∃ n' f', execSyncDump cyc args s = run s n' f' := by unfold execSyncDump; exact ⟨_, _, rfl⟩
theorem execCmdBadOp_run (cyc op : Nat) (args : List (BitVec 64)) (s : State) : ∃ n' f', execCmdBadOp cyc op args s = run s n' f' := by unfold execCmdBadOp; exact ⟨_, _, rfl⟩
theorem execCmdComplete_run (cyc : Nat) (data : List (BitVec 64)) (bad : List Nat) (ce : Nat) (s : State) : ∃ n' f', execCmdComplete cyc data bad ce s = run s n' f' := by unfold execCmdComplete; exact ⟨_, _, rfl⟩
theorem execStoreApertureAccess_run (cyc addr size : Nat) (data : BitVec 64) (write parBad ue : Bool) (ce : Option Nat) (s : State) : ∃ n' f', execStoreApertureAccess cyc addr size data write parBad ue ce s = run s n' f' := by unfold execStoreApertureAccess; exact ⟨_, _, rfl⟩
theorem execTapSegment_run (cyc seg kind ty unit : Nat) (write opening : Bool) (s : State) : ∃ n' f', execTapSegment cyc seg kind ty unit write opening s = run s n' f' := by unfold execTapSegment; exact ⟨_, _, rfl⟩
theorem execRegisterWrite_run (cyc addr size : Nat) (data : BitVec 64) (parBad : Bool) (s : State) : ∃ n' f', execRegisterWrite cyc addr size data parBad s = run s n' f' := by unfold execRegisterWrite runDown; exact ⟨_, _, rfl⟩
theorem execFlashAccessDone_run (cyc : Nat) (ok : Bool) (found : List (Nat × List (BitVec 8))) (s : State) : ∃ n' f', execFlashAccessDone cyc ok found s = run s n' f' := by unfold execFlashAccessDone; exact ⟨_, _, rfl⟩
theorem execPmbusTransactionDone_run (cyc : Nat) (ack : Bool) (data : Nat) (s : State) : ∃ n' f', execPmbusTransactionDone cyc ack data s = run s n' f' := by unfold execPmbusTransactionDone; exact ⟨_, _, rfl⟩
theorem execUnitRetestDone_run (cyc k : Nat) (pass : Bool) (s : State) : ∃ n' f', execUnitRetestDone cyc k pass s = run s n' f' := by unfold execUnitRetestDone; exact ⟨_, _, rfl⟩
theorem execLinkDomainPower_run (cyc p : Nat) (s : State) : ∃ n' f', execLinkDomainPower cyc p s = run s n' f' := by unfold execLinkDomainPower; exact ⟨_, _, rfl⟩

/-- Every command but POWER_ON_RESET and RESET_RELEASE is a run of its effect. -/
theorem exec_run (c : Instr) (s : State) : c = .powerOnReset ∨ c = .resetRelease ∨ ∃ n f, exec c s = run s n f := by
  cases c
  case powerOnReset => exact .inl rfl
  case resetRelease => exact .inr (.inl rfl)
  case tickStrobe => exact .inr (.inr (execTickStrobe_run _ _ s))
  case ppsEdge => exact .inr (.inr (execPpsEdge_run _ _ s))
  case align => exact .inr (.inr (execAlign_run _ s))
  case timeHoldover => exact .inr (.inr (execTimeHoldover_run _ s))
  case holdoverSecond => exact .inr (.inr (execHoldoverSecond_run s))
  case slewDecision => exact .inr (.inr (execSlewDecision_run s))
  case sidebandDesc => exact .inr (.inr (execSidebandDesc_run _ _ _ s))
  case sidebandAddr => exact .inr (.inr (execSidebandAddr_run _ _ _ _ _ s))
  case sidebandStep => exact .inr (.inr (execSidebandStep_run _ _ _ s))
  case sidebandSleep => exact .inr (.inr (execSidebandSleep_run _ _ _ s))
  case operandTapBeat => exact .inr (.inr (execOperandTapBeat_run _ _ _ _ _ _ _ _ _ s))
  case writebackBeat => exact .inr (.inr (execWritebackBeat_run _ _ _ _ _ _ s))
  case coreError => exact .inr (.inr (execCoreError_run _ _ _ s))
  case lmCeInfo => exact .inr (.inr (execLmCeInfo_run _ _ s))
  case linkDown => exact .inr (.inr (execLinkDown_run _ _ _ _ s))
  case routerFault => exact .inr (.inr (execRouterFault_run _ _ s))
  case cdomLoss => exact .inr (.inr (execCdomLoss_run _ _ s))
  case cdomPowerGood => exact .inr (.inr (execCdomPowerGood_run _ _ s))
  case cdomPowerTimeout => exact .inr (.inr (execCdomPowerTimeout_run _ _ s))
  case clearanceRequest => exact .inr (.inr (execClearanceRequest_run _ _ s))
  case clearanceRelease => exact .inr (.inr (execClearanceRelease_run _ _ _ s))
  case clearanceOverhold => exact .inr (.inr (execClearanceOverhold_run _ _ s))
  case subtickRedistribute => exact .inr (.inr (execSubtickRedistribute_run _ _ s))
  case hawserArrive => exact .inr (.inr (execHawserArrive_run _ _ _ s))
  case hawserRelease => exact .inr (.inr (execHawserRelease_run _ _ _ s))
  case hawserRoundComplete => exact .inr (.inr (execHawserRoundComplete_run _ _ _ s))
  case ingressSink => exact .inr (.inr (execIngressSink_run _ _ _ _ s))
  case wakeChannel => exact .inr (.inr (execWakeChannel_run _ _ _ s))
  case bollardWatchdog => exact .inr (.inr (execBollardWatchdog_run _ _ s))
  case sideportAck => exact .inr (.inr (execSideportAck_run _ _ _ _ _ _ _ s))
  case sideportTimeout => exact .inr (.inr (execSideportTimeout_run _ _ _ _ _ s))
  case zeroiseDone => exact .inr (.inr (execZeroiseDone_run _ _ s))
  case zeroiseFail => exact .inr (.inr (execZeroiseFail_run _ _ s))
  case mbistDone => exact .inr (.inr (execMbistDone_run _ _ _ _ _ _ s))
  case scanIntervalEnd => exact .inr (.inr (execScanIntervalEnd_run _ _ _ s))
  case bollardReportLaunch => exact .inr (.inr (execBollardReportLaunch_run _ _ _ s))
  case reportFrame => exact .inr (.inr (execReportFrame_run _ _ s))
  case tallyTimeout => exact .inr (.inr (execTallyTimeout_run _ s))
  case chainWatchdog => exact .inr (.inr (execChainWatchdog_run _ _ _ _ s))
  case quayDeadline => exact .inr (.inr (execQuayDeadline_run _ s))
  case rootDecide => exact .inr (.inr (execRootDecide_run s))
  case commitBroadcast => exact .inr (.inr (execCommitBroadcast_run _ _ _ s))
  case commitApply => exact .inr (.inr (execCommitApply_run s))
  case recallRoot => exact .inr (.inr (execRecallRoot_run _ _ s))
  case recallReceipt => exact .inr (.inr (execRecallReceipt_run _ _ _ s))
  case drainEnd => exact .inr (.inr (execDrainEnd_run _ s))
  case migrationDone => exact .inr (.inr (execMigrationDone_run _ _ s))
  case rerouteDone => exact .inr (.inr (execRerouteDone_run _ s))
  case mailboxWrite => exact .inr (.inr (execMailboxWrite_run s))
  case mailboxLate => exact .inr (.inr (execMailboxLate_run _ s))
  case restart => exact .inr (.inr (execRestart_run s))
  case hostRecall => exact .inr (.inr (execHostRecall_run _ s))
  case halt => exact .inr (.inr (execHalt_run _ s))
  case resume => exact .inr (.inr (execResume_run _ s))
  case abandon => exact .inr (.inr (execAbandon_run _ s))
  case alarmMessage => exact .inr (.inr (execAlarmMessage_run _ _ s))
  case csumFlood => exact .inr (.inr (execCsumFlood_run _ s))
  case rateUpdate => exact .inr (.inr (execRateUpdate_run _ s))
  case sampleRequest => exact .inr (.inr (execSampleRequest_run _ _ s))
  case berthFull => exact .inr (.inr (execBerthFull_run _ _ s))
  case farPlacementAnswer => exact .inr (.inr (execFarPlacementAnswer_run _ _ _ s))
  case farPlacementTimeout => exact .inr (.inr (execFarPlacementTimeout_run _ _ _ s))
  case tenderTransferStart => exact .inr (.inr (execTenderTransferStart_run _ _ _ s))
  case tenderTransferDone => exact .inr (.inr (execTenderTransferDone_run _ _ _ _ _ _ _ _ s))
  case outputSignature => exact .inr (.inr (execOutputSignature_run _ _ _ s))
  case shadowSignatures => exact .inr (.inr (execShadowSignatures_run _ _ _ s))
  case shadowLate => exact .inr (.inr (execShadowLate_run _ _ s))
  case shadowHung => exact .inr (.inr (execShadowHung_run _ _ s))
  case shadowStopConfirm => exact .inr (.inr (execShadowStopConfirm_run _ _ _ s))
  case capturePassDone => exact .inr (.inr (execCapturePassDone_run _ _ _ _ _ _ s))
  case witnessTimeout => exact .inr (.inr (execWitnessTimeout_run _ _ _ s))
  case auditResult => exact .inr (.inr (execAuditResult_run _ _ _ _ s))
  case auditLate => exact .inr (.inr (execAuditLate_run _ s))
  case patchReady => exact .inr (.inr (execPatchReady_run _ _ _ _ s))
  case patchApplied => exact .inr (.inr (execPatchApplied_run _ _ _ s))
  case disputeMessage => exact .inr (.inr (execDisputeMessage_run _ _ s))
  case disputeResend => exact .inr (.inr (execDisputeResend_run _ s))
  case customsDispatch => exact .inr (.inr (execCustomsDispatch_run _ s))
  case customsFetchDone => exact .inr (.inr (execCustomsFetchDone_run _ _ _ _ s))
  case customsEvalEnd => exact .inr (.inr (execCustomsEvalEnd_run _ _ _ s))
  case refereeResult => exact .inr (.inr (execRefereeResult_run _ _ _ _ s))
  case refereeTimeout => exact .inr (.inr (execRefereeTimeout_run _ _ s))
  case housekeepingRound => exact .inr (.inr (execHousekeepingRound_run _ s))
  case throttleEvaluation => exact .inr (.inr (execThrottleEvaluation_run s))
  case conversionDone => exact .inr (.inr (execConversionDone_run _ _ _ _ s))
  case busSample => exact .inr (.inr (execBusSample_run _ _ _ s))
  case pfailFall => exact .inr (.inr (execPfailFall_run _ s))
  case pfailRise => exact .inr (.inr (execPfailRise_run _ s))
  case pmbusAlert => exact .inr (.inr (execPmbusAlert_run _ _ s))
  case healthOpAmber => exact .inr (.inr (execHealthOpAmber_run _ _ s))
  case healthOpVermilion => exact .inr (.inr (execHealthOpVermilion_run _ _ s))
  case healthOpSlate => exact .inr (.inr (execHealthOpSlate_run _ _ s))
  case moveCopyDone => exact .inr (.inr (execMoveCopyDone_run _ _ s))
  case moveSwitch => exact .inr (.inr (execMoveSwitch_run _ s))
  case parkTimeout => exact .inr (.inr (execParkTimeout_run _ _ s))
  case testSlotFill => exact .inr (.inr (execTestSlotFill_run _ s))
  case testSliceStart => exact .inr (.inr (execTestSliceStart_run _ _ s))
  case testSliceEnd => exact .inr (.inr (execTestSliceEnd_run _ _ _ _ s))
  case sliceTimeout => exact .inr (.inr (execSliceTimeout_run _ _ _ _ _ s))
  case testClearanceTimeout => exact .inr (.inr (execTestClearanceTimeout_run _ _ _ s))
  case diagnosisDone => exact .inr (.inr (execDiagnosisDone_run _ _ _ _ _ _ _ s))
  case testNext => exact .inr (.inr (execTestNext_run _ _ s))
  case testAbort => exact .inr (.inr (execTestAbort_run _ _ s))
  case xspiProgram => exact .inr (.inr (execXspiProgram_run _ s))
  case xspiErase => exact .inr (.inr (execXspiErase_run _ s))
  case xspiRescan => exact .inr (.inr (execXspiRescan_run _ s))
  case taggedAccessRetry => exact .inr (.inr (execTaggedAccessRetry_run _ _ _ s))
  case tagTimeout => exact .inr (.inr (execTagTimeout_run _ _ _ s))
  case fence => exact .inr (.inr (execFence_run _ _ _ s))
  case gatherIdleFlush => exact .inr (.inr (execGatherIdleFlush_run _ _ _ _ s))
  case scrubSlot => exact .inr (.inr (execScrubSlot_run _ _ _ _ _ _ s))
  case forcedScrub => exact .inr (.inr (execForcedScrub_run _ _ _ _ _ _ s))
  case storeRepair => exact .inr (.inr (execStoreRepair_run _ _ _ _ _ s))
  case bankRequest => exact .inr (.inr (execBankRequest_run _ _ _ _ _ s))
  case bankDrainDone => exact .inr (.inr (execBankDrainDone_run _ _ _ s))
  case bankWakeDone => exact .inr (.inr (execBankWakeDone_run _ _ _ s))
  case bankInitDone => exact .inr (.inr (execBankInitDone_run _ _ _ s))
  case push => exact .inr (.inr (execPush_run _ _ _ _ _ s))
  case pop => exact .inr (.inr (execPop_run _ _ _ _ _ s))
  case remoteWrite => exact .inr (.inr (execRemoteWrite_run _ _ _ _ _ _ _ _ s))
  case signal => exact .inr (.inr (execSignal_run _ _ _ _ _ _ _ s))
  case arm => exact .inr (.inr (execArm_run _ _ _ _ _ _ _ _ _ s))
  case read => exact .inr (.inr (execRead_run _ _ _ _ _ _ s))
  case hreq => exact .inr (.inr (execHreq_run _ _ _ _ _ _ _ _ _ s))
  case hfree => exact .inr (.inr (execHfree_run _ _ _ _ _ _ s))
  case gquery => exact .inr (.inr (execGquery_run _ _ _ _ _ s))
  case syncBadOp => exact .inr (.inr (execSyncBadOp_run _ _ _ _ _ _ s))
  case wakeMessage => exact .inr (.inr (execWakeMessage_run _ _ _ s))
  case linkForward => exact .inr (.inr (execLinkForward_run _ _ _ s))
  case realign => exact .inr (.inr (execRealign_run _ s))
  case wakeForce => exact .inr (.inr (execWakeForce_run _ _ _ s))
  case syncSelect => exact .inr (.inr (execSyncSelect_run _ _ _ s))
  case hwxFrame => exact .inr (.inr (execHwxFrame_run _ _ _ _ _ _ s))
  case calGo => exact .inr (.inr (execCalGo_run _ s))
  case hwxCalTimeout => exact .inr (.inr (execHwxCalTimeout_run _ s))
  case faultLatch => exact .inr (.inr (execFaultLatch_run _ _ _ _ _ _ _ s))
  case bollardFaultMessage => exact .inr (.inr (execBollardFaultMessage_run _ _ s))
  case quayFaultMessage => exact .inr (.inr (execQuayFaultMessage_run _ _ s))
  case lockstepMismatch => exact .inr (.inr (execLockstepMismatch_run _ _ _ _ s))
  case triplexVote => exact .inr (.inr (execTriplexVote_run _ _ _ s))
  case duplexMismatch => exact .inr (.inr (execDuplexMismatch_run _ s))
  case rtScrub => exact .inr (.inr (execRtScrub_run _ s))
  case errorForce => exact .inr (.inr (execErrorForce_run _ _ _ _ _ s))
  case alarmAck => exact .inr (.inr (execAlarmAck_run _ _ _ s))
  case breakwaterRegion => exact .inr (.inr (execBreakwaterRegion_run _ _ s))
  case breakwaterWafer => exact .inr (.inr (execBreakwaterWafer_run _ s))
  case quayWatchdog => exact .inr (.inr (execQuayWatchdog_run _ _ s))
  case quayWatchdogKick => exact .inr (.inr (execQuayWatchdogKick_run _ _ _ s))
  case hmWatchdog => exact .inr (.inr (execHmWatchdog_run _ s))
  case hmWatchdogKick => exact .inr (.inr (execHmWatchdogKick_run _ _ s))
  case tileComputeReset => exact .inr (.inr (execTileComputeReset_run _ _ _ _ s))
  case tileReset => exact .inr (.inr (execTileReset_run _ _ _ s))
  case partitionReset => exact .inr (.inr (execPartitionReset_run _ _ _ _ _ _ _ s))
  case quayReset => exact .inr (.inr (execQuayReset_run _ _ _ s))
  case quayResetOp => exact .inr (.inr (execQuayResetOp_run _ _ s))
  case softReset => exact .inr (.inr (execSoftReset_run _ _ s))
  case quayAdopt => exact .inr (.inr (execQuayAdopt_run _ _ s))
  case quaySelftestDone => exact .inr (.inr (execQuaySelftestDone_run _ _ _ _ s))
  case quayReclaim => exact .inr (.inr (execQuayReclaim_run _ _ s))
  case enterLantern => exact .inr (.inr (execEnterLantern_run _ s))
  case harbourmasterRestart => exact .inr (.inr (execHarbourmasterRestart_run _ _ s))
  case lanternExit => exact .inr (.inr (execLanternExit_run s))
  case dump => exact .inr (.inr (execDump_run _ _ _ _ s))
  case dumpReadTimeout => exact .inr (.inr (execDumpReadTimeout_run _ _ s))
  case dumpDone => exact .inr (.inr (execDumpDone_run _ _ s))
  case dumpCopyDone => exact .inr (.inr (execDumpCopyDone_run _ s))
  case logRecord => exact .inr (.inr (execLogRecord_run _ _ s))
  case trickleFlush => exact .inr (.inr (execTrickleFlush_run _ s))
  case flushBlockDone => exact .inr (.inr (execFlushBlockDone_run _ _ s))
  case logPortTimeout => exact .inr (.inr (execLogPortTimeout_run _ s))
  case logFlush => exact .inr (.inr (execLogFlush_run _ s))
  case pfailFlushStop => exact .inr (.inr (execPfailFlushStop_run _ s))
  case logPortRetry => exact .inr (.inr (execLogPortRetry_run _ s))
  case logStoreResume => exact .inr (.inr (execLogStoreResume_run _ _ s))
  case logReadSelect => exact .inr (.inr (execLogReadSelect_run _ _ s))
  case logFetchDone => exact .inr (.inr (execLogFetchDone_run _ _ s))
  case nonceRead => exact .inr (.inr (execNonceRead_run _ s))
  case logClear => exact .inr (.inr (execLogClear_run _ s))
  case logClearVerified => exact .inr (.inr (execLogClearVerified_run _ s))
  case clearStorePassDone => exact .inr (.inr (execClearStorePassDone_run _ _ s))
  case keyLoad => exact .inr (.inr (execKeyLoad_run _ s))
  case keySpread => exact .inr (.inr (execKeySpread_run s))
  case keyZero => exact .inr (.inr (execKeyZero_run _ s))
  case domainSwitchOn => exact .inr (.inr (execDomainSwitchOn_run _ _ s))
  case domainPowerGood => exact .inr (.inr (execDomainPowerGood_run _ _ s))
  case bootRom => exact .inr (.inr (execBootRom_run _ _ s))
  case load => exact .inr (.inr (execLoad_run _ s))
  case imageLoaded => exact .inr (.inr (execImageLoaded_run _ s))
  case prepare => exact .inr (.inr (execPrepare_run _ _ s))
  case epoch => exact .inr (.inr (execEpoch_run _ s))
  case startTest => exact .inr (.inr (execStartTest_run _ s))
  case openHarbour => exact .inr (.inr (execOpenHarbour_run _ s))
  case openingTick => exact .inr (.inr (execOpeningTick_run s))
  case close => exact .inr (.inr (execClose_run _ s))
  case update => exact .inr (.inr (execUpdate_run _ s))
  case updateLeave => exact .inr (.inr (execUpdateLeave_run s))
  case updateLoadDone => exact .inr (.inr (execUpdateLoadDone_run _ s))
  case updateHandover => exact .inr (.inr (execUpdateHandover_run s))
  case updateQuayReload => exact .inr (.inr (execUpdateQuayReload_run _ s))
  case triplexRejoin => exact .inr (.inr (execTriplexRejoin_run _ _ s))
  case lockstepGo => exact .inr (.inr (execLockstepGo_run _ s))
  case lockstepStartTimeout => exact .inr (.inr (execLockstepStartTimeout_run _ s))
  case lockstepStop => exact .inr (.inr (execLockstepStop_run _ s))
  case lockstepContribution => exact .inr (.inr (execLockstepContribution_run _ _ s))
  case quayDigest => exact .inr (.inr (execQuayDigest_run _ _ s))
  case lockstepSlotSend => exact .inr (.inr (execLockstepSlotSend_run _ _ s))
  case lockstepCompare => exact .inr (.inr (execLockstepCompare_run _ s))
  case bollardAccess => exact .inr (.inr (execBollardAccess_run _ _ _ _ s))
  case bollardAccessTimeout => exact .inr (.inr (execBollardAccessTimeout_run _ _ s))
  case lmSideportAccess => exact .inr (.inr (execLmSideportAccess_run _ _ _ s))
  case scanStart => exact .inr (.inr (execScanStart_run _ _ _ s))
  case mbistStart => exact .inr (.inr (execMbistStart_run _ _ _ s))
  case ping => exact .inr (.inr (execPing_run _ _ s))
  case bolRead => exact .inr (.inr (execBolRead_run _ _ s))
  case lmRead => exact .inr (.inr (execLmRead_run _ _ s))
  case pmbusRead => exact .inr (.inr (execPmbusRead_run _ _ s))
  case manifestCheck => exact .inr (.inr (execManifestCheck_run _ _ s))
  case syncDump => exact .inr (.inr (execSyncDump_run _ _ s))
  case cmdBadOp => exact .inr (.inr (execCmdBadOp_run _ _ _ s))
  case cmdComplete => exact .inr (.inr (execCmdComplete_run _ _ _ _ s))
  case storeApertureAccess => exact .inr (.inr (execStoreApertureAccess_run _ _ _ _ _ _ _ _ s))
  case tapSegment => exact .inr (.inr (execTapSegment_run _ _ _ _ _ _ _ s))
  case registerWrite => exact .inr (.inr (execRegisterWrite_run _ _ _ _ _ s))
  case flashAccessDone => exact .inr (.inr (execFlashAccessDone_run _ _ _ s))
  case pmbusTransactionDone => exact .inr (.inr (execPmbusTransactionDone_run _ _ _ s))
  case unitRetestDone => exact .inr (.inr (execUnitRetestDone_run _ _ _ s))
  case linkDomainPower => exact .inr (.inr (execLinkDomainPower_run _ _ s))

/-- Every command answers a settled state. -/
theorem exec_settled (c : Instr) (s : State) : ∃ t : State, exec c s = .next t.settle := by
  rcases exec_run c s with rfl | rfl | ⟨n, f, e⟩
  · exact ⟨_, rfl⟩
  · exact ⟨_, rfl⟩
  · rw [e]; exact run_settled s n f

end Sys2Proof.Machine
end

