-- ==== Sys2Proof/WellFormed.lean ====
section
/-!
DEFINITION. Well-formed commands: operands inside the ranges the spec gives the block. A meaning is total all the same: a command that names no tile or quay
of the configuration changes nothing.
-/

namespace Sys2Proof

/-- A core cycle of a tick, the longest lengthened (R21, R30). -/
def okCycle (c : Nat) : Bool := decide (c < 35204)

/-- A physical tile of the reference wafer (R7). -/
def okTile (p : Nat) : Bool := decide (p < 983040)

/-- A quay (R4). -/
def okQuay (q : Nat) : Bool := decide (q < 64)

/-- An index below `n`. -/
def okBelow (n i : Nat) : Bool := decide (i < n)

/-- Valid lanes of an operand beat (R52). -/
def okLanes (n : Nat) : Bool := decide (1 ≤ n) && decide (n ≤ 64)

/-- The access sizes of HPORT in bytes (R637). -/
def okSize (n : Nat) : Bool := decide (n = 1) || decide (n = 2) || decide (n = 4) || decide (n = 8)

/-- A window of a quay, or of the Harbourmaster (R362, R634). -/
def okWindow (q : Option Nat) : Bool :=
  match q with
  | some q => okQuay q
  | none => true

/-- The operands of a command are in range. -/
def Instr.wf (i : Instr) : Bool :=
  match i with
  | .tickStrobe _ _ => true
  | .ppsEdge cyc _ => okCycle cyc
  | .align cyc => okCycle cyc
  | .timeHoldover cyc => okCycle cyc
  | .holdoverSecond => true
  | .slewDecision => true
  | .sidebandDesc cyc p _ => okCycle cyc && okTile p
  | .sidebandAddr cyc p _ _ _ => okCycle cyc && okTile p
  | .sidebandStep cyc p _ => okCycle cyc && okTile p
  | .sidebandSleep cyc p mask => okCycle cyc && okTile p && okBelow 65536 mask
  | .operandTapBeat cyc p _ _ _ lanes _ idx _ => okCycle cyc && okTile p && okLanes lanes && okBelow 256 idx
  | .writebackBeat cyc p _ lanes _ _ => okCycle cyc && okTile p && okBelow 9 lanes
  | .coreError cyc p _ => okCycle cyc && okTile p
  | .lmCeInfo cyc p => okCycle cyc && okTile p
  | .linkDown cyc p _ _ => okCycle cyc && okTile p
  | .routerFault cyc p => okCycle cyc && okTile p
  | .cdomLoss cyc p => okCycle cyc && okTile p
  | .cdomPowerGood cyc p => okCycle cyc && okTile p
  | .cdomPowerTimeout cyc p => okCycle cyc && okTile p
  | .clearanceRequest cyc l => okCycle cyc && l.all (fun x => okTile x.1 && okBelow 4 x.2.2)
  | .clearanceRelease cyc p _ => okCycle cyc && okTile p
  | .clearanceOverhold cyc p => okCycle cyc && okTile p
  | .subtickRedistribute q k => okQuay q && okBelow 16 k
  | .hawserArrive cyc p slot => okCycle cyc && okTile p && okBelow 5 slot
  | .hawserRelease cyc p slot => okCycle cyc && okTile p && okBelow 5 slot
  | .hawserRoundComplete cyc line _ => okCycle cyc && okBelow 8 line
  | .ingressSink cyc p _ _ => okCycle cyc && okTile p
  | .wakeChannel cyc q ch => okCycle cyc && okQuay q && okBelow 16 ch
  | .bollardWatchdog cyc p => okCycle cyc && okTile p
  | .sideportAck cyc p claims _ _ _ _ => okCycle cyc && okTile p && claims.all (okBelow 4)
  | .sideportTimeout cyc p claims _ _ => okCycle cyc && okTile p && claims.all (okBelow 4)
  | .zeroiseDone cyc p => okCycle cyc && okTile p
  | .zeroiseFail cyc p => okCycle cyc && okTile p
  | .mbistDone cyc p _ _ _ _ => okCycle cyc && okTile p
  | .scanIntervalEnd cyc p _ => okCycle cyc && okTile p
  | .bollardReportLaunch cyc p _ => okCycle cyc && okTile p
  | .reportFrame cyc p => okCycle cyc && okTile p
  | .tallyTimeout q => okQuay q
  | .chainWatchdog cyc q _ _ => okCycle cyc && okQuay q
  | .quayDeadline q => okQuay q
  | .rootDecide => true
  | .commitBroadcast cyc q _ => okCycle cyc && okQuay q
  | .commitApply => true
  | .recallRoot cyc _ => okCycle cyc
  | .recallReceipt cyc q _ => okCycle cyc && okQuay q
  | .drainEnd cyc => okCycle cyc
  | .migrationDone cyc _ => okCycle cyc
  | .rerouteDone cyc => okCycle cyc
  | .mailboxWrite => true
  | .mailboxLate p => okTile p
  | .restart => true
  | .hostRecall cyc => okCycle cyc
  | .halt cyc => okCycle cyc
  | .resume cyc => okCycle cyc
  | .abandon cyc => okCycle cyc
  | .alarmMessage cyc p => okCycle cyc && okTile p
  | .csumFlood q => okQuay q
  | .rateUpdate q => okQuay q
  | .sampleRequest cyc ps => okCycle cyc && ps.all okTile
  | .berthFull cyc p => okCycle cyc && okTile p
  | .farPlacementAnswer cyc q _ => okCycle cyc && okQuay q
  | .farPlacementTimeout cyc q _ => okCycle cyc && okQuay q
  | .tenderTransferStart cyc q t => okCycle cyc && okQuay q && okBelow 8 t
  | .tenderTransferDone cyc q t _ _ _ _ _ => okCycle cyc && okQuay q && okBelow 8 t
  | .outputSignature cyc p _ => okCycle cyc && okTile p
  | .shadowSignatures cyc p _ => okCycle cyc && okTile p
  | .shadowLate q _ => okQuay q
  | .shadowHung q _ => okQuay q
  | .shadowStopConfirm cyc q _ => okCycle cyc && okQuay q
  | .capturePassDone cyc q _ _ _ _ => okCycle cyc && okQuay q
  | .witnessTimeout cyc q _ => okCycle cyc && okQuay q
  | .auditResult cyc p _ _ => okCycle cyc && okTile p
  | .auditLate p => okTile p
  | .patchReady cyc q _ _ => okCycle cyc && okQuay q
  | .patchApplied cyc q _ => okCycle cyc && okQuay q
  | .disputeMessage cyc _ => okCycle cyc
  | .disputeResend qs => qs.all okQuay
  | .customsDispatch cyc => okCycle cyc
  | .customsFetchDone cyc _ _ _ => okCycle cyc
  | .customsEvalEnd cyc _ upsets => okCycle cyc && upsets.all (fun x => decide (x.1 < 4) && decide (x.2 < 4352))
  | .refereeResult cyc _ _ _ => okCycle cyc
  | .refereeTimeout cyc _ => okCycle cyc
  | .housekeepingRound _ => true
  | .throttleEvaluation => true
  | .conversionDone cyc _ _ _ => okCycle cyc
  | .busSample cyc _ _ => okCycle cyc
  | .pfailFall cyc => okCycle cyc
  | .pfailRise cyc => okCycle cyc
  | .pmbusAlert cyc q => okCycle cyc && okQuay q
  | .healthOpAmber cyc p => okCycle cyc && okTile p
  | .healthOpVermilion cyc p => okCycle cyc && okTile p
  | .healthOpSlate cyc p => okCycle cyc && okTile p
  | .moveCopyDone cyc x => okCycle cyc && okTile x
  | .moveSwitch x => okTile x
  | .parkTimeout cyc x => okCycle cyc && okTile x
  | .testSlotFill q => okQuay q
  | .testSliceStart q _ => okQuay q
  | .testSliceEnd cyc q _ _ => okCycle cyc && okQuay q
  | .sliceTimeout cyc q _ _ _ => okCycle cyc && okQuay q
  | .testClearanceTimeout cyc q _ => okCycle cyc && okQuay q
  | .diagnosisDone cyc q _ _ _ _ _ => okCycle cyc && okQuay q
  | .testNext cyc p => okCycle cyc && okTile p
  | .testAbort cyc p => okCycle cyc && okTile p
  | .xspiProgram cyc => okCycle cyc
  | .xspiErase cyc => okCycle cyc
  | .xspiRescan cyc => okCycle cyc
  | .taggedAccessRetry cyc q _ => okCycle cyc && okQuay q
  | .tagTimeout cyc q _ => okCycle cyc && okQuay q
  | .fence cyc q _ => okCycle cyc && okQuay q
  | .gatherIdleFlush cyc q _ _ => okCycle cyc && okQuay q
  | .scrubSlot cyc q _ _ _ _ => okCycle cyc && okQuay q
  | .forcedScrub cyc q _ _ _ _ => okCycle cyc && okQuay q
  | .storeRepair cyc q _ _ _ => okCycle cyc && okQuay q
  | .bankRequest cyc q _ _ _ => okCycle cyc && okQuay q
  | .bankDrainDone cyc q _ => okCycle cyc && okQuay q
  | .bankWakeDone cyc q _ => okCycle cyc && okQuay q
  | .bankInitDone cyc q _ => okCycle cyc && okQuay q
  | .push cyc q ring _ _ => okCycle cyc && okQuay q && okBelow 32 ring
  | .pop cyc q ring _ _ => okCycle cyc && okQuay q && okBelow 32 ring
  | .remoteWrite cyc quay _ _ _ _ _ _ => okCycle cyc && okWindow quay
  | .signal cyc p owner idx _ _ _ => okCycle cyc && okTile p && okQuay owner && okBelow 1024 idx
  | .arm cyc p owner idx _ _ ch _ _ => okCycle cyc && okTile p && okQuay owner && okBelow 1024 idx && okBelow 16 ch
  | .read cyc p owner idx _ _ => okCycle cyc && okTile p && okQuay owner && okBelow 1024 idx
  | .hreq cyc p _ _ slot _ _ _ _ => okCycle cyc && okTile p && okBelow 5 slot
  | .hfree cyc p _ _ slot _ => okCycle cyc && okTile p && okBelow 5 slot
  | .gquery cyc p _ _ _ => okCycle cyc && okTile p
  | .syncBadOp cyc p _ owner idx _ => okCycle cyc && okTile p && okQuay owner && okBelow 1024 idx
  | .wakeMessage cyc q ch => okCycle cyc && okQuay q && okBelow 16 ch
  | .linkForward cyc q idx => okCycle cyc && okQuay q && okBelow 1024 idx
  | .realign cyc => okCycle cyc
  | .wakeForce cyc q _ => okCycle cyc && okQuay q
  | .syncSelect cyc q idx => okCycle cyc && okQuay q && okBelow 1024 idx
  | .hwxFrame cyc lane _ _ _ _ => okCycle cyc && okBelow 8 lane
  | .calGo cyc => okCycle cyc
  | .hwxCalTimeout cyc => okCycle cyc
  | .faultLatch cyc level _ _ _ _ _ => okCycle cyc && okBelow 3 level
  | .bollardFaultMessage cyc q => okCycle cyc && okQuay q
  | .quayFaultMessage cyc _ => okCycle cyc
  | .lockstepMismatch cyc q _ _ => okCycle cyc && okQuay q
  | .triplexVote cyc core _ => okCycle cyc && okBelow 3 core
  | .duplexMismatch cyc => okCycle cyc
  | .rtScrub cyc => okCycle cyc
  | .errorForce cyc level _ _ _ => okCycle cyc && okBelow 3 level
  | .alarmAck cyc _ _ => okCycle cyc
  | .breakwaterRegion cyc q => okCycle cyc && okQuay q
  | .breakwaterWafer cyc => okCycle cyc
  | .quayWatchdog cyc q => okCycle cyc && okQuay q
  | .quayWatchdogKick cyc q _ => okCycle cyc && okQuay q
  | .hmWatchdog cyc => okCycle cyc
  | .hmWatchdogKick cyc _ => okCycle cyc
  | .tileComputeReset cyc p _ _ => okCycle cyc && okTile p
  | .tileReset cyc p _ => okCycle cyc && okTile p
  | .partitionReset cyc q _ _ _ _ _ => okCycle cyc && okQuay q
  | .quayReset cyc q _ => okCycle cyc && okQuay q
  | .quayResetOp cyc q => okCycle cyc && okQuay q
  | .softReset cyc _ => okCycle cyc
  | .quayAdopt cyc q => okCycle cyc && okQuay q
  | .quaySelftestDone cyc q _ _ => okCycle cyc && okQuay q
  | .quayReclaim cyc q => okCycle cyc && okQuay q
  | .enterLantern cyc => okCycle cyc
  | .harbourmasterRestart cyc _ => okCycle cyc
  | .lanternExit => true
  | .dump cyc _ p q => okCycle cyc && okTile p && okQuay q
  | .dumpReadTimeout cyc _ => okCycle cyc
  | .dumpDone cyc _ => okCycle cyc
  | .dumpCopyDone cyc => okCycle cyc
  | .logRecord cyc _ => okCycle cyc
  | .trickleFlush cyc => okCycle cyc
  | .flushBlockDone cyc _ => okCycle cyc
  | .logPortTimeout cyc => okCycle cyc
  | .logFlush cyc => okCycle cyc
  | .pfailFlushStop cyc => okCycle cyc
  | .logPortRetry cyc => okCycle cyc
  | .logStoreResume cyc _ => okCycle cyc
  | .logReadSelect cyc _ => okCycle cyc
  | .logFetchDone cyc _ => okCycle cyc
  | .nonceRead cyc => okCycle cyc
  | .logClear cyc => okCycle cyc
  | .logClearVerified cyc => okCycle cyc
  | .clearStorePassDone cyc _ => okCycle cyc
  | .keyLoad cyc => okCycle cyc
  | .keySpread => true
  | .keyZero cyc => okCycle cyc
  | .powerOnReset => true
  | .resetRelease => true
  | .domainSwitchOn cyc d => okCycle cyc && okBelow 80 d
  | .domainPowerGood cyc d => okCycle cyc && okBelow 80 d
  | .bootRom cyc _ => okCycle cyc
  | .load cyc => okCycle cyc
  | .imageLoaded cyc => okCycle cyc
  | .prepare cyc _ => okCycle cyc
  | .epoch cyc => okCycle cyc
  | .startTest cyc => okCycle cyc
  | .openHarbour cyc => okCycle cyc
  | .openingTick => true
  | .close cyc => okCycle cyc
  | .update cyc => okCycle cyc
  | .updateLeave => true
  | .updateLoadDone cyc => okCycle cyc
  | .updateHandover => true
  | .updateQuayReload cyc => okCycle cyc
  | .triplexRejoin core _ => okBelow 3 core
  | .lockstepGo cyc => okCycle cyc
  | .lockstepStartTimeout cyc => okCycle cyc
  | .lockstepStop cyc => okCycle cyc
  | .lockstepContribution cyc _ => okCycle cyc
  | .quayDigest cyc q => okCycle cyc && okQuay q
  | .lockstepSlotSend cyc _ => okCycle cyc
  | .lockstepCompare _ => true
  | .bollardAccess cyc q _ _ => okCycle cyc && okQuay q
  | .bollardAccessTimeout cyc q => okCycle cyc && okQuay q
  | .lmSideportAccess cyc p _ => okCycle cyc && okTile p
  | .scanStart cyc p _ => okCycle cyc && okTile p
  | .mbistStart cyc p _ => okCycle cyc && okTile p
  | .ping cyc _ => okCycle cyc
  | .bolRead cyc _ => okCycle cyc
  | .lmRead cyc _ => okCycle cyc
  | .pmbusRead cyc _ => okCycle cyc
  | .manifestCheck cyc _ => okCycle cyc
  | .syncDump cyc _ => okCycle cyc
  | .cmdBadOp cyc _ _ => okCycle cyc
  | .cmdComplete cyc _ _ _ => okCycle cyc
  | .storeApertureAccess cyc _ size _ _ _ _ _ => okCycle cyc && okSize size
  | .tapSegment cyc _ _ _ _ _ _ => okCycle cyc
  | .registerWrite cyc _ size _ _ => okCycle cyc && okSize size
  | .flashAccessDone cyc _ _ => okCycle cyc
  | .pmbusTransactionDone cyc _ _ => okCycle cyc
  | .unitRetestDone cyc _ _ => okCycle cyc
  | .linkDomainPower cyc p => okCycle cyc && okTile p

end Sys2Proof
end

