-- ==== Sys2Proof/Tests/Slice0.lean ====
section
/-!
SUPPORT. The model's own tests: a refused ill-formed command for each check of well-formedness, single steps whose results come from the spec, and for every
statement with hypotheses a state and operands that meet them.
-/

open Sys2Proof Sys2Proof.Machine

namespace Sys2Proof.Tests

/-! ### States to test in -/

/-- The reset state with the page of the register at `a` served. -/
def served (a : Nat) (s : State) : State := s.setWord (a / 0x1000 * 0x1000 + 0xC) 1

/-- The state after reset. -/
abbrev s0 : State := State.reset

/-- After reset, in start-up phase `n`. -/
def inPhase (n : Nat) (s : State) : State := s.put HM_TRIPLEX_STAT_PHASE n

/-- The port is up. -/
def ported (s : State) : State := { s with start.domains := [(75, 2), (79, 2)] }

/-- Tile 0 changed. -/
def tile0 (f : TileSt → TileSt) : State := s0.modTile 0 f

/-- Quay 0 changed. -/
def quay0 (f : QuaySt → QuaySt) : State := s0.modQuay 0 f

/-- Tile 0 with its compute domain good. -/
def good (s : State) : State := s.put (BOL_CDOM_OK 0) 1

/-- The job runs, at job tick 5 with tick 2 committed. -/
def running (s : State) : State := { ((s.put HM_COMMIT_STAT_STATE cmRun).put HM_COMMIT_STAT_CTICK 2).put HM_COMMIT_JT_JT 5 with time.tick := 5 }

/-- A descriptor of a BF16 tile, 16 by 16 by 16 (R55). -/
def desc16 : BitVec 64 := 0

/-- A recall to tick 0. -/
def recall0 : RecallSt :=
  { target := 0, reason := 0, a := ⟨0, 0, 0⟩, s := ⟨0, 0, 0⟩, drained := false, needReroute := false, rerouted := false, edge := ⟨0, 0, 0⟩, moves := [], spoilt := [],
    received := [], halt := 0, haltCore := 0, p := none, mailed := false, mailLate := [], resumed := false, back := [] }

/-- A slot of a test of tile 0. -/
def slot0 : TSlot :=
  { p := 0, lcore := 0, purpose := puRotate, pos := 0, reran := false, again := false, phase := 1, since := ⟨0, 0, 0⟩, started := 0, half := 0, ran := 0,
    abort := false, partner := none, rows := [], word := 0, bitNo := 0, div := 0, sent := 0 }

/-- A retest of tile 0 at its functional slice. -/
def slotF : TSlot := { slot0 with purpose := puRetest, pos := 2 }

/-- A move of the core of tile 0. -/
def move0 : Move :=
  { lcore := 0, src := 0, dst := none, phase := 1, why := 0, colour := 0, code := 0, asked := 0, start := ⟨0, 0, 0⟩, sent := ⟨0, 0, 0⟩, switchAt := none, next := none }

/-- A dispute of berth 0 of quay 0. -/
def msg0 : DispMsg :=
  { quay := 0, berth := 0, capt := some 0, kind := 0, far := false, witnessNone := false, late := false, desc := 0, tick := 0, n := 0, origin := 0, shadow := 0, lcore := 0 }

/-- A queue entry of the Customs. -/
def entry0 : CusEntry :=
  { msg := msg0, tide := 0, id := 0, unit := none, phase := 0, failed := [], refAsked := none, refTile := none, refSig := none, berth := Berth.free, capt := Capt.free,
    captLost := false, start := ⟨0, 0, 0⟩, refReady := false, cycles := 0, kept := none }

/-- A make-up of berthless step 0 of tile 0, its spare chosen. -/
def makeup0 : MakeUp :=
  { p := 0, lcore := 0, desc := 0, tick := 0, n := 0, spare := some 1, capt := some 0, ran := false, ready := false, data := [], addr := 0, held := false,
    applied := false, due := false }

/-- A dump of tile 0. -/
def dump0 : DumpSt := { kind := 0, what := 0, unit := 0, tide := 0, jt := 0, voids := [], staged := false }

/-- The harbour is open and the sync engine of quay 0 serves. -/
def syncing : State := inPhase phOpen (s0.put (QY_SYNC_CTL_EN 0) 1)

/-! ### Well-formedness -/

/-- Each check refuses an operand out of its range. -/
theorem test_wf_refuses :
    (Instr.align 35204).wf = false ∧ (Instr.routerFault 0 983040).wf = false ∧ (Instr.quayAdopt 0 64).wf = false ∧ (Instr.wakeChannel 0 0 16).wf = false
    ∧ (Instr.operandTapBeat 0 0 false false 0 65 0 0 false).wf = false ∧ (Instr.operandTapBeat 0 0 false false 0 0 0 0 false).wf = false
    ∧ (Instr.registerWrite 0 0 3 0 false).wf = false ∧ (Instr.remoteWrite 0 (some 64) 0 0 0 0 0 []).wf = false := by decide

/-- And operands at the ends of the ranges are accepted. -/
theorem test_wf_accepts :
    (Instr.align 35203).wf = true ∧ (Instr.routerFault 0 983039).wf = true ∧ (Instr.quayAdopt 0 63).wf = true ∧ (Instr.wakeChannel 0 0 15).wf = true
    ∧ (Instr.operandTapBeat 0 0 false false 0 64 0 0 false).wf = true ∧ (Instr.registerWrite 0 0 8 0 false).wf = true
    ∧ (Instr.remoteWrite 0 none 0 0 0 0 0 []).wf = true := by decide

/-! ### Values of the spec's worked examples -/

/-- The descriptor of R55's worked example. -/
theorem test_descriptor_fields :
    let d : BitVec 64 := 0x0000110524FF3F7F
    dM d = 128 ∧ dN d = 64 ∧ dK d = 256 ∧ dFmt d = 2 ∧ dSeq d = 5 ∧ dTag d = 0x11 ∧ descReason d false = 0 := by decide

/-- R7: tile 256,700 lies in quay 21, at local index 1,340; R67: it launches at cycle 960 of the default tick. -/
theorem test_tile_256700 : quayOf 256700 = 21 ∧ localOf 256700 = 1340 ∧ tileOf 21 1340 = 256700 ∧ s0.launchSlot 61 = 960 := by decide

/-- R635 and R87: the addresses of the worked examples. -/
theorem test_addresses : QY_PILOT_STAT 21 = 0x255060 ∧ QY_BOL_SEL 21 = 0x253040 ∧ QY_BOL_DATA 21 = 0x253048 ∧ fieldOf 0x1853C 0 14 = 1340 ∧ fieldOf 0x1853C 14 5 = 6 := by decide

/-- R17: of tenders 1 and 3 in tick 1,000,002, tender 3 wins. -/
theorem test_rotation : rotWinner 1000002 4 [1, 3] = some 3 := by decide

/-! ### Single steps -/

/-- What a step's next state shows. -/
def seen {α : Type} (o : Host.Outcome State Fault Refusal) (f : State → α) : Option α :=
  match o with
  | .next t => some (f t)
  | _ => none

/-- No word spells a command. -/
theorem test_no_word : decodeTableWord 32 0 = none ∧ decodeTableWord 64 0xFFFFFFFFFFFFFFFF = none := by decide

/-- The first edge of the fast core clock (R31): phase 22,000 gives drift 2,750 and owes 24,750. -/
theorem test_pps_first_edge :
    seen (exec (.ppsEdge 4403 false) { s0.put HM_TIME_STAT_STATE tsAcquire with time.tick := 125002 }) (fun t => (t.get HM_TIME_SLEW_DRIFT, t.get HM_TIME_SLEW_OWED)) = some (2750, 24750) := by decide

/-- The tick after an aligning edge is the base of seconds (R32). -/
theorem test_align_edge :
    seen (exec (.ppsEdge 7 false) { s0 with time.tick := 40, time.alignReq := true }) (fun t => (t.get HM_TIME_SEC_BASE_BASE, t.get HM_TIME_STAT_ALIGNED, t.time.alignReq)) = some (41, 1, false) := by
  decide

/-- ALIGN while the harbour is open only sets LOCKED_WRITE (R43). -/
theorem test_align_locked :
    seen (exec (.align 0) (inPhase phOpen (served HM_TIME_CTL s0))) (fun t => (t.time.alignReq, (t.word 0x2010).toNat.testBit errLocked)) = some (false, true) := by decide

/-- A link lost without traffic in flight is counted and pulls nothing (R78). -/
theorem test_link_down :
    seen (exec (.linkDown 0 0 0b0110 0) s0) (fun t => (t.get (BOL_RTR_LOSSES 0), (t.word (BOL_OPEN 0)).toNat.testBit cLink, t.commit.pulls.length)) = some (2, false, 0) := by decide

/-- A sleep that finds PENDING set clears it and does not gate the clock (R73). -/
theorem test_sleep_pending :
    seen (exec (.sidebandSleep 0 0 1) (good (s0.put (BOL_WAKE_PENDING 0) 1))) (fun t => (t.get (BOL_WAKE_PENDING 0), (t.tile 0).asleep)) = some (0, false) := by decide

/-- A request of class 3 sets BAD_CLASS and takes no token (R443). -/
theorem test_bad_class :
    seen (exec (.clearanceRequest 0 [(0, false, 3)]) (good s0)) (fun t => (t.get (BOL_CLR_BAD_CLASS 0), t.get (BOL_CLR_CORE_HOLD 0))) = some (1, 0) := by decide

/-- A word written to the harbour store reads back, its low byte at the lowest address (R635). -/
theorem test_harbour_store :
    seen (exec (.storeApertureAccess 0 0x1000008 4 0x11223344 true false false none) (inPhase phWaitImage (ported s0))) (fun t => (t.byte 0x1000008, t.byte 0x100000B, t.byte 0x100000C))
      = some (0x44, 0x11, 0) := by decide

/-- A read of an unmapped address gives 0 with DECODE (R636). -/
theorem test_unmapped : seen (exec (.storeApertureAccess 0 0x2000000 8 0 false false false none) (ported s0)) (fun t => t.out) = some [.hport rspDecode 0] := by decide

/-- An acknowledged event clears at once (R497). -/
theorem test_alarm_ack : seen (exec (.alarmAck 4 4 false) ({ s0 with start.domains := [(77, 2)] }.alarm 2).settle) (fun t => (t.get HM_FAULT_ALARM_CAUSE, t.get HM_FAULT_ALARM_PIN)) = some (0, 0) := by decide

/-- A WAIT_IMAGE operation in SELFTEST ends with RESULT 4 (R580). -/
theorem test_load_phase :
    seen (exec (.load 0) (served HM_TRIPLEX_OP s0)) (fun t => (t.get HM_TRIPLEX_OP_RESULT, t.get HM_TRIPLEX_OP_REFUSED, t.phaseNo)) = some (4, 1, phSelftest) := by decide

/-- PORST_N low holds everything in reset; a command then does nothing (R672). -/
theorem test_held : seen (exec (.hostRecall 0) { running s0 with start.held := true }) (fun t => t.commit.pulls.length) = some 0 := by decide

/-- A step takes the front of the queue. -/
theorem test_step : seen (step { s0 with pending := [.powerOnReset, .resetRelease] }) (fun t => (t.pending, t.start.held)) = some ([.resetRelease], true) := by decide

/-- RESET_RELEASE raises PORST_N and starts D75 (R672). -/
theorem test_reset_release : seen (exec .resetRelease { s0 with start.held := true }) (fun t => (t.start.held, t.domain 75, t.domain 79)) = some (false, 2, 0) := by decide

/-- A wake of the mask's channel in the cycle of the SLEEP wins: the core is not gated (R82). -/
theorem test_sleep_meets_wake :
    seen (exec (.sidebandSleep 7 0 0x8000) { good s0 with coins := [(⟨0, 7, 0⟩, .woke 0 15)] }) (fun t => (t.get (BOL_WAKE_PENDING 0), (t.tile 0).asleep)) = some (0, false) := by decide

/-- DOWN follows the level of the links: a link that comes back is no loss (R78, R100). -/
theorem test_link_up :
    seen (exec (.linkDown 0 0 0b0001 0) (s0.put (BOL_RTR_DOWN 0) 0b0011)) (fun t => (t.get (BOL_RTR_DOWN 0), t.get (BOL_RTR_LOSSES 0))) = some (1, 0) := by decide

/-- ALIGN, still pending when the harbour opens, is dropped at the next edge (R32). -/
theorem test_align_dropped :
    seen (exec (.ppsEdge 7 false) { inPhase phOpen s0 with time.tick := 40, time.alignReq := true }) (fun t => (t.get HM_TIME_SEC_BASE_BASE, t.get HM_TIME_STAT_ALIGNED)) = some (0, 0) := by
  decide

/-! ### The hypotheses of the statements can be met -/

theorem witness_TimebaseCompletes :
    (∃ (s : State), s.start.held = false ∧ s.time.epoch = true)
    ∧ (∃ (s : State) (f : _), s.start.held = false ∧ s.flag HM_TIME_CTL_PPS_POL = f ∧ s.time.alignReq = true ∧ s.isOpen = false)
    ∧ (∃ (s : State) (f : _), s.start.held = false ∧ s.flag HM_TIME_CTL_PPS_POL = f ∧ s.time.alignReq = false ∧ s.get HM_TIME_STAT_STATE ≠ tsFree)
    ∧ (∃ (s : State), s.start.held = false ∧ s.pageReady HM_TIME_CTL = true ∧ s.pageEn HM_TIME_CTL = true ∧ s.isOpen = false)
    ∧ (∃ (s : State) (c : _), s.start.held = false ∧ s.get HM_TIME_STAT_STATE = tsLocked ∧ (s.begin_ c).edgeMissing = true)
    ∧ (∃ (s : State), s.start.held = false ∧ s.get HM_TIME_STAT_STATE = tsHoldover ∧ s.secondStarts = true)
    ∧ (∃ (s : State), s.start.held = false ∧ s.get HM_TIME_STAT_STATE ≠ tsFree ∧ s.slewCap ≤ s.time.acc + s.owed.natAbs ∧ 0 < s.slewCap)
    ∧ (∃ (s : State), s.start.held = false ∧ s.get HM_TIME_STAT_STATE ≠ tsFree ∧ s.time.acc + s.owed.natAbs < s.slewCap) :=
  ⟨⟨{ s0 with time.epoch := true }, by decide⟩,
   ⟨{ s0 with time.alignReq := true }, false, by decide⟩,
   ⟨s0.put HM_TIME_STAT_STATE tsLocked, false, by decide⟩,
   ⟨served HM_TIME_CTL s0, by decide⟩,
   ⟨{ s0.put HM_TIME_STAT_STATE tsLocked with time.tick := 1000000 }, 0, by decide⟩,
   ⟨s0.put HM_TIME_STAT_STATE tsHoldover, by decide⟩,
   ⟨{ s0.put HM_TIME_STAT_STATE tsLocked with time.acc := 1000000000 }, by decide⟩,
   ⟨s0.put HM_TIME_STAT_STATE tsLocked, by decide⟩⟩

theorem witness_SidebandCompletes :
    (∃ (s : State) (p : Nat) (d : BitVec 64), s.start.held = false ∧ s.isTile p = true ∧ s.cdomOk p = true ∧ (s.tile p).steps = [] ∧ (s.tile p).opens.length < 4 ∧
        descReason d false = 0)
    ∧ (∃ (s : State) (p : Nat) (w : BitVec 64) (o : _) (l : _), s.start.held = false ∧ s.isTile p = true ∧ s.cdomOk p = true ∧ (s.tile p).lastRefused = none ∧ (s.tile
        p).awaitsAddr = some l ∧ (s.tile p).opens[l]? = some o ∧ (o.judged = false → addrBad o.desc w = false))
    ∧ (∃ (s : State) (p : Nat), s.start.held = false ∧ s.isTile p = true ∧ s.cdomOk p = true ∧ (s.tile p).lastRefused = none ∧ (s.tile p).awaitsAddr = none)
    ∧ (∃ (s : State) (p : Nat) (m : _), s.start.held = false ∧ s.isTile p = true ∧ s.cdomOk p = true ∧ m % 2 ^ 16 ≠ 0)
    ∧ (∃ (s : State) (p : Nat) (m : _), s.start.held = false ∧ s.isTile p = true ∧ s.cdomOk p = true ∧ m % 2 ^ 16 = 0) :=
  ⟨⟨good s0, 0, desc16, by decide⟩,
   ⟨good (tile0 fun t => { t with opens := [OpenTile.start desc16 0 0 false] }), 0, 0, OpenTile.start desc16 0 0 false, 0, by decide⟩,
   ⟨good s0, 0, by decide⟩,
   ⟨good s0, 0, 0xFFFF, by decide⟩,
   ⟨good s0, 0, 0x10000, by decide⟩⟩

theorem witness_TapsComplete :
    (∃ (s : State) (p : Nat) (o : _), s.start.held = false ∧ s.isTile p = true ∧ s.cdomOk p = true ∧ (s.tile p).opens = [o] ∧ (s.tile p).refused = none ∧ o.touched =
        true ∧ o.operandsDone = false)
    ∧ (∃ (s : State) (p : Nat), s.start.held = false ∧ s.isTile p = true ∧ s.cdomOk p = true ∧ (s.tile p).operandTile = none)
    ∧ (∃ (s : State) (p : Nat) (o : _) (data : BitVec 256) (lanes : _) (i : _) (j : _), s.start.held = false ∧ s.isTile p = true ∧ s.cdomOk p = true ∧ (s.tile p).opens
        = [o] ∧ (s.tile p).refused = none ∧ o.touched = true ∧ dFmt o.desc < 8 ∧ o.wb + lanes ≤ dM o.desc * dN o.desc ∧ (o.wbBeat data lanes i j).wb < dM o.desc * dN
        o.desc) :=
  ⟨⟨good (tile0 fun t => { t with opens := [{ OpenTile.start 0x0F0F 0 0 false with touched := true }] }), 0, { OpenTile.start 0x0F0F 0 0 false with touched := true },
        by decide⟩,
   ⟨good s0, 0, by decide⟩,
   ⟨good (tile0 fun t => { t with opens := [{ OpenTile.start 0x0F0F 0 0 false with touched := true }] }), 0, { OpenTile.start 0x0F0F 0 0 false with touched := true },
        0, 1, 0, 0, by decide⟩⟩

theorem witness_TileEventsComplete :
    (∃ (s : State) (p : Nat) (b : _), s.start.held = false ∧ s.isTile p = true ∧ s.cdomOk p = true ∧ b % 16 ≠ 0)
    ∧ (∃ (s : State) (p : Nat) (links : _), s.start.held = false ∧ s.isTile p = true ∧ links % 16 ≠ 0 ∧ s.get (BOL_RTR_DOWN p) = 0)
    ∧ (∃ (s : State) (p : Nat), s.start.held = false ∧ s.isTile p = true ∧ s.flag (BOL_STAT_GUARD_ACTIVE p) = true ∧ s.isOpen = true)
    ∧ (∃ (s : State) (p : Nat), s.start.held = false ∧ s.isTile p = true ∧ s.flag (BOL_CTL_WDOG_EN p) = true ∧ s.role p = roleJob ∧ 4 ≤ s.get (BOL_WDOG_IDLE_TICKS p))
        :=
  ⟨⟨good s0, 0, 15, by decide⟩,
   ⟨s0, 983039, 1, by decide⟩,
   ⟨inPhase phOpen s0, 0, by decide⟩,
   ⟨((s0.put (BOL_CTL_WDOG_EN 0) 1).put (BOL_CTL_ROLE 0) roleJob).put (BOL_WDOG_IDLE_TICKS 0) 4, 0, by decide⟩⟩

theorem witness_ClearanceCompletes :
    (∃ (s : State) (c : Nat) (p : Nat) (cls : _), s.start.held = false ∧ s.isTile p = true ∧ cls < 2 ∧ s.cdomOk p = true ∧ (s.begin_ c).clrBusy p false = false ∧
        (s.begin_ c).beforeShare (quayOf p) = false ∧ s.flag (QY_CLEAR_CTL_EN (quayOf p)) = true ∧ s.govState (quayOf p) ≠ gvPfail ∧ clrCost cls ≤ s.get
        (BOL_CLR_BUCKET p))
    ∧ (∃ (s : State) (p : Nat), s.start.held = false ∧ s.isTile p = true ∧ s.flag (BOL_CLR_ENG_HOLD p) = true)
    ∧ (∃ (s : State) (c : Nat) (p : Nat), s.start.held = false ∧ s.isTile p = true ∧ s.flag (BOL_CLR_CORE_HOLD p) = true ∧ (s.tile p).clrOver = false ∧ s.get
        (QY_CLEAR_CTL_HOLD_MAX (quayOf p)) < ((s.begin_ c).since (s.tile p).clrSince).toNat)
    ∧ (∃ (s : State) (p : Nat) (q : _) (k : _), s.start.held = false ∧ s.isTile p = true ∧ q < s.nQuays ∧ s.shareDue q k = true) :=
  ⟨⟨good ((s0.put (QY_CLEAR_CTL_EN 0) 1).put (BOL_CLR_BUCKET 0) 4), 0, 0, 1, by decide⟩,
   ⟨s0.put (BOL_CLR_ENG_HOLD 0) 1, 0, by decide⟩,
   ⟨{ s0.put (BOL_CLR_CORE_HOLD 0) 1 with time.tick := 1000000 }, 0, 0, by decide⟩,
   ⟨s0, 0, 63, 15, by decide⟩⟩

theorem witness_HawserCompletes :
    (∃ (s : State) (p : _) (k : _), s.start.held = false ∧ s.isTile p = true ∧ s.cdomOk p = true ∧ (s.slot p k).entry = none)
    ∧ (∃ (s : State) (p : _) (k : _) (e : _), s.start.held = false ∧ s.isTile p = true ∧ s.cdomOk p = true ∧ (s.slot p k).entry = some e ∧ (s.slot p k).arrived = false)
    ∧ (∃ (s : State) (p : _) (k : _) (e : _), s.start.held = false ∧ s.isTile p = true ∧ s.cdomOk p = true ∧ (s.slot p k).entry = some e ∧ (s.slot p k).arrived = true
        ∧ (s.slot p k).pend = false)
    ∧ (∃ (s : State) (p : _) (k : _) (e : _), s.start.held = false ∧ s.isTile p = true ∧ s.cdomOk p = true ∧ (s.slot p k).entry = some e ∧ (s.slot p k).arrived = true
        ∧ (s.slot p k).pend = true)
    ∧ (∃ (s : State) (p : _) (k : _) (e : _), s.start.held = false ∧ s.isTile p = true ∧ (s.slot p k).entry = some e ∧ (s.slot p k).due = true)
    ∧ (∃ (s : State) (line : _) (k : _), s.start.held = false ∧ 3 ≤ line ∧ line ≤ 7 ∧ (s.group k).slot = line - 3 ∧ s.membersOf k ≠ [] ∧ (∀ p ∈ s.membersOf k, (s.slot
        p (line - 3)).arrived = true ∧ (s.slot p (line - 3)).due = false) ∧ (s.group k).mode = 1)
    ∧ (∃ (s : State) (lane : _) (frame : Nat), s.start.held = false ∧ 2 ≤ lane ∧ lane ≤ 7 ∧ s.xen lane = true ∧ s.isOpen = true ∧ frame.testBit 0 = true ∧
        ((frame.testBit 1).xor ((frame.testBit 2).xor ((frame.testBit 3).xor ((frame.testBit 4).xor (frame.testBit 5))))) = false ∧ frame.testBit 1 = false)
    ∧ (∃ (s : State) (cal : _), s.start.held = false ∧ cal ≠ 0 ∧ s.isOpen = false ∧ phConfig ≤ s.phaseNo)
    ∧ (∃ (s : State), s.start.held = false ∧ s.pageReady HM_HAWSER_XCTL = true ∧ s.pageEn HM_HAWSER_XCTL = true ∧ s.isOpen = false ∧ s.ringMaster = true)
    ∧ (∃ (s : State) (c : Nat), s.start.held = false ∧ s.get HM_HAWSER_XCAL_CAL_STATE = 1 ∧ 4096 ≤ (s.begin_ c).calSince)
    ∧ (∃ (s : State), s.start.held = false ∧ s.isOpen = true ∧ s.jt % 2 ^ s.get HM_HAWSER_CTL_REALIGN_LOG2 = 0 ∧ s.hawser.realigned ≠ some s.time.tick ∧ s.hawser.hw2 =
        0) :=
  ⟨⟨good s0, 0, 4, by decide⟩,
   ⟨good (tile0 fun t => { t with slots := [(0, { Slot.idle with entry := some 0 })] }), 0, 0, 0, by decide⟩,
   ⟨good (tile0 fun t => { t with slots := [(0, { Slot.idle with entry := some 0, b := false, sense := false })] }), 0, 0, 0, by decide⟩,
   ⟨good (tile0 fun t => { t with slots := [(4, { Slot.idle with entry := some 0, b := false, sense := false, pend := true })] }), 0, 4, 0, by decide⟩,
   ⟨tile0 fun t => { t with slots := [(4, { Slot.idle with entry := some 0, due := true })] }, 0, 4, 0, by decide⟩,
   ⟨{ (tile0 fun t => { t with slots := [(0, { Slot.idle with entry := some 0, b := false, sense := false })] }).put (BOL_CTL_ROLE 0) roleJob with hawser.groups :=
        [(0, { Group.none with mode := 1 })] }, 3, 0, by decide⟩,
   ⟨inPhase phOpen (s0.put HM_HAWSER_XCTL_XEN 255), 2, 1, by decide⟩,
   ⟨inPhase phConfig s0, 1, by decide⟩,
   ⟨served HM_HAWSER_XCTL s0, by decide⟩,
   ⟨s0.put HM_HAWSER_XCAL_CAL_STATE 1, 4096, by decide⟩,
   ⟨inPhase phOpen s0, by decide⟩⟩

theorem witness_WakesComplete :
    (∃ (s : State) (c : Nat) (q : Nat) (ch : _) (e : _), s.start.held = false ∧ q < s.nQuays ∧ (s.begin_ c).busDue q ch = some e)
    ∧ (∃ (s : State) (q : Nat) (ch : _) (e : _), s.start.held = false ∧ q < s.nQuays ∧ s.hawser.wakes.find? (fun e => decide (e.1 = q) && decide (e.2.1 = ch)) = some e)
    ∧ (∃ (s : State) (q : Nat) (ch : _), s.start.held = false ∧ q < s.nQuays ∧ ch < 16 ∧ s.pageReady (QY_WAKE_FORCE q) = true ∧ s.pageEn (QY_WAKE_FORCE q) = true) :=
  ⟨⟨{ s0 with hawser.bus := [⟨0, 15, ⟨0, 0, 0⟩, 4⟩] }, 40, 0, 15, ⟨0, 15, ⟨0, 0, 0⟩, 4⟩, by decide⟩,
   ⟨{ s0 with hawser.wakes := [(0, 15, 0, 0)] }, 0, 15, (0, 15, 0, 0), by decide⟩,
   ⟨served (QY_WAKE_FORCE 63) s0, 63, 15, by decide⟩⟩

theorem witness_BollardAccessCompletes :
    (∃ (s : State) (p : Nat) (claims : _) (client : _), s.start.held = false ∧ s.isTile p = true ∧ s.cdomOk p = true ∧ rotWinner s.jt 4 claims = some client)
    ∧ (∃ (s : State) (p : Nat), s.start.held = false ∧ s.isTile p = true ∧ s.cdomOk p = true ∧ s.flag (BOL_LM_ADDR_WE p) = false)
    ∧ (∃ (s : State) (p : Nat) (w : BitVec 64), s.start.held = false ∧ s.isTile p = true ∧ s.get (BOL_SCAN_ZERO_OK p) = 1 ∧ fieldOf w 0 2 ≠ 0 ∧ fieldOf w 7 1 = 1)
    ∧ (∃ (s : State) (p : Nat) (w : BitVec 64), s.start.held = false ∧ s.isTile p = true ∧ (fieldOf w 0 2 = 0 ∨ fieldOf w 7 1 = 0))
    ∧ (∃ (s : State) (p : Nat) (w : BitVec 64), s.start.held = false ∧ s.isTile p = true ∧ fieldOf w 3 1 = 1 ∧ 1 ≤ fieldOf w 0 3 ∧ fieldOf w 0 3 ≤ 4 ∧ (fieldOf w 0 3 ≤
        2 → s.get (BOL_SCAN_ZERO_OK p) = 1))
    ∧ (∃ (s : State) (p : Nat) (w : BitVec 64), s.start.held = false ∧ s.isTile p = true ∧ fieldOf w 3 1 = 1 ∧ fieldOf w 0 3 = 3)
    ∧ (∃ (s : State) (p : Nat) (q : _) (v : BitVec 64), s.start.held = false ∧ s.isTile p = true ∧ q < s.nQuays ∧ s.pageReady (QY_BOL_SEL q) = true ∧ s.pageEn
        (QY_BOL_SEL q) = true ∧ s.flag (QY_BOL_SEL_BUSY q) = false ∧ fieldOf v 0 14 < regionTiles)
    ∧ (∃ (s : State) (p : Nat) (q : _), s.start.held = false ∧ s.isTile p = true ∧ q < s.nQuays ∧ s.flag (QY_BOL_SEL_BUSY q) = true) :=
  ⟨⟨good s0, 0, [3, 1], 1, by decide⟩,
   ⟨good s0, 0, by decide⟩,
   ⟨s0.put (BOL_SCAN_ZERO_OK 0) 1, 0, 0x81, by decide⟩,
   ⟨s0, 0, 1, by decide⟩,
   ⟨s0, 0, 0xC, by decide⟩,
   ⟨s0, 0, 0xB, by decide⟩,
   ⟨served (QY_BOL_SEL 63) s0, 0, 63, 0x3BFF, by decide⟩,
   ⟨s0.put (QY_BOL_SEL_BUSY 63) 1, 0, 63, by decide⟩⟩

theorem witness_TileTestsComplete :
    (∃ (s : State) (p : Nat) (m : _), s.start.held = false ∧ s.isTile p = true ∧ (s.engine p).zeroAt = some m ∧ s.cdomOk p = true)
    ∧ (∃ (s : State) (c : Nat) (p : Nat) (m : _) (k : _) (t : _), s.start.held = false ∧ s.isTile p = true ∧ (s.engine p).zeroAt = some m ∧ s.get HM_TEST_CTL_ZERO_CC ≤
        ((s.begin_ c).since m).toNat ∧ s.slotOf p = some (k, t) ∧ s.diagOf p = none)
    ∧ (∃ (s : State) (p : Nat), s.start.held = false ∧ s.isTile p = true ∧ s.cdomOk p = true ∧ (s.engine p).running ≠ 2)
    ∧ (∃ (s : State) (c : Nat) (p : Nat) (misr : _), s.start.held = false ∧ s.isTile p = true ∧ (s.engine p).running = 1 ∧ (s.begin_ c).scanDue p = true ∧ s.get
        (BOL_SCAN_MODE p) = kdLbist ∧ misr = s.lbistSig (quayOf p) (s.scanPlace p).1 (s.scanPlace p).2 (s.engine p).done ∧ 15 ≤ (s.engine p).done)
    ∧ (∃ (s : State) (c : Nat) (p : Nat) (misr : _), s.start.held = false ∧ s.isTile p = true ∧ (s.engine p).running = 1 ∧ (s.begin_ c).scanDue p = true ∧ s.get
        (BOL_SCAN_MODE p) = kdLbist ∧ misr ≠ s.lbistSig (quayOf p) (s.scanPlace p).1 (s.scanPlace p).2 (s.engine p).done) :=
  ⟨⟨good (s0.setEngine 0 { Engine.idle with zeroAt := some ⟨0, 0, 0⟩ }), 0, ⟨0, 0, 0⟩, by decide⟩,
   ⟨{ (s0.setEngine 0 { Engine.idle with zeroAt := some ⟨0, 0, 0⟩ }).setTslot 0 7 (some slot0) with time.tick := 1000000 }, 0, 0, ⟨0, 0, 0⟩, 7, slot0, by decide⟩,
   ⟨good s0, 0, by decide⟩,
   ⟨{ (s0.setEngine 0 { Engine.idle with running := 1, done := 15 }).put (BOL_SCAN_MODE 0) kdLbist with time.tick := 100000000 }, 0, 0, 0, by decide⟩,
   ⟨{ (s0.setEngine 0 { Engine.idle with running := 1 }).put (BOL_SCAN_MODE 0) kdLbist with time.tick := 100000000 }, 0, 0, 1, by decide⟩⟩

theorem witness_ReportChainCompletes :
    (∃ (s : State) (q : Nat) (p : _), s.start.held = false ∧ q < s.nQuays ∧ s.isTile p = true ∧ s.offChain p = false ∧ (s.tile p).frame = [])
    ∧ (∃ (s : State) (q : Nat) (p : _) (f : _), s.start.held = false ∧ q < s.nQuays ∧ s.isTile p = true ∧ s.frames.find? (fun f => f.p = p) = some f)
    ∧ (∃ (s : State) (q : Nat) (l : _), s.start.held = false ∧ q < s.nQuays ∧ (s.quay q).missed.any (fun x => decide (x.1 = l) && decide (2 ≤ x.2)) = true)
    ∧ (∃ (s : State) (q : Nat) (p : _) (m : _), s.start.held = false ∧ q < s.nQuays ∧ s.isTile p = true ∧ s.alarms.find? (fun m => m.p = p) = some m)
    ∧ (∃ (s : State) (q : Nat), s.start.held = false ∧ q < s.nQuays ∧ (s.quay q).floodLast ≠ 0) :=
  ⟨⟨s0, 63, 0, by decide⟩,
   ⟨{ s0 with frames := [⟨0, 0, [], true⟩] }, 0, 0, ⟨0, 0, [], true⟩, by decide⟩,
   ⟨quay0 fun t => { t with missed := [(0, 2)] }, 0, 0, by decide⟩,
   ⟨{ s0 with alarms := [⟨0, 0, 0, 0, 2, false, 0, 0, 0, 0, 0, 0, 0, 0, 0, none⟩] }, 0, 0, ⟨0, 0, 0, 0, 2, false, 0, 0, 0, 0, 0, 0, 0, 0, 0, none⟩, by decide⟩,
   ⟨quay0 fun t => { t with floodLast := 1 }, 0, by decide⟩⟩

theorem witness_CommitCompletes :
    (∃ (s : State) (q : _), s.start.held = false ∧ q < s.nQuays ∧ s.cmState = cmRun ∧ s.commit.openTick + 2 ≤ s.jt ∧ s.ctick < s.jt - 2 ∧ s.controlled q = true ∧
        s.commit.inRecall = none ∧ (s.quay q).egcTick + 1 = s.jt - 2 ∧ q ∉ s.commit.released ∧ (s.at_ s.quayAt).uncleanAt q (s.jt - 2) = none ∧ (s.at_
        s.quayAt).outstanding q (s.jt - 2) = false)
    ∧ (∃ (s : State) (q : _), s.start.held = false ∧ q < s.nQuays ∧ s.cmState = cmRun ∧ s.commit.openTick + 2 ≤ s.jt ∧ s.ctick < s.jt - 2 ∧ s.controlled q = true ∧
        s.donly = false ∧ ((s.at_ s.quayAt).uncleanAt q (s.jt - 2) ≠ none ∨ (s.at_ s.quayAt).outstanding q (s.jt - 2) = true))
    ∧ (∃ (s : State), s.start.held = false ∧ s.cmState = cmRun ∧ s.commit.inRecall = none ∧ s.commit.pend = none ∧ s.jt - 2 = s.ctick + 1 ∧ s.commit.openTick + 2 ≤
        s.jt ∧ s.commit.releasedAt.isSome = true)
    ∧ (∃ (s : State), s.start.held = false ∧ s.cmState = cmRun ∧ s.commit.inRecall = none ∧ s.commit.pend = none ∧ s.jt - 2 = s.ctick + 1 ∧ s.commit.openTick + 2 ≤
        s.jt ∧ s.roundDone = false ∧ s.donly = false)
    ∧ (∃ (s : State) (q : _) (n : _), s.start.held = false ∧ q < s.nQuays ∧ s.commit.pend = some n ∧ q ∉ s.commit.pendQuays)
    ∧ (∃ (s : State) (q : _), s.start.held = false ∧ q < s.nQuays ∧ s.commit.pend = none ∧ s.cmState ≠ cmClosed ∧ (s.quay q).egcTick < s.ctick ∧ s.lagging q = []) :=
  ⟨⟨(running (quay0 fun t => { t with egcTick := 2 })).put (QY_RST_STAT_STATE 0) 0, 0, by decide⟩,
   ⟨(running (quay0 fun t => { t with unclean := [(3, [0])] })).put (QY_RST_STAT_STATE 0) 0, 0, by decide⟩,
   ⟨running { s0 with commit.releasedAt := some ⟨5, 0, 0⟩ }, by decide⟩,
   ⟨running s0, by decide⟩,
   ⟨{ s0 with commit.pend := some 3 }, 63, 3, by decide⟩,
   ⟨running s0, 0, by decide⟩⟩

theorem witness_RecallCompletes :
    (∃ (s : State) (n : _) (k : _), s.start.held = false ∧ firstPull (s.commit.pulls.take n) = some k ∧ s.cmState = cmRun ∧ s.commit.inRecall = none ∧ s.donly = false)
    ∧ (∃ (s : State) (q : _) (r : _), s.start.held = false ∧ q < s.nQuays ∧ s.commit.inRecall = some r ∧ q ∉ r.received)
    ∧ (∃ (s : State) (c : Nat) (r : _), s.start.held = false ∧ s.commit.inRecall = some r ∧ r.drained = false ∧ (200 + s.get HM_COMMIT_CTL_DRAIN_CC : Int) ≤ (s.begin_
        c).since r.s)
    ∧ (∃ (s : State) (r : _) (l : _) (m : _), s.start.held = false ∧ s.commit.inRecall = some r ∧ r.moves.find? (fun (m : Migration) => decide (m.lcore = l) &&
        !m.done) = some m)
    ∧ (∃ (s : State) (c : Nat) (r : _), s.start.held = false ∧ s.commit.inRecall = some r ∧ r.needReroute = true ∧ (s.get HM_COMMIT_CTL_REROUTE_CC : Int) ≤ (s.begin_
        c).since r.edge)
    ∧ (∃ (s : State) (r : _), s.start.held = false ∧ s.commit.inRecall = some r ∧ r.p = some (s.time.tick + 1) ∧ r.mailed = false)
    ∧ (∃ (s : State) (p : _) (r : _), s.start.held = false ∧ s.isTile p = true ∧ s.commit.inRecall = some r ∧ r.mailed = true ∧ p ∉ r.mailLate)
    ∧ (∃ (s : State) (r : _) (t : _), s.start.held = false ∧ s.commit.inRecall = some r ∧ r.p = some t ∧ t ≤ s.time.tick ∧ r.mailed = true ∧ r.halt = 0) :=
  ⟨⟨running { s0 with commit.pulls := [⟨0, 0, 0, 0, 1, 0, ⟨0, 0, 0⟩⟩] }, 1, ⟨0, 0, 0, 0, 1, 0, ⟨0, 0, 0⟩⟩, by decide⟩,
   ⟨{ s0 with commit.inRecall := some recall0 }, 63, recall0, by decide⟩,
   ⟨{ s0 with commit.inRecall := some recall0, time.tick := 1 }, 2248, recall0, by decide⟩,
   ⟨{ s0 with commit.inRecall := some { recall0 with moves := [⟨3, 0, 1, 1, false, ⟨0, 0, 0⟩, 0⟩] } }, { recall0 with moves := [⟨3, 0, 1, 1, false, ⟨0, 0, 0⟩, 0⟩] },
        3, ⟨3, 0, 1, 1, false, ⟨0, 0, 0⟩, 0⟩, by decide⟩,
   ⟨{ s0 with commit.inRecall := some { recall0 with needReroute := true }, time.tick := 1000000 }, 0, { recall0 with needReroute := true }, by decide⟩,
   ⟨{ s0 with commit.inRecall := some { recall0 with p := some 1 } }, { recall0 with p := some 1 }, by decide⟩,
   ⟨{ s0 with commit.inRecall := some { recall0 with mailed := true } }, 0, { recall0 with mailed := true }, by decide⟩,
   ⟨{ s0 with commit.inRecall := some { recall0 with p := some 0, mailed := true } }, { recall0 with p := some 0, mailed := true }, 0, by decide⟩⟩

theorem witness_CommitOpsComplete :
    (∃ (s : State), s.start.held = false ∧ s.pageReady HM_COMMIT_OP = true ∧ s.pageEn HM_COMMIT_OP = true ∧ s.donly = false ∧ s.cmState ≠ cmClosed)
    ∧ (∃ (s : State), s.start.held = false ∧ s.pageReady HM_COMMIT_OP = true ∧ s.pageEn HM_COMMIT_OP = true ∧ s.cmState ≠ cmClosed ∧ s.cmState ≠ cmHalted)
    ∧ (∃ (s : State) (c : Nat) (r : _), s.start.held = false ∧ s.pageReady HM_COMMIT_OP = true ∧ s.pageEn HM_COMMIT_OP = true ∧ s.flag HM_TRIPLEX_STAT_ABSENT = false ∧
        s.commit.inRecall = none ∧ s.commit.halted = some r ∧ (s.begin_ c).resumeBarred r = false)
    ∧ (∃ (s : State), s.start.held = false ∧ s.pageReady HM_COMMIT_OP = true ∧ s.pageEn HM_COMMIT_OP = true ∧ s.flag HM_TRIPLEX_STAT_ABSENT = false ∧ s.cmState =
        cmHalted) :=
  ⟨⟨running (served HM_COMMIT_OP s0), by decide⟩,
   ⟨running (served HM_COMMIT_OP s0), by decide⟩,
   ⟨{ served HM_COMMIT_OP s0 with commit.halted := some recall0 }, 0, recall0, by decide⟩,
   ⟨(served HM_COMMIT_OP s0).put HM_COMMIT_STAT_STATE cmHalted, by decide⟩⟩

theorem witness_SamplingCompletes :
    (∃ (s : State) (c : Nat) (q : Nat) (p : _) (r : _), s.start.held = false ∧ q < s.nQuays ∧ s.isTile p = true ∧ (s.quay (s.runner p)).waiting.find? (fun r => decide
        (r.p = p) && decide (512 ≤ (s.begin_ c).since r.sent)) = some r)
    ∧ (∃ (s : State) (q : Nat) (b : _), s.start.held = false ∧ q < s.nQuays ∧ (s.berth q b).farAsk.isSome = true)
    ∧ (∃ (s : State) (c : Nat) (q : Nat) (b : _) (m : _), s.start.held = false ∧ q < s.nQuays ∧ (s.berth q b).farAsk = some m ∧ 256 ≤ (s.begin_ c).since m) :=
  ⟨⟨quay0 fun t => { t with waiting := [⟨0, 0, 0, 0, false, 0, 0, ⟨0, 0, 0⟩⟩] }, 512, 0, 0, ⟨0, 0, 0, 0, false, 0, 0, ⟨0, 0, 0⟩⟩, by decide⟩,
   ⟨s0.setBerth 0 3 { Berth.free with farAsk := some ⟨0, 0, 0⟩ }, 0, 3, by decide⟩,
   ⟨s0.setBerth 0 3 { Berth.free with farAsk := some ⟨0, 0, 0⟩ }, 256, 0, 3, ⟨0, 0, 0⟩, by decide⟩⟩

theorem witness_ComparisonCompletes :
    (∃ (s : State) (p : _) (b : _) (len : _), s.start.held = false ∧ s.isTile p = true ∧ s.outSigs.find? (fun x => x.1 = p) = some (p, b, len) ∧ (s.berth (s.runner p)
        b).origin = p ∧ (s.berth (s.runner p) b).st ≠ btFree ∧ (s.berth (s.runner p) b).st ≠ btAborting)
    ∧ (∃ (s : State) (p : _) (q : _) (b : _) (sig : _), s.start.held = false ∧ s.isTile p = true ∧ s.shadowSigs.find? (fun x => x.1 = p) = some (p, q, b, sig) ∧
        (s.berth q b).shadow = p ∧ ((s.berth q b).st = btRunning ∨ (s.berth q b).st = btLate ∨ (s.berth q b).st = btDisputed))
    ∧ (∃ (s : State) (q : _) (b : _), s.start.held = false ∧ q < s.nQuays ∧ (s.berth q b).st ∈ [btTaken, btCopying, btRunning, btReturned] ∧ ((s.begin_ 0).at_
        (s.window + 1)).overdue (s.belongs (s.berth q b)) = true)
    ∧ (∃ (s : State) (q : _) (b : _), s.start.held = false ∧ q < s.nQuays ∧ (s.berth q b).st = btLate ∧ s.belongs (s.berth q b) + 4 ≤ s.jt)
    ∧ (∃ (s : State) (q : _) (b : _), s.start.held = false ∧ q < s.nQuays ∧ (s.berth q b).st = btAborting) :=
  ⟨⟨{ s0.setBerth 0 0 { Berth.free with st := btRunning } with outSigs := [(0, 0, 0)] }, 0, 0, 0, by decide⟩,
   ⟨{ s0.setBerth 0 0 { Berth.free with st := btLate } with shadowSigs := [(0, 0, 0, 7)] }, 0, 0, 0, 7, by decide⟩,
   ⟨running (s0.setBerth 0 0 { Berth.free with st := btRunning, tick := 3, delta := 0, tapO := some 0 }), 0, 0, by decide⟩,
   ⟨running (s0.setBerth 0 0 { Berth.free with st := btLate, tick := 1, delta := 0, tapO := some 0 }), 0, 0, by decide⟩,
   ⟨s0.setBerth 0 0 { Berth.free with st := btAborting }, 0, 0, by decide⟩⟩

theorem witness_CapturesComplete :
    (∃ (s : State) (q : Nat) (k : _), s.start.held = false ∧ q < s.nQuays ∧ s.capt q k ≠ Capt.free ∧ (s.capt q k).patch = false ∧ (s.capt q k).done = false ∧ (s.berth
        q (s.capt q k).berth).st = btDisputed ∧ (s.capt q k).passes < 7)
    ∧ (∃ (s : State) (q : Nat) (k : _), s.start.held = false ∧ q < s.nQuays ∧ s.capt q k ≠ Capt.free ∧ (s.capt q k).patch = false ∧ (s.capt q k).done = false ∧ (s.capt
        q k).copied = true ∧ (s.capt q k).witnessSince.tick + 4 ≤ s.time.tick)
    ∧ (∃ (s : State) (q : Nat) (p : _) (a : _), s.start.held = false ∧ q < s.nQuays ∧ s.isTile p = true ∧ (s.quay (s.runner p)).audits.find? (fun a => a.p = p) = some
        a)
    ∧ (∃ (s : State) (q : Nat) (p : _) (a : _), s.start.held = false ∧ q < s.nQuays ∧ s.isTile p = true ∧ (s.quay (s.runner p)).audits.find? (fun a => decide (a.p = p)
        && !a.late && ((s.begin_ 0).at_ (s.window + 1)).overdue (s.auditTick a)) = some a)
    ∧ (∃ (s : State) (q : Nat) (i : _) (m : _), s.start.held = false ∧ q < s.nQuays ∧ s.makeup q i = some m ∧ m.ran = false ∧ m.spare.isSome = true)
    ∧ (∃ (s : State) (q : Nat) (i : _) (m : _), s.start.held = false ∧ q < s.nQuays ∧ s.makeup q i = some m ∧ m.ready = true ∧ m.held = true) :=
  ⟨⟨(s0.setBerth 0 0 { Berth.free with st := btDisputed }).setCapt 0 0 { Capt.free with passes := 6 }, 0, 0, by decide⟩,
   ⟨{ s0.setCapt 0 0 { Capt.free with copied := true } with time.tick := 4 }, 0, 0, by decide⟩,
   ⟨quay0 fun t => { t with audits := [⟨0, 0, 0, none, false⟩] }, 0, 0, ⟨0, 0, 0, none, false⟩, by decide⟩,
   ⟨running (quay0 fun t => { t with audits := [⟨0, 0, 0, some 0, false⟩] }), 0, 0, ⟨0, 0, 0, some 0, false⟩, by decide⟩,
   ⟨quay0 fun t => { t with makeups := [(0, makeup0)] }, 0, 0, makeup0, by decide⟩,
   ⟨quay0 fun t => { t with makeups := [(0, { makeup0 with ready := true, held := true })] }, 0, 0, { makeup0 with ready := true, held := true }, by decide⟩⟩

theorem witness_CustomsCompletes :
    (∃ (s : State) (e : _) (u : _), s.start.held = false ∧ s.customsRuns = true ∧ s.flag HM_CUS_CTL_EN = true ∧ s.customs.queue.find? (fun (e : CusEntry) => decide
        (e.phase = 0)) = some e ∧ rotWinner s.jt s.sp.variant.customs s.freeUnits = some u ∧ e.msg.kind ≠ 4 ∧ e.hopeless s.sp.variant.customs = none)
    ∧ (∃ (s : State) (u : _) (e : _), s.start.held = false ∧ s.served u = some e ∧ e.phase = 2)
    ∧ (∃ (s : State) (slot : _) (e : _), s.start.held = false ∧ s.entry slot = some e ∧ e.refTile.isSome = true ∧ e.refReady = true ∧ e.refSig = none ∧ e.phase = 3)
    ∧ (∃ (s : State) (slot : _) (e : _), s.start.held = false ∧ s.entry slot = some e ∧ e.refTile.isSome = true ∧ e.refReady = true ∧ e.refSig = none ∧ e.phase ≠ 3)
    ∧ (∃ (s : State) (slot : _) (e : _) (m : _), s.start.held = false ∧ s.entry slot = some e ∧ e.refAsked = some m ∧ e.phase = 3 ∧ e.refTile = none ∧ m.tick + 4 ≤
        s.time.tick) :=
  ⟨⟨{ ((s0.put HM_CUS_CTL_EN 1).put HM_CUS_STAT_OK 15).put HM_CUS_CTL_UNIT_EN 8 with customs.queue := [entry0] }, entry0, 3, by decide⟩,
   ⟨{ s0 with customs.queue := [{ entry0 with unit := some 0, phase := 2 }] }, 0, { entry0 with unit := some 0, phase := 2 }, by decide⟩,
   ⟨{ s0 with customs.queue := [{ entry0 with refTile := some 9, refReady := true, phase := 3 }] }, 0, { entry0 with refTile := some 9, refReady := true, phase := 3 },
        by decide⟩,
   ⟨{ s0 with customs.queue := [{ entry0 with refTile := some 9, refReady := true, phase := 2 }] }, 0, { entry0 with refTile := some 9, refReady := true, phase := 2 },
        by decide⟩,
   ⟨{ s0 with time.tick := 4, customs.queue := [{ entry0 with refAsked := some ⟨0, 0, 0⟩, phase := 3 }] }, 0, { entry0 with refAsked := some ⟨0, 0, 0⟩, phase := 3 },
        ⟨0, 0, 0⟩, by decide⟩⟩

theorem witness_PowerCompletes :
    (∃ (s : State), s.start.held = false ∧ s.roundDue = true)
    ∧ (∃ (s : State), s.start.held = false ∧ s.power.evalDue = true)
    ∧ (∃ (s : State) (ch : _), s.start.held = false ∧ 90 ≤ ch ∧ ch < 104)
    ∧ (∃ (s : State) (ch : _), s.start.held = false ∧ ch < 88)
    ∧ (∃ (s : State) (q : _), s.start.held = false ∧ q < s.nQuays ∧ s.isOpen = true ∧ s.lantern = false)
    ∧ (∃ (s : State) (x : _) (l : _), s.start.held = false ∧ s.power.pm = x :: l)
    ∧ (∃ (s : State) (k : _), s.start.held = false ∧ (s.unit k).colour = vermilion ∧ (k < 4 ∨ 7 ≤ k))
    ∧ (∃ (s : State) (p : _), s.start.held = false ∧ s.isTile p = true) :=
  ⟨⟨s0, by decide⟩,
   ⟨{ s0 with power.evalDue := true }, by decide⟩,
   ⟨s0, 103, by decide⟩,
   ⟨s0, 87, by decide⟩,
   ⟨inPhase phOpen s0, 63, by decide⟩,
   ⟨{ s0 with power.pm := [⟨0, 0x79, false, 0, 3⟩] }, ⟨0, 0x79, false, 0, 3⟩, [], by decide⟩,
   ⟨{ s0 with rst.units := [(0, ⟨vermilion, 0, 0⟩)] }, 0, by decide⟩,
   ⟨s0, 983039, by decide⟩⟩

theorem witness_HealthMovesComplete :
    (∃ (s : State) (p : _), s.start.held = false ∧ s.pageReady HM_HEALTH_OP = true ∧ s.pageEn HM_HEALTH_OP = true ∧ s.flag HM_TRIPLEX_STAT_ABSENT = false ∧ s.flag
        HM_HEALTH_OP_BUSY = false ∧ p < 2 ^ 20 ∧ quayOf p < s.nQuays ∧ s.colour p = green)
    ∧ (∃ (s : State) (p : _), s.start.held = false ∧ s.pageReady HM_HEALTH_OP = true ∧ s.pageEn HM_HEALTH_OP = true ∧ s.flag HM_TRIPLEX_STAT_ABSENT = false ∧ s.flag
        HM_HEALTH_OP_BUSY = false ∧ p < 2 ^ 20 ∧ quayOf p < s.nQuays ∧ severity (s.colour p) < severity vermilion)
    ∧ (∃ (s : State) (p : _), s.start.held = false ∧ s.pageReady HM_HEALTH_OP = true ∧ s.pageEn HM_HEALTH_OP = true ∧ s.flag HM_TRIPLEX_STAT_ABSENT = false ∧ s.flag
        HM_HEALTH_OP_BUSY = false ∧ p < 2 ^ 20 ∧ quayOf p < s.nQuays ∧ severity (s.colour p) < severity slate)
    ∧ (∃ (s : State) (x : _) (m : _), s.start.held = false ∧ s.moveOf x = some m ∧ m.phase = 3)
    ∧ (∃ (s : State) (x : _) (m : _) (y : _) (t : _), s.start.held = false ∧ s.moveOf x = some m ∧ m.dst = some y ∧ m.switchAt = some t ∧ m.phase = 4 ∧ t ≤ s.time.tick)
    ∧ (∃ (s : State) (x : _) (m : _), s.start.held = false ∧ s.moveOf x = some m ∧ m.phase = 1 ∧ m.asked + s.get HM_HEALTH_CTL_PARK_TICKS ≤ s.jt ∧ s.mustMove m = false)
    ∧ (∃ (s : State) (x : _) (m : _), s.start.held = false ∧ s.moveOf x = some m ∧ m.phase = 1 ∧ m.asked + s.get HM_HEALTH_CTL_PARK_TICKS ≤ s.jt ∧ s.mustMove m = true
        ∧ s.donly = true)
    ∧ (∃ (s : State) (x : _) (m : _), s.start.held = false ∧ s.moveOf x = some m ∧ m.phase = 1 ∧ m.asked + s.get HM_HEALTH_CTL_PARK_TICKS ≤ s.jt ∧ s.mustMove m = true
        ∧ s.donly = false) :=
  ⟨⟨served HM_HEALTH_OP s0, 983039, by decide⟩,
   ⟨served HM_HEALTH_OP s0, 983039, by decide⟩,
   ⟨served HM_HEALTH_OP s0, 983039, by decide⟩,
   ⟨{ s0 with moves := [{ move0 with phase := 3 }] }, 0, { move0 with phase := 3 }, by decide⟩,
   ⟨{ s0 with moves := [{ move0 with phase := 4, dst := some 1, switchAt := some 0 }] }, 0, { move0 with phase := 4, dst := some 1, switchAt := some 0 }, 1, 0, by
        decide⟩,
   ⟨{ s0.put HM_COMMIT_JT_JT 1000000000 with moves := [{ move0 with why := 1 }] }, 0, { move0 with why := 1 }, by decide⟩,
   ⟨{ (s0.put HM_COMMIT_JT_JT 1000000000).put HM_COMMIT_STAT_DETECT_ONLY 1 with moves := [{ move0 with why := mvDonly }] }, 0, { move0 with why := mvDonly }, by
        decide⟩,
   ⟨{ s0.put HM_COMMIT_JT_JT 1000000000 with moves := [{ move0 with why := mvCode7 }] }, 0, { move0 with why := mvCode7 }, by decide⟩⟩

theorem witness_TestSlotsComplete :
    (∃ (s : State) (q : Nat), s.start.held = false ∧ q < s.nQuays ∧ s.flag HM_TRIPLEX_STAT_ABSENT = false)
    ∧ (∃ (s : State) (q : Nat) (k : Nat) (t : _), s.start.held = false ∧ q < s.nQuays ∧ s.tslot q k = some t ∧ (t.phase = 1 ∨ t.phase = 3))
    ∧ (∃ (s : State) (q : Nat) (k : Nat) (t : _), s.start.held = false ∧ q < s.nQuays ∧ s.tslot q k = some t ∧ t.phase = 1 ∧ s.isOpen = true ∧ ((s.begin_ 0).at_
        (s.commitAt + 1)).stopReason q k t = 0 ∧ s.cdomOk t.p = true ∧ s.slotKind t = kdFunc)
    ∧ (∃ (s : State) (q : Nat) (k : Nat) (t : _), s.start.held = false ∧ q < s.nQuays ∧ s.tslot q k = some t ∧ t.phase = 2 ∧ (s.slotKind t = kdFunc ∨ (s.engine
        t.p).running = 0))
    ∧ (∃ (s : State) (c : Nat) (q : Nat) (k : Nat) (t : _), s.start.held = false ∧ q < s.nQuays ∧ s.tslot q k = some t ∧ t.phase = 2 ∧ 2200000 ≤ (s.begin_ c).since
        t.since)
    ∧ (∃ (s : State) (c : Nat) (q : Nat) (k : Nat) (t : _), s.start.held = false ∧ q < s.nQuays ∧ s.tslot q k = some t ∧ t.phase = 1 ∧ (s.quay q).clrPend.any (fun r =>
        decide (r.p = t.p) && r.engine && decide (16 * s.tickLen ≤ (s.begin_ c).since r.since)) = true)
    ∧ (∃ (s : State) (q : Nat) (k : Nat) (t : _), s.start.held = false ∧ q < s.nQuays ∧ s.tslot q k = some t ∧ t.phase = 5)
    ∧ (∃ (s : State) (q : Nat) (p : _), s.start.held = false ∧ q < s.nQuays ∧ s.pageReady HM_TEST_OP = true ∧ s.pageEn HM_TEST_OP = true ∧ s.flag
        HM_TRIPLEX_STAT_ABSENT = false ∧ s.flag HM_TEST_OP_BUSY = false ∧ p < 2 ^ 20 ∧ quayOf p < s.nQuays ∧ s.colour p ≠ slate)
    ∧ (∃ (s : State) (q : Nat) (p : _) (i : _) (t : _), s.start.held = false ∧ q < s.nQuays ∧ s.pageReady HM_TEST_OP = true ∧ s.pageEn HM_TEST_OP = true ∧ s.flag
        HM_TRIPLEX_STAT_ABSENT = false ∧ s.flag HM_TEST_OP_BUSY = false ∧ p < 2 ^ 20 ∧ s.slotOf p = some (i, t)) :=
  ⟨⟨s0, 63, by decide⟩,
   ⟨{ s0 with test.slots := [(7, some slot0)] }, 0, 7, slot0, by decide⟩,
   ⟨{ good (inPhase phOpen s0) with test.slots := [(7, some slotF)] }, 0, 7, slotF, by decide⟩,
   ⟨{ s0 with test.slots := [(7, some { slot0 with phase := 2 })] }, 0, 7, { slot0 with phase := 2 }, by decide⟩,
   ⟨{ s0 with test.slots := [(7, some { slot0 with phase := 2 })], time.tick := 250 }, 0, 0, 7, { slot0 with phase := 2 }, by decide⟩,
   ⟨{ (quay0 fun t => { t with clrPend := [⟨0, true, 0, ⟨0, 0, 0⟩⟩] }) with test.slots := [(7, some slot0)], time.tick := 16 }, 0, 0, 7, slot0, by decide⟩,
   ⟨{ s0 with test.slots := [(7, some { slot0 with phase := 5 })] }, 0, 7, { slot0 with phase := 5 }, by decide⟩,
   ⟨served HM_TEST_OP s0, 63, 983039, by decide⟩,
   ⟨{ served HM_TEST_OP s0 with test.slots := [(7, some slot0)] }, 0, 0, 7, slot0, by decide⟩⟩

theorem witness_LibraryCompletes :
    (∃ (s : State), s.start.held = false ∧ s.pageReady HM_XSPI_OP = true ∧ s.pageEn HM_XSPI_OP = true ∧ s.flag HM_TRIPLEX_STAT_ABSENT = false ∧ s.flag HM_XSPI_OP_BUSY
        = false)
    ∧ (∃ (s : State) (f : _), s.start.held = false ∧ s.test.flash = some f ∧ f.stage < 3)
    ∧ (∃ (s : State) (f : _), s.start.held = false ∧ s.test.flash = some f ∧ f.stage = 0 ∧ f.op = 2 ∧ f.sectors ≤ f.done + 1) :=
  ⟨⟨served HM_XSPI_OP s0, by decide⟩,
   ⟨{ s0 with test.flash := some ⟨1, 0, 64, [], 2, 0⟩ }, ⟨1, 0, 64, [], 2, 0⟩, by decide⟩,
   ⟨{ s0 with test.flash := some ⟨2, 0, 64, [], 0, 1023⟩ }, ⟨2, 0, 64, [], 0, 1023⟩, by decide⟩⟩

theorem witness_TenderCompletes :
    (∃ (s : State) (c : Nat) (q : Nat) (t : _) (w : _) (f : _), s.start.held = false ∧ q < s.nQuays ∧ t < 8 ∧ (s.get (QY_TND_CTL_EN q)).testBit t = true ∧ (s.begin_
        c).nextWork q t = some (w, f) ∧ (s.tender q t).cur = none)
    ∧ (∃ (s : State) (c : Nat) (q : Nat) (t : _) (x : _) (w : _) (f : _), s.start.held = false ∧ q < s.nQuays ∧ t < 8 ∧ (s.get (QY_TND_CTL_EN q)).testBit t = true ∧
        (s.begin_ c).nextWork q t = some (w, f) ∧ (s.tender q t).cur = some x ∧ x.fore = false ∧ w.fore = true ∧ s.get (QY_TND_STAT_STATE q t) = 3)
    ∧ (∃ (s : State) (q : Nat) (t : _) (w : _), s.start.held = false ∧ q < s.nQuays ∧ t < 8 ∧ (s.tender q t).cur = some w)
    ∧ (∃ (s : State) (q : Nat) (t : _) (d : _), s.start.held = false ∧ q < s.nQuays ∧ t < 8 ∧ (s.tender q t).cur = some (.ring d) ∧ srcStore (wType d) = false)
    ∧ (∃ (s : State) (c : Nat) (q : Nat) (t : _) (d : _), s.start.held = false ∧ q < s.nQuays ∧ t < 8 ∧ (s.quay q).tagWaits.any (fun w => w.client = t + 3) = true ∧
        (s.tender q t).cur = some (.ring d) ∧ (s.begin_ c).tagStop q d = none)
    ∧ (∃ (s : State) (c : Nat) (q : Nat) (a : _) (l : _), s.start.held = false ∧ q < s.nQuays ∧ (s.quay q).coreWait = a :: l ∧ (s.begin_ c).coreStops q a = none)
    ∧ (∃ (s : State) (c : Nat) (q : Nat) (t : _) (w : _) (d : _), s.start.held = false ∧ q < s.nQuays ∧ (s.quay q).tagWaits.find? (fun w => decide (w.client = t + 3)
        && decide ((s.get (QY_STORE_CTL_TAG_WAIT_CC q) : Int) ≤ (s.begin_ c).since w.since)) = some w ∧ (s.tender q t).cur = some (.ring d))
    ∧ (∃ (s : State) (c : Nat) (q : Nat) (client : _) (w : _), s.start.held = false ∧ q < s.nQuays ∧ (s.quay q).tagWaits.find? (fun w => decide (w.client = client) &&
        decide ((s.get (QY_STORE_CTL_TAG_WAIT_CC q) : Int) ≤ (s.begin_ c).since w.since)) = some w)
    ∧ (∃ (s : State) (q : Nat), s.start.held = false ∧ q < s.nQuays ∧ (s.quay q).coreWait = []) :=
  ⟨⟨quay0 fun t => { t with tenders := [(7, { Tender.idle with queue := [.berth 0] })] }, 0, 0, 7, .berth 0, 0, by decide⟩,
   ⟨(quay0 fun t => { t with tenders := [(7, { Tender.idle with queue := [.berth 0], cur := some (.test 0 []) })] }).put (QY_TND_STAT_STATE 0 7) 3, 0, 0, 7, .test 0
        [], .berth 0, 0, by decide⟩,
   ⟨quay0 fun t => { t with tenders := [(7, { Tender.idle with cur := some (.berth 0) })] }, 0, 7, .berth 0, by decide⟩,
   ⟨quay0 fun t => { t with tenders := [(7, { Tender.idle with cur := some (.ring [0, 0, 0, 0, 0, 0, 0, 0]) })] }, 0, 7, [0, 0, 0, 0, 0, 0, 0, 0], by decide⟩,
   ⟨quay0 fun t => { t with tenders := [(7, { Tender.idle with cur := some (.ring [0, 0, 0, 0, 0, 0, 0, 0]) })], tagWaits := [⟨10, 0, 0, [], ⟨0, 0, 0⟩⟩] }, 0, 0, 7,
        [0, 0, 0, 0, 0, 0, 0, 0], by decide⟩,
   ⟨quay0 fun t => { t with coreWait := [.syncStore 64 0] }, 0, 0, .syncStore 64 0, [], by decide⟩,
   ⟨{ (quay0 fun t => { t with tenders := [(7, { Tender.idle with cur := some (.ring [0, 0, 0, 0, 0, 0, 0, 0]) })], tagWaits := [⟨10, 0, 0, [], ⟨0, 0, 0⟩⟩] }) with
        time.tick := 1000000 }, 0, 0, 7, ⟨10, 0, 0, [], ⟨0, 0, 0⟩⟩, [0, 0, 0, 0, 0, 0, 0, 0], by decide⟩,
   ⟨{ (quay0 fun t => { t with tagWaits := [⟨2, 0, 0, [], ⟨0, 0, 0⟩⟩] }) with time.tick := 1000000 }, 0, 0, 2, ⟨2, 0, 0, [], ⟨0, 0, 0⟩⟩, by decide⟩,
   ⟨s0, 63, by decide⟩⟩

theorem witness_StoreCompletes :
    (∃ (s : State) (q : Nat) (b : Nat), s.start.held = false ∧ q < s.nQuays ∧ s.flag (QY_STORE_CTL_SCRUB_EN q) = true ∧ s.scrubbed q b = true)
    ∧ (∃ (s : State) (q : Nat) (b : Nat), s.start.held = false ∧ q < s.nQuays ∧ tabGet (fun _ => 0) (s.quay q).scrubTick b + s.get (QY_STORE_CTL_FORCE_TICKS q) ≤
        s.time.tick)
    ∧ (∃ (s : State) (q : Nat), s.start.held = false ∧ q < s.nQuays ∧ s.pageReady (qyAddr q 0x8160) = true ∧ s.pageEn (qyAddr q 0x8160) = true)
    ∧ (∃ (s : State) (c : Nat) (q : Nat) (b : Nat), s.start.held = false ∧ q < s.nQuays ∧ (s.begin_ c).repairing q = false ∧ 32 ≤ ((s.quay q).repairs.filter (fun x =>
        decide (x.1 = b % 32))).length)
    ∧ (∃ (s : State) (c : Nat) (q : Nat) (b : Nat) (row : _), s.start.held = false ∧ q < s.nQuays ∧ (s.begin_ c).repairing q = false ∧ ((s.quay q).repairs.filter (fun
        x => decide (x.1 = b % 32))).length < 32 ∧ (List.range 8).any (fun i => tabGet (fun _ => false) (s.quay q).badWords (b % 32 * bankBytes + 64 * (row % 2 ^ 13) +
        8 * i)) = false)
    ∧ (∃ (s : State) (q : Nat) (b : Nat) (req : _), s.start.held = false ∧ q < s.nQuays ∧ b < s.banks q ∧ req < 4 ∧ req ≠ 1 ∧ s.pageReady (QY_STORE_BANK_REQ q b).reg =
        true ∧ s.pageEn (QY_STORE_BANK_REQ q b).reg = true ∧ s.isOpen = false)
    ∧ (∃ (s : State) (q : Nat) (b : Nat), s.start.held = false ∧ q < s.nQuays ∧ s.bankState q b = bkDrain ∧ s.get (QY_STORE_BANK_INFLIGHT q b) = 0 ∧ s.get
        (QY_STORE_BANK_REQ q b) = 2)
    ∧ (∃ (s : State) (q : Nat) (b : Nat), s.start.held = false ∧ q < s.nQuays ∧ s.bankState q b = bkDrain ∧ s.get (QY_STORE_BANK_INFLIGHT q b) = 0 ∧ s.get
        (QY_STORE_BANK_REQ q b) = 3)
    ∧ (∃ (s : State) (c : Nat) (q : Nat) (b : Nat), s.start.held = false ∧ q < s.nQuays ∧ s.bankState q b = bkWake ∧ (220 : Int) ≤ (s.begin_ c).since (tabGet (fun _ =>
        ⟨0, 0, 0⟩) (s.quay q).bankAt b))
    ∧ (∃ (s : State) (c : Nat) (q : Nat) (b : Nat), s.start.held = false ∧ q < s.nQuays ∧ s.bankState q b = bkInit ∧ (1100 + 8224 : Int) ≤ (s.begin_ c).since (tabGet
        (fun _ => ⟨0, 0, 0⟩) (s.quay q).bankAt b)) :=
  ⟨⟨(s0.put (QY_STORE_CTL_SCRUB_EN 0) 1).put (QY_STORE_BANK_STATE 0 0) bkOn, 0, 0, by decide⟩,
   ⟨{ s0 with time.tick := 1000000000000 }, 0, 0, by decide⟩,
   ⟨served (qyAddr 63 0x8160) s0, 63, by decide⟩,
   ⟨quay0 fun t => { t with repairs := (List.range 32).map (fun r => (0, r)) }, 0, 0, 0, by decide⟩,
   ⟨quay0 fun t => { t with repairs := (List.range 31).map (fun r => (0, r)) }, 0, 0, 0, 8191, by decide⟩,
   ⟨served (QY_STORE_BANK_REQ 63 0).reg s0, 63, 0, 3, by decide⟩,
   ⟨(s0.put (QY_STORE_BANK_STATE 0 0) bkDrain).put (QY_STORE_BANK_REQ 0 0) 2, 0, 0, by decide⟩,
   ⟨(s0.put (QY_STORE_BANK_STATE 0 0) bkDrain).put (QY_STORE_BANK_REQ 0 0) 3, 0, 0, by decide⟩,
   ⟨{ s0.put (QY_STORE_BANK_STATE 0 0) bkWake with time.tick := 1 }, 0, 0, 0, by decide⟩,
   ⟨{ s0.put (QY_STORE_BANK_STATE 0 0) bkInit with time.tick := 2 }, 0, 0, 0, by decide⟩⟩

theorem witness_RingsWindowsComplete :
    (∃ (s : State) (q : _), s.start.held = false ∧ q < s.nQuays ∧ s.pageReady (QY_RING_OP q) = true ∧ s.pageEn (QY_RING_OP q) = true)
    ∧ (∃ (s : State) (q : _), s.start.held = false ∧ q < s.nQuays ∧ s.isOpen = true)
    ∧ (∃ (s : State) (a : _) (size : _), s.start.held = false ∧ s.hportUp = true ∧ s.isArmed 0 0 22 = false ∧ sizeOk a size = true ∧ 0x1000000 ≤ a ∧ a < 0x2000000)
    ∧ (∃ (s : State) (q : _) (o : _) (size : _), s.start.held = false ∧ s.hportUp = true ∧ s.isArmed 0 0 22 = false ∧ sizeOk (0x40000000 + q * 0x1000000 + o) size =
        true ∧ q < s.nQuays ∧ o < 0x1000000)
    ∧ (∃ (s : State) (a : _) (size : _), s.start.held = false ∧ s.hportUp = true ∧ sizeOk a size = true ∧ 0x2000000 ≤ a ∧ a < 0x40000000) :=
  ⟨⟨served (QY_RING_OP 63) s0, 63, by decide⟩,
   ⟨inPhase phOpen s0, 63, by decide⟩,
   ⟨ported s0, 0x1FFFFF8, 8, by decide⟩,
   ⟨ported s0, 63, 0xFFFFF8, 8, by decide⟩,
   ⟨ported s0, 0x3FFFFFF8, 8, by decide⟩⟩

theorem witness_SyncCompletes :
    (∃ (s : State) (p : Nat) (owner : _) (idx : _) (t8 : _) (t : _) (target : _), s.start.held = false ∧ s.isTile p = true ∧ s.isOpen = true ∧ s.flag (QY_SYNC_CTL_EN
        owner) = true ∧ idx < 1024 - s.get (QY_SYNC_CTL_RSV owner) ∧ s.reqTick t8 = some t ∧ s.frozenAt owner = none ∧ target % two64 ≤ (s.obj owner idx).cnt.value)
    ∧ (∃ (s : State) (p : Nat) (owner : _) (idx : _) (t8 : _) (t : _) (target : _), s.start.held = false ∧ s.isTile p = true ∧ s.isOpen = true ∧ s.flag (QY_SYNC_CTL_EN
        owner) = true ∧ idx < 1024 - s.get (QY_SYNC_CTL_RSV owner) ∧ s.reqTick t8 = some t ∧ s.frozenAt owner = none ∧ target % two64 ≤ (s.obj owner idx).space)
    ∧ (∃ (s : State) (p : Nat) (owner : _) (idx : _) (t8 : _) (t : _) (target : _), s.start.held = false ∧ s.isTile p = true ∧ s.isOpen = true ∧ s.flag (QY_SYNC_CTL_EN
        owner) = true ∧ idx < 1024 - s.get (QY_SYNC_CTL_RSV owner) ∧ s.reqTick t8 = some t ∧ s.frozenAt owner = none ∧ (s.obj owner idx).cnt.value < target % two64 ∧
        (s.obj owner idx).targets = [])
    ∧ (∃ (s : State) (p : Nat) (owner : _) (idx : _) (t8 : _) (t : _) (target : _), s.start.held = false ∧ s.isTile p = true ∧ s.isOpen = true ∧ s.flag (QY_SYNC_CTL_EN
        owner) = true ∧ idx < 1024 - s.get (QY_SYNC_CTL_RSV owner) ∧ s.reqTick t8 = some t ∧ s.frozenAt owner = none ∧ (s.obj owner idx).space < target % two64 ∧
        (s.obj owner idx).targets = [])
    ∧ (∃ (s : State) (p : Nat) (q : _) (i : _) (e : _), s.start.held = false ∧ s.isTile p = true ∧ q < s.nQuays ∧ s.hawser.forwards.find? (fun e => decide (e.2.2.1 =
        q) && decide (e.2.2.2.1 = i)) = some e ∧ s.frozenAt q = none)
    ∧ (∃ (s : State) (p : Nat) (q : _), s.start.held = false ∧ s.isTile p = true ∧ q < s.nQuays ∧ s.pageReady (QY_SYNC_SEL q) = true ∧ s.pageEn (QY_SYNC_SEL q) = true)
        :=
  ⟨⟨syncing, 0, 0, 0, 0, 0, 0, by decide⟩,
   ⟨syncing, 0, 0, 0, 0, 0, 0, by decide⟩,
   ⟨syncing, 0, 0, 0, 0, 0, 1, by decide⟩,
   ⟨{ syncing with quays := [(0, { QuaySt.idle with objs := [(0, { SyncObj.idle with cnt := { Counter.zero with value := two64 - 1 } })] })] }, 0, 0, 0, 0, 0, two64 -
        1, by decide⟩,
   ⟨{ s0 with hawser.forwards := [(0, 0, 63, 1023, 0, 0)] }, 0, 63, 1023, (0, 0, 63, 1023, 0, 0), by decide⟩,
   ⟨served (QY_SYNC_SEL 63) s0, 0, 63, by decide⟩⟩

theorem witness_GroupsComplete :
    (∃ (s : State) (p : Nat) (t8 : Nat) (t : Nat), s.start.held = false ∧ s.isTile p = true ∧ s.isOpen = true ∧ s.lantern = false ∧ s.flag (QY_SYNC_CTL_EN (quayOf p))
        = true ∧ s.reqTick t8 = some t ∧ s.frozenAt (quayOf p) = none ∧ s.get HM_COMMIT_STAT_CTICK < (s.epochOf t + 1) * 2 ^ s.get HM_HAWSER_CTL_EPOCH_LOG2 - 1)
    ∧ (∃ (s : State) (p : Nat) (t8 : Nat) (t : Nat), s.start.held = false ∧ s.isTile p = true ∧ s.isOpen = true ∧ s.lantern = false ∧ s.flag (QY_SYNC_CTL_EN (quayOf
        p)) = true ∧ s.reqTick t8 = some t ∧ s.frozenAt (quayOf p) = none ∧ (s.epochOf t + 1) * 2 ^ s.get HM_HAWSER_CTL_EPOCH_LOG2 - 1 ≤ s.get HM_COMMIT_STAT_CTICK)
    ∧ (∃ (s : State) (p : Nat) (t8 : Nat) (t : Nat) (g : _) (x : _), s.start.held = false ∧ s.isTile p = true ∧ s.isOpen = true ∧ s.lantern = false ∧ s.flag
        (QY_SYNC_CTL_EN (quayOf p)) = true ∧ s.reqTick t8 = some t ∧ s.frozenAt (quayOf p) = none ∧ s.hawser.groups.find? (fun x => decide (x.2.group = g % 2 ^ 16)) =
        some x)
    ∧ (∃ (s : State) (p : Nat) (t8 : Nat) (t : Nat) (g : _), s.start.held = false ∧ s.isTile p = true ∧ s.isOpen = true ∧ s.lantern = false ∧ s.flag (QY_SYNC_CTL_EN
        (quayOf p)) = true ∧ s.reqTick t8 = some t ∧ s.frozenAt (quayOf p) = none ∧ s.hawser.groups.find? (fun x => decide (x.2.group = g % 2 ^ 16)) = none) :=
  ⟨⟨syncing, 0, 0, 0, by decide⟩,
   ⟨syncing.put HM_COMMIT_STAT_CTICK 1000000, 0, 0, 0, by decide⟩,
   ⟨{ syncing with hawser.groups := [(0, Group.none)] }, 0, 0, 0, 65536, (0, Group.none), by decide⟩,
   ⟨syncing, 0, 0, 0, 0, by decide⟩⟩

theorem witness_FaultsComplete :
    (∃ (s : State) (b : _), s.start.held = false ∧ forceable 0 b = true ∧ b ≠ 9 ∧ b ≠ 25)
    ∧ (∃ (s : State) (q : _) (b : _), s.start.held = false ∧ q < s.nQuays ∧ forceable 1 b = true ∧ b ≠ 17)
    ∧ (∃ (s : State) (p : _) (b : _), s.start.held = false ∧ s.isTile p = true ∧ b ≤ 15 ∧ b ≠ 5)
    ∧ (∃ (s : State) (q : _) (m : _), s.start.held = false ∧ q < s.nQuays ∧ s.bolMsgs.find? (fun m => quayOf m.1 = q) = some m)
    ∧ (∃ (s : State) (n : _), s.start.held = false ∧ s.quayMsgs ≠ [] ∧ 0 < n)
    ∧ (∃ (s : State) (n : _), s.start.held = false ∧ n < 3 ∧ coreCount s.cores = 3)
    ∧ (∃ (s : State), s.start.held = false ∧ s.inLantern = false ∧ coreCount s.cores = 2)
    ∧ (∃ (s : State), s.start.held = false ∧ s.pageReady HM_FAULT_ACK = true ∧ s.pageEn HM_FAULT_ACK = true)
    ∧ (∃ (s : State) (c : Nat), s.start.held = false ∧ s.domain 77 = 2 ∧ (s.begin_ c).setNow HM_FAULT_ALARM = 0) :=
  ⟨⟨s0, 24, by decide⟩,
   ⟨s0, 63, 26, by decide⟩,
   ⟨s0, 983039, 15, by decide⟩,
   ⟨{ s0 with bolMsgs := [(0, 1, false, 0)] }, 0, (0, 1, false, 0), by decide⟩,
   ⟨{ s0 with quayMsgs := [(0, 0, false)] }, 1, by decide⟩,
   ⟨s0.setCores 7, 2, by decide⟩,
   ⟨s0.setCores 3, by decide⟩,
   ⟨served HM_FAULT_ACK s0, by decide⟩,
   ⟨{ s0 with start.domains := [(77, 2)] }, 0, by decide⟩⟩

theorem witness_WatchdogsComplete :
    (∃ (s : State) (q : _), s.start.held = false ∧ q < s.nQuays ∧ q < 64 ∧ s.pageReady HM_FAULT_OP = true ∧ s.pageEn HM_FAULT_OP = true)
    ∧ (∃ (s : State) (c : Nat) (q : _), s.start.held = false ∧ q < s.nQuays ∧ s.quayState q = 0 ∧ (4 * s.tickLen : Int) ≤ (s.begin_ c).since (s.quay q).kickAt)
    ∧ (∃ (s : State) (c : Nat), s.start.held = false ∧ s.inLantern = false ∧ s.flag HM_TRIPLEX_STAT_ABSENT = false ∧ 2 ≤ coreCount s.cores ∧ (4 * s.tickLen : Int) ≤
        (s.begin_ c).since s.commit.kickAt) :=
  ⟨⟨served HM_FAULT_OP s0, 63, by decide⟩,
   ⟨{ s0.put (QY_RST_STAT_STATE 0) 0 with time.tick := 4 }, 0, 0, by decide⟩,
   ⟨{ s0.setCores 3 with time.tick := 4 }, 0, by decide⟩⟩

theorem witness_ResetsComplete :
    (∃ (s : State) (p : _), s.start.held = false ∧ s.isTile p = true ∧ s.role p ≠ roleJob ∧ s.rst.dump = none)
    ∧ (∃ (s : State) (p : _), s.start.held = false ∧ quayOf p < s.nQuays ∧ s.role p ≠ roleJob ∧ s.pageReady HM_RST_OP = true ∧ s.pageEn HM_RST_OP = true ∧ s.flag
        HM_TRIPLEX_STAT_ABSENT = false ∧ s.flag HM_RST_OP_BUSY = false)
    ∧ (∃ (s : State) (q : _) (r1 : _) (r2 : _) (c1 : _) (c2 : _), s.start.held = false ∧ q < s.nQuays ∧ r1 ≤ r2 ∧ r2 ≤ 119 ∧ c1 ≤ c2 ∧ c2 ≤ 127 ∧ s.pageReady HM_RST_OP
        = true ∧ s.pageEn HM_RST_OP = true ∧ s.flag HM_TRIPLEX_STAT_ABSENT = false ∧ s.flag HM_RST_OP_BUSY = false)
    ∧ (∃ (s : State) (c : Nat) (q : _) (reason : _), s.start.held = false ∧ q < s.nQuays ∧ (s.quayState q = 0 ∨ s.quayState q = 4) ∧ (s.begin_ c).resetCause q reason =
        true)
    ∧ (∃ (s : State) (page : _) (o : _), s.start.held = false ∧ (hmPageRows page).isEmpty = false ∧ page < 256 ∧ o < 0x1000)
    ∧ (∃ (s : State) (q : _) (page : _) (o : _), s.start.held = false ∧ q < s.nQuays ∧ (qyPageRows page).isEmpty = false ∧ page < 16 ∧ o < 0x1000)
    ∧ (∃ (s : State) (q : _) (o : _), s.start.held = false ∧ q < s.nQuays ∧ s.rst.orders.find? (fun o => decide (o.1 = q)) = some o)
    ∧ (∃ (s : State) (q : _), s.start.held = false ∧ q < s.nQuays ∧ s.lantern = false ∧ s.start.quaysOk.contains q = true)
    ∧ (∃ (s : State) (q : _), s.start.held = false ∧ q < s.nQuays ∧ s.start.quaysOk.contains q = false ∧ s.start.quaysBad.contains q = false)
    ∧ (∃ (s : State) (q : _), s.start.held = false ∧ q < s.nQuays ∧ (s.quay q).colour = green ∧ s.flag (QY_RST_STAT_ADOPTED q) = true ∧ s.pageReady HM_RST_OP = true ∧
        s.pageEn HM_RST_OP = true ∧ s.flag HM_TRIPLEX_STAT_ABSENT = false ∧ s.flag HM_RST_OP_BUSY = false)
    ∧ (∃ (s : State), s.start.held = false ∧ (s.isOpen = false ∨ s.flag HM_FAULT_CTL_INJECT_L = true) ∧ s.pageReady HM_RST_OP = true ∧ s.pageEn HM_RST_OP = true ∧
        s.flag HM_TRIPLEX_STAT_ABSENT = false ∧ s.flag HM_RST_OP_BUSY = false)
    ∧ (∃ (s : State), s.start.held = false ∧ s.pageReady HM_RST_OP = true ∧ s.pageEn HM_RST_OP = true ∧ s.flag HM_RST_OP_BUSY = false ∧ s.lantern = true ∧ s.get
        HM_RST_STAT_RESTART_STATE ≠ 1)
    ∧ (∃ (s : State), s.start.held = false ∧ s.lantern = true ∧ s.get HM_RST_STAT_RESTART_STATE = 1 ∧ s.rst.keysWanted.all (fun n => (s.get HM_KEY_STAT_LOADED).testBit
        n) = true) :=
  ⟨⟨s0, 0, by decide⟩,
   ⟨served HM_RST_OP s0, 983039, by decide⟩,
   ⟨served HM_RST_OP s0, 63, 0, 119, 0, 127, by decide⟩,
   ⟨{ s0.put (QY_RST_STAT_STATE 0) 0 with time.tick := 4 }, 0, 0, 1, by decide⟩,
   ⟨s0, 0, 8, by decide⟩,
   ⟨s0, 63, 0, 8, by decide⟩,
   ⟨{ s0 with rst.orders := [(63, ⟨0, 0, 0⟩)] }, 63, (63, ⟨0, 0, 0⟩), by decide⟩,
   ⟨{ s0 with start.quaysOk := [63] }, 63, by decide⟩,
   ⟨s0, 63, by decide⟩,
   ⟨(served HM_RST_OP s0).put (QY_RST_STAT_ADOPTED 63) 1, 63, by decide⟩,
   ⟨served HM_RST_OP s0, by decide⟩,
   ⟨(served HM_RST_OP s0).put HM_RST_STAT_LANTERN 1, by decide⟩,
   ⟨{ (s0.put HM_RST_STAT_LANTERN 1).put HM_RST_STAT_RESTART_STATE 1 with rst.keysWanted := [] }, by decide⟩⟩

theorem witness_DumpsComplete :
    (∃ (s : State) (kind : _) (p : _) (q : _), s.start.held = false ∧ 1 ≤ kind ∧ kind ≤ 3 ∧ (kind = 2 → q < s.nQuays) ∧ (kind = 1 → quayOf p < s.nQuays) ∧ s.rst.dump =
        none ∧ s.flag HM_RST_DUMP_HELD = false ∧ s.pageReady HM_RST_OP = true ∧ s.pageEn HM_RST_OP = true ∧ s.flag HM_TRIPLEX_STAT_ABSENT = false ∧ s.flag
        HM_RST_OP_BUSY = false)
    ∧ (∃ (s : State) (d : _) (n : _), s.start.held = false ∧ s.rst.dump = some d ∧ d.staged = false ∧ d.voids.contains n = false)
    ∧ (∃ (s : State) (d : _), s.start.held = false ∧ s.rst.dump = some d ∧ d.staged = true ∧ s.flag HM_LOG_CTL_STORE_EN = true) :=
  ⟨⟨served HM_RST_OP s0, 3, 0, 0, by decide⟩,
   ⟨{ s0 with rst.dump := some dump0 }, dump0, 7, by decide⟩,
   ⟨{ s0.put HM_LOG_CTL_STORE_EN 1 with rst.dump := some { dump0 with staged := true } }, { dump0 with staged := true }, by decide⟩⟩

theorem witness_LogCompletes :
    (∃ (s : State) (c : Nat) (r : _) (l : _) (i : _), s.start.held = false ∧ s.log.scan = false ∧ (s.begin_ c).writerBusy = false ∧ s.logHeld = false ∧ i ≤ 64 ∧
        (s.prod i).claims = r :: l)
    ∧ (∃ (s : State), s.start.held = false ∧ s.log.scan = false ∧ s.flag HM_LOG_CTL_STORE_EN = true ∧ s.logState = lsIdle ∧ s.log.wr = none ∧ s.log.trigger = 0 ∧
        s.fseq + 2047 ≤ s.wseq)
    ∧ (∃ (s : State) (w : _), s.start.held = false ∧ s.log.wr = some w ∧ (w.pf = true ∨ s.log.pf.isSome = true))
    ∧ (∃ (s : State) (w : _), s.start.held = false ∧ s.log.wr = some w ∧ w.pf = false ∧ s.log.pf = none ∧ w.retry = false)
    ∧ (∃ (s : State) (w : _), s.start.held = false ∧ s.log.wr = some w ∧ w.pf = false ∧ s.log.pf = none ∧ w.retry = true)
    ∧ (∃ (s : State) (c : Nat) (m : _), s.start.held = false ∧ s.log.pf = some m ∧ (pfFlushCc : Int) ≤ (s.begin_ c).since m ∧ s.log.wr = none)
    ∧ (∃ (s : State) (c : Nat) (m : _) (w : _), s.start.held = false ∧ s.log.pf = some m ∧ (pfFlushCc : Int) ≤ (s.begin_ c).since m ∧ s.log.wr = some w)
    ∧ (∃ (s : State), s.start.held = false ∧ s.pageReady HM_LOG_CTL = true ∧ s.pageEn HM_LOG_CTL = true ∧ s.logState = lsFailed)
    ∧ (∃ (s : State), s.start.held = false ∧ s.log.scan = true)
    ∧ (∃ (s : State), s.start.held = false ∧ s.pageReady HM_LOG_RSEL = true ∧ s.pageEn HM_LOG_RSEL = true)
    ∧ (∃ (s : State) (n : _) (w : BitVec 64), s.start.held = false ∧ s.log.fetch = some n ∧ w.toNat % 2 ^ 16 ≠ 0) :=
  ⟨⟨{ s0 with log.scan := false, prods := [(64, { ProdQ.idle with claims := [[Rec.empty]] })] }, 0, [Rec.empty], [], 64, by decide⟩,
   ⟨{ ((s0.put HM_LOG_CTL_STORE_EN 1).put HM_LOG_WSEQ_WSEQ 2047).setLogState lsIdle with log.scan := false }, by decide⟩,
   ⟨{ s0 with log.wr := some ⟨true, 0, 1, false, 0⟩ }, ⟨true, 0, 1, false, 0⟩, by decide⟩,
   ⟨{ s0 with log.wr := some ⟨false, 0, 1, false, 0⟩ }, ⟨false, 0, 1, false, 0⟩, by decide⟩,
   ⟨{ s0 with log.wr := some ⟨false, 0, 1, true, 0⟩ }, ⟨false, 0, 1, true, 0⟩, by decide⟩,
   ⟨{ s0 with log.pf := some ⟨0, 0, 0⟩, time.tick := 1000000 }, 0, ⟨0, 0, 0⟩, by decide⟩,
   ⟨{ s0 with log.pf := some ⟨0, 0, 0⟩, log.wr := some ⟨true, 0, 1, false, 0⟩, time.tick := 1000000 }, 0, ⟨0, 0, 0⟩, ⟨true, 0, 1, false, 0⟩, by decide⟩,
   ⟨(served HM_LOG_CTL s0).setLogState lsFailed, by decide⟩,
   ⟨s0, by decide⟩,
   ⟨served HM_LOG_RSEL s0, by decide⟩,
   ⟨{ s0 with log.fetch := some 0 }, 0, 1, by decide⟩⟩

theorem witness_KeysComplete :
    (∃ (s : State), s.start.held = false ∧ s.pageReady HM_LOG_NONCE0 = true ∧ s.flag HM_LOG_CLR_BUSY = false)
    ∧ (∃ (s : State), s.start.held = false ∧ s.pageReady HM_LOG_CLR = true ∧ s.pageEn HM_LOG_CLR = true ∧ s.flag HM_LOG_CLR_BUSY = false)
    ∧ (∃ (s : State) (c : Nat) (k : _), s.start.held = false ∧ s.flag HM_TRIPLEX_STAT_ABSENT = false ∧ s.log.clear = some k ∧ k.verified = false ∧ (s.begin_
        c).clearRefusal k ≠ 0)
    ∧ (∃ (s : State) (k : _), s.start.held = false ∧ s.log.clear = some k ∧ k.verified = true)
    ∧ (∃ (s : State), s.start.held = false ∧ s.pageReady HM_KEY_OP = true ∧ s.pageEn HM_KEY_OP = true ∧ s.flag HM_TRIPLEX_STAT_ABSENT = false ∧ s.lantern = false ∧
        s.flag HM_KEY_OP_BUSY = false ∧ s.get HM_KEY_SEL_SLOT = 0)
    ∧ (∃ (s : State) (n : _), s.start.held = false ∧ n = s.get HM_KEY_SEL_SLOT ∧ 1 ≤ n ∧ n ≤ 4 ∧ s.pageReady HM_KEY_OP = true ∧ s.pageEn HM_KEY_OP = true ∧ s.flag
        HM_TRIPLEX_STAT_ABSENT = false ∧ s.lantern = false ∧ s.flag HM_KEY_OP_BUSY = false)
    ∧ (∃ (s : State) (slot : _) (k : _), s.start.held = false ∧ s.keys.coming = some (slot, k))
    ∧ (∃ (s : State), s.start.held = false ∧ s.pageReady HM_KEY_OP = true ∧ s.pageEn HM_KEY_OP = true ∧ s.flag HM_TRIPLEX_STAT_ABSENT = false ∧ s.get HM_KEY_SEL_SLOT <
        5) :=
  ⟨⟨served HM_LOG_NONCE0 s0, by decide⟩,
   ⟨served HM_LOG_CLR s0, by decide⟩,
   ⟨{ s0 with log.clear := some ⟨0, 0, 0, none, 0, none, false⟩ }, 0, ⟨0, 0, 0, none, 0, none, false⟩, by decide⟩,
   ⟨{ s0 with log.clear := some ⟨0, 0, 0, none, 0, none, true⟩ }, ⟨0, 0, 0, none, 0, none, true⟩, by decide⟩,
   ⟨served HM_KEY_OP s0, by decide⟩,
   ⟨(served HM_KEY_OP s0).put HM_KEY_SEL_SLOT 4, 4, by decide⟩,
   ⟨{ s0 with keys.coming := some (4, 1) }, 4, 1, by decide⟩,
   ⟨(served HM_KEY_OP s0).put HM_KEY_SEL_SLOT 4, by decide⟩⟩

theorem witness_PowerUpCompletes :
    (∃ (s : State), s.start.held = true)
    ∧ (∃ (s : State) (c : Nat) (d : _), s.start.held = false ∧ s.populated d = true ∧ s.domain d = 0 ∧ s.domainSlate d = false ∧ (s.begin_ c).domainRested d 2200 =
        true)
    ∧ (∃ (s : State) (c : Nat) (d : _), s.start.held = false ∧ s.domain d = 1 ∧ (s.begin_ c).domainRested d 1100 = true ∧ d ≠ 79)
    ∧ (∃ (s : State) (c : Nat), s.start.held = false ∧ s.domain 79 = 1 ∧ (s.begin_ c).domainRested 79 1100 = true)
    ∧ (∃ (s : State) (pass : _), s.start.held = false ∧ s.phaseNo = phSelftest ∧ 2 ≤ coreCount (pass % 8))
    ∧ (∃ (s : State) (pass : _), s.start.held = false ∧ s.phaseNo = phSelftest ∧ coreCount (pass % 8) < 2)
    ∧ (∃ (s : State), s.start.held = false ∧ s.pageReady HM_TRIPLEX_OP = true ∧ s.pageEn HM_TRIPLEX_OP = true ∧ s.flag HM_TRIPLEX_STAT_ABSENT = false ∧ s.flag
        HM_TRIPLEX_OP_BUSY = false ∧ s.phaseNo = phWaitImage)
    ∧ (∃ (s : State), s.start.held = false ∧ s.phaseNo = phLoading ∧ s.quaysTested = true) :=
  ⟨⟨{ s0 with start.held := true }, by decide⟩,
   ⟨s0, 0, 79, by decide⟩,
   ⟨{ s0 with start.domains := [(78, 1)] }, 0, 78, by decide⟩,
   ⟨{ s0 with start.domains := [(79, 1)] }, 0, by decide⟩,
   ⟨s0, 3, by decide⟩,
   ⟨s0, 4, by decide⟩,
   ⟨inPhase phWaitImage (served HM_TRIPLEX_OP s0), by decide⟩,
   ⟨inPhase phLoading { s0 with start.quaysBad := List.range 64 }, by decide⟩⟩

theorem witness_StartUpCompletes :
    (∃ (s : State), s.start.held = false ∧ s.pageReady HM_TRIPLEX_OP = true ∧ s.pageEn HM_TRIPLEX_OP = true ∧ s.flag HM_TRIPLEX_STAT_ABSENT = false ∧ s.flag
        HM_TRIPLEX_OP_BUSY = false ∧ (s.phaseNo = phConfig ∨ s.phaseNo = phReady))
    ∧ (∃ (s : State), s.start.held = false ∧ s.pageReady HM_TRIPLEX_OP = true ∧ s.pageEn HM_TRIPLEX_OP = true ∧ s.flag HM_TRIPLEX_STAT_ABSENT = false ∧ s.flag
        HM_TRIPLEX_OP_BUSY = false ∧ s.phaseNo = phConfig ∧ s.start.prep.testBit 2 = true ∧ s.time.epoch = false)
    ∧ (∃ (s : State), s.start.held = false ∧ s.pageReady HM_TRIPLEX_OP = true ∧ s.pageEn HM_TRIPLEX_OP = true ∧ s.flag HM_TRIPLEX_STAT_ABSENT = false ∧ s.flag
        HM_TRIPLEX_OP_BUSY = false ∧ s.phaseNo = phConfig ∧ s.time.epoch = true)
    ∧ (∃ (s : State), s.start.held = false ∧ s.pageReady HM_TRIPLEX_OP = true ∧ s.pageEn HM_TRIPLEX_OP = true ∧ s.flag HM_TRIPLEX_STAT_ABSENT = false ∧ s.flag
        HM_TRIPLEX_OP_BUSY = false ∧ s.phaseNo = phReady)
    ∧ (∃ (s : State), s.start.held = false ∧ s.pageReady HM_TRIPLEX_OP = true ∧ s.pageEn HM_TRIPLEX_OP = true ∧ s.flag HM_TRIPLEX_STAT_ABSENT = false ∧ s.flag
        HM_TRIPLEX_OP_BUSY = false ∧ s.phaseNo = phOpen ∧ s.cmState = cmHalted)
    ∧ (∃ (s : State), s.start.held = false ∧ s.pageReady HM_TRIPLEX_OP = true ∧ s.pageEn HM_TRIPLEX_OP = true ∧ s.flag HM_TRIPLEX_STAT_ABSENT = false ∧ s.flag
        HM_TRIPLEX_OP_BUSY = false ∧ s.phaseNo = phOpen ∧ s.cmState ≠ cmHalted)
    ∧ (∃ (s : State), s.start.held = false ∧ s.pageReady HM_TRIPLEX_OP = true ∧ s.pageEn HM_TRIPLEX_OP = true ∧ s.flag HM_TRIPLEX_STAT_ABSENT = false ∧ s.flag
        HM_TRIPLEX_OP_BUSY = false ∧ s.phaseNo ≠ phOpen)
    ∧ (∃ (s : State), s.start.held = false ∧ s.pageReady HM_TRIPLEX_OP = true ∧ s.pageEn HM_TRIPLEX_OP = true ∧ s.flag HM_TRIPLEX_STAT_ABSENT = false ∧ s.flag
        HM_TRIPLEX_OP_BUSY = false ∧ s.phaseNo ≠ phConfig)
    ∧ (∃ (s : State), s.start.held = false ∧ s.pageReady HM_TRIPLEX_OP = true ∧ s.pageEn HM_TRIPLEX_OP = true ∧ s.flag HM_TRIPLEX_STAT_ABSENT = false ∧ s.flag
        HM_TRIPLEX_OP_BUSY = false ∧ s.phaseNo ≠ phReady)
    ∧ (∃ (s : State), s.start.held = false ∧ s.pageReady HM_TRIPLEX_OP = true ∧ s.pageEn HM_TRIPLEX_OP = true ∧ s.flag HM_TRIPLEX_STAT_ABSENT = false ∧ s.flag
        HM_TRIPLEX_OP_BUSY = true ∧ s.start.opening = 1)
    ∧ (∃ (s : State), s.start.held = false ∧ s.start.opening = 2 ∧ s.time.tick = s.commit.openTick) :=
  ⟨⟨inPhase phConfig (served HM_TRIPLEX_OP s0), by decide⟩,
   ⟨{ inPhase phConfig (served HM_TRIPLEX_OP s0) with start.prep := 4 }, by decide⟩,
   ⟨{ inPhase phConfig (served HM_TRIPLEX_OP s0) with time.epoch := true }, by decide⟩,
   ⟨inPhase phReady (served HM_TRIPLEX_OP s0), by decide⟩,
   ⟨(inPhase phOpen (served HM_TRIPLEX_OP s0)).put HM_COMMIT_STAT_STATE cmHalted, by decide⟩,
   ⟨(inPhase phOpen (served HM_TRIPLEX_OP s0)).put HM_COMMIT_STAT_STATE cmRun, by decide⟩,
   ⟨served HM_TRIPLEX_OP s0, by decide⟩,
   ⟨served HM_TRIPLEX_OP s0, by decide⟩,
   ⟨served HM_TRIPLEX_OP s0, by decide⟩,
   ⟨{ (served HM_TRIPLEX_OP s0).put HM_TRIPLEX_OP_BUSY 1 with start.opening := 1 }, by decide⟩,
   ⟨{ s0 with start.opening := 2 }, by decide⟩⟩

theorem witness_UpdateCompletes :
    (∃ (s : State), s.start.held = false ∧ s.pageReady HM_TRIPLEX_OP = true ∧ s.pageEn HM_TRIPLEX_OP = true ∧ s.flag HM_TRIPLEX_STAT_ABSENT = false ∧ s.flag
        HM_TRIPLEX_OP_BUSY = false ∧ s.phaseNo = phOpen)
    ∧ (∃ (s : State), s.start.held = false ∧ s.start.upd = 1)
    ∧ (∃ (s : State), s.start.held = false ∧ s.start.upd = 2)
    ∧ (∃ (s : State) (i : _), s.start.held = false ∧ s.start.loading = some i ∧ s.start.upd = 3 ∧ (s.isOpen = false ∨ (s.ctick + 2 = s.jt ∧ s.commit.inRecall = none ∧
        s.cmState = cmRun)))
    ∧ (∃ (s : State), s.start.held = false ∧ s.start.upd = 4 ∧ s.start.pause = none ∧ s.start.reloadAt ≠ some s.time.tick)
    ∧ (∃ (s : State) (n : _), s.start.held = false ∧ s.mayRejoin n = true ∧ s.start.upd ≠ 5) :=
  ⟨⟨inPhase phOpen (served HM_TRIPLEX_OP s0), by decide⟩,
   ⟨{ s0 with start.upd := 1 }, by decide⟩,
   ⟨{ s0 with start.upd := 2 }, by decide⟩,
   ⟨{ s0 with start.upd := 3, start.loading := some ⟨1, 1, 1⟩ }, ⟨1, 1, 1⟩, by decide⟩,
   ⟨{ s0 with start.upd := 4, start.reload := 62 }, by decide⟩,
   ⟨{ s0.setCores 3 with start.domains := [(66, 2)] }, 2, by decide⟩⟩

theorem witness_LockstepCompletes :
    (∃ (s : State), s.start.held = false ∧ s.pageReady HM_LOCKSTEP_CTL = true ∧ s.pageEn HM_LOCKSTEP_CTL = true ∧ s.phaseNo = phReady ∧ s.flag HM_LOCKSTEP_CTL_EN =
        true ∧ s.lockState ∉ [lkStarting, lkRunning, lkDrilling])
    ∧ (∃ (s : State), s.start.held = false ∧ s.lockState = lkStarting ∧ s.lock.peerStart = none ∧ s.lock.started + s.get HM_TIME_TPS_TPS ≤ s.time.tick)
    ∧ (∃ (s : State), s.start.held = false ∧ s.pageReady HM_LOCKSTEP_CTL = true ∧ s.pageEn HM_LOCKSTEP_CTL = true ∧ s.lockState ∈ [lkStarting, lkRunning, lkDrilling] ∧
        s.hawser.hw2 ≠ 2)
    ∧ (∃ (s : State) (l : _) (k : _), s.start.held = false ∧ s.lock.contribs.find? (fun c => decide (c.lcore = l)) = some k ∧ s.commit.inRecall = none ∧ s.lockLowest
        (s.homeQuay l) ≤ k.step ∧ k.step < s.lockLowest (s.homeQuay l) + 16)
    ∧ (∃ (s : State) (q : _) (d : _), s.start.held = false ∧ q < s.nQuays ∧ s.lock.digests.find? (fun d => decide (d.1 = q)) = some d)
    ∧ (∃ (s : State) (qs : _), s.start.held = false ∧ s.lockState = lkRunning ∧ s.lock.resend = [] ∧ s.stepQuays s.lock.sendNext = some qs ∧ s.lock.sendNext <
        s.lock.next + 255 ∧ (s.stepDone s.lock.sendNext).2 ≠ s.time.tick)
    ∧ (∃ (s : State) (r : _) (l : _), s.start.held = false ∧ s.lockState = lkRunning ∧ s.lock.resend = r :: l ∧ s.lock.sentAt ≠ s.time.tick)
    ∧ (∃ (s : State), s.start.held = false ∧ (s.lockState = lkRunning ∨ s.lockState = lkDrilling))
    ∧ (∃ (s : State), s.start.held = false ∧ (s.lockState = lkRunning ∨ s.lockState = lkDrilling)) :=
  ⟨⟨(inPhase phReady (served HM_LOCKSTEP_CTL s0)).put HM_LOCKSTEP_CTL_EN 1, by decide⟩,
   ⟨{ s0.put HM_LOCKSTEP_STAT_STATE lkStarting with time.tick := 125000 }, by decide⟩,
   ⟨(served HM_LOCKSTEP_CTL s0).put HM_LOCKSTEP_STAT_STATE lkRunning, by decide⟩,
   ⟨{ s0 with lock.contribs := [⟨0, 15, 1, 0⟩] }, 0, ⟨0, 15, 1, 0⟩, by decide⟩,
   ⟨{ s0 with lock.digests := [(63, 0, 0)] }, 63, (63, 0, 0), by decide⟩,
   ⟨{ s0.put HM_LOCKSTEP_STAT_STATE lkRunning with sp := { Straps.reference with variant := .w1 }, lock.own := [(0, some 7)], time.tick := 5 }, [7], by decide⟩,
   ⟨{ s0.put HM_LOCKSTEP_STAT_STATE lkRunning with lock.resend := [(0, 0, [])], time.tick := 5 }, (0, 0, []), [], by decide⟩,
   ⟨s0.put HM_LOCKSTEP_STAT_STATE lkDrilling, by decide⟩,
   ⟨s0.put HM_LOCKSTEP_STAT_STATE lkRunning, by decide⟩⟩

theorem witness_HostPortCompletes :
    (∃ (s : State) (c : Nat) (i : Instr) (op : Nat) (args : List Nat), s.start.held = false ∧ (i = .ping c args ∧ op = cmdPing ∨ i = .bolRead c args ∧ op = cmdBolRead
        ∨ i = .lmRead c args ∧ op = cmdLmRead ∨ i = .manifestCheck c args ∧ op = cmdManifestCheck ∨ i = .syncDump c args ∧ op = cmdSyncDump ∨ i = .pmbusRead c args ∧
        op = cmdPmbusRead ∨ i = .cmdBadOp c op args) ∧ s.pageReady HM_CMD_GO = true ∧ s.pageEn HM_CMD_GO = true ∧ phConfig ≤ s.phaseNo ∧ s.phaseNo ≠ phFailed ∧
        s.lantern = false ∧ s.flag HM_CMD_STATUS_BUSY = false)
    ∧ (∃ (s : State) (k : _) (r : _), s.start.held = false ∧ s.cmd = some k ∧ k.result = some r ∧ s.lantern = false ∧ s.flag HM_TRIPLEX_STAT_ABSENT = false)
    ∧ (∃ (s : State) (k : _), s.start.held = false ∧ s.cmd = some k ∧ k.result = none ∧ k.op ≠ cmdPmbusRead ∧ s.lantern = false ∧ s.flag HM_TRIPLEX_STAT_ABSENT = false
        ∧ s.cmdRefusal k = 0)
    ∧ (∃ (s : State) (k : _), s.start.held = false ∧ s.cmd = some k ∧ k.result = none ∧ k.op ≠ cmdPmbusRead ∧ s.lantern = false ∧ s.flag HM_TRIPLEX_STAT_ABSENT = false
        ∧ s.cmdRefusal k ≠ 0)
    ∧ (∃ (s : State) (seg : _) (kind : _), s.start.held = false ∧ kind ≠ 0 ∧ s.isOpen = false ∧ seg ∉ s.start.segments)
    ∧ (∃ (s : State) (kind : _), s.start.held = false ∧ kind ≠ 0 ∧ s.start.opening ≠ 3)
    ∧ (∃ (s : State) (a : _) (size : _), s.start.held = false ∧ s.hportUp = true ∧ s.isArmed 0 0 22 = false ∧ (a < 0x40000 ∨ (0x100000 ≤ a ∧ a < 0x100000 + s.nQuays *
        0x10000 ∧ a < 0x1000000)) ∧ 4 ≤ size ∧ sizeOk a size = true)
    ∧ (∃ (s : State) (a : _) (size : _), s.start.held = false ∧ s.hportUp = true ∧ s.isArmed 0 0 22 = false ∧ 0x40000 ≤ a ∧ a < 0x100000 ∧ sizeOk a size = true) :=
  ⟨⟨inPhase phConfig (served HM_CMD_GO s0), 0, .ping 0 [], cmdPing, [], by decide⟩,
   ⟨{ s0 with cmd := some ⟨1, [], some 0, []⟩ }, ⟨1, [], some 0, []⟩, 0, by decide⟩,
   ⟨{ s0 with cmd := some ⟨cmdPing, [], none, []⟩ }, ⟨cmdPing, [], none, []⟩, by decide⟩,
   ⟨{ s0 with cmd := some ⟨0, [], none, []⟩ }, ⟨0, [], none, []⟩, by decide⟩,
   ⟨s0, 0, 1, by decide⟩,
   ⟨s0, 1, by decide⟩,
   ⟨ported s0, 0x4FFFFC, 4, by decide⟩,
   ⟨ported s0, 0xFFFFF, 1, by decide⟩⟩

/-- The chain of a quay after reset has a position that has not reported. -/
theorem witness_ReportChainCompletes_tally :
    ∃ (s : State) (l : Nat) (rest : List Nat), s.start.held = false ∧ 0 < s.nQuays ∧ (s.reporting 0).filter (fun l => !(s.quay 0).got.contains l) = l :: rest := by
  have h : 0 ∈ (s0.reporting 0).filter (fun l => !(s0.quay 0).got.contains l) := by
    simp only [State.reporting, List.mem_filter, List.mem_range]
    decide
  exact ⟨s0, _, _, by decide, by decide, (List.cons_head?_tail (List.head?_eq_some_head (List.ne_nil_of_mem h))).symm⟩

/-- A clear whose token is the right one is not refused. -/
theorem witness_KeysComplete_clear : ∃ (s : State) (c : Nat) (k : ClearSt), s.start.held = false ∧ s.flag HM_TRIPLEX_STAT_ABSENT = false ∧ s.log.clear = some k
    ∧ k.verified = false ∧ (s.begin_ c).clearRefusal k = 0 :=
  let k : ClearSt := ⟨0, 0, Config.hmacSha256 1 (clearMessage 2 0 0 0), some 1, 0, some 2, false⟩
  ⟨{ s0.put HM_LOG_WSEQ_WSEQ 1 with log.clear := some k }, 0, k, by decide, by decide, rfl, rfl, if_pos rfl⟩

/-- An image whose header and sizes are right, staged in the harbour store, with all control cores in use in CONFIG. -/
def imaged : State :=
  { (((inPhase phConfig (served HM_TRIPLEX_OP s0)).setCores 7).put HM_TRIPLEX_IMG_LEN 512) with
    mem := [(0x1000000, 0x52), (0x1000001, 0x4E), (0x1000002, 0x4F), (0x1000003, 0x4C), (0x1000004, 1), (0x100000A, 0xFF)] }

/-- Such an image begins an update, whatever its signature: that is judged when core 2 has loaded it (R585, R599). -/
theorem witness_UpdateCompletes_image : ∃ (s : State) (n : Nat), s.start.held = false ∧ (n = phConfig ∨ n = phReady ∨ n = phOpen) ∧ s.pageReady HM_TRIPLEX_OP = true
    ∧ s.pageEn HM_TRIPLEX_OP = true ∧ s.flag HM_TRIPLEX_STAT_ABSENT = false ∧ s.flag HM_TRIPLEX_OP_BUSY = false ∧ s.phaseNo = n ∧ s.cores = 7 ∧ s.lantern = false
    ∧ (s.imgHead s.staged).hoMin ≤ s.get HM_TRIPLEX_VER_HO_OUT ∧ s.get HM_TRIPLEX_VER_HO_OUT ≤ (s.imgHead s.staged).hoOut
    ∧ s.imageResult s.staged ≠ 2 ∧ s.imageResult s.staged ≠ 3 := by
  refine ⟨imaged, phConfig, by decide, by decide, by decide, by decide, by decide, by decide, by decide, by decide, by decide, by decide, by decide, ?_⟩
  unfold State.imageResult
  simp only []
  rw [if_neg (by decide), if_neg (by decide), if_neg (by decide)]
  split
  · decide
  · split <;> decide

/-! ### The hypotheses of the general statements -/

theorem witness_StepRunsFront : ∃ (s : State) (c : Instr) (l : List Instr), s.pending = c :: l := ⟨{ s0 with pending := [.commitApply] }, .commitApply, [], rfl⟩

theorem witness_EmptyQueueIdles : ∃ s : State, s.pending = [] := ⟨s0, rfl⟩

theorem witness_HeldDoesNothing : ∃ (c : Instr) (s : State), s.start.held = true ∧ c ≠ .powerOnReset ∧ c ≠ .resetRelease :=
  ⟨.commitApply, { s0 with start.held := true }, by decide⟩

theorem witness_HeldRunChangesNothing : ∃ (n : Nat) (s : State), s.start.held = true ∧ n ≤ s.pending.length ∧ (∀ c ∈ s.pending.take n, c ≠ .powerOnReset ∧ c ≠ .resetRelease) ∧ 0 < n :=
  ⟨2, { s0 with start.held := true, pending := [.commitApply, .rootDecide, .resetRelease] }, by decide⟩

theorem witness_PinsAlwaysFollow : ∃ s t : State, s.PinsFollow ∧ s.AlarmsFollow ∧ step s = .next t :=
  ⟨s0, s0, by unfold State.PinsFollow; decide, by unfold State.AlarmsFollow; decide, rfl⟩

theorem witness_LogInterrupt : ∃ (c : Instr) (s t : State), exec c s = .next t := ⟨.powerOnReset, s0, _, rfl⟩

/-- An address of each unmapped range, at its ends. -/
theorem witness_UnmappedAddresses : ∀ a ∈ [0x40000, 0xFFFFF, 0x500000, 0xFFFFFF, 0x2000000, 0x3FFFFFFF, 0x80000000], ∃ (s : State) (size : Nat), s.start.held = false ∧ s.hportUp = true
    ∧ s.isArmed 0 0 22 = false ∧ sizeOk a size = true
    ∧ (0x40000 ≤ a ∧ a < 0x100000 ∨ 0x100000 + s.nQuays * 0x10000 ≤ a ∧ a < 0x1000000 ∨ 0x2000000 ≤ a ∧ a < 0x40000000 ∨ 0x40000000 + s.nQuays * 0x1000000 ≤ a) := by
  intro a ha
  refine ⟨ported s0, 1, by decide, by decide, by decide, by revert a; decide, by revert a; decide⟩

theorem witness_QuayStoreWindow : ∃ (s : State) (q o : Nat), s.start.held = false ∧ s.hportUp = true ∧ s.isArmed 0 0 22 = false ∧ q < s.nQuays ∧ o < 0x1000000
    ∧ sizeOk (0x40000000 + q * 0x1000000 + o) 8 = true ∧ s.storeBytes q ≤ o :=
  ⟨(ported s0).put (QY_STORE_SIZE_BYTES 63) 0x400000, 63, 0x400000, by decide⟩

theorem witness_HostGate :
    (∃ (s : State) (a : Nat), s.start.held = false ∧ a = HM_COMMIT_OP ∧ s.pageReady a = false)
    ∧ (∃ (s : State) (a : Nat), s.start.held = false ∧ a = HM_COMMIT_OP ∧ s.pageReady a = true ∧ s.pageEn a = false) :=
  ⟨⟨s0, HM_COMMIT_OP, by decide⟩, ⟨(served HM_COMMIT_OP s0).setWord (HM_COMMIT_OP / 0x1000 * 0x1000 + 8) 0, HM_COMMIT_OP, by decide⟩⟩

/-- LOAD outside WAIT_IMAGE, and UPDATE in TESTING, between two phases that allow it. -/
theorem witness_PhaseRefusals :
    ∃ s : State, s.start.held = false ∧ s.pageReady HM_TRIPLEX_OP = true ∧ s.pageEn HM_TRIPLEX_OP = true ∧ s.flag HM_TRIPLEX_STAT_ABSENT = false
      ∧ s.flag HM_TRIPLEX_OP_BUSY = false ∧ s.phaseNo ∉ [phWaitImage] ∧ s.phaseNo ∉ [phConfig, phReady, phOpen] := ⟨inPhase phTesting (served HM_TRIPLEX_OP s0), by decide⟩

theorem witness_CoreErrorPulls :
    (∃ (s : State) (p b : Nat), s.start.held = false ∧ s.isTile p = true ∧ s.cdomOk p = true ∧ b % 16 ≠ 0 ∧ s.reportsFull p = true ∧ (s.word (BOL_OPEN p)).toNat.testBit cCore = false)
    ∧ (∃ (s : State) (p b : Nat), s.start.held = false ∧ s.isTile p = true ∧ s.cdomOk p = true ∧ b % 16 ≠ 0 ∧ s.reportsFull p = false ∧ s.migratesTo p = false) :=
  ⟨⟨{ s0 with regs := [(BOL_CTL 0, 1), (BOL_CDOM 0, 6)] }, 0, 15, by decide⟩, ⟨good s0, 0, 1, by decide⟩⟩

theorem witness_LinkLossPulls :
    (∃ (s : State) (p m : Nat), s.start.held = false ∧ s.isTile p = true ∧ (∃ i, i < 4 ∧ m.testBit i = true ∧ (s.get (BOL_RTR_DOWN p)).testBit i = false)
        ∧ s.reportsFull p = true ∧ (s.word (BOL_OPEN p)).toNat.testBit cLink = false)
    ∧ (∃ (s : State) (p m : Nat), s.start.held = false ∧ s.isTile p = true ∧ (∃ i, i < 4 ∧ m.testBit i = true ∧ (s.get (BOL_RTR_DOWN p)).testBit i = false)
        ∧ s.reportsFull p = false ∧ s.migratesTo p = false) :=
  ⟨⟨{ s0 with regs := [(BOL_CTL 0, 1)] }, 0, 15, by decide⟩, ⟨s0, 0, 8, by decide⟩⟩

theorem witness_SleepNeedsNoPendingWake :
    (∃ (s : State) (p m : Nat), s.start.held = false ∧ s.isTile p = true ∧ s.cdomOk p = true ∧ (s.tile p).steps = [] ∧ m % 2 ^ 16 ≠ 0 ∧ s.flag (BOL_WAKE_PENDING p) = true)
    ∧ (∃ (s : State) (c p m : Nat), s.start.held = false ∧ s.isTile p = true ∧ s.cdomOk p = true ∧ (s.tile p).steps = [] ∧ m % 2 ^ 16 ≠ 0
        ∧ s.flag (BOL_WAKE_PENDING p) = false ∧ (s.begin_ c).wokeNow p (m % 2 ^ 16) = true)
    ∧ (∃ (s : State) (c p m : Nat), s.start.held = false ∧ s.isTile p = true ∧ s.cdomOk p = true ∧ (s.tile p).steps = [] ∧ m % 2 ^ 16 ≠ 0
        ∧ s.flag (BOL_WAKE_PENDING p) = false ∧ (s.begin_ c).wokeNow p (m % 2 ^ 16) = false) :=
  ⟨⟨good (s0.put (BOL_WAKE_PENDING 0) 1), 0, 0xFFFF, by decide⟩, ⟨{ good s0 with coins := [(⟨0, 7, 0⟩, .woke 0 15)] }, 7, 0, 0x8000, by decide⟩, ⟨good s0, 0, 0, 1, by decide⟩⟩

theorem witness_BadClassNeverGranted : ∃ (s : State) (p cls : Nat), s.start.held = false ∧ s.isTile p = true ∧ s.cdomOk p = true ∧ s.clrBusy p false = false ∧ 2 ≤ cls % 4 :=
  ⟨good s0, 0, 2, by decide⟩

theorem witness_UncleanTickPulls :
    (∃ (s : State) (q : Nat), s.start.held = false ∧ q < s.nQuays ∧ s.cmState = cmRun ∧ s.commit.openTick + 2 ≤ s.jt ∧ s.ctick < s.jt - 2
        ∧ s.controlled q = true ∧ s.donly = false ∧ (s.uncleanAt q (s.jt - 2)).isSome = true)
    ∧ (∃ (s : State) (q : Nat), s.start.held = false ∧ q < s.nQuays ∧ s.cmState = cmRun ∧ s.commit.openTick + 2 ≤ s.jt ∧ s.ctick < s.jt - 2
        ∧ s.controlled q = true ∧ s.donly = false ∧ (s.uncleanAt q (s.jt - 2)).isSome = false ∧ s.outstanding q (s.jt - 2) = true) :=
  ⟨⟨(running (quay0 fun t => { t with unclean := [(3, [0])] })).put (QY_RST_STAT_STATE 0) 0, 0, by decide⟩,
   ⟨(running (s0.setBerth 0 0 { Berth.free with st := btRunning, tick := 3, tapO := some 0 })).put (QY_RST_STAT_STATE 0) 0, 0, by decide⟩⟩

theorem witness_ProducerQueues :
    (∃ s : State, queued (s.prod 1).claims ≤ prodRoom 1) ∧ (∃ (s : State) (claim : List Rec), 2 ≤ claim.length ∧ prodRoom 1 < queued (s.prod 1).claims + claim.length) :=
  ⟨⟨s0, by decide⟩, ⟨{ s0 with prods := [(1, { ProdQ.idle with claims := [List.replicate 63 Rec.empty] })] }, [Rec.empty, Rec.empty], by decide⟩⟩

theorem witness_HarbourStoreWrite : ∃ (s : State) (o size : Nat), s.start.held = false ∧ s.hportUp = true ∧ s.isArmed 0 0 22 = false ∧ o < 0x1000000
    ∧ sizeOk (0x1000000 + o) size = true ∧ s.phaseNo ≠ phSelftest ∧ s.phaseNo ≠ phFailed ∧ s.isOpen = false ∧ (s.unit (ukBank (o / 4194304))).colour < vermilion :=
  ⟨inPhase phWaitImage (ported s0), 0xFFFFF8, 8, by decide⟩

theorem witness_TimebaseFrame : ∃ (s t : State) (i : Instr), i ∈ ([.align 0, .timeHoldover 0, .holdoverSecond, .slewDecision] : List Instr) ∧ s.start.held = false ∧ exec i s = .next t :=
  ⟨s0, _, .holdoverSecond, by simp, by decide, rfl⟩

theorem witness_ReadingFrame : ∃ s : State, s.start.held = false := ⟨s0, by decide⟩

end Sys2Proof.Tests
end

/-!
PROOFS. The step and the queue: a step takes the command at the front, and no command stops the block or touches the commands that wait or the
design-time values. Also how a command completes that is a run.
-/

namespace Sys2Proof.Machine

/-- A step with a command at the front of the queue is that command's meaning on the state that keeps the queue's rest. -/
theorem step_of_pending {s : State} {c : Instr} {l : List Instr} (h : s.pending = c :: l) : step s = exec c { s with pending := l } := by
  simp only [step, h]

/-- PORST_N low keeps the queue (R672). -/
@[simp] theorem State.powerOnReset_pending (s : State) : s.powerOnReset.pending = s.pending := (rfl)

/-- PORST_N low keeps the design-time values (R672). -/
@[simp] theorem State.powerOnReset_sp (s : State) : s.powerOnReset.sp = s.sp := (rfl)

/-- A release of PORST_N keeps the queue, whether or not the pin was low. -/
@[simp] theorem State.resetRelease_pending (s : State) : s.resetRelease.pending = s.pending := by
  unfold State.resetRelease
  split <;> rfl

/-- A release of PORST_N keeps the design-time values, whether or not the pin was low. -/
@[simp] theorem State.resetRelease_sp (s : State) : s.resetRelease.sp = s.sp := by
  unfold State.resetRelease
  split <;> rfl

/-- No command touches the queue or the design-time values: the two that move PORST_N by their meaning, every other because it is a run. -/
theorem exec_keeps {c : Instr} {s t : State} (h : exec c s = .next t) : t.pending = s.pending ∧ t.sp = s.sp := by
  rcases exec_run c s with rfl | rfl | ⟨n, f, e⟩
  · obtain rfl : s.powerOnReset.settle = t := Host.Outcome.next.inj h
    simp
  · obtain rfl : ({ s with out := [] } : State).resetRelease.settle = t := Host.Outcome.next.inj h
    simp
  · exact run_keeps (e ▸ h)

/-- Settles O41: every command is a run or moves PORST_N, and each of these ends in a settled state that keeps the queue and the straps, as the model
chooses it (log entries 3 and 4). -/
theorem noCommandStops : Obligations.NoCommandStops := by
  intro c s
  obtain ⟨t, h⟩ := exec_settled c s
  obtain ⟨hpending, hsp⟩ := exec_keeps h
  exact ⟨t.settle, h, hpending, hsp⟩

/-- Settles O38: the step's own equation for a queue that is not empty, the model's choice of a queue (log entry 4). -/
theorem stepRunsFront : Obligations.StepRunsFront :=
  fun _ _ _ h => step_of_pending h

/-! ### How a command completes -/

/-- A command that is a run ends with what its effect does to the state it begins in. -/
theorem exec_of_run {s : State} {c : Nat} {i : Instr} {f g : State → State} (e : exec i s = run s c f) (h : s.start.held = false)
    (hfg : f (s.begin_ c) = g (s.begin_ c)) : exec i s = .next (s.after c g) := by
  rw [e, run_eq_after h, after_congr hfg]

/-- The same for a command that may take a quay or the triplex out of service. -/
theorem exec_of_runDown {s : State} {c : Nat} {i : Instr} {f g : State → State} (e : exec i s = runDown s c f) (h : s.start.held = false)
    (hfg : f (s.begin_ c) = g (s.begin_ c)) : exec i s = .next (s.after c fun u => u.aftermath (g u)) :=
  exec_of_run e h (congrArg (s.begin_ c).aftermath hfg)

/-- A command that names a quay of the configuration has its effect. -/
theorem State.onQuay_of_lt {s : State} {q : Nat} (h : q < s.nQuays) (k : State → State) : s.onQuay q k = k s := if_pos h

/-- A command that names a tile of the configuration has its effect. -/
theorem State.onTile_of_isTile {s : State} {p : Nat} (h : s.isTile p = true) (k : State → State) : s.onTile p k = k s := if_pos h

end Sys2Proof.Machine

/-!
PROOFS. Fault collection (chapter 12): what a checker's event, a vote, a forced bit and an acknowledgement come to, and that their commands complete.
-/

namespace Sys2Proof.Machine

/-! ### What each function does in the case of a statement -/

/-- A quay of the configuration is a unit of level 1. -/
theorem State.onUnit_quay {s : State} {q : Nat} (h : q < s.nQuays) (k : State → State) : s.onUnit 1 q k = k s := by
  simp [State.onUnit, State.onQuay_of_lt h]

/-- A tile of the configuration is a unit of level 2. -/
theorem State.onUnit_tile {s : State} {p : Nat} (h : s.isTile p = true) (k : State → State) : s.onUnit 2 p k = k s := by
  simp [State.onUnit, State.onTile_of_isTile h]

/-- A checker takes a real event: it consumes the injection armed for it and is met by the reaction of its bit. -/
theorem State.checker_real (s : State) (level unit b synd aux : Nat) (h : ¬(level = 0 ∧ b = 9 ∧ coreCount s.cores ≠ 2)) :
    s.checker level unit b synd aux true = (s.disarm level unit b).react level unit b false synd aux := by
  simp [State.checker, h]

/-- A real fault of a forceable bit that is not a vote over redundant registers goes to its checker. -/
theorem State.faultLatch_real (s : State) {level b : Nat} (unit synd aux : Nat) (hf : forceable level b = true)
    (hv : ¬(level = 0 ∧ b = 25 ∨ level = 1 ∧ b = 17 ∨ level = 2 ∧ b = 5)) :
    s.faultLatch level unit b synd aux true = s.checker level unit b synd aux true := by
  simp [State.faultLatch, hf, hv]

/-- The duplex comparison outside Lantern mode (R492 bit 9, R495, R528). -/
theorem State.duplexMismatch_outside {s : State} (forced : Bool) (h : s.inLantern = false) :
    s.duplexMismatch forced =
      ((List.range 3).foldl (fun v n => if v.cores.testBit n then v.coreOut n forced else v)
        (((s.latchHm 9 forced 0).waferBreakwater 9 false).pullHw1 2 0 0 0 8)).enterLantern 1 := by
  simp [State.duplexMismatch, h]

/-- The vote of three cores against core `n` (R492 bit 8). -/
theorem State.triplexVote_three {s : State} {n : Nat} (addr : Nat) (hn : n < 3) (h : coreCount s.cores = 3) :
    s.triplexVote n addr false =
      ((s.latchHm 8 false 0).coreOut n false).logHm 0x0B08 n addr (coreCount ((s.latchHm 8 false 0).coreOut n false).cores)
        ((s.latchHm 8 false 0).coreOut n false).tick32 := by
  simp [State.triplexVote, h, Nat.mod_eq_of_lt hn]

/-- An acknowledgement in a cycle that has latched no cause (R505). -/
theorem State.alarmAck_quiet {s : State} (mask source : Nat) (h : s.setNow HM_FAULT_ALARM = 0) :
    s.alarmAck mask source =
      let m := mask % 64 &&& s.get HM_FAULT_ALARM_CAUSE
      let v := s.put HM_FAULT_ALARM_ACKED (s.get HM_FAULT_ALARM_ACKED ||| m)
      v.logHm 0x0B0B m source ((v.word HM_FAULT_ALARM).toNat % 2 ^ 12) v.tick32 := by
  simp [State.alarmAck, h]

/-- An acknowledgement by the host on a page that takes the write. -/
theorem State.ack_host {s : State} (mask : Nat) (h : s.takesWrites HM_FAULT_ACK) : s.ack mask true = (s.alarmAck mask 1).emit (.hport 0 0) :=
  hostWrite_taken (k := fun s => s.alarmAck mask 1) h.1 h.2

/-- An acknowledgement at the sideband while D77 is on. -/
theorem State.ack_sideband {s : State} (mask : Nat) (h : s.domain 77 = 2) : s.ack mask false = s.alarmAck mask 2 := by
  simp [State.ack, h]

/-! ### FAULT_LATCH (R483) -/

/-- FAULT_LATCH of a real event at the Harbourmaster, beside the duplex comparison and the vote over redundant registers. -/
theorem State.faultLatch_hm (s : State) {b : Nat} (synd aux : Nat) (hf : forceable 0 b = true) (h9 : b ≠ 9) (h25 : b ≠ 25) :
    s.faultLatch 0 0 b synd aux true = ((s.disarm 0 0 b).hmFault b false synd aux).duplexArmed := by
  rw [s.faultLatch_real 0 synd aux hf (by omega), s.checker_real 0 0 b synd aux (by omega)]
  rfl

/-- FAULT_LATCH of a real event at quay `q`, beside the vote over redundant registers. -/
theorem State.faultLatch_quay {s : State} {q b : Nat} (synd aux : Nat) (hq : q < s.nQuays) (hf : forceable 1 b = true) (h17 : b ≠ 17) :
    s.faultLatch 1 q b synd aux true = (s.disarm 1 q b).quayFault q b false synd aux := by
  rw [s.faultLatch_real q synd aux hf (by omega), s.checker_real 1 q b synd aux (by omega)]
  exact if_pos hq

/-- FAULT_LATCH of a real event at the Bollard of tile `p`, beside the vote over redundant registers. -/
theorem State.faultLatch_bollard (s : State) {b : Nat} (p synd aux : Nat) (hb : b ≤ 15) (h5 : b ≠ 5) :
    s.faultLatch 2 p b synd aux true = (s.disarm 2 p b).bolFault p b false synd aux := by
  rw [s.faultLatch_real p synd aux (by simpa [forceable] using hb) (by omega), s.checker_real 2 p b synd aux (by omega)]
  rfl

/-- DUPLEX_MISMATCH of two cores outside Lantern mode (R492): its checker consumes the injection armed for it, and Lantern mode is entered. -/
theorem State.checker_duplex {s : State} (hl : s.inLantern = false) (hc : coreCount s.cores = 2) :
    s.checker 0 0 9 0 0 true =
      let v := (((s.disarm 0 0 9).latchHm 9 false 0).waferBreakwater 9 false).pullHw1 2 0 0 0 8
      let v := (List.range 3).foldl (fun v n => if v.cores.testBit n then v.coreOut n false else v) v
      (v.enterLantern 1).duplexArmed := by
  have hd : (s.disarm 0 0 9).inLantern = false := hl
  rw [s.checker_real 0 0 9 0 0 (by simp [hc])]
  exact congrArg State.duplexArmed (State.duplexMismatch_outside false hd)

/-! ### The meanings of chapter 12's commands -/

theorem exec_faultLatch (s : State) (c level unit b synd aux : Nat) (real : Bool) :
    exec (.faultLatch c level unit b synd aux real) s = runDown s c fun u => u.onUnit level unit fun u => u.faultLatch level unit b synd aux real := (rfl)

theorem exec_bollardFaultMessage (s : State) (c q : Nat) :
    exec (.bollardFaultMessage c q) s = run s c fun u => u.onQuay q fun u => u.bolMessage q := (rfl)

theorem exec_quayFaultMessage (s : State) (c n : Nat) : exec (.quayFaultMessage c n) s = run s c fun u => u.quayMessage n := (rfl)

theorem exec_lockstepMismatch (s : State) (c q addr b : Nat) :
    exec (.lockstepMismatch c q addr b) s = runDown s c fun u => u.onQuay q fun u => u.lockstepMismatch q addr b false := (rfl)

theorem exec_triplexVote (s : State) (c core addr : Nat) :
    exec (.triplexVote c core addr) s = runDown s c fun u => (u.triplexVote core addr false).duplexArmed := (rfl)

theorem exec_duplexMismatch (s : State) (c : Nat) : exec (.duplexMismatch c) s = runDown s c fun u => u.checker 0 0 9 0 0 true := (rfl)

theorem exec_rtScrub (s : State) (c : Nat) : exec (.rtScrub c) s = run s c State.rtScrub := (rfl)

theorem exec_errorForce (s : State) (c level unit page bits : Nat) :
    exec (.errorForce c level unit page bits) s = runDown s c fun u => u.onUnit level unit fun u => u.errorForce level unit page bits := (rfl)

theorem exec_alarmAck (s : State) (c mask : Nat) (host : Bool) : exec (.alarmAck c mask host) s = run s c fun u => u.ack mask host := (rfl)

/-- Settles O27: each command is a run whose effect, in the case of its clause, is the one that the lemmas above give. -/
theorem faultsComplete : Obligations.FaultsComplete := by
  intro s c h
  refine ⟨?latchHm, ?latchQuay, ?latchBollard, ?realHm, ?realQuay, ?realBollard, ?bollardMessage, ?quayMessage, ?lockstep, ?vote, ?duplex, ?scrub,
    ?forceHm, ?forceQuay, ?forceBollard, ?ackHost, ?ackSideband, ?ackQuiet⟩
  case latchHm =>
    intro b synd aux real
    exact exec_of_runDown (exec_faultLatch ..) h rfl
  case latchQuay =>
    intro q b synd aux real hq
    exact exec_of_runDown (exec_faultLatch ..) h (State.onUnit_quay (s := s.begin_ c) hq _)
  case latchBollard =>
    intro p b synd aux real hp
    exact exec_of_runDown (exec_faultLatch ..) h (State.onUnit_tile (s := s.begin_ c) hp _)
  case realHm =>
    intro b synd aux hf h9 h25
    exact exec_of_runDown (exec_faultLatch ..) h (State.faultLatch_hm _ synd aux hf h9 h25)
  case realQuay =>
    intro q b synd aux hq hf h17
    exact exec_of_runDown (exec_faultLatch ..) h ((State.onUnit_quay (s := s.begin_ c) hq _).trans (State.faultLatch_quay synd aux hq hf h17))
  case realBollard =>
    intro p b synd aux hp hb h5
    exact exec_of_runDown (exec_faultLatch ..) h ((State.onUnit_tile (s := s.begin_ c) hp _).trans (State.faultLatch_bollard _ p synd aux hb h5))
  case bollardMessage =>
    intro q m hq _
    exact exec_of_run (exec_bollardFaultMessage ..) h (State.onQuay_of_lt (s := s.begin_ c) hq _)
  case quayMessage =>
    intro n _ _
    exact exec_of_run (exec_quayFaultMessage ..) h rfl
  case lockstep =>
    intro q addr b hq
    exact exec_of_runDown (exec_lockstepMismatch ..) h (State.onQuay_of_lt (s := s.begin_ c) hq _)
  case vote =>
    intro n addr hn hc
    exact exec_of_runDown (exec_triplexVote ..) h (congrArg State.duplexArmed (State.triplexVote_three (s := s.begin_ c) addr hn hc))
  case duplex =>
    intro hl hc
    exact exec_of_runDown (exec_duplexMismatch ..) h (State.checker_duplex (s := s.begin_ c) hl hc)
  case scrub => exact exec_of_run (exec_rtScrub ..) h rfl
  case forceHm =>
    intro page bits
    exact exec_of_runDown (exec_errorForce ..) h rfl
  case forceQuay =>
    intro q page bits hq
    exact exec_of_runDown (exec_errorForce ..) h (State.onUnit_quay (s := s.begin_ c) hq _)
  case forceBollard =>
    intro p page bits hp
    exact exec_of_runDown (exec_errorForce ..) h (State.onUnit_tile (s := s.begin_ c) hp _)
  case ackHost =>
    intro mask hw
    exact exec_of_run (exec_alarmAck ..) h (State.ack_host (s := s.begin_ c) mask hw)
  case ackSideband =>
    intro mask hd
    exact exec_of_run (exec_alarmAck ..) h (State.ack_sideband (s := s.begin_ c) mask hd)
  case ackQuiet =>
    intro mask hd hn
    exact exec_of_run (exec_alarmAck ..) h ((State.ack_sideband (s := s.begin_ c) mask hd).trans (State.alarmAck_quiet (s := s.begin_ c) mask 2 hn))

end Sys2Proof.Machine

/-!
PROOFS. The host's command block, test port and register writes (chapters 15, 17 and 18): how a GO, the end of a service, a segment and a register write
complete.
-/

namespace Sys2Proof.Machine

/-! ### The arguments of a GO -/

/-- Writing arguments one after another leaves alone a register that is none of theirs. -/
theorem State.word_setArgs (l : List (BitVec 64 × Nat)) : ∀ (s : State) {a : Nat}, (∀ x ∈ l, a ≠ HM_CMD_ARG x.2) →
    (l.foldl (fun v x => v.setWord (HM_CMD_ARG x.2) x.1) s).word a = s.word a := by
  induction l with
  | nil => intro s a _; rfl
  | cons x l ih =>
    intro s a h
    obtain ⟨hx, hl⟩ := List.forall_mem_cons.mp h
    rw [List.foldl_cons, ih _ hl, State.word_setWord_other _ _ hx]

/-- The state of a GO with its operation and arguments written (R652). -/
def State.withArgs (s : State) (op : Nat) (args : List (BitVec 64)) : State :=
  ((args.take 4).zipIdx).foldl (fun v x => v.setWord (HM_CMD_ARG x.2) x.1) (s.put HM_CMD_OP_OP op)

/-- A GO writes HM_CMD_OP and HM_CMD_ARG0 to HM_CMD_ARG3 and no other register before it is judged. -/
theorem State.word_withArgs (s : State) (op : Nat) (args : List (BitVec 64)) {a : Nat} (ha : a < HM_CMD_OP ∨ HM_CMD_ARG 4 ≤ a) :
    (s.withArgs op args).word a = s.word a := by
  simp only [HM_CMD_OP, HM_CMD_ARG] at ha
  have hargs : ∀ x ∈ (args.take 4).zipIdx, a ≠ HM_CMD_ARG x.2 := by
    intro x hx
    have hlt : x.2 < (args.take 4).length := List.snd_lt_of_mem_zipIdx hx
    have hlen := List.length_take_le 4 args
    simp only [HM_CMD_ARG]
    omega
  rw [State.withArgs, State.word_setArgs _ _ hargs]
  exact s.word_put_other op (by simp only [HM_CMD_OP_OP, HM_CMD_OP]; omega)

/-- So it leaves the fields of the other registers. -/
theorem State.get_withArgs (s : State) (op : Nat) (args : List (BitVec 64)) {f : Fld} (hf : f.reg < HM_CMD_OP ∨ HM_CMD_ARG 4 ≤ f.reg) :
    (s.withArgs op args).get f = s.get f := by
  rw [State.get, State.get, s.word_withArgs op args hf]

/-- And their flags. -/
theorem State.flag_withArgs (s : State) (op : Nat) (args : List (BitVec 64)) {f : Fld} (hf : f.reg < HM_CMD_OP ∨ HM_CMD_ARG 4 ≤ f.reg) :
    (s.withArgs op args).flag f = s.flag f := by
  rw [State.flag, State.flag, s.get_withArgs op args hf]

/-- A GO that is taken: from CONFIG on, outside Lantern mode and with no command in service, on a page that takes the write (R652). -/
theorem State.cmdGo_taken {s : State} (op : Nat) (args : List (BitVec 64)) (hw : s.takesWrites HM_CMD_GO) (hp : phConfig ≤ s.phaseNo)
    (hf : s.phaseNo ≠ phFailed) (hl : s.lantern = false) (hb : s.flag HM_CMD_STATUS_BUSY = false) :
    s.cmdGo op args =
      ((s.withArgs op args).cmdAccept op ((List.range 4).map fun n => (s.withArgs op args).word (HM_CMD_ARG n))).emit (.hport 0 0) := by
  have hphase : ¬((s.withArgs op args).phaseNo < phConfig ∨ (s.withArgs op args).phaseNo = phFailed) := by
    rw [State.phaseNo, s.get_withArgs op args (by decide)]
    exact not_or.mpr ⟨Nat.not_lt.mpr hp, hf⟩
  have hlantern : ¬(s.withArgs op args).lantern = true := by
    rw [State.lantern, s.flag_withArgs op args (by decide)]
    exact Bool.eq_false_iff.mp hl
  have hbusy : ¬(s.withArgs op args).flag HM_CMD_STATUS_BUSY = true := by
    rw [s.flag_withArgs op args (by decide)]
    exact Bool.eq_false_iff.mp hb
  rw [State.cmdGo, hostWrite_taken hw.1 hw.2]
  exact congrArg (State.emit · (.hport 0 0)) ((if_neg hphase).trans ((if_neg hlantern).trans (if_neg hbusy)))

/-! ### The end of a service -/

/-- A service whose result is known ends with it (R652, R654). -/
theorem State.cmdComplete_known {s : State} {k : CmdSt} {r : Nat} (data : List (BitVec 64)) (bad : List Nat) (ce : Nat) (hk : s.cmd = some k)
    (hr : k.result = some r) (hl : s.lantern = false) (ha : s.flag HM_TRIPLEX_STAT_ABSENT = false) :
    s.cmdComplete data bad ce = s.cmdEnd k r k.res := by
  simp [State.cmdComplete, hk, hr, hl, ha]

/-- A service that is not refused ends with what its operation gives (R653). -/
theorem State.cmdComplete_served {s : State} {k : CmdSt} (data : List (BitVec 64)) (bad : List Nat) (ce : Nat) (hk : s.cmd = some k)
    (hr : k.result = none) (ho : k.op ≠ cmdPmbusRead) (hl : s.lantern = false) (ha : s.flag HM_TRIPLEX_STAT_ABSENT = false)
    (h0 : s.cmdRefusal k = 0) :
    s.cmdComplete data bad ce = (s.cmdServe k data bad ce).1.cmdEnd k (s.cmdServe k data bad ce).2.1 (s.cmdServe k data bad ce).2.2 := by
  simp [State.cmdComplete, hk, hr, ho, hl, ha, h0]

/-- A refused service ends with the refusal and no results (R653 to R655). -/
theorem State.cmdComplete_refused {s : State} {k : CmdSt} (data : List (BitVec 64)) (bad : List Nat) (ce : Nat) (hk : s.cmd = some k)
    (hr : k.result = none) (ho : k.op ≠ cmdPmbusRead) (hl : s.lantern = false) (ha : s.flag HM_TRIPLEX_STAT_ABSENT = false)
    (h0 : s.cmdRefusal k ≠ 0) : s.cmdComplete data bad ce = s.cmdEnd k (s.cmdRefusal k) [] := by
  simp [State.cmdComplete, hk, hr, ho, hl, ha, h0]

/-! ### The test port -/

/-- A segment of a block other than a BIST controller opens in a closed harbour (R691). -/
theorem State.tapSegment_opens {s : State} {seg kind : Nat} (ty unit : Nat) (w : Bool) (hk : kind ≠ 0) (ho : s.isOpen = false)
    (hs : seg ∉ s.start.segments) :
    s.tapSegment seg kind ty unit w true = { s with start := { s.start with segments := s.start.segments ++ [seg] } } := by
  simp [State.tapSegment, hk, ho, hs]

/-- A segment of a block other than a BIST controller closes while no opening waits for it (R691). -/
theorem State.tapSegment_closes {s : State} {kind : Nat} (seg ty unit : Nat) (w : Bool) (hk : kind ≠ 0) (ho : s.start.opening ≠ 3) :
    s.tapSegment seg kind ty unit w false = { s with start := { s.start with segments := s.start.segments.erase seg } } := by
  simp [State.tapSegment, hk, ho]

/-! ### Register writes -/

/-- A register write of good parity and a served size below the apertures, while no parity error is forced. -/
theorem State.regWrite_clean {s : State} {a size : Nat} (data : Nat) (hu : s.hportUp = true) (hn : s.isArmed 0 0 22 = false) (ha : a < 0x1000000)
    (hz : sizeOk a size = true) :
    s.regWrite a size data false =
      if a < 0x40000 ∨ (0x100000 ≤ a ∧ a < 0x100000 + s.nQuays * 0x10000) then
        if size < 4 then s.reply rspRefused 0 else s.pageWrite a size (BitVec.ofNat 64 data)
      else s.reply rspDecode 0 := by
  simp [State.regWrite, hu, s.parity_clean hn, hz, Nat.not_le.mpr ha]

/-- Such a write of at least four bytes reaches the pages of the Harbourmaster and of the quays (R18, R636). -/
theorem State.regWrite_page {s : State} {a size : Nat} (data : BitVec 64) (hu : s.hportUp = true) (hn : s.isArmed 0 0 22 = false)
    (ha : a < 0x40000 ∨ (0x100000 ≤ a ∧ a < 0x100000 + s.nQuays * 0x10000 ∧ a < 0x1000000)) (h4 : 4 ≤ size) (hz : sizeOk a size = true) :
    s.regWrite a size data.toNat false = s.pageWrite a size data := by
  have hblock : a < 0x40000 ∨ (0x100000 ≤ a ∧ a < 0x100000 + s.nQuays * 0x10000) := by omega
  rw [State.regWrite_clean _ hu hn (by omega) hz, if_pos hblock, if_neg (by omega), BitVec.ofNat_toNat, BitVec.setWidth_eq]

/-- Such a write between the Harbourmaster's pages and the quays' is answered DECODE (R639). -/
theorem State.regWrite_decode {s : State} {a size : Nat} (data : Nat) (hu : s.hportUp = true) (hn : s.isArmed 0 0 22 = false)
    (hlo : 0x40000 ≤ a) (hhi : a < 0x100000) (hz : sizeOk a size = true) : s.regWrite a size data false = s.reply rspDecode 0 := by
  rw [State.regWrite_clean _ hu hn (by omega) hz, if_neg (by omega)]

/-! ### The meanings of the commands -/

/-- Each of the seven commands that write HM_CMD_GO is a GO with its operation's code. -/
theorem exec_go {s : State} {c : Nat} {i : Instr} {op : Nat} {args : List (BitVec 64)}
    (hi : i = .ping c args ∧ op = cmdPing ∨ i = .bolRead c args ∧ op = cmdBolRead ∨ i = .lmRead c args ∧ op = cmdLmRead
      ∨ i = .manifestCheck c args ∧ op = cmdManifestCheck ∨ i = .syncDump c args ∧ op = cmdSyncDump
      ∨ i = .pmbusRead c args ∧ op = cmdPmbusRead ∨ i = .cmdBadOp c op args) :
    exec i s = run s c fun u => u.cmdGo op args := by
  rcases hi with ⟨rfl, rfl⟩ | ⟨rfl, rfl⟩ | ⟨rfl, rfl⟩ | ⟨rfl, rfl⟩ | ⟨rfl, rfl⟩ | ⟨rfl, rfl⟩ | rfl
  all_goals rfl

theorem exec_cmdComplete (s : State) (c : Nat) (data : List (BitVec 64)) (bad : List Nat) (ce : Nat) :
    exec (.cmdComplete c data bad ce) s = run s c fun u => u.cmdComplete data bad ce := (rfl)

theorem exec_tapSegment (s : State) (c seg kind ty unit : Nat) (write opening : Bool) :
    exec (.tapSegment c seg kind ty unit write opening) s = run s c fun u => u.tapSegment seg kind ty unit write opening := (rfl)

theorem exec_registerWrite (s : State) (c a size : Nat) (data : BitVec 64) (parBad : Bool) :
    exec (.registerWrite c a size data parBad) s = runDown s c fun u => u.regWrite a size data.toNat parBad := (rfl)

/-- Settles O37: each command is a run whose effect, in the case of its clause, is the one that the lemmas above give. -/
theorem hostPortCompletes : Obligations.HostPortCompletes := by
  intro s c h
  refine ⟨?go, ?known, ?served, ?refused, ?opening, ?closing, ?opens, ?closes, ?page, ?decode⟩
  case go =>
    intro i op args hi hw hp hf hl hb
    exact exec_of_run (exec_go hi) h (State.cmdGo_taken (s := s.begin_ c) op args hw hp hf hl hb)
  case known =>
    intro k r data bad ce hk hr hl ha
    exact exec_of_run (exec_cmdComplete ..) h (State.cmdComplete_known (s := s.begin_ c) data bad ce hk hr hl ha)
  case served =>
    intro k data bad ce hk hr ho hl ha h0
    exact exec_of_run (exec_cmdComplete ..) h (State.cmdComplete_served (s := s.begin_ c) data bad ce hk hr ho hl ha h0)
  case refused =>
    intro k data bad ce hk hr ho hl ha h0
    exact exec_of_run (exec_cmdComplete ..) h (State.cmdComplete_refused (s := s.begin_ c) data bad ce hk hr ho hl ha h0)
  case opening =>
    intro seg kind ty unit w
    exact exec_of_run (exec_tapSegment ..) h rfl
  case closing =>
    intro seg kind ty unit w
    exact exec_of_run (exec_tapSegment ..) h rfl
  case opens =>
    intro seg kind ty unit w hk ho hs
    exact exec_of_run (exec_tapSegment ..) h (State.tapSegment_opens (s := s.begin_ c) ty unit w hk ho hs)
  case closes =>
    intro seg kind ty unit w hk ho
    exact exec_of_run (exec_tapSegment ..) h (State.tapSegment_closes (s := s.begin_ c) seg ty unit w hk ho)
  case page =>
    intro a size data hu hn ha h4 hz
    exact exec_of_runDown (exec_registerWrite ..) h (State.regWrite_page (s := s.begin_ c) data hu hn ha h4 hz)
  case decode =>
    intro a size data hu hn hlo hhi hz
    exact exec_of_runDown (exec_registerWrite ..) h (State.regWrite_decode (s := s.begin_ c) data.toNat hu hn hlo hhi hz)

end Sys2Proof.Machine

/-!
PROOFS. The tick and the timebase (chapter 01): the tick's lengths, what reset leaves, what the timebase's commands come to and what they leave alone.
-/

namespace Sys2Proof.Machine

/-! ### The tick lengths -/

/-- The tick of every code is sixteen sub-ticks of 275 cc, doubled with the code (R21). -/
theorem tickLenOf_eq (code : Nat) : tickLenOf code = 16 * (275 * 2 ^ code) := by
  rw [tickLenOf, ← Nat.mul_assoc]

/-- The granule of each of the four codes: half of 2 to the code, and at least one cycle (R21). -/
theorem granuleOf_eq : ∀ code < 4, granuleOf code = max 1 (2 ^ code / 2) := by decide

/-- TICK_LEN has two bits (R43). -/
theorem State.tickLenCode_lt (s : State) : s.get HM_TIME_CTL_TICK_LEN < 4 := s.get_lt HM_TIME_CTL_TICK_LEN

theorem State.tickLen_eq (s : State) : s.tickLen = 16 * (275 * 2 ^ s.get HM_TIME_CTL_TICK_LEN) := tickLenOf_eq _

theorem State.granule_eq (s : State) : s.granule = max 1 (2 ^ s.get HM_TIME_CTL_TICK_LEN / 2) := granuleOf_eq _ s.tickLenCode_lt

/-- The report window is two sub-ticks (R35). -/
theorem State.window_eq (s : State) : s.window = 2 * (s.tickLen / 16) := by
  have := s.tickLen_eq
  unfold State.window
  omega

/-- The commit falls at the fourth sub-tick (R35). -/
theorem State.commitAt_eq (s : State) : s.commitAt = 4 * (s.tickLen / 16) := by
  have := s.tickLen_eq
  unfold State.commitAt
  omega

/-- Settles O43: the two functions of TICK_LEN in closed form, the two positions of R35 from them, and R21's table of the four codes. -/
theorem tickLengths : Obligations.TickLengths :=
  ⟨fun s => ⟨s.tickLen_eq, s.granule_eq⟩, fun s => ⟨s.window_eq, s.commitAt_eq⟩, by decide, by decide, by decide, by decide, by decide⟩

/-! ### Reset -/

/-- The pins show the state after reset (R496, R650). -/
theorem pinsFollow_reset : State.reset.PinsFollow := by
  unfold State.PinsFollow
  decide

/-- No alarm is acknowledged after reset (R497). -/
theorem alarmsFollow_reset : State.reset.AlarmsFollow := by
  unfold State.AlarmsFollow
  decide

/-- Settles O42: each register reads as its reset value; that nothing waits and the stores are blank is the model's choice (log entries 4 and 7). -/
theorem resetState : Obligations.ResetState :=
  ⟨rfl, rfl, by decide, by decide, by decide, by decide, by decide, by decide, by decide, by decide, by decide, by decide, pinsFollow_reset,
    alarmsFollow_reset⟩

/-! ### What each command of the timebase does in the case of a statement -/

/-- Once the device epoch runs, a strobe enters cycle 0 of the next tick (R24, R25). -/
theorem State.atStrobe_epoch {s : State} (t : State) (h : s.time.epoch = true) :
    s.atStrobe t = { t with time.tick := s.time.tick + 1, time.cyc := 0 } := if_pos h

/-- The edge that aligns (R32): the next tick is the base of seconds, and phase, drift and owed slew are cleared. -/
def State.alignEdge (s : State) : State :=
  let v := s.capture (s.stampOf s.time.cyc)
  let v := (v.put HM_TIME_SEC_BASE_BASE (v.time.tick + 1)).put HM_TIME_STAT_ALIGNED 1
  let v := ((v.put HM_TIME_STAT_PHASE 0).put HM_TIME_SLEW_DRIFT 0).put HM_TIME_SLEW_OWED 0
  ({ v with time.alignReq := false, time.alignNow := true, time.acc := 0, time.nearEdges := 0 } : State).logTime 0x0105

/-- An edge of the configured polarity aligns while an alignment waits in a closed harbour (R32). -/
theorem State.ppsEdge_aligns {s : State} {f : Bool} (hf : s.flag HM_TIME_CTL_PPS_POL = f) (ha : s.time.alignReq = true) (ho : s.isOpen = false) :
    s.ppsEdge f = s.alignEdge := by
  have hpol : ¬s.flag HM_TIME_CTL_PPS_POL ≠ f := not_not.mpr hf
  have halign : (s.time.alignReq && !s.isOpen) = true := by simp [ha, ho]
  exact (if_neg hpol).trans (if_pos halign)

/-- Else, out of FREE, it is accepted inside the window or while a reference is taken anew, and is a stray edge otherwise (R28, R31). -/
theorem State.ppsEdge_judged {s : State} {f : Bool} (hf : s.flag HM_TIME_CTL_PPS_POL = f) (ha : s.time.alignReq = false)
    (hs : s.get HM_TIME_STAT_STATE ≠ tsFree) :
    s.ppsEdge f =
      let m := s.stampOf s.time.cyc
      if (s.phaseOf m).natAbs ≤ 132000 ∨ s.time.reacquired = true then s.acceptEdge m (s.phaseOf m) else s.strayEdge m (s.phaseOf m) := by
  simp [State.ppsEdge, hf, ha, hs]

/-- ALIGN in a closed harbour asks for the alignment (R32). -/
theorem State.align_closed {s : State} (ho : s.isOpen = false) : s.align = { s with time.alignReq := true } := if_neg (Bool.eq_false_iff.mp ho)

/-- Two seconds after the last accepted edge LOCKED ends in HOLDOVER, with its record (R31). -/
theorem State.holdover_missing {s : State} (hs : s.get HM_TIME_STAT_STATE = tsLocked) (he : s.edgeMissing = true) :
    s.holdover =
      { (s.put HM_TIME_STAT_STATE tsHoldover).logTime 0x0102 with time.afterHold := true, time.nearEdges := 0, time.strays := [] } := by
  have hne : s.get HM_TIME_STAT_STATE ≠ tsHoldover := hs ▸ by decide
  exact (if_pos ⟨hs, he⟩).trans (if_neg hne)

/-- A second that begins in HOLDOVER owes the clamped drift anew (R29). -/
theorem State.holdoverSecond_starts {s : State} (hs : s.get HM_TIME_STAT_STATE = tsHoldover) (hb : s.secondStarts = true) :
    s.holdoverSecond = { s.put HM_TIME_SLEW_OWED (toField (clampAbs s.drift s.slewCap) 32) with time.acc := 0 } := if_pos ⟨hs, hb⟩

/-- The accumulator has reached the cap: this tick is slewed by one granule (R29, R30). -/
theorem State.slewDecide_full {s : State} (hs : s.get HM_TIME_STAT_STATE ≠ tsFree) (hcap : s.slewCap ≤ s.time.acc + s.owed.natAbs) (h0 : 0 < s.slewCap) :
    s.slewDecide = { s.at_ (s.tickLen - s.granule - 1) with
      time.acc := s.time.acc + s.owed.natAbs - s.slewCap, time.slew := if 0 < s.owed then (s.granule : Int) else -(s.granule : Int) } :=
  (if_neg hs).trans (if_pos ⟨hcap, h0⟩)

/-- Below the cap the owed cycles only accumulate (R29). -/
theorem State.slewDecide_below {s : State} (hs : s.get HM_TIME_STAT_STATE ≠ tsFree) (hcap : s.time.acc + s.owed.natAbs < s.slewCap) :
    s.slewDecide = { s.at_ (s.tickLen - s.granule - 1) with time.acc := s.time.acc + s.owed.natAbs, time.slew := 0 } :=
  (if_neg hs).trans (if_neg fun h => not_le.mpr hcap h.1)

/-! ### The meanings of the commands -/

theorem exec_tickStrobe (s : State) (bad : List Nat) (flits : List (Nat × Nat)) :
    exec (.tickStrobe bad flits) s = run s 0 fun u => u.atStrobe (u.aftermath (u.tickStrobe bad flits)) := (rfl)

theorem exec_ppsEdge (s : State) (c : Nat) (f : Bool) : exec (.ppsEdge c f) s = run s c fun u => u.ppsEdge f := (rfl)

theorem exec_align (s : State) (c : Nat) : exec (.align c) s = run s c fun u => u.hostWrite HM_TIME_CTL State.align := (rfl)

theorem exec_timeHoldover (s : State) (c : Nat) : exec (.timeHoldover c) s = run s c State.holdover := (rfl)

theorem exec_holdoverSecond (s : State) : exec .holdoverSecond s = run s 0 State.holdoverSecond := (rfl)

theorem exec_slewDecision (s : State) : exec .slewDecision s = run s 0 State.slewDecide := (rfl)

/-- What a strobe comes to once the device epoch runs: the work of the tick boundary, at cycle 0 of the next tick. -/
theorem exec_tickStrobe_epoch {s : State} (bad : List Nat) (flits : List (Nat × Nat)) (h : s.start.held = false) (he : s.time.epoch = true) :
    exec (.tickStrobe bad flits) s = .next (s.after 0 fun u =>
      { u.aftermath (u.tickStrobe bad flits) with time.tick := s.time.tick + 1, time.cyc := 0 }) :=
  exec_of_run (exec_tickStrobe ..) h (State.atStrobe_epoch (s := s.begin_ 0) _ he)

/-- Settles O1: each command is a run whose effect, in the case of its clause, is the one that the lemmas above give. That an edge of any phase is accepted
while a reference is taken anew (log entry 119), that a cap of 0 makes no slew (log entry 120) and that the aligning edge is captured (log entry 20) are the
model's choices. -/
theorem timebaseCompletes : Obligations.TimebaseCompletes := by
  intro s h
  refine ⟨?strobe, ?strobeTime, ?aligning, ?judged, ?align, ?holdover, ?second, ?slews, ?accumulates⟩
  case strobe =>
    intro bad flits he
    exact exec_tickStrobe_epoch bad flits h he
  case strobeTime =>
    intro bad flits he
    exact ⟨_, exec_tickStrobe_epoch bad flits h he, by rw [after_time], by rw [after_time]⟩
  case aligning =>
    intro c f hf ha ho
    exact exec_of_run (exec_ppsEdge ..) h (State.ppsEdge_aligns (s := s.begin_ c) hf ha ho)
  case judged =>
    intro c f hf ha hs
    exact exec_of_run (exec_ppsEdge ..) h (State.ppsEdge_judged (s := s.begin_ c) hf ha hs)
  case align =>
    intro c hw ho
    exact exec_of_run (exec_align ..) h
      ((hostWrite_taken (s := s.begin_ c) hw.1 hw.2).trans (congrArg (State.emit · (.hport 0 0)) (State.align_closed (s := s.begin_ c) ho)))
  case holdover =>
    intro c hs he
    exact exec_of_run (exec_timeHoldover ..) h (State.holdover_missing (s := s.begin_ c) hs he)
  case second =>
    intro hs hb
    exact exec_of_run (exec_holdoverSecond ..) h (State.holdoverSecond_starts (s := s.begin_ 0) hs hb)
  case slews =>
    intro hs hcap h0
    exact exec_of_run (exec_slewDecision ..) h (State.slewDecide_full (s := s.begin_ 0) hs hcap h0)
  case accumulates =>
    intro hs hcap
    exact exec_of_run (exec_slewDecision ..) h (State.slewDecide_below (s := s.begin_ 0) hs hcap)

end Sys2Proof.Machine

/-!
PROOFS. The frame of a command: what an effect that writes only some registers leaves alone, operation by operation, and that the end of the command keeps it.
-/

namespace Sys2Proof.Machine

/-- From `s` to `t` an effect writes no register but those of `regs`, and none of the state that the statements about frames name. -/
structure State.Framed (s t : State) (regs : List Nat) : Prop where
  sp : t.sp = s.sp
  mem : t.mem = s.mem
  rtDev : t.rtDev = s.rtDev
  word : ∀ a, a ∉ regs → t.word a = s.word a
  units : s.UnitFrame t
  control : s.ControlFrame t

/-! ### The operations -/

/-- The timebase's own part of the state, the outputs and the traces of a cycle are in no frame. -/
theorem State.framed_withCycle (s : State) (time : TimeSt) (out : List Out) (coins : List (Moment × Coin)) (regs : List Nat) :
    s.Framed { s with time := time, out := out, coins := coins } regs where
  sp := rfl
  mem := rfl
  rtDev := rfl
  word _ _ := rfl
  units := by simp [State.UnitFrame]
  control := by simp [State.ControlFrame]

theorem State.Framed.refl (s : State) (regs : List Nat) : s.Framed s regs := s.framed_withCycle s.time s.out s.coins regs

theorem State.Framed.trans {s t u : State} {regs : List Nat} (hst : s.Framed t regs) (htu : t.Framed u regs) : s.Framed u regs where
  sp := htu.sp.trans hst.sp
  mem := htu.mem.trans hst.mem
  rtDev := htu.rtDev.trans hst.rtDev
  word a ha := (htu.word a ha).trans (hst.word a ha)
  units := by
    have h1 := hst.units
    have h2 := htu.units
    simp_all [State.UnitFrame]
  control := by
    have h1 := hst.control
    have h2 := htu.control
    simp_all [State.ControlFrame]

theorem State.framed_begin (s : State) (c : Nat) (regs : List Nat) : s.Framed (s.begin_ c) regs := s.framed_withCycle _ _ _ regs

theorem State.framed_at (s : State) (c : Nat) (regs : List Nat) : s.Framed (s.at_ c) regs := s.framed_withCycle _ _ _ regs

theorem State.framed_emit (s : State) (o : Out) (regs : List Nat) : s.Framed (s.emit o) regs := s.framed_withCycle _ _ _ regs

theorem State.framed_setWord (s : State) {a : Nat} (w : Word) {regs : List Nat} (h : a ∈ regs) : s.Framed (s.setWord a w) regs where
  sp := rfl
  mem := rfl
  rtDev := rfl
  word b hb := s.word_setWord_other w fun e => hb (e ▸ h)
  units := by simp [State.UnitFrame]
  control := by simp [State.ControlFrame]

theorem State.framed_put (s : State) {f : Fld} (v : Nat) {regs : List Nat} (h : f.reg ∈ regs) : s.Framed (s.put f v) regs := s.framed_setWord _ h

theorem State.framed_pageErr (s : State) {a : Nat} (b : Nat) {regs : List Nat} (h : a / 0x1000 * 0x1000 + 0x10 ∈ regs) : s.Framed (s.pageErr a b) regs :=
  s.framed_setWord _ h

theorem State.framed_enqueue (s : State) (i : Nat) (claim : List Rec) {regs : List Nat} (h : HM_LOG_CNT ∈ regs) : s.Framed (s.enqueue i claim) regs where
  sp := by simp
  mem := by simp
  rtDev := by simp
  word a ha := s.word_enqueue i claim fun e => ha (e ▸ h)
  units := by simp [State.UnitFrame]
  control := by simp [State.ControlFrame]

/-- A host write keeps its effect's frame; a write that is denied marks the page's error word (R640, R644). -/
theorem State.framed_hostWrite (s : State) {a : Nat} {k : State → State} {regs : List Nat} (h : a / 0x1000 * 0x1000 + 0x10 ∈ regs)
    (hk : s.Framed (k s) regs) : s.Framed (s.hostWrite a k) regs := by
  unfold State.hostWrite
  split
  · exact s.framed_emit _ regs
  · split
    · exact (s.framed_pageErr _ h).trans (State.framed_emit _ _ regs)
    · exact hk.trans (State.framed_emit _ _ regs)

/-! ### The end of a command -/

/-- The register of a field just written. -/
theorem State.word_put_same (s : State) (f : Fld) (v : Nat) : (s.put f v).word f.reg = withField (s.word f.reg) f.lo f.w v :=
  s.word_setWord_same _ _

/-- Settling keeps the fields of HM_IRQ_STAT below the pins (R650). -/
theorem State.irqStat_settle (s : State) {lo w : Nat} (h : lo + w ≤ 24) :
    fieldOf (s.settle.word HM_IRQ_STAT) lo w = fieldOf (s.word HM_IRQ_STAT) lo w := by
  obtain ⟨cause, acked, pin, pins, e⟩ := s.settle_eq
  have halarm : (((s.put HM_FAULT_ALARM_CAUSE cause).put HM_FAULT_ALARM_ACKED acked).put HM_FAULT_ALARM_PIN pin).word HM_IRQ_STAT
      = s.word HM_IRQ_STAT := by
    rw [State.word_put_other _ _ (by decide), State.word_put_other _ _ (by decide), State.word_put_other _ _ (by decide)]
  calc fieldOf (s.settle.word HM_IRQ_STAT) lo w
      = fieldOf (withField (s.word HM_IRQ_STAT) 24 4 pins) lo w := by
        rw [e, ← halarm]
        exact congrArg (fieldOf · lo w) (State.word_put_same _ HM_IRQ_STAT_PINS pins)
    _ = fieldOf (s.word HM_IRQ_STAT) lo w := fieldOf_withField_other (by decide) (.inl h)

/-- The queue and the design-time values are given back at the end of a command, and the pins follow. -/
theorem State.Framed.after {s : State} {c : Nat} {f : State → State} {regs : List Nat} (h : (s.begin_ c).Framed (f (s.begin_ c)) regs) :
    s.RegFrame (s.after c f) regs ∧ s.UnitFrame (s.after c f) ∧ s.ControlFrame (s.after c f) := by
  have hframe := (s.framed_begin c regs).trans h
  have hword (a : Nat) : ({ f (s.begin_ c) with pending := s.pending, sp := s.sp } : State).word a = (f (s.begin_ c)).word a := by
    simp only [State.word, hframe.sp]
  refine ⟨⟨?words, ?irqStat, ?mem, ?rtDev⟩, ?units, ?control⟩
  case words =>
    intro a ha hAlarm hIrq
    exact (after_word hAlarm hIrq hframe.sp).trans (hframe.word a ha)
  case irqStat =>
    intro hregs lo w hlo
    rw [State.after, State.irqStat_settle _ hlo, hword, hframe.word _ hregs]
  case mem => exact after_mem.trans hframe.mem
  case rtDev => exact (State.settle_rtDev _).trans hframe.rtDev
  case units =>
    have hunits := hframe.units
    simpa [State.UnitFrame, State.after] using hunits
  case control =>
    have hcontrol := hframe.control
    simpa [State.ControlFrame, State.after] using hcontrol

/-- A command that is a run changes what its effect changes, and the pins. -/
theorem frame_of_run {s t : State} {c : Nat} {i : Instr} {f : State → State} {regs : List Nat} (e : exec i s = run s c f) (h : s.start.held = false)
    (ht : exec i s = .next t) (hf : (s.begin_ c).Framed (f (s.begin_ c)) regs) : s.RegFrame t regs ∧ s.UnitFrame t ∧ s.ControlFrame t := by
  obtain rfl : s.after c f = t := Host.Outcome.next.inj ((run_eq_after h).symm.trans (e.symm.trans ht))
  exact hf.after

/-! ### The timebase's commands -/

section
variable (s : State) {regs : List Nat}

/-- ALIGN asks for the alignment, or marks the page's error word in an open harbour (R32). -/
theorem State.framed_align (h : HM_TIME_CTL / 0x1000 * 0x1000 + 0x10 ∈ regs) : s.Framed s.align regs := by
  unfold State.align
  split
  · exact s.framed_pageErr _ h
  · exact s.framed_withCycle _ _ _ regs

/-- A change of the timebase's state writes STATE and may queue a record (R31, R49). -/
theorem State.framed_enterTime (st : Nat) (hstat : HM_TIME_STAT ∈ regs) (hcnt : HM_LOG_CNT ∈ regs) : s.Framed (s.enterTime st) regs := by
  have hput : s.Framed (s.put HM_TIME_STAT_STATE st) regs := s.framed_put _ hstat
  unfold State.enterTime
  split
  · exact .refl s regs
  · simp only [State.logTime, State.logHm]
    split
    · exact (hput.trans (State.framed_enqueue _ _ _ hcnt)).trans (State.framed_withCycle _ _ _ _ regs)
    · split
      · exact (hput.trans (State.framed_enqueue _ _ _ hcnt)).trans (State.framed_withCycle _ _ _ _ regs)
      · exact hput.trans (State.framed_withCycle _ _ _ _ regs)

theorem State.framed_holdover (hstat : HM_TIME_STAT ∈ regs) (hcnt : HM_LOG_CNT ∈ regs) : s.Framed s.holdover regs := by
  unfold State.holdover
  split
  · exact s.framed_enterTime _ hstat hcnt
  · exact .refl s regs

/-- A second in holdover writes the owed cycles and the accumulator (R29). -/
theorem State.framed_holdoverSecond (h : HM_TIME_SLEW ∈ regs) : s.Framed s.holdoverSecond regs := by
  unfold State.holdoverSecond
  split
  · exact (s.framed_put (f := HM_TIME_SLEW_OWED) _ h).trans (State.framed_withCycle _ _ _ _ regs)
  · exact .refl s regs

/-- A slew decision changes the accumulator and the slew alone (R29, R30). -/
theorem State.framed_slewDecide (regs : List Nat) : s.Framed s.slewDecide regs := by
  have hat : s.Framed (s.at_ (s.tickLen - s.granule - 1)) regs := s.framed_at _ regs
  unfold State.slewDecide
  simp only []
  split
  · exact hat.trans (State.framed_withCycle _ _ _ _ regs)
  · split
    all_goals exact hat.trans (State.framed_withCycle _ _ _ _ regs)

end

/-- Settles O59: each of the four commands is a run whose effect writes only what the lemmas above name. -/
theorem timebaseFrame : Obligations.TimebaseFrame := by
  intro s t i c hi h ht
  simp only [List.mem_cons, List.not_mem_nil, or_false] at hi
  rcases hi with rfl | rfl | rfl | rfl
  · exact frame_of_run (exec_align ..) h ht (State.framed_hostWrite _ (by decide) (State.framed_align _ (by decide)))
  · exact frame_of_run (exec_timeHoldover ..) h ht (State.framed_holdover _ (by decide) (by decide))
  · exact frame_of_run (exec_holdoverSecond ..) h ht (State.framed_holdoverSecond _ (by decide))
  · exact frame_of_run (exec_slewDecision ..) h ht (State.framed_slewDecide _ _)

end Sys2Proof.Machine

/-!
PROOFS. The report chain and the quay's deadline (chapters 02, 03 and 06): what a frame, a missing frame, an alarm message and an unclean tick come to.
-/

namespace Sys2Proof.Machine

/-! ### The quay's deadline -/

/-- A tick open to decision that is not clean, or has a check outstanding, is not let go outside detect-only mode: the quay pulls HW1 (R38, R224). -/
theorem State.quayDeadline_unclean {s : State} {q : Nat} (hrun : s.cmState = cmRun) (hopen : s.commit.openTick + 2 ≤ s.jt) (htick : s.ctick < s.jt - 2)
    (hctl : s.controlled q = true) (hdonly : s.donly = false)
    (hbad : (s.at_ s.quayAt).uncleanAt q (s.jt - 2) ≠ none ∨ (s.at_ s.quayAt).outstanding q (s.jt - 2) = true) :
    s.quayDeadline q = (s.at_ s.quayAt).pullQuay q 2 := by
  have hclosed : s.cmState ≠ cmClosed := hrun ▸ by decide
  have hhalted : s.cmState ≠ cmHalted := hrun ▸ by decide
  have hdecides : ¬(s.cmState = cmClosed ∨ (s.cmState = cmHalted ∧ !s.donly) ∨ s.jt < s.commit.openTick + 2 ∨ s.jt - 2 ≤ s.ctick
      ∨ !s.controlled q) := by
    simp [hclosed, hhalted, hctl, Nat.not_lt.mpr hopen, Nat.not_le.mpr htick]
  refine (if_neg hdecides).trans ?_
  split
  · next hclean hdone => exact absurd hbad (not_or.mpr ⟨not_not.mpr hclean, Bool.eq_false_iff.mp hdone⟩)
  · exact if_neg (Bool.eq_false_iff.mp hdonly)

theorem exec_quayDeadline (s : State) (q : Nat) : exec (.quayDeadline q) s = run s 0 fun u => u.onQuay q fun u => u.quayDeadline q := (rfl)

/-- So the command ends with the quay's pull. -/
theorem exec_quayDeadline_unclean {s : State} {q : Nat} (h : s.start.held = false) (hq : q < s.nQuays) (hrun : s.cmState = cmRun)
    (hopen : s.commit.openTick + 2 ≤ s.jt) (htick : s.ctick < s.jt - 2) (hctl : s.controlled q = true) (hdonly : s.donly = false)
    (hbad : (s.at_ s.quayAt).uncleanAt q (s.jt - 2) ≠ none ∨ (s.at_ s.quayAt).outstanding q (s.jt - 2) = true) :
    exec (.quayDeadline q) s = .next (s.after 0 fun u => (u.at_ s.quayAt).pullQuay q 2) :=
  exec_of_run (exec_quayDeadline ..) h
    ((State.onQuay_of_lt (s := s.begin_ 0) hq _).trans (State.quayDeadline_unclean (s := s.begin_ 0) hrun hopen htick hctl hdonly hbad))

/-- Settles O56: the deadline's pull is all that the command does to the commit control; that an outstanding check counts as not clean is the model's reading
(log entry 171). -/
theorem uncleanTickPulls : Obligations.UncleanTickPulls := by
  intro s q h hq hrun hopen htick hctl hdonly hbad
  have hpull := exec_quayDeadline_unclean h hq hrun hopen htick hctl hdonly (hbad.imp_left Option.isSome_iff_ne_none.mp)
  refine ⟨_, ⟨1, q, 0, 0, 2, 0, ((s.begin_ 0).at_ s.quayAt).now⟩, hpull, ?pulls, rfl, rfl, rfl, ?released, ?pend, ?ctick⟩
  case ctick => exact after_get (g := HM_COMMIT_STAT_CTICK) (by decide) (by decide) rfl
  all_goals
    rw [after_commit]
    rfl

/-! ### What each command of the report chain does in the case of a statement -/

/-- A Bollard with no verdict of a tick behind it launches the clean frame (R67, R68). -/
theorem State.reportLaunch_idle {s : State} {p : Nat} (hc : s.offChain p = false) (hf : (s.tile p).frame = []) :
    s.reportLaunch p true =
      let v := ((s.setWord (BOL_VERDICT p) 1).setWord (BOL_SIG p) 0).modTile p (fun t => { t with frame := [] })
      { v with frames := v.frames ++ [⟨p, v.jt - 1, [1, 0, 0, 0, 0, 0], decide (v.time.cyc = v.launchSlot (v.get (BOL_POS_HOP p)))⟩] } := by
  simp [State.reportLaunch, hc, hf]

/-- The tally finds the frame that has arrived. -/
theorem State.reportFrame_found {s : State} {p : Nat} {f : Frame} (hf : s.frames.find? (fun f => f.p = p) = some f) : (s.reportFrame p).2 = some f := by
  unfold State.reportFrame
  split
  · next hnone => exact absurd (hf.symm.trans hnone) (Option.some_ne_none f)
  · next g hg => exact hg.symm.trans hf

/-- The quay takes a frame that has arrived: its tiles, its sampled signatures, and a restarted Bollard's return (R68, R146, R155, R515). -/
theorem State.takeFrame_found {s : State} {p : Nat} {f : Frame} (hf : s.frames.find? (fun f => f.p = p) = some f) :
    s.takeFrame p =
      (((s.reportFrame p).1.modQuay (quayOf p)
        (fun t => { t with tilesNow := t.tilesNow + (f.words.getD 0 0).toNat / 2 ^ 16 % 2 ^ 12 })).frameSamples f).restartedFrame p true := by
  have hfound := State.reportFrame_found hf
  unfold State.takeFrame
  split
  · next hnone => simp [hnone] at hfound
  · next g hg =>
    obtain rfl : g = f := by simpa [hg] using hfound
    rw [hg]

/-- What the quay does with the alarm message `m` of tile `p` (R127 to R130). -/
def State.takeAlarm (s : State) (p : Nat) (m : AlarmMsg) : State :=
  let q := quayOf p
  let d := m.desc.toNat
  let v : State := { s with alarms := s.alarms.erase m }
  let v := match m.repeatTick with
    | some t => v.logTile p 0x0242 d (d / 2 ^ 32) t m.seq
    | none => v
  let v := if m.nfReason = 0 then v else (v.logTile p 0x0243 d (d / 2 ^ 32) m.nfReason m.seq).count (QY_CSUM_CNT_UNCHK_NF q) 1
  if m.causes = 0 then v
  else
    let v := (v.count (QY_CSUM_CNT_ALARM_TILES q) 1).captureAlarm m
    if (v.quay q).alarmsNow < 16 then (v.modQuay q (fun t => { t with alarmsNow := t.alarmsNow + 1 })).recordAlarm m
    else v.modQuay q (fun t => { t with floodNow := t.floodNow + 1 })

/-- A message of the tile that waits is the one the quay takes. -/
theorem State.alarmMessage_found {s : State} {p : Nat} {m : AlarmMsg} (hm : s.alarms.find? (fun m => m.p = p) = some m) :
    s.alarmMessage p = s.takeAlarm p m := by
  unfold State.alarmMessage
  split
  · next hnone => exact absurd (hm.symm.trans hnone) (Option.some_ne_none m)
  · next m' hm' =>
    obtain rfl : m = m' := Option.some.inj (hm.symm.trans hm')
    rfl

/-- Alarm tiles beyond sixteen of the tick before have one record (R130). -/
theorem State.csumFlood_counted {s : State} {q : Nat} (hn : (s.quay q).floodLast ≠ 0) :
    s.csumFlood q = (s.modQuay q (fun t => { t with floodLast := 0 })).logQuay q 0x0244 (s.quay q).floodLast ((s.jt - 1) % 2 ^ 32) 0 0 := if_neg hn

/-! ### The meanings of the commands -/

theorem exec_bollardReportLaunch (s : State) (c p : Nat) (closed : Bool) :
    exec (.bollardReportLaunch c p closed) s = run s c fun u => u.onTile p fun u => u.reportLaunch p closed := (rfl)

theorem exec_reportFrame (s : State) (c p : Nat) :
    exec (.reportFrame c p) s = run s c fun u => u.onTile p fun u => ((u.takeFrame p).bolChecks p chainBits).quayChecks_ (quayOf p) tallyBits := (rfl)

theorem exec_tallyTimeout (s : State) (q : Nat) :
    exec (.tallyTimeout q) s = run s 0 fun u => u.onQuay q fun u =>
      ((u.tallyTimeout q).quay q).missed.foldl (fun v x => v.restartedFrame (tileOf q x.1) false) (u.tallyTimeout q) := (rfl)

theorem exec_chainWatchdog (s : State) (c q l : Nat) (answered : Bool) :
    exec (.chainWatchdog c q l answered) s = runDown s c fun u => u.onQuay q fun u => u.chainWatchdog q l answered false := (rfl)

theorem exec_alarmMessage (s : State) (c p : Nat) : exec (.alarmMessage c p) s = run s c fun u => u.onTile p fun u => u.alarmMessage p := (rfl)

theorem exec_csumFlood (s : State) (q : Nat) : exec (.csumFlood q) s = run s 0 fun u => u.onQuay q fun u => u.csumFlood q := (rfl)

/-- Settles O10: each command is a run whose effect, in the case of its clause, is the one that the lemmas above give. -/
theorem reportChainCompletes : Obligations.ReportChainCompletes := by
  intro s c q h hq
  refine ⟨?launch, ?idle, ?frame, ?timeout, ?watchdog, ?alarm, ?flood⟩
  case launch =>
    intro p closed hp hc
    exact exec_of_run (exec_bollardReportLaunch ..) h ((State.onTile_of_isTile (s := s.begin_ c) hp _).trans (if_neg (Bool.eq_false_iff.mp hc)))
  case idle =>
    intro p hp hc hf
    exact exec_of_run (exec_bollardReportLaunch ..) h
      ((State.onTile_of_isTile (s := s.begin_ c) hp _).trans (State.reportLaunch_idle (s := s.begin_ c) hc hf))
  case frame =>
    intro p f hp hf
    have htake := State.takeFrame_found (s := s.begin_ c) hf
    exact exec_of_run (exec_reportFrame ..) h ((State.onTile_of_isTile (s := s.begin_ c) hp _).trans
      (congrArg (fun v => (v.bolChecks p chainBits).quayChecks_ (quayOf p) tallyBits) htake))
  case timeout =>
    intro l rest _
    exact exec_of_run (exec_tallyTimeout ..) h (State.onQuay_of_lt (s := s.begin_ 0) hq _)
  case watchdog =>
    intro l answered _
    exact exec_of_runDown (exec_chainWatchdog ..) h (State.onQuay_of_lt (s := s.begin_ c) hq _)
  case alarm =>
    intro p m hp hm
    exact exec_of_run (exec_alarmMessage ..) h
      ((State.onTile_of_isTile (s := s.begin_ c) hp _).trans (State.alarmMessage_found (s := s.begin_ c) hm))
  case flood =>
    intro hn
    exact exec_of_run (exec_csumFlood ..) h
      ((State.onQuay_of_lt (s := s.begin_ 0) hq _).trans (State.csumFlood_counted (s := s.begin_ 0) hn))

end Sys2Proof.Machine

/-!
PROOFS. A Bollard's registers and its commands (chapter 02): what a write of one register leaves of another, what the end of a command keeps, and how a command
at a tile or at a quay completes.
-/

namespace Sys2Proof.Machine

/-! ### A Bollard's registers -/

/-- Two registers of a Bollard are two places. -/
theorem bolAddr_ne {p i j : Nat} (h : i ≠ j) : bolAddr p i ≠ bolAddr p j := by
  unfold bolAddr
  omega

/-- The registers of the Bollards lie above the pages. -/
theorem bolAddr_ne_page {p i a : Nat} (h : a < 0x100000000) : bolAddr p i ≠ a := by
  unfold bolAddr
  omega

/-- A field depends on its register alone. -/
theorem State.get_congr {s t : State} {f : Fld} (h : t.word f.reg = s.word f.reg) : t.get f = s.get f := by
  rw [State.get, State.get, h]

/-- A write of one register leaves the fields of another. -/
theorem State.get_setWord_other (s : State) {a : Nat} {f : Fld} (w : Word) (h : f.reg ≠ a) : (s.setWord a w).get f = s.get f := by
  rw [State.get, State.get, s.word_setWord_other w h]

/-- The end of a command leaves a Bollard's register as the effect has it. -/
theorem after_bolWord {s : State} {c p i : Nat} {f : State → State} (hsp : (f (s.begin_ c)).sp = s.sp) :
    (s.after c f).word (bolAddr p i) = (f (s.begin_ c)).word (bolAddr p i) :=
  after_word (bolAddr_ne_page (by decide)) (bolAddr_ne_page (by decide)) hsp

/-- So it does a field of such a register. -/
theorem after_bolGet {s : State} {c p i : Nat} {f : State → State} {g : Fld} (hsp : (f (s.begin_ c)).sp = s.sp) (hg : g.reg = bolAddr p i) :
    (s.after c f).get g = (f (s.begin_ c)).get g := by
  rw [State.get, State.get, hg, after_bolWord hsp]

/-! ### A tile and its registers -/

@[simp] theorem State.tile_put (s : State) (f : Fld) (v p : Nat) : (s.put f v).tile p = s.tile p := (rfl)

@[simp] theorem State.word_modTile (s : State) (p : Nat) (f : TileSt → TileSt) (a : Nat) : (s.modTile p f).word a = s.word a := (rfl)

@[simp] theorem State.get_modTile (s : State) (p : Nat) (f : TileSt → TileSt) (g : Fld) : (s.modTile p f).get g = s.get g := (rfl)

@[simp] theorem State.tile_modTile_same (s : State) (p : Nat) (f : TileSt → TileSt) : (s.modTile p f).tile p = f (s.tile p) := s.tile_setTile_same _ _

/-! ### How a command at a unit completes -/

/-- A command from a core reaches its Bollard while the domain is good. -/
theorem State.fromCore_of_ok {s : State} {p : Nat} (ht : s.isTile p = true) (h : s.cdomOk p = true) (k : State → State) : s.fromCore p k = k s :=
  (State.onTile_of_isTile ht _).trans (if_pos h)

/-- A command from a core whose domain is good has its effect. -/
theorem exec_of_fromCore {s : State} {c p : Nat} {i : Instr} {f g : State → State} (e : exec i s = run s c fun u => u.fromCore p f)
    (h : s.start.held = false) (ht : s.isTile p = true) (hok : s.cdomOk p = true) (hfg : f (s.begin_ c) = g (s.begin_ c)) :
    exec i s = .next (s.after c g) :=
  exec_of_run e h ((State.fromCore_of_ok (s := s.begin_ c) ht hok f).trans hfg)

/-- A command at a tile of the configuration has its effect. -/
theorem exec_of_onTile {s : State} {c p : Nat} {i : Instr} {f g : State → State} (e : exec i s = run s c fun u => u.onTile p f)
    (h : s.start.held = false) (ht : s.isTile p = true) (hfg : f (s.begin_ c) = g (s.begin_ c)) : exec i s = .next (s.after c g) :=
  exec_of_run e h ((State.onTile_of_isTile (s := s.begin_ c) ht f).trans hfg)

/-- A command at a quay of the configuration has its effect. -/
theorem exec_of_onQuay {s : State} {c q : Nat} {i : Instr} {f g : State → State} (e : exec i s = run s c fun u => u.onQuay q f)
    (h : s.start.held = false) (hq : q < s.nQuays) (hfg : f (s.begin_ c) = g (s.begin_ c)) : exec i s = .next (s.after c g) :=
  exec_of_run e h ((State.onQuay_of_lt (s := s.begin_ c) hq f).trans hfg)

end Sys2Proof.Machine

/-!
PROOFS. A cause at a tile (chapter 02): what it latches and pulls, what the Breakwater comes to, and an error of a core.
-/

namespace Sys2Proof.Machine

/-! ### A cause -/

/-- Bit 0 cleared makes a number even. -/
theorem clrBitN_zero (m : Nat) : clrBitN m 0 = 2 * (m / 2) := by
  simp only [clrBitN, Nat.testBit_zero, decide_eq_true_eq]
  split <;> omega

/-- BOL_OPEN with cause `c` latched, which lowers CLEAN (R65, R66, R90). -/
def latchCause (w : Word) (c : Nat) : Word := BitVec.ofNat 64 (clrBitN (w ||| BitVec.ofNat 64 (setBitN 0 c)).toNat 0)

/-- CLEAN is 0 once a cause is latched. -/
theorem testBit_latchCause_clean (w : Word) (c : Nat) : (latchCause w c).toNat.testBit 0 = false := by
  simp [latchCause, clrBitN_zero]

/-- The other bits keep what they have latched. -/
theorem testBit_latchCause {w : Word} {c i : Nat} (hc : c < 64) (hi : 1 ≤ i) :
    (latchCause w c).toNat.testBit i = (decide (i = c) || w.toNat.testBit i) := by
  obtain ⟨i, rfl⟩ := Nat.exists_eq_add_of_le' hi
  have hlt : 2 * ((w ||| BitVec.ofNat 64 (setBitN 0 c)).toNat / 2) < 2 ^ 64 := by
    have := (w ||| BitVec.ofNat 64 (setBitN 0 c)).isLt
    omega
  have hpow : 2 ^ c % 2 ^ 64 = 2 ^ c := Nat.mod_eq_of_lt (Nat.pow_lt_pow_right (by decide) hc)
  rw [latchCause, clrBitN_zero, BitVec.toNat_ofNat, Nat.mod_eq_of_lt hlt, Nat.testBit_succ, Nat.mul_div_cancel_left _ (by decide), ← Nat.testBit_succ,
    BitVec.toNat_or, BitVec.toNat_ofNat, setBitN, Nat.zero_or, hpow, Nat.testBit_or, Nat.testBit_two_pow, Bool.or_comm]
  simp [eq_comm]

/-- Those of the causes `l` that pull HW1: not latched before, and RESET on a JOB tile only (R65, R84). -/
def freshCauses (old : Word) (job : Bool) (l : List Nat) : List Nat :=
  l.filter (fun c => !old.toNat.testBit c && (decide (c ≠ cReset) || job))

/-- Causes that take the core of a JOB tile out of service ask for its move, once (R231, R259). -/
def State.demandMove (s : State) (p : Nat) (job : Bool) (l : List Nat) : State :=
  if job && l.any (fun c => moveCauses.contains c) && !s.demands.contains (p, 8) then
    { (if s.flag HM_HEALTH_CTL_EN then s.regionHit p else s) with demands := s.demands ++ [(p, 8)] }
  else s

/-- The pull of HW1 for the causes `l` of tile `p`, on a tile that reports in full or that a recall's move takes (R65, R247, R695). -/
def State.pullCauses (s : State) (p : Nat) (l : List Nat) : State :=
  if s.reportsFull p && !l.isEmpty then
    let link := l.all (fun c => decide (c = cLink))
    let v := s.detect p (s.get (BOL_PILOT_LCORE p)) s.jt (if link then 4 else 3)
    v.pullHw1 0 (quayOf p) (localOf p) (v.get (BOL_OPEN_W0 p) % 2 ^ 16) (if link then 6 else 1)
  else if s.migratesTo p && l.any (fun c => moveCauses.contains c) then
    s.pullHw1 0 (quayOf p) (localOf p) (s.get (BOL_OPEN_W0 p) % 2 ^ 16) 1
  else s

/-- A cause met but not pulled for yet: latched, the result of a test engine that runs, and asking for a move. -/
def State.causeMet (s : State) (p c : Nat) : State :=
  let v := s.setWord (BOL_OPEN p) (latchCause (s.word (BOL_OPEN p)) c)
  (v.testCause p).demandMove p (decide (v.role p = roleJob)) [c]

/-- A cause is met, and pulls HW1 when it is fresh. -/
theorem State.cause_eq (s : State) (p c : Nat) :
    s.cause p c =
      (s.causeMet p c).pullCauses p (freshCauses (s.word (BOL_OPEN p))
        (decide ((s.setWord (BOL_OPEN p) (latchCause (s.word (BOL_OPEN p)) c)).role p = roleJob)) [c]) := (rfl)

/-- A detection is only noted. -/
theorem State.detect_eq (s : State) (p l n why : Nat) : ∃ d, s.detect p l n why = { s with detections := d } := by
  unfold State.detect
  split
  · exact ⟨_, rfl⟩
  · exact ⟨s.detections, rfl⟩

/-- A tile that reports in full pulls HW1 once for a fresh cause. -/
theorem State.pulls_pullCauses_full {s : State} {p : Nat} (c : Nat) (h : s.reportsFull p = true) :
    (s.pullCauses p [c]).commit.pulls =
      s.commit.pulls ++ [⟨0, quayOf p, localOf p, s.get (BOL_OPEN_W0 p) % 2 ^ 16, if c = cLink then 6 else 1, 0, s.now⟩] := by
  obtain ⟨d, hd⟩ := s.detect_eq p (s.get (BOL_PILOT_LCORE p)) s.jt (if c = cLink then 4 else 3)
  simp only [State.pullCauses, h, List.isEmpty_cons, Bool.not_false, Bool.and_self, if_true, List.all_cons, List.all_nil, Bool.and_true,
    decide_eq_true_eq, hd]
  rfl

/-- A tile that neither reports in full nor is taken by a recall's move pulls nothing. -/
theorem State.pullCauses_quiet {s : State} {p : Nat} (l : List Nat) (hf : s.reportsFull p = false) (hm : s.migratesTo p = false) :
    s.pullCauses p l = s := by
  simp [State.pullCauses, hf, hm]

/-- BOL_CTL decides whether a tile reports in full (R695). -/
theorem State.reportsFull_congr {s t : State} {p : Nat} (h : t.word (BOL_CTL p) = s.word (BOL_CTL p)) : t.reportsFull p = s.reportsFull p := by
  have hget (f : Fld) (hf : f.reg = BOL_CTL p) : t.get f = s.get f := by rw [State.get, State.get, hf, h]
  rw [State.reportsFull, State.reportsFull, State.flag, State.flag, State.role, State.role, hget _ rfl, hget _ rfl]

/-- `t` has what `s` has in its registers, in the time and in the recall in progress. -/
structure State.SameBeside (s t : State) : Prop where
  sp : t.sp = s.sp
  regs : t.regs = s.regs
  time : t.time = s.time
  inRecall : t.commit.inRecall = s.commit.inRecall

section
variable {s t u : State}

theorem State.SameBeside.trans (h : s.SameBeside t) (k : t.SameBeside u) : s.SameBeside u :=
  ⟨k.sp.trans h.sp, k.regs.trans h.regs, k.time.trans h.time, k.inRecall.trans h.inRecall⟩

theorem State.SameBeside.word (h : s.SameBeside t) (a : Nat) : t.word a = s.word a := by
  rw [State.word, State.word, h.sp, h.regs]

theorem State.SameBeside.get (h : s.SameBeside t) (f : Fld) : t.get f = s.get f := by
  rw [State.get, State.get, h.word]

theorem State.SameBeside.reportsFull (h : s.SameBeside t) (p : Nat) : t.reportsFull p = s.reportsFull p := State.reportsFull_congr (h.word _)

theorem State.SameBeside.migratesTo (h : s.SameBeside t) (p : Nat) : t.migratesTo p = s.migratesTo p := by
  unfold State.migratesTo
  rw [h.inRecall]

end

theorem State.sameBeside_testCause (s : State) (p : Nat) : s.SameBeside (s.testCause p) := by
  unfold State.testCause
  simp only []
  split <;> exact ⟨rfl, rfl, rfl, rfl⟩

theorem State.sameBeside_demandMove (s : State) (p : Nat) (job : Bool) (l : List Nat) : s.SameBeside (s.demandMove p job l) := by
  unfold State.demandMove
  repeat' split
  all_goals exact ⟨rfl, rfl, rfl, rfl⟩

theorem State.sameBeside_pullCauses (s : State) (p : Nat) (l : List Nat) : s.SameBeside (s.pullCauses p l) := by
  unfold State.pullCauses State.detect
  simp only []
  repeat' split
  all_goals exact ⟨rfl, rfl, rfl, rfl⟩

theorem State.commit_testCause (s : State) (p : Nat) : (s.testCause p).commit = s.commit := by
  unfold State.testCause
  simp only []
  split <;> rfl

theorem State.commit_demandMove (s : State) (p : Nat) (job : Bool) (l : List Nat) : (s.demandMove p job l).commit = s.commit := by
  unfold State.demandMove
  repeat' split
  all_goals rfl

theorem State.sameBeside_causeMet (s : State) (p c : Nat) :
    (s.setWord (BOL_OPEN p) (latchCause (s.word (BOL_OPEN p)) c)).SameBeside (s.causeMet p c) :=
  (State.sameBeside_testCause _ p).trans (State.sameBeside_demandMove _ p _ _)

theorem State.commit_causeMet (s : State) (p c : Nat) : (s.causeMet p c).commit = s.commit :=
  (State.commit_demandMove _ p _ _).trans (State.commit_testCause _ p)

/-- A cause that is met leaves whether its tile reports in full. -/
theorem State.reportsFull_causeMet (s : State) (p c : Nat) : (s.causeMet p c).reportsFull p = s.reportsFull p :=
  ((s.sameBeside_causeMet p c).reportsFull p).trans (State.reportsFull_congr (s.word_setWord_other _ (bolAddr_ne (by decide))))

/-- A cause writes no register but BOL_OPEN, where it is latched. -/
theorem State.sameBeside_cause (s : State) (p c : Nat) :
    (s.setWord (BOL_OPEN p) (latchCause (s.word (BOL_OPEN p)) c)).SameBeside (s.cause p c) := by
  rw [s.cause_eq]
  exact (s.sameBeside_causeMet p c).trans (State.sameBeside_pullCauses _ p _)

theorem State.word_cause_same (s : State) (p c : Nat) : (s.cause p c).word (BOL_OPEN p) = latchCause (s.word (BOL_OPEN p)) c := by
  rw [(s.sameBeside_cause p c).word, State.word_setWord_same]

theorem State.get_cause_other (s : State) {p : Nat} (c : Nat) {f : Fld} (h : f.reg ≠ BOL_OPEN p) : (s.cause p c).get f = s.get f := by
  rw [(s.sameBeside_cause p c).get, s.get_setWord_other _ h]

/-- A cause other than RESET that was not latched makes a tile that reports in full pull HW1 once (R65, R695). -/
theorem State.pulls_cause_full {s : State} {p c : Nat} (hc : c ≠ cReset) (hf : s.reportsFull p = true)
    (hn : (s.word (BOL_OPEN p)).toNat.testBit c = false) :
    ∃ code, (s.cause p c).commit.pulls = s.commit.pulls ++ [⟨0, quayOf p, localOf p, code, if c = cLink then 6 else 1, 0, s.now⟩] := by
  have hfresh (job : Bool) : freshCauses (s.word (BOL_OPEN p)) job [c] = [c] := by simp [freshCauses, hn, hc]
  have hnow : (s.causeMet p c).now = s.now := by
    unfold State.now
    rw [(s.sameBeside_causeMet p c).time, State.setWord_time]
  rw [s.cause_eq, hfresh, State.pulls_pullCauses_full c ((s.reportsFull_causeMet p c).trans hf), s.commit_causeMet, hnow]
  exact ⟨_, rfl⟩

/-- A cause at a tile that neither reports in full nor is taken by a recall's move pulls nothing. -/
theorem State.commit_cause_quiet {s : State} {p : Nat} (c : Nat) (hf : s.reportsFull p = false) (hm : s.migratesTo p = false) :
    (s.cause p c).commit = s.commit := by
  have hmoves : (s.causeMet p c).migratesTo p = false := ((s.sameBeside_causeMet p c).migratesTo p).trans hm
  rw [s.cause_eq, State.pullCauses_quiet _ ((s.reportsFull_causeMet p c).trans hf) hmoves, s.commit_causeMet]

/-! ### The Breakwater -/

/-- The Breakwater notes the tick it is applied in, unless it is applied already (R76). -/
def State.breakwaterSince (s : State) (p : Nat) : State :=
  if s.flag (BOL_STAT_BW_ACTIVE p) then s else s.put (BOL_BW_SINCE p) (s.jt % 2 ^ 32)

theorem State.breakwater_eq (s : State) (p why : Nat) :
    s.breakwater p why =
      ((s.breakwaterSince p).put (BOL_BW_WHY p) (setBitN ((s.breakwaterSince p).get (BOL_BW_WHY p)) why)).put (BOL_STAT_BW_ACTIVE p) 1 := (rfl)

theorem State.breakwater_commit (s : State) (p why : Nat) : (s.breakwater p why).commit = s.commit := by
  rw [s.breakwater_eq, State.put_commit, State.put_commit, State.breakwaterSince]
  split
  · rfl
  · rw [State.put_commit]

theorem State.breakwater_sp (s : State) (p why : Nat) : (s.breakwater p why).sp = s.sp := by
  rw [s.breakwater_eq, State.put_sp, State.put_sp, State.breakwaterSince]
  split
  · rfl
  · rw [State.put_sp]

/-- The Breakwater writes no register but BOL_BW and BOL_STAT. -/
theorem State.word_breakwater_other (s : State) {p a : Nat} (why : Nat) (hbw : a ≠ BOL_BW p) (hstat : a ≠ BOL_STAT p) :
    (s.breakwater p why).word a = s.word a := by
  rw [s.breakwater_eq, State.word_put_other _ _ hstat, State.word_put_other _ _ hbw, State.breakwaterSince]
  split
  · rfl
  · exact s.word_put_other _ hbw

/-- The Breakwater is applied. -/
theorem State.breakwater_active (s : State) (p why : Nat) : (s.breakwater p why).get (BOL_STAT_BW_ACTIVE p) = 1 := by
  rw [s.breakwater_eq, State.get_put_same _ _ _ (by simp [BOL_STAT_BW_ACTIVE])]
  rfl

/-- It shows why it is applied. -/
theorem State.breakwater_why (s : State) (p : Nat) {why : Nat} (h : why < 5) : ((s.breakwater p why).get (BOL_BW_WHY p)).testBit why = true := by
  rw [s.breakwater_eq, State.get_put_reg _ _ (bolAddr_ne (by decide)), State.get_put_same _ _ _ (by simp [BOL_BW_WHY]), Nat.testBit_mod_two_pow, setBitN,
    Nat.testBit_or, Nat.testBit_two_pow_self, Bool.or_true]
  simp [BOL_BW_WHY, h]

/-! ### Errors of a core -/

/-- CERR keeps the error bits `b` with the tick of the first (R76). -/
def State.noteCerr (s : State) (p b : Nat) : State :=
  let v := if s.get (BOL_CERR_SEEN p) = 0 then s.put (BOL_CERR_TICK p) (s.jt % 2 ^ 32) else s
  (v.put (BOL_CERR_SEEN p) (v.get (BOL_CERR_SEEN p) ||| b % 16)).coin (.set (BOL_CERR p) (BitVec.ofNat 64 (b % 16)))

/-- The error bits seen are kept with the new ones. -/
theorem State.noteCerr_seen (s : State) (p b : Nat) : (s.noteCerr p b).get (BOL_CERR_SEEN p) = s.get (BOL_CERR_SEEN p) ||| b % 16 := by
  have hlt (v : State) : v.get (BOL_CERR_SEEN p) ||| b % 16 < 2 ^ 4 := Nat.or_lt_two_pow (v.get_lt (BOL_CERR_SEEN p)) (Nat.mod_lt _ (by decide))
  simp only [State.noteCerr, State.get_coin]
  rw [State.get_put_same _ _ _ (by simp [BOL_CERR_SEEN])]
  refine (Nat.mod_eq_of_lt (hlt _)).trans ?_
  split
  · rw [State.get_put_other _ _ (by simp [BOL_CERR_TICK]) (by simp [BOL_CERR_SEEN, BOL_CERR_TICK])]
  · rfl

/-- It writes BOL_CERR and no other register. -/
theorem State.word_noteCerr_other (s : State) {p a : Nat} (b : Nat) (h : a ≠ BOL_CERR p) : (s.noteCerr p b).word a = s.word a := by
  simp only [State.noteCerr, State.word_coin]
  rw [State.word_put_other _ _ h]
  split
  · exact s.word_put_other _ h
  · rfl

theorem State.noteCerr_commit (s : State) (p b : Nat) : (s.noteCerr p b).commit = s.commit := by
  simp only [State.noteCerr, State.coin, State.put_commit]
  split
  · rw [State.put_commit]
  · rfl

theorem State.noteCerr_sp (s : State) (p b : Nat) : (s.noteCerr p b).sp = s.sp := by
  simp only [State.noteCerr, State.coin, State.put_sp]
  split
  · rw [State.put_sp]
  · rfl

/-- CERR with an edge, up to the cause: the edge is kept and the Breakwater applied. -/
def State.cerrMet (s : State) (p b : Nat) : State := (s.noteCerr p b).breakwater p 1

theorem State.cerrMet_commit (s : State) (p b : Nat) : (s.cerrMet p b).commit = s.commit := by
  rw [State.cerrMet, State.breakwater_commit, State.noteCerr_commit]

theorem State.cerrMet_sp (s : State) (p b : Nat) : (s.cerrMet p b).sp = s.sp := by
  rw [State.cerrMet, State.breakwater_sp, State.noteCerr_sp]

/-- It writes BOL_CERR, BOL_BW and BOL_STAT and no other register. -/
theorem State.word_cerrMet_other (s : State) {p a : Nat} (b : Nat) (hcerr : a ≠ BOL_CERR p) (hbw : a ≠ BOL_BW p) (hstat : a ≠ BOL_STAT p) :
    (s.cerrMet p b).word a = s.word a := by
  rw [State.cerrMet, State.word_breakwater_other _ _ hbw hstat, State.word_noteCerr_other _ _ hcerr]

theorem State.cerrMet_seen (s : State) (p b : Nat) : (s.cerrMet p b).get (BOL_CERR_SEEN p) = s.get (BOL_CERR_SEEN p) ||| b % 16 := by
  rw [State.cerrMet, State.get_congr (State.word_breakwater_other _ _ (bolAddr_ne (by decide)) (bolAddr_ne (by decide))), State.noteCerr_seen]

/-- BOL_OPEN and BOL_CTL are as before until the cause is met. -/
theorem State.cerrMet_open (s : State) (p b : Nat) : (s.cerrMet p b).word (BOL_OPEN p) = s.word (BOL_OPEN p) :=
  s.word_cerrMet_other b (bolAddr_ne (by decide)) (bolAddr_ne (by decide)) (bolAddr_ne (by decide))

theorem State.cerrMet_reportsFull (s : State) (p b : Nat) : (s.cerrMet p b).reportsFull p = s.reportsFull p :=
  State.reportsFull_congr (s.word_cerrMet_other b (bolAddr_ne (by decide)) (bolAddr_ne (by decide)) (bolAddr_ne (by decide)))

/-- CERR with an edge, in a domain that is good (R76). -/
theorem State.coreError_edges {s : State} {p b : Nat} (h : s.cdomOk p = true) (hb : b % 16 ≠ 0) :
    s.coreError p b = (s.cerrMet p b).cause p cCore := by
  simp [State.coreError, State.cerrMet, State.noteCerr, h, hb]

theorem exec_coreError (s : State) (c p b : Nat) : exec (.coreError c p b) s = run s c fun u => u.fromCore p fun u => u.coreError p b := (rfl)

theorem exec_coreError_edges {s : State} {p b : Nat} (c : Nat) (h : s.start.held = false) (ht : s.isTile p = true) (hok : s.cdomOk p = true)
    (hb : b % 16 ≠ 0) : exec (.coreError c p b) s = .next (s.after c fun u => (u.cerrMet p b).cause p cCore) :=
  exec_of_fromCore (exec_coreError ..) h ht hok (State.coreError_edges (s := s.begin_ c) hok hb)

/-- Settles O52: the command is the Breakwater and the cause CORE of a state that keeps the edge; that CLEAN falls also on a tile that does not report in full
is the model's reading (log entry 124). -/
theorem coreErrorPulls : Obligations.CoreErrorPulls := by
  intro s c p b h ht hok hb
  set v := (s.begin_ c).cerrMet p b with hv
  have hsp : (v.cause p cCore).sp = s.sp := by rw [(v.sameBeside_cause p cCore).sp, State.setWord_sp, hv, State.cerrMet_sp, State.begin_sp]
  have hget {f : Fld} {i : Nat} (hi : f.reg = bolAddr p i) (hopen : f.reg ≠ BOL_OPEN p) :
      (s.after c fun u => (u.cerrMet p b).cause p cCore).get f = v.get f :=
    (after_bolGet hsp hi).trans (v.get_cause_other cCore hopen)
  have hopen : (s.after c fun u => (u.cerrMet p b).cause p cCore).word (BOL_OPEN p) = latchCause (s.word (BOL_OPEN p)) cCore := by
    refine (after_bolWord hsp).trans ((v.word_cause_same p cCore).trans ?_)
    rw [hv, State.cerrMet_open, State.begin_word]
  have hfull : v.reportsFull p = s.reportsFull p := (s.begin_ c).cerrMet_reportsFull p b
  have hcommit : v.commit = s.commit := (s.begin_ c).cerrMet_commit p b
  refine ⟨_, exec_coreError_edges c h ht hok hb, ?seen, ?latched, ?clean, ?active, ?why, ?full, ?quiet⟩
  case seen => exact (hget rfl (bolAddr_ne (by decide))).trans ((s.begin_ c).cerrMet_seen p b)
  case latched =>
    intro i hi
    rw [hopen, testBit_latchCause (by decide) hi]
  case clean => rw [hopen, testBit_latchCause_clean]
  case active => exact (hget rfl (bolAddr_ne (by decide))).trans (State.breakwater_active _ p 1)
  case why =>
    rw [hget rfl (bolAddr_ne (by decide))]
    exact State.breakwater_why _ p (by decide)
  case full =>
    intro hf hn
    obtain ⟨code, hpulls⟩ := State.pulls_cause_full (s := v) (c := cCore) (by decide) (hfull.trans hf) (by rwa [hv, State.cerrMet_open])
    refine ⟨⟨0, quayOf p, localOf p, code, 1, 0, v.now⟩, ?_, rfl, rfl, rfl, rfl, rfl⟩
    rw [after_commit, ← hcommit]
    exact hpulls
  case quiet =>
    intro hf hm
    have hmoves : v.migratesTo p = false := by
      rw [State.migratesTo, hcommit]
      exact hm
    rw [after_commit, State.commit_cause_quiet (s := v) cCore (hfull.trans hf) hmoves, hcommit]

end Sys2Proof.Machine

/-!
PROOFS. Sleep (chapter 02): what a Bollard's derived fields come to, and what a sleep beat does.
-/

namespace Sys2Proof.Machine

/-! ### The derived fields of a Bollard (R94, R97) -/

/-- A flag takes one bit. -/
theorem bit_lt : ∀ b : Bool, bit b < 2 ^ 1 := by decide

/-- The reasons for which the core's clock is gated, as GATE_WHY shows them. -/
def State.gateWhy (s : State) (p : Nat) : Nat :=
  bit (s.flag (BOL_CTL_CG_HOLD p)) + 2 * bit ((s.tile p).asleep || (s.tile p).parked || (s.tile p).hawserHold) + 4 * bit (s.tile p).overrun
    + 8 * bit !(s.cdomOk p && s.crstHigh p)

/-- A core that sleeps is gated for it. -/
theorem State.testBit_gateWhy_asleep {s : State} {p : Nat} (h : (s.tile p).asleep = true) : (s.gateWhy p).testBit 1 = true := by
  have hbits : ∀ hold late down : Bool, (bit hold + 2 * bit true + 4 * bit late + 8 * bit down).testBit 1 = true := by decide
  rw [State.gateWhy, h, Bool.true_or, Bool.true_or]
  exact hbits _ _ _

theorem State.gateWhy_lt (s : State) (p : Nat) : s.gateWhy p < 2 ^ 4 := by
  have hbits : ∀ hold slp late down : Bool, bit hold + 2 * bit slp + 4 * bit late + 8 * bit down < 2 ^ 4 := by decide
  exact hbits _ _ _ _

/-- The fields of BOL_STAT that follow the tile. -/
def State.refreshStat (s : State) (p : Nat) : State :=
  let down := !(s.cdomOk p && s.crstHigh p)
  ((s.put (BOL_STAT_SLEEP p) (bit (s.tile p).asleep)).put (BOL_STAT_CDOM_ON p) (bit !down)).put (BOL_STAT_GUARD_ACTIVE p)
    (bit (s.flag (BOL_CTL_GUARD p) || down || decide (s.role p = roleTest)))

theorem State.refreshTile_eq (s : State) (p : Nat) :
    s.refreshTile p = ((s.refreshStat p).put (BOL_CLK_GATE_WHY p) (s.gateWhy p)).put (BOL_CLK_RUN p) (bit (decide (s.gateWhy p = 0))) := (rfl)

theorem State.tile_refreshTile (s : State) (p r : Nat) : (s.refreshTile p).tile r = s.tile r := by
  simp only [s.refreshTile_eq, State.refreshStat, State.tile_put]

theorem State.refreshTile_sp (s : State) (p : Nat) : (s.refreshTile p).sp = s.sp := by
  simp only [s.refreshTile_eq, State.refreshStat, State.put_sp]

/-- They stand in BOL_STAT and BOL_CLK. -/
theorem State.word_refreshTile_other (s : State) {p a : Nat} (hstat : a ≠ BOL_STAT p) (hclk : a ≠ BOL_CLK p) : (s.refreshTile p).word a = s.word a := by
  rw [s.refreshTile_eq, State.word_put_other _ _ hclk, State.word_put_other _ _ hclk, State.refreshStat, State.word_put_other _ _ hstat,
    State.word_put_other _ _ hstat, State.word_put_other _ _ hstat]

theorem State.refreshTile_run (s : State) (p : Nat) : (s.refreshTile p).get (BOL_CLK_RUN p) = bit (decide (s.gateWhy p = 0)) := by
  rw [s.refreshTile_eq, State.get_put_same _ _ _ (by simp [BOL_CLK_RUN])]
  exact Nat.mod_eq_of_lt (bit_lt _)

theorem State.refreshTile_gateWhy (s : State) (p : Nat) : (s.refreshTile p).get (BOL_CLK_GATE_WHY p) = s.gateWhy p := by
  rw [s.refreshTile_eq, State.get_put_other _ _ (by simp [BOL_CLK_RUN]) (by simp [BOL_CLK_RUN, BOL_CLK_GATE_WHY]),
    State.get_put_same _ _ _ (by simp [BOL_CLK_GATE_WHY])]
  exact Nat.mod_eq_of_lt (s.gateWhy_lt p)

theorem State.refreshTile_sleep (s : State) (p : Nat) : (s.refreshTile p).get (BOL_STAT_SLEEP p) = bit (s.tile p).asleep := by
  rw [s.refreshTile_eq, State.get_put_reg _ _ (bolAddr_ne (by decide)), State.get_put_reg _ _ (bolAddr_ne (by decide)), State.refreshStat,
    State.get_put_other _ _ (by simp [BOL_STAT_GUARD_ACTIVE]) (by simp [BOL_STAT_GUARD_ACTIVE, BOL_STAT_SLEEP]),
    State.get_put_other _ _ (by simp [BOL_STAT_CDOM_ON]) (by simp [BOL_STAT_CDOM_ON, BOL_STAT_SLEEP]), State.get_put_same _ _ _ (by simp [BOL_STAT_SLEEP])]
  exact Nat.mod_eq_of_lt (bit_lt _)

/-! ### A sleep beat (R73, R82) -/

/-- The state with no closed tile of `p` left to wait for its step. -/
def State.stepsClosed (s : State) (p : Nat) : State := s.modTile p (fun t => { t with steps := [] })

/-- With no closed tile waiting, the closing of steps sends nothing (R139). -/
theorem State.closeSteps_none {s : State} {p : Nat} (h : (s.tile p).steps = []) : s.closeSteps p = s.stepsClosed p := by
  simp only [State.closeSteps, State.stepsClosed, h, List.foldl_nil, ite_self]

/-- A sleep beat notes itself and loads the mask of its channels. -/
def State.sleepNoted (s : State) (p m : Nat) : State :=
  (s.coin (.slept p (s.get (BOL_WAKE_MASK p)) (!(s.flag (BOL_WAKE_PENDING p) || s.wokeNow p m)) (s.tile p).progress)).put (BOL_WAKE_MASK p) m

/-- A sleep beat that gates the core: what it leaves before the progress it counts as. -/
def State.sleepGated (s : State) (p m : Nat) : State := ((s.sleepNoted p m).modTile p (fun t => { t with asleep := true })).refreshTile p

theorem State.sleepBeat_woken {s : State} {p m : Nat} (h : s.flag (BOL_WAKE_PENDING p) = true ∨ s.wokeNow p m = true) :
    s.sleepBeat p m = (s.sleepNoted p m).put (BOL_WAKE_PENDING p) 0 := if_pos (Bool.or_eq_true_iff.mpr h)

theorem State.sleepBeat_gates {s : State} {p m : Nat} (hp : s.flag (BOL_WAKE_PENDING p) = false) (hw : s.wokeNow p m = false) :
    s.sleepBeat p m = (s.sleepGated p m).progressAt p := by
  simp [State.sleepBeat, State.sleepGated, State.sleepNoted, hp, hw]

theorem State.sleepNoted_mask (s : State) (p m : Nat) : (s.sleepNoted p m).get (BOL_WAKE_MASK p) = m % 2 ^ 16 := by
  rw [State.sleepNoted, State.get_put_same _ _ _ (by simp [BOL_WAKE_MASK])]
  rfl

theorem State.sleepNoted_pending (s : State) (p m : Nat) : (s.sleepNoted p m).get (BOL_WAKE_PENDING p) = s.get (BOL_WAKE_PENDING p) := by
  rw [State.sleepNoted, State.get_put_other _ _ (by simp [BOL_WAKE_MASK]) (by simp [BOL_WAKE_MASK, BOL_WAKE_PENDING]), State.get_coin]

/-- A beat that is progress marks its tile and PROG of BOL_OPEN. -/
theorem State.progressAt_eq (s : State) (p : Nat) : s.progressAt p = (s.modTile p (fun t => { t with progress := true })).put (openProg p) 1 := (rfl)

theorem State.get_progressAt_other (s : State) {p : Nat} {f : Fld} (h : f.reg ≠ BOL_OPEN p) : (s.progressAt p).get f = s.get f := by
  rw [s.progressAt_eq, State.get_put_reg _ _ (show f.reg ≠ (openProg p).reg from h), State.get_modTile]

theorem State.progressAt_sp (s : State) (p : Nat) : (s.progressAt p).sp = s.sp := by
  rw [s.progressAt_eq, State.put_sp, State.modTile, State.setTile_sp]

theorem State.asleep_progressAt (s : State) (p : Nat) : ((s.progressAt p).tile p).asleep = (s.tile p).asleep := by
  rw [s.progressAt_eq, State.tile_put, State.tile_modTile_same]

theorem State.sleepGated_asleep (s : State) (p m : Nat) : ((s.sleepGated p m).tile p).asleep = true := by
  rw [State.sleepGated, State.tile_refreshTile, State.tile_modTile_same]

/-- The clock of a core put to sleep is gated for sleep. -/
theorem State.sleepGated_gateWhy (s : State) (p m : Nat) :
    ((s.sleepGated p m).get (BOL_CLK_GATE_WHY p)).testBit 1 = true ∧ (s.sleepGated p m).get (BOL_CLK_RUN p) = 0 := by
  have hwhy : (((s.sleepNoted p m).modTile p (fun t => { t with asleep := true })).gateWhy p).testBit 1 = true :=
    State.testBit_gateWhy_asleep (by rw [State.tile_modTile_same])
  have hne : ((s.sleepNoted p m).modTile p (fun t => { t with asleep := true })).gateWhy p ≠ 0 := fun h0 => by simp [h0] at hwhy
  rw [State.sleepGated, State.refreshTile_gateWhy, State.refreshTile_run, decide_eq_false hne]
  exact ⟨hwhy, rfl⟩

theorem State.sleepGated_sleep (s : State) (p m : Nat) : (s.sleepGated p m).get (BOL_STAT_SLEEP p) = 1 := by
  rw [State.sleepGated, State.refreshTile_sleep, State.tile_modTile_same]
  rfl

/-- The gating leaves BOL_WAKE. -/
theorem State.get_sleepGated_wake (s : State) {p : Nat} (m : Nat) {f : Fld} (h : f.reg = BOL_WAKE p) :
    (s.sleepGated p m).get f = (s.sleepNoted p m).get f := by
  have hstat : f.reg ≠ BOL_STAT p := h ▸ bolAddr_ne (by decide)
  have hclk : f.reg ≠ BOL_CLK p := h ▸ bolAddr_ne (by decide)
  rw [State.sleepGated, State.get_congr (State.word_refreshTile_other _ hstat hclk), State.get_modTile]

theorem State.sleepNoted_sp (s : State) (p m : Nat) : (s.sleepNoted p m).sp = s.sp := by
  rw [State.sleepNoted, State.put_sp, State.coin_sp]

theorem State.sleepGated_sp (s : State) (p m : Nat) : (s.sleepGated p m).sp = s.sp := by
  rw [State.sleepGated, State.refreshTile_sp, State.modTile, State.setTile_sp, State.sleepNoted_sp]

/-- Up to the gating a sleep beat writes BOL_WAKE and no other register. -/
theorem State.word_sleepNoted_other (s : State) {p a : Nat} (m : Nat) (h : a ≠ BOL_WAKE p) : (s.sleepNoted p m).word a = s.word a := by
  rw [State.sleepNoted, State.word_put_other _ _ (show a ≠ (BOL_WAKE_MASK p).reg from h), State.word_coin]

theorem State.tile_sleepNoted (s : State) (p m r : Nat) : (s.sleepNoted p m).tile r = s.tile r := by
  rw [State.sleepNoted, State.tile_put, State.tile_coin]

/-! ### SIDEBAND_SLEEP -/

theorem exec_sidebandSleep (s : State) (c p m : Nat) :
    exec (.sidebandSleep c p m) s = run s c fun u => u.fromCore p fun u =>
      if m % 2 ^ 16 = 0 then (u.closeSteps p).park p else (u.closeSteps p).sleepBeat p (m % 2 ^ 16) := (rfl)

/-- A sleep beat with channels, from a core whose domain is good (R73). -/
theorem exec_sidebandSleep_channels {s : State} {p m : Nat} (c : Nat) (h : s.start.held = false) (ht : s.isTile p = true) (hok : s.cdomOk p = true)
    (hm : m % 2 ^ 16 ≠ 0) : exec (.sidebandSleep c p m) s = .next (s.after c fun u => (u.closeSteps p).sleepBeat p (m % 2 ^ 16)) :=
  exec_of_fromCore (exec_sidebandSleep ..) h ht hok (if_neg hm)

/-- So a sleep beat that finds no closed tile without its step. -/
theorem exec_sidebandSleep_noSteps {s : State} {p m : Nat} (c : Nat) (h : s.start.held = false) (ht : s.isTile p = true) (hok : s.cdomOk p = true)
    (hsteps : (s.tile p).steps = []) (hm : m % 2 ^ 16 ≠ 0) :
    exec (.sidebandSleep c p m) s = .next (s.after c fun u => (u.stepsClosed p).sleepBeat p (m % 2 ^ 16)) := by
  have hclose := State.closeSteps_none (s := s.begin_ c) hsteps
  rw [exec_sidebandSleep_channels c h ht hok hm]
  exact congrArg Host.Outcome.next (after_congr (congrArg (State.sleepBeat · p (m % 2 ^ 16)) hclose))

theorem State.asleep_stepsClosed (s : State) (p : Nat) : ((s.stepsClosed p).tile p).asleep = (s.tile p).asleep := by
  rw [State.stepsClosed, State.tile_modTile_same]

theorem State.stepsClosed_sp (s : State) (p : Nat) : (s.stepsClosed p).sp = s.sp := by rw [State.stepsClosed, State.modTile, State.setTile_sp]

/-- Settles O54: the beat is taken up with the wake of its own cycle or the pending one, which clears PENDING, or it gates the core. That a wake in the cycle
of the beat counts under either mask is the model's reading (log entry 127). -/
theorem sleepNeedsNoPendingWake : Obligations.SleepNeedsNoPendingWake := by
  intro s c p m h ht hok hsteps hm
  set v := (s.begin_ c).stepsClosed p with hv
  have hexec := exec_sidebandSleep_noSteps c h ht hok hsteps hm
  have hmask : m % 2 ^ 16 % 2 ^ 16 = m % 2 ^ 16 := Nat.mod_mod _ _
  have hvsp : v.sp = s.sp := by rw [hv, State.stepsClosed_sp, State.begin_sp]
  have hget {f : Fld} {i : Nat} (hsp : (v.sleepBeat p (m % 2 ^ 16)).sp = s.sp) (hf : f.reg = bolAddr p i) :
      (s.after c fun u => (u.stepsClosed p).sleepBeat p (m % 2 ^ 16)).get f = (v.sleepBeat p (m % 2 ^ 16)).get f := after_bolGet hsp hf
  constructor
  · intro hwake
    have hbeat : v.sleepBeat p (m % 2 ^ 16) = (v.sleepNoted p (m % 2 ^ 16)).put (BOL_WAKE_PENDING p) 0 := State.sleepBeat_woken hwake
    have hsp : (v.sleepBeat p (m % 2 ^ 16)).sp = s.sp := by rw [hbeat, State.put_sp, State.sleepNoted_sp, hvsp]
    refine ⟨_, hexec, ?pending, ?mask, ?asleep, ?clk⟩
    case pending => rw [hget hsp rfl, hbeat, State.get_put_same _ _ _ (by simp [BOL_WAKE_PENDING]), Nat.zero_mod]
    case mask =>
      rw [hget hsp rfl, hbeat, State.get_put_other _ _ (by simp [BOL_WAKE_PENDING]) (by simp [BOL_WAKE_MASK, BOL_WAKE_PENDING]),
        State.sleepNoted_mask, hmask]
    case asleep => rw [after_tile, ← hv, hbeat, State.tile_put, State.tile_sleepNoted, hv, State.asleep_stepsClosed, State.begin_tile]
    case clk =>
      have hclk : BOL_CLK p ≠ BOL_WAKE p := bolAddr_ne (by decide)
      have hword : (v.sleepBeat p (m % 2 ^ 16)).word (BOL_CLK p) = s.word (BOL_CLK p) := by
        rw [hbeat, State.word_put_other _ _ hclk, State.word_sleepNoted_other _ _ hclk, hv, State.stepsClosed, State.word_modTile, State.begin_word]
      exact (after_bolWord (f := fun u => (u.stepsClosed p).sleepBeat p (m % 2 ^ 16)) hsp).trans hword
  · intro hpend hwoke
    have hbeat : v.sleepBeat p (m % 2 ^ 16) = (v.sleepGated p (m % 2 ^ 16)).progressAt p := State.sleepBeat_gates hpend hwoke
    have hsp : (v.sleepBeat p (m % 2 ^ 16)).sp = s.sp := by rw [hbeat, State.progressAt_sp, State.sleepGated_sp, hvsp]
    have hgated {f : Fld} {i : Nat} (hf : f.reg = bolAddr p i) (hopen : f.reg ≠ BOL_OPEN p) :
        (s.after c fun u => (u.stepsClosed p).sleepBeat p (m % 2 ^ 16)).get f = (v.sleepGated p (m % 2 ^ 16)).get f := by
      rw [hget hsp hf, hbeat, State.get_progressAt_other _ hopen]
    obtain ⟨hwhy, hrun⟩ := v.sleepGated_gateWhy p (m % 2 ^ 16)
    refine ⟨_, hexec, ?pending, ?mask, ?asleep, ?run, ?why, ?sleep⟩
    case pending =>
      rw [hgated rfl (bolAddr_ne (by decide)), State.get_sleepGated_wake _ _ rfl, State.sleepNoted_pending]
      exact of_not_not (of_decide_eq_false hpend)
    case mask => rw [hgated rfl (bolAddr_ne (by decide)), State.get_sleepGated_wake _ _ rfl, State.sleepNoted_mask, hmask]
    case asleep => rw [after_tile, ← hv, hbeat, State.asleep_progressAt, State.sleepGated_asleep]
    case run => rw [hgated rfl (bolAddr_ne (by decide)), hrun]
    case why => rw [hgated rfl (bolAddr_ne (by decide)), hwhy]
    case sleep => rw [hgated rfl (bolAddr_ne (by decide)), State.sleepGated_sleep]

end Sys2Proof.Machine

/-!
PROOFS. The sideband and the taps of a tile (chapters 02 and 03): what their beats come to, and that the commands complete.
-/

namespace Sys2Proof.Machine

/-! ### The sideband -/

/-- A descriptor without fault that finds a free place opens a tile (R57, R58). -/
theorem State.descBeat_opens {s : State} {p : Nat} {d : BitVec 64} (hok : s.cdomOk p = true) (hroom : (s.tile p).opens.length < 4)
    (hd : descReason d false = 0) :
    s.descBeat p d =
      let v := (s.put (BOL_CTX_NEXT_SEQ p) (dSeq d + 1)).setWord (BOL_DESC p) d
      (v.modTile p (fun t => { t with opens := t.opens ++ [OpenTile.start d v.jt 0 false] })).showCtx p := by
  have hfull : decide (4 ≤ (s.tile p).opens.length) = false := decide_eq_false (Nat.not_le.mpr hroom)
  simp [State.descBeat, hok, hfull, hd]

/-- An address beat that a tile awaits goes to it (R142). -/
theorem State.addrBeat_awaited {s : State} {p l : Nat} (hr : (s.tile p).lastRefused = none) (ha : (s.tile p).awaitsAddr = some l) :
    s.addrBeat p = (s, some l) := by
  simp [State.addrBeat, hr, ha]

/-- An address beat that no tile awaits is a stray beat. -/
theorem State.addrBeat_stray {s : State} {p : Nat} (hr : (s.tile p).lastRefused = none) (ha : (s.tile p).awaitsAddr = none) :
    s.addrBeat p = (s.strayBeat p, none) := by
  simp [State.addrBeat, hr, ha]

/-- A good address, or one of a tile that is judged already, is taken as it is. -/
theorem State.takeAddr_good {s : State} {p n : Nat} {w : Word} {o : OpenTile} (ho : (s.tile p).opens[n]? = some o)
    (hw : o.judged = false → addrBad o.desc w = false) :
    s.takeAddr p n w = (s.setWord (BOL_ADDR p) w).setOpen p n { o with addr := some w } := by
  have hgood : (!o.judged && addrBad o.desc w) = false := by
    cases hj : o.judged
    · simp [hw hj]
    · rfl
  simp [State.takeAddr, ho, hgood]

theorem exec_sidebandDesc (s : State) (c p : Nat) (d : BitVec 64) :
    exec (.sidebandDesc c p d) s = run s c fun u => u.fromCore p fun u => (u.closeSteps p).descBeat p d := (rfl)

theorem exec_sidebandAddr (s : State) (c p : Nat) (w : BitVec 64) (heldA heldB : Nat) :
    exec (.sidebandAddr c p w heldA heldB) s = run s c fun u => u.fromCore p fun u =>
      match u.addrBeat p with
      | (u, some n) => (u.takeAddr p n w).decide_ p n heldA heldB
      | (u, none) => u := (rfl)

theorem exec_sidebandStep (s : State) (c p n : Nat) : exec (.sidebandStep c p n) s = run s c fun u => u.fromCore p fun u => u.stepBeat p n := (rfl)

/-- Settles O2: each beat is a run in the core's domain whose effect, in the case of its clause, is the one that the lemmas above give. -/
theorem sidebandCompletes : Obligations.SidebandCompletes := by
  intro s c p h ht hok
  refine ⟨?desc, ?opens, ?addr, ?stray, ?step, ?sleep, ?park⟩
  case desc =>
    intro d
    exact exec_of_fromCore (exec_sidebandDesc ..) h ht hok rfl
  case opens =>
    intro d hsteps hroom hd
    have hclose := State.closeSteps_none (s := s.begin_ c) hsteps
    have hopens : ((s.begin_ c).stepsClosed p).tile p = { s.tile p with steps := [] } := State.tile_modTile_same _ _ _
    exact exec_of_fromCore (exec_sidebandDesc ..) h ht hok
      ((congrArg (State.descBeat · p d) hclose).trans (State.descBeat_opens (s := (s.begin_ c).stepsClosed p) hok (by rw [hopens]; exact hroom) hd))
  case addr =>
    intro w a b o l hr ha ho hw
    refine exec_of_fromCore (exec_sidebandAddr ..) h ht hok ?_
    simp only [State.addrBeat_awaited (s := s.begin_ c) hr ha]
    rw [State.takeAddr_good (s := s.begin_ c) ho hw]
  case stray =>
    intro w a b hr ha
    refine exec_of_fromCore (exec_sidebandAddr ..) h ht hok ?_
    simp only [State.addrBeat_stray (s := s.begin_ c) hr ha]
  case step =>
    intro n
    exact exec_of_fromCore (exec_sidebandStep ..) h ht hok rfl
  case sleep =>
    intro m hm
    exact exec_sidebandSleep_channels c h ht hok hm
  case park =>
    intro m hm
    exact exec_of_fromCore (exec_sidebandSleep ..) h ht hok (if_pos hm)

/-! ### The taps -/

/-- The only open tile is in its operand phase. -/
theorem TileSt.operandTile_single {t : TileSt} {o : OpenTile} (hopens : t.opens = [o]) (hr : t.refused = none) (hd : o.operandsDone = false) :
    t.operandTile = some (.inl 0) := by
  simp [TileSt.operandTile, hopens, hr, hd, List.findIdx?_cons]

/-- A tile that has had a beat is touched already. -/
theorem State.firstTouch_touched {s : State} {p n : Nat} {o : OpenTile} (ho : (s.tile p).opens[n]? = some o) (ht : o.touched = true) :
    s.firstTouch p n = s := by
  simp [State.firstTouch, ho, ht]

section
variable {s : State} {p n : Nat} {o : OpenTile} (hok : s.cdomOk p = true) (hn : (s.tile p).operandTile = some (.inl n))
  (ho : (s.tile p).opens[n]? = some o) (ht : o.touched = true)
include hok hn ho ht

/-- An element beat is folded into its panel; one that does not fit sets cause COUNT (R60). -/
theorem State.operandBeat_elem (isB : Bool) (data : BitVec 256) (lanes l idx : Nat) (lend : Bool) :
    s.operandBeat p isB false data lanes l idx lend =
      let r := o.elemBeat s.now isB data lanes l idx lend
      let v := (s.setOpen p n { r.1 with miscount := r.1.miscount || r.2 }).showCtx p
      if r.2 = true then v.cause p cCount else v := by
  simp only [State.operandBeat, hok, hn, State.firstTouch_touched ho ht, ho, Bool.not_true, Bool.false_eq_true, if_false]

/-- A scale beat is taken up by its tile (R60). -/
theorem State.operandBeat_scale (isB : Bool) (data : BitVec 256) (lanes l idx : Nat) (lend : Bool) :
    s.operandBeat p isB true data lanes l idx lend = s.setOpen p n (o.scaleBeat isB data lanes l idx) := by
  simp only [State.operandBeat, hok, hn, State.firstTouch_touched ho ht, ho, Bool.not_true, Bool.false_eq_true, if_false, if_true]

end

/-- An operand beat that finds no tile in its operand phase is a stray beat (R60). -/
theorem State.operandBeat_stray {s : State} {p : Nat} (isB scale : Bool) (data : BitVec 256) (lanes l idx : Nat) (lend : Bool)
    (hok : s.cdomOk p = true) (hn : (s.tile p).operandTile = none) : s.operandBeat p isB scale data lanes l idx lend = s.strayBeat p := by
  simp only [State.operandBeat, hok, hn, Bool.not_true, Bool.false_eq_true, if_false]

/-- A write-back beat that fits the first open tile and does not fill it is added to it (R64). -/
theorem State.writeBack_adds {s : State} {p : Nat} {o : OpenTile} {l : List OpenTile} {data : BitVec 256} {lanes i j : Nat} (hok : s.cdomOk p = true)
    (hopens : (s.tile p).opens = o :: l) (hr : (s.tile p).refused = none) (ht : o.touched = true) (hfmt : dFmt o.desc < 8)
    (hfits : o.wb + lanes ≤ dM o.desc * dN o.desc) (hmore : (o.wbBeat data lanes i j).wb < dM o.desc * dN o.desc) :
    s.writeBack p data lanes i j = s.setOpen p 0 { o.wbBeat data lanes i j with sig := o.sig ^^^ wbSig (dFmt o.desc) data lanes i j } := by
  have hrefused : (s.tile p).refusedNext = none := by simp [TileSt.refusedNext, hr]
  have htouch : s.firstTouch p 0 = s := State.firstTouch_touched (o := o) (by simp [hopens]) ht
  have hsig : s.beatSig (dFmt o.desc) data lanes i j = (s, wbSig (dFmt o.desc) data lanes i j) := if_neg (Nat.not_le.mpr hfmt)
  simp only [State.writeBack, hok, hrefused, hopens, htouch, hsig, Bool.not_true, Bool.false_eq_true, if_false, List.isEmpty_cons,
    OpenTile.wbBeat_desc, decide_eq_false (Nat.not_lt.mpr hfits), decide_eq_false (Nat.not_le.mpr hmore), Bool.false_and, Bool.or_false]

theorem exec_operandTapBeat (s : State) (c p : Nat) (isB scale : Bool) (data : BitVec 256) (lanes l idx : Nat) (lend : Bool) :
    exec (.operandTapBeat c p isB scale data lanes l idx lend) s = run s c fun u => u.fromCore p fun u =>
      u.operandBeat p isB scale data lanes l idx lend := (rfl)

theorem exec_writebackBeat (s : State) (c p : Nat) (data : BitVec 256) (lanes i j : Nat) :
    exec (.writebackBeat c p data lanes i j) s = run s c fun u => u.fromCore p fun u => u.beatDone (u.writeBack p data lanes i j) p := (rfl)

/-- Settles O3: each tap is a run in the core's domain whose effect, in the case of its clause, is the one that the lemmas above give. -/
theorem tapsComplete : Obligations.TapsComplete := by
  intro s c p h ht hok
  refine ⟨?beat, ?elem, ?scale, ?stray, ?back, ?adds⟩
  case beat =>
    intro isB scale data lanes l idx lend
    exact exec_of_fromCore (exec_operandTapBeat ..) h ht hok rfl
  case elem =>
    intro o isB data lanes l idx lend hopens hr htouched hd
    have htile : ((s.begin_ c).tile p).operandTile = some (.inl 0) := TileSt.operandTile_single hopens hr hd
    have ho : ((s.begin_ c).tile p).opens[0]? = some o := by simp [hopens]
    exact exec_of_fromCore (exec_operandTapBeat ..) h ht hok (State.operandBeat_elem (s := s.begin_ c) hok htile ho htouched isB data lanes l idx lend)
  case scale =>
    intro o isB data lanes l idx lend hopens hr htouched hd
    have htile : ((s.begin_ c).tile p).operandTile = some (.inl 0) := TileSt.operandTile_single hopens hr hd
    have ho : ((s.begin_ c).tile p).opens[0]? = some o := by simp [hopens]
    exact exec_of_fromCore (exec_operandTapBeat ..) h ht hok (State.operandBeat_scale (s := s.begin_ c) hok htile ho htouched isB data lanes l idx lend)
  case stray =>
    intro isB scale data lanes l idx lend hn
    exact exec_of_fromCore (exec_operandTapBeat ..) h ht hok (State.operandBeat_stray (s := s.begin_ c) isB scale data lanes l idx lend hok hn)
  case back =>
    intro data lanes i j
    exact exec_of_fromCore (exec_writebackBeat ..) h ht hok rfl
  case adds =>
    intro o data lanes i j hopens hr htouched hfmt hfits hmore
    exact exec_of_fromCore (exec_writebackBeat ..) h ht hok
      (congrArg (State.beatDone (s.begin_ c) · p) (State.writeBack_adds (s := s.begin_ c) hok hopens hr htouched hfmt hfits hmore))

end Sys2Proof.Machine

/-!
PROOFS. The events of a tile (chapter 02): its core, its router, its compute domain and its watchdog, and that their commands complete.
-/

namespace Sys2Proof.Machine

/-- Links that go down with nothing in flight, where none was down, are counted and recorded (R78). -/
theorem State.linkDown_cold {s : State} {p links : Nat} (hl : links % 16 ≠ 0) (hd : s.get (BOL_RTR_DOWN p) = 0) :
    s.linkDown p links 0 =
      let v := s.put (BOL_RTR_DOWN p) (links % 16)
      let v := v.count (BOL_RTR_LOSSES p) ((List.range 4).filter (fun i => (links % 16).testBit i)).length
      let v := v.count (BOL_RTR_INFLIGHT_LOSSES p) 0
      v.logTile p 0x050B (v.jt % 2 ^ 32) (links % 16) 0 0 := by
  simp [State.linkDown, hl, hd]

/-- A flit that reaches a guarded tile is counted and answered (R79, R594). -/
theorem State.ingress_guarded {s : State} {p : Nat} (source : Option Nat) (tag : Nat) (hg : s.flag (BOL_STAT_GUARD_ACTIVE p) = true) :
    s.ingress p source tag =
      let v := s.bump (BOL_SINK_CNT_CNT p) 1
      match source with
      | some src => v.emit (.harbourClosed p src tag)
      | none => v := if_pos hg

/-- In an open harbour the closed answers are not counted. -/
theorem State.closedSink_open {s : State} {p : Nat} (source : Option Nat) (ho : s.isOpen = true) :
    (if !s.isOpen && s.flag (BOL_STAT_GUARD_ACTIVE p) && source.isSome then s.closedAnswer 1 else s) = s := by
  simp [ho]

/-- Four ticks without progress hang a JOB core, with its record (R75). -/
theorem State.hangExpiry_expired {s : State} {p : Nat} (he : s.flag (BOL_CTL_WDOG_EN p) = true) (hr : s.role p = roleJob)
    (hi : 4 ≤ s.get (BOL_WDOG_IDLE_TICKS p)) :
    s.hangExpiry p = (s.hang p).logTile p 0x0C01 p (s.lcore p) (s.get (BOL_WDOG_LAST_STEP p)) (s.jt % 2 ^ 32) := by
  simp [State.hangExpiry, he, hr, hi]

/-! ### The meanings of the commands -/

theorem exec_lmCeInfo (s : State) (c p : Nat) : exec (.lmCeInfo c p) s = run s c fun u => u.fromCore p fun u => u.lmCe p := (rfl)

theorem exec_linkDown (s : State) (c p links inflight : Nat) :
    exec (.linkDown c p links inflight) s = run s c fun u => u.onTile p fun u => u.linkDown p links inflight := (rfl)

theorem exec_routerFault (s : State) (c p : Nat) : exec (.routerFault c p) s = run s c fun u => u.onTile p fun u => u.routerFault p := (rfl)

theorem exec_cdomLoss (s : State) (c p : Nat) : exec (.cdomLoss c p) s = run s c fun u => u.onTile p fun u => u.cdomLoss p := (rfl)

theorem exec_cdomPowerGood (s : State) (c p : Nat) :
    exec (.cdomPowerGood c p) s = run s c fun u => u.onTile p fun u => (u.cdomGood p).rstStep := (rfl)

theorem exec_cdomPowerTimeout (s : State) (c p : Nat) :
    exec (.cdomPowerTimeout c p) s = run s c fun u => u.onTile p fun u => (u.cdomTimeout p).rstStep := (rfl)

theorem exec_ingressSink (s : State) (c p : Nat) (source : Option Nat) (tag : Nat) :
    exec (.ingressSink c p source tag) s = run s c fun u => u.onTile p fun u =>
      (if !u.isOpen && u.flag (BOL_STAT_GUARD_ACTIVE p) && source.isSome then u.closedAnswer 1 else u).ingress p source tag := (rfl)

theorem exec_bollardWatchdog (s : State) (c p : Nat) : exec (.bollardWatchdog c p) s = run s c fun u => u.onTile p fun u => u.hangExpiry p := (rfl)

/-- Settles O4: each event is a run at its tile whose effect, in the case of its clause, is the one that the lemmas above give. -/
theorem tileEventsComplete : Obligations.TileEventsComplete := by
  intro s c p h ht
  refine ⟨?cerr, ?lmCe, ?links, ?cold, ?router, ?loss, ?good, ?timeout, ?guarded, ?sink, ?watchdog⟩
  case cerr =>
    intro b hok hb
    exact exec_of_fromCore (exec_coreError ..) h ht hok (State.coreError_edges (s := s.begin_ c) hok hb)
  case lmCe =>
    intro hok
    exact exec_of_fromCore (exec_lmCeInfo ..) h ht hok rfl
  case links =>
    intro links hot
    exact exec_of_onTile (exec_linkDown ..) h ht rfl
  case cold =>
    intro links hl hd
    exact exec_of_onTile (exec_linkDown ..) h ht (State.linkDown_cold (s := s.begin_ c) hl hd)
  case router => exact exec_of_onTile (exec_routerFault ..) h ht rfl
  case loss => exact exec_of_onTile (exec_cdomLoss ..) h ht rfl
  case good => exact exec_of_onTile (exec_cdomPowerGood ..) h ht rfl
  case timeout => exact exec_of_onTile (exec_cdomPowerTimeout ..) h ht rfl
  case guarded =>
    intro source tag hg ho
    have hopen := State.closedSink_open (s := s.begin_ c) (p := p) source ho
    exact exec_of_onTile (exec_ingressSink ..) h ht
      ((congrArg (State.ingress · p source tag) hopen).trans (State.ingress_guarded (s := s.begin_ c) source tag hg))
  case sink =>
    intro source tag
    exact exec_of_onTile (exec_ingressSink ..) h ht rfl
  case watchdog =>
    intro he hr hi
    exact exec_of_onTile (exec_bollardWatchdog ..) h ht (State.hangExpiry_expired (s := s.begin_ c) he hr hi)

end Sys2Proof.Machine

/-!
PROOFS. Wakes (chapters 02 and 10): what a fire on the wake bus, a wake from another quay and a forced wake come to, and that the commands complete.
-/

namespace Sys2Proof.Machine

/-- A fire that has crossed the wake bus is taken off it and reaches every tile of the region (R73). -/
theorem State.wakeChannel_due {s : State} {q ch : Nat} {e : WakeFire} (hb : s.busDue q ch = some e) :
    s.wakeChannel q ch =
      let v : State := { s with hawser.bus := s.hawser.bus.erase e }
      (v.touchedTiles.filter (fun p => decide (quayOf p = q))).foldl (fun v p => v.wakeAt p ch) v := by
  simp only [State.wakeChannel, hb]

/-- A wake from another quay fires its channel, counted as remote (R407). -/
theorem State.wakeMessage_found {s : State} {q ch : Nat} {e : Nat × Nat × Nat × Nat}
    (hf : s.hawser.wakes.find? (fun e => decide (e.1 = q) && decide (e.2.1 = ch)) = some e) :
    s.wakeMessage q ch = ({ s with hawser.wakes := s.hawser.wakes.erase e } : State).fireChannel q ch e.2.2.1 e.2.2.2 true := by
  simp only [State.wakeMessage, hf]

/-- A mask of one channel names that channel. -/
theorem channels_two_pow : ∀ ch < 16, (List.range 16).filter (fun i => (2 ^ ch).testBit i) = [ch] := by decide

/-- A forced wake of one channel fires it once (R439). -/
theorem State.wakeForce_single (s : State) (q : Nat) {ch : Nat} (hch : ch < 16) :
    s.wakeForce q (2 ^ ch) =
      let r := s.free
      r.2.fireChannel q ch (r.1.toNat % 2 ^ 10) (r.1.toNat / 2 ^ 10 % 2 ^ 6) false := by
  rw [State.wakeForce, channels_two_pow ch hch]
  rfl

theorem exec_wakeChannel (s : State) (c q ch : Nat) : exec (.wakeChannel c q ch) s = run s c fun u => u.onQuay q fun u => u.wakeChannel q ch := (rfl)

theorem exec_wakeMessage (s : State) (c q ch : Nat) : exec (.wakeMessage c q ch) s = run s c fun u => u.onQuay q fun u => u.wakeMessage q ch := (rfl)

theorem exec_wakeForce (s : State) (c q mask : Nat) :
    exec (.wakeForce c q mask) s = run s c fun u => u.onQuay q fun u => u.hostWrite (QY_WAKE_FORCE q) fun u => u.wakeForce q mask := (rfl)

/-- Settles O7: each wake is a run at its quay whose effect, in the case of its clause, is the one that the lemmas above give. -/
theorem wakesComplete : Obligations.WakesComplete := by
  intro s c q h hq
  refine ⟨?channel, ?message, ?force, ?single⟩
  case channel =>
    intro ch e hb
    exact exec_of_onQuay (exec_wakeChannel ..) h hq (State.wakeChannel_due (s := s.begin_ c) hb)
  case message =>
    intro ch e hf
    exact exec_of_onQuay (exec_wakeMessage ..) h hq (State.wakeMessage_found (s := s.begin_ c) hf)
  case force =>
    intro mask hw
    exact exec_of_onQuay (exec_wakeForce ..) h hq (hostWrite_taken (s := s.begin_ c) hw.1 hw.2)
  case single =>
    intro ch hch hw
    exact exec_of_onQuay (exec_wakeForce ..) h hq
      ((hostWrite_taken (s := s.begin_ c) hw.1 hw.2).trans (congrArg (State.emit · (.hport 0 0)) ((s.begin_ c).wakeForce_single q hch)))

end Sys2Proof.Machine

/-!
PROOFS. Accesses to a Bollard and to a tile's local memory (chapters 02 and 08): what each comes to, and that the commands complete.
-/

namespace Sys2Proof.Machine

/-! ### The side port -/

/-- The access that ends is that of the claimant of the rotation (R17, R53). -/
theorem State.sideport_won {s : State} {claims : List Nat} {client : Nat} (p word : Nat) (data : BitVec 64) (err : Nat) (held late : Bool)
    (hw : rotWinner s.jt 4 claims = some client) :
    s.sideport p claims word data err held late = (s.sideportEnd p client word data err held).checker 2 p 11 0 (bit held) late := by
  simp only [State.sideport, hw]

/-- The end of a host's read takes its data, ERR and DONE (R103). -/
theorem State.sideportEnd_hostRead {s : State} {p : Nat} (word : Nat) (data : BitVec 64) (err : Nat) (hr : s.flag (BOL_LM_ADDR_WE p) = false) :
    s.sideportEnd p 2 word data err false = ((s.setWord (BOL_LM_DATA p) data).put (BOL_LM_ADDR_ERR p) (err % 4)).put (BOL_LM_ADDR_DONE p) 1 := by
  simp [State.sideportEnd, hr]

/-! ### The test engine -/

/-- A scan that does not start sets MODE and SLICE alone (R330). -/
theorem State.scanStart_idle {s : State} {w : Word} (p : Nat) (hw : fieldOf w 0 2 = 0 ∨ fieldOf w 7 1 = 0) :
    s.scanStart p w = (s.put (BOL_SCAN_MODE p) (fieldOf w 0 2)).put (BOL_SCAN_SLICE p) (fieldOf w 2 5) := by
  have hidle : (decide (fieldOf w 0 2 ≠ 0) && decide (fieldOf w 7 1 = 1)) = false := by
    rcases hw with h | h <;> simp [h]
  simp only [State.scanStart, hidle, Bool.false_and, Bool.false_eq_true, if_false, Bool.not_false, if_true]

/-- A scan that starts while the condition of R80 holds sets the engine to its work (R309, R330). -/
theorem State.scanStart_starts {s : State} {p : Nat} {w : Word} (hz : s.get (BOL_SCAN_ZERO_OK p) = 1) (hm : fieldOf w 0 2 ≠ 0)
    (hs : fieldOf w 7 1 = 1) :
    s.scanStart p w =
      let mode := fieldOf w 0 2
      let v := (s.put (BOL_SCAN_MODE p) mode).put (BOL_SCAN_SLICE p) (fieldOf w 2 5)
      let seed := if mode = 3 then (v.engine p).saved else v.scanSeed (quayOf p) (v.scanPlace p).1 mode (v.scanPlace p).2 0
      ((v.startEngine p (if mode = 3 then 4 else 1) seed).put (BOL_SCAN_STATE p) 1).put (BOL_SCAN_DIAG_DONE p) 0 := by
  have hstarts : (decide (fieldOf w 0 2 ≠ 0) && decide (fieldOf w 7 1 = 1)) = true := by simp [hm, hs]
  have hzero : decide (s.get (BOL_SCAN_ZERO_OK p) = 0) = false := by simp [hz]
  simp only [State.scanStart, hstarts, hzero, Bool.and_false, Bool.false_eq_true, if_false, Bool.not_true]

/-- OP 3 loads the repairs (R311, R331). -/
theorem State.mbistStart_repairs (s : State) {p : Nat} {w : Word} (hs : fieldOf w 3 1 = 1) (hop : fieldOf w 0 3 = 3) :
    s.mbistStart p w =
      let v := ((s.put (BOL_MBIST_OP p) 3).put (BOL_MBIST_REPN p) (fieldOf w 29 3)).put (BOL_MBIST_REP0 p) (fieldOf w 32 10)
      (((v.put (BOL_MBIST_REP1 p) (fieldOf w 42 10)).put (BOL_MBIST_REP2 p) (fieldOf w 52 10)).put (BOL_MBIST_STATE p) 1).loadRepairs p := by
  simp [State.mbistStart, hs, hop]

/-! ### An access over the quay's page -/

/-- BOL_SEL takes the tile, the register and the direction of an access (R88). -/
def State.bolSelected (s : State) (q : Nat) (v : Word) : State :=
  ((s.put (QY_BOL_SEL_TILE q) (fieldOf v 0 14)).put (QY_BOL_SEL_REG q) (fieldOf v 14 5)).put (QY_BOL_SEL_WR q) (fieldOf v 19 1)

/-- An access to a tile of the region, while none is running (R88). -/
theorem State.bolAccess_idle {s : State} {q : Nat} {v : Word} (ok : Bool) (hb : s.flag (QY_BOL_SEL_BUSY q) = false) (hl : fieldOf v 0 14 < regionTiles) :
    s.bolAccess q v ok =
      let u := (s.bolSelected q v).put (QY_BOL_SEL_VOID q) 0
      let p := tileOf q (fieldOf v 0 14)
      let i := fieldOf v 14 5
      if ok = false then u.put (QY_BOL_SEL_BUSY q) 1
      else if fieldOf v 19 1 = 1 then u.bolWrite p i (u.word (QY_BOL_DATA q))
      else u.setWord (QY_BOL_DATA q) (BitVec.ofNat 64 (u.readReg (bolAddr p i))) := by
  cases ok <;> simp [State.bolAccess, State.bolSelected, hb, Nat.not_le.mpr hl]

/-- An access that runs ends as VOID (R87). -/
theorem State.bolTimeout_busy {s : State} {q : Nat} (hb : s.flag (QY_BOL_SEL_BUSY q) = true) :
    s.bolTimeout q = ((s.put (QY_BOL_SEL_BUSY q) 0).put (QY_BOL_SEL_VOID q) 1).setWord (QY_BOL_DATA q) 0 := if_pos hb

/-! ### The meanings of the commands -/

theorem exec_lmSideportAccess (s : State) (c p : Nat) (w : BitVec 64) :
    exec (.lmSideportAccess c p w) s = run s c fun u => u.onTile p fun u => u.lmAccess p w := (rfl)

theorem exec_sideportAck (s : State) (c p : Nat) (claims : List Nat) (word : Nat) (data : BitVec 64) (err : Nat) (held : Bool) :
    exec (.sideportAck c p claims word data err held) s = run s c fun u => u.fromCore p fun u => u.sideport p claims word data err held false := (rfl)

theorem exec_sideportTimeout (s : State) (c p : Nat) (claims : List Nat) (word : Nat) (held : Bool) :
    exec (.sideportTimeout c p claims word held) s = run s c fun u => u.onTile p fun u => u.sideport p claims word 0 2 held true := (rfl)

theorem exec_scanStart (s : State) (c p : Nat) (w : BitVec 64) :
    exec (.scanStart c p w) s = run s c fun u => u.onTile p fun u => u.scanStart p w := (rfl)

theorem exec_mbistStart (s : State) (c p : Nat) (w : BitVec 64) :
    exec (.mbistStart c p w) s = run s c fun u => u.onTile p fun u => u.mbistStart p w := (rfl)

theorem exec_bollardAccess (s : State) (c q : Nat) (v : BitVec 64) (ok : Bool) :
    exec (.bollardAccess c q v ok) s = run s c fun u => u.onQuay q fun u => u.hostWrite (QY_BOL_SEL q) fun u => u.bolAccess q v ok := (rfl)

theorem exec_bollardAccessTimeout (s : State) (c q : Nat) :
    exec (.bollardAccessTimeout c q) s = run s c fun u => u.onQuay q fun u => u.bolTimeout q := (rfl)

/-- Settles O8: each access is a run whose effect, in the case of its clause, is the one that the lemmas above give. That an access that is answered ends at
once is the model's choice (log entry 97). -/
theorem bollardAccessCompletes : Obligations.BollardAccessCompletes := by
  intro s c p h ht
  refine ⟨?lmAccess, ?ack, ?ackRead, ?timeout, ?timeoutRead, ?scan, ?scanIdle, ?mbist, ?repairs, ?access, ?void⟩
  case lmAccess =>
    intro w
    exact exec_of_onTile (exec_lmSideportAccess ..) h ht rfl
  case ack =>
    intro claims client word data err held hok hw
    exact exec_of_fromCore (exec_sideportAck ..) h ht hok (State.sideport_won (s := s.begin_ c) p word data err held false hw)
  case ackRead =>
    intro word data hok hr
    exact exec_of_fromCore (exec_sideportAck ..) h ht hok
      ((State.sideport_won (s := s.begin_ c) p word data 0 false false (rotWinner_single ..)).trans
        (congrArg (State.checker · 2 p 11 0 0 false) (State.sideportEnd_hostRead (s := s.begin_ c) word data 0 hr)))
  case timeout =>
    intro claims client word held hw
    exact exec_of_onTile (exec_sideportTimeout ..) h ht (State.sideport_won (s := s.begin_ c) p word 0 2 held true hw)
  case timeoutRead =>
    intro word hr
    exact exec_of_onTile (exec_sideportTimeout ..) h ht
      ((State.sideport_won (s := s.begin_ c) p word 0 2 false true (rotWinner_single ..)).trans
        (congrArg (State.checker · 2 p 11 0 0 true) (State.sideportEnd_hostRead (s := s.begin_ c) word 0 2 hr)))
  case scan =>
    intro w hz hm hs
    exact exec_of_onTile (exec_scanStart ..) h ht (State.scanStart_starts (s := s.begin_ c) hz hm hs)
  case scanIdle =>
    intro w hw
    exact exec_of_onTile (exec_scanStart ..) h ht (State.scanStart_idle (s := s.begin_ c) p hw)
  case mbist =>
    intro w _ _ _ _
    exact exec_of_onTile (exec_mbistStart ..) h ht rfl
  case repairs =>
    intro w hs hop
    exact exec_of_onTile (exec_mbistStart ..) h ht ((s.begin_ c).mbistStart_repairs hs hop)
  case access =>
    intro q v ok hq hw hb hl
    exact exec_of_onQuay (exec_bollardAccess ..) h hq
      ((hostWrite_taken (s := s.begin_ c) hw.1 hw.2).trans (congrArg (State.emit · (.hport 0 0)) (State.bolAccess_idle (s := s.begin_ c) ok hb hl)))
  case void =>
    intro q hq hb
    exact exec_of_onQuay (exec_bollardAccessTimeout ..) h hq (State.bolTimeout_busy (s := s.begin_ c) hb)

end Sys2Proof.Machine

/-!
PROOFS. Sampling and placement (chapter 04): what a rate, a waiting request and a far quay's answer come to, and how the chapter's commands complete.
-/

namespace Sys2Proof.Machine

/-! ### The rate -/

/-- The rate for the next tick: the tiles of the tick count once its tally is complete (R146). -/
theorem State.rateUpdate_eq (s : State) (q : Nat) :
    s.rateUpdate q =
      let v := s.at_ (s.commitAt + 1)
      let v := if (s.reporting q).length ≤ (s.quay q).got.length then v.modQuay q (fun t => { t with tilesLast := t.tilesNow }) else v
      let slots := v.get (QY_PILOT_CTL_PER_SPARE q) * (v.freeSpares q - v.get (QY_PILOT_CTL_KEEP q))
      let num := v.get (QY_PILOT_CTL_RATE_NUM q)
      let total := (v.quay q).tilesLast
      v.setRate q (if v.lantern then 0 else if total = 0 then (if 0 < slots then num else 0) else min num (1024 * slots / total)) total := by
  have hcomplete : ((s.at_ (s.commitAt + 1)).reporting q).length ≤ ((s.at_ (s.commitAt + 1)).quay q).got.length
      ↔ (s.reporting q).length ≤ (s.quay q).got.length := Iff.rfl
  simp only [State.rateUpdate, decide_eq_true_eq, hcomplete]

/-! ### Requests and far placements -/

/-- A request of the tile that has waited 512 cc is taken out of its quay's queue and counted (R151). -/
theorem State.berthFull_waited {s : State} {p : Nat} {r : SampReq}
    (hr : (s.quay (s.runner p)).waiting.find? (fun r => decide (r.p = p) && decide (512 ≤ s.since r.sent)) = some r) :
    s.berthFull p =
      (s.modQuay (s.runner p) (fun t => { t with waiting := t.waiting.erase r, declFull := t.declFull + 1 })).count
        (QY_PILOT_CNT1_BERTH_FULL (s.runner p)) 1 := by
  simp only [State.berthFull, hr]

/-- The answer to a berth that awaits one: placed far, placed near after all, or declined (R148). -/
theorem State.farAnswer_awaited {s : State} {q b : Nat} (ha : (s.berth q b).farAsk.isSome = true) :
    s.farAnswer q b =
      let r := s.placeOn q b (q ^^^ s.get (QY_PILOT_CTL_FAR_XOR q)) (s.estOf q (s.berth q b) + 400) (s.berth q b)
      match r.2 with
      | .yes => r.1
      | .noShadow => r.1.farFallback q b (s.berth q b)
      | why => (r.1.freeBerth q b).declined q why := by
  have hn : (s.berth q b).farAsk.isNone = false := Option.isNone_eq_false_iff.mpr ha
  rcases hr : s.placeOn q b (q ^^^ s.get (QY_PILOT_CTL_FAR_XOR q)) (s.estOf q (s.berth q b) + 400) (s.berth q b) with ⟨v, ok⟩
  cases ok <;> simp only [State.farAnswer, hn, hr, Bool.false_eq_true, if_false]

/-- A far quay that has not answered in 256 cc is not waited for (R148). -/
theorem State.farTimeout_due {s : State} {q b : Nat} {m : Moment} (ha : (s.berth q b).farAsk = some m) (hm : 256 ≤ s.since m) :
    s.farTimeout q b = s.farFallback q b (s.berth q b) := by
  simp only [State.farTimeout, ha, if_pos hm]

/-! ### The meanings of the commands -/

theorem exec_rateUpdate (s : State) (q : Nat) : exec (.rateUpdate q) s = run s 0 fun u => u.onQuay q fun u => u.rateUpdate q := (rfl)

theorem exec_sampleRequest (s : State) (c : Nat) (ps : List Nat) : exec (.sampleRequest c ps) s = run s c fun u => u.sampleRequest ps := (rfl)

theorem exec_berthFull (s : State) (c p : Nat) : exec (.berthFull c p) s = run s c fun u => u.onTile p fun u => u.berthFull p := (rfl)

theorem exec_farPlacementAnswer (s : State) (c q b : Nat) :
    exec (.farPlacementAnswer c q b) s = run s c fun u => u.onQuay q fun u => u.farAnswer q b := (rfl)

theorem exec_farPlacementTimeout (s : State) (c q b : Nat) :
    exec (.farPlacementTimeout c q b) s = run s c fun u => u.onQuay q fun u => u.farTimeout q b := (rfl)

/-- Settles O14: each command is a run whose effect, in the case of its clause, is the one that the lemmas above give. -/
theorem samplingCompletes : Obligations.SamplingCompletes := by
  intro s c q h hq
  refine ⟨?rate, ?request, ?full, ?answer, ?timeout⟩
  case rate => exact exec_of_onQuay (exec_rateUpdate ..) h hq (State.rateUpdate_eq (s.begin_ 0) q)
  case request =>
    intro ps
    exact exec_of_run (exec_sampleRequest ..) h rfl
  case full =>
    intro p r hp hr
    exact exec_of_onTile (exec_berthFull ..) h hp (State.berthFull_waited (s := s.begin_ c) hr)
  case answer =>
    intro b ha
    have hanswer := State.farAnswer_awaited (s := s.begin_ c) ha
    rw [State.begin_berth, State.begin_get] at hanswer
    refine exec_of_onQuay (exec_farPlacementAnswer ..) h hq (hanswer.trans ?_)
    generalize State.placeOn _ q b _ _ _ = r
    cases r.2 <;> rfl
  case timeout =>
    intro b m ha hm
    exact exec_of_onQuay (exec_farPlacementTimeout ..) h hq (State.farTimeout_due (s := s.begin_ c) ha hm)

end Sys2Proof.Machine

/-!
PROOFS. The comparison of shadows (chapter 04): what a signature, a shadow that is late or hung and a confirmed stop come to.
-/

namespace Sys2Proof.Machine

/-! ### Signatures -/

/-- The origin's output signature joins its berth (R155). -/
theorem State.outputSignature_joins {s : State} {p b len : Nat} (out : List (BitVec 8))
    (hm : s.outSigs.find? (fun x => x.1 = p) = some (p, b, len)) (ho : (s.berth (s.runner p) b).origin = p)
    (hfree : (s.berth (s.runner p) b).st ≠ btFree) (habort : (s.berth (s.runner p) b).st ≠ btAborting) :
    s.outputSignature p out =
      (({ s with outSigs := s.outSigs.erase (p, b, len) } : State).setBerth (s.runner p) b
        { s.berth (s.runner p) b with outO := some (BitVec.ofNat 64 (crc64 ((out.take len).map BitVec.toNat))) }).compare (s.runner p) b := by
  have htakes : ¬((s.berth (s.runner p) b).origin ≠ p ∨ (s.berth (s.runner p) b).st = btFree ∨ (s.berth (s.runner p) b).st = btAborting) := by
    simp [ho, hfree, habort]
  simp only [State.outputSignature, hm]
  exact if_neg htakes

/-- A shadow's signatures join the berth that runs, is late or is disputed (R154, R155). -/
theorem State.shadowSignatures_join {s : State} {p q b : Nat} {sig : BitVec 64} (out : List (BitVec 8))
    (hm : s.shadowSigs.find? (fun x => x.1 = p) = some (p, q, b, sig)) (hs : (s.berth q b).shadow = p)
    (hst : (s.berth q b).st = btRunning ∨ (s.berth q b).st = btLate ∨ (s.berth q b).st = btDisputed) :
    s.shadowSignatures p out =
      let x := s.berth q b
      (({ s with shadowSigs := s.shadowSigs.erase (p, q, b, sig) } : State).setBerth q b
        { x with tapS := some sig
                 outS := if x.outLen = 0 then none else some (BitVec.ofNat 64 (crc64 ((out.take x.outLen).map BitVec.toNat)))
                 st := if x.st = btRunning then btReturned else x.st }).compare q b := by
  have htakes : ¬((s.berth q b).shadow ≠ p ∨ ¬((s.berth q b).st = btRunning ∨ (s.berth q b).st = btLate ∨ (s.berth q b).st = btDisputed)) :=
    not_or.mpr ⟨not_not.mpr hs, not_not.mpr hst⟩
  simp only [State.shadowSignatures, hm]
  exact if_neg htakes

/-! ### Late and hung shadows, and confirmed stops -/

/-- A berth before its compare whose report is overdue becomes LATE, counted and recorded (R157). -/
theorem State.shadowLate_overdue {s : State} {q b : Nat} (hst : (s.berth q b).st ∈ [btTaken, btCopying, btRunning, btReturned])
    (hlate : s.overdue (s.belongs (s.berth q b)) = true) :
    s.shadowLate q b =
      let d := (s.berth q b).desc.toNat
      ((s.setBerth q b { s.berth q b with st := btLate }).count (QY_PILOT_CNT1_LATE q) 1).logTile (s.berth q b).origin 0x0302 d (d / 2 ^ 32)
        (s.belongs (s.berth q b) % 2 ^ 32) (s.berth q b).shadow := by
  have hwaits : ¬(!([btTaken, btCopying, btRunning, btReturned].contains (s.berth q b).st) || !s.overdue (s.belongs (s.berth q b))) = true := by
    rw [List.contains_iff_mem.mpr hst, hlate]
    decide
  exact if_neg hwaits

/-- A berth still LATE at n+4.0 is aborted, and its spare set Amber (R157). -/
theorem State.shadowHung_late {s : State} {q b : Nat} (hst : (s.berth q b).st = btLate) (hn : s.belongs (s.berth q b) + 4 ≤ s.jt) :
    s.shadowHung q b =
      let x := s.berth q b
      let v := (s.abortBerth q b 0).logTile x.origin 0x0303 b (s.belongs x % 2 ^ 32) 0 x.shadow
      if x.farAsk.isNone ∧ v.colour x.shadow = green ∧ v.flag HM_HEALTH_CTL_EN then v.setColour x.shadow amber 18 4 else v := by
  have hdue : ¬((s.berth q b).st ≠ btLate ∨ s.jt < s.belongs (s.berth q b) + 4) := not_or.mpr ⟨not_not.mpr hst, Nat.not_lt.mpr hn⟩
  exact if_neg hdue

/-- The confirmed stop of a berth in ABORTING frees it, with what its shadow still had under way (R150). -/
theorem State.stopConfirm_aborting {s : State} {q b : Nat} (hst : (s.berth q b).st = btAborting) :
    s.stopConfirm q b =
      let v : State := { s with stops := s.stops.filter (fun y => decide (y ≠ ((s.berth q b).shadow, q, b))),
                                shadowSigs := s.shadowSigs.filter (fun y => decide (¬ (y.2.1 = q ∧ y.2.2.1 = b))) }
      (v.discardTiles (s.berth q b).shadow).freeBerth q b := if_neg (not_not.mpr hst)

/-! ### The meanings of the commands -/

theorem exec_outputSignature (s : State) (c p : Nat) (out : List (BitVec 8)) :
    exec (.outputSignature c p out) s = run s c fun u => u.onTile p fun u => u.outputSignature p out := (rfl)

theorem exec_shadowSignatures (s : State) (c p : Nat) (out : List (BitVec 8)) :
    exec (.shadowSignatures c p out) s = run s c fun u => u.onTile p fun u => u.shadowSignatures p out := (rfl)

theorem exec_shadowLate (s : State) (q b : Nat) :
    exec (.shadowLate q b) s = run s 0 fun u => u.onQuay q fun u => (u.at_ (u.window + 1)).shadowLate q b := (rfl)

theorem exec_shadowHung (s : State) (q b : Nat) : exec (.shadowHung q b) s = run s 0 fun u => u.onQuay q fun u => u.shadowHung q b := (rfl)

theorem exec_shadowStopConfirm (s : State) (c q b : Nat) :
    exec (.shadowStopConfirm c q b) s = run s c fun u => u.onQuay q fun u => u.stopConfirm q b := (rfl)

/-- Settles O15: each command is a run whose effect, in the case of its clause, is the one that the lemmas above give; that a berth in TAKEN or COPYING becomes
LATE too is the model's reading (log entry 136). -/
theorem comparisonCompletes : Obligations.ComparisonCompletes := by
  intro s c h
  refine ⟨?output, ?shadow, ?late, ?hung, ?stop⟩
  case output =>
    intro p out b len hp hm ho hfree habort
    exact exec_of_onTile (exec_outputSignature ..) h hp (State.outputSignature_joins (s := s.begin_ c) out hm ho hfree habort)
  case shadow =>
    intro p out q b sig hp hm hs hst
    exact exec_of_onTile (exec_shadowSignatures ..) h hp (State.shadowSignatures_join (s := s.begin_ c) out hm hs hst)
  case late =>
    intro q b hq hst hlate
    exact exec_of_onQuay (exec_shadowLate ..) h hq (State.shadowLate_overdue (s := (s.begin_ 0).at_ (s.window + 1)) hst hlate)
  case hung =>
    intro q b hq hst hn
    exact exec_of_onQuay (exec_shadowHung ..) h hq (State.shadowHung_late (s := s.begin_ 0) hst hn)
  case stop =>
    intro q b hq hst
    exact exec_of_onQuay (exec_shadowStopConfirm ..) h hq (State.stopConfirm_aborting (s := s.begin_ c) hst)

end Sys2Proof.Machine

/-!
PROOFS. Captures, audits, make-ups and disputes (chapters 04 and 05): what a capture pass, an audit, a make-up's output and a patch come to.
-/

namespace Sys2Proof.Machine

/-! ### Captures -/

/-- The capture with a beat of a pass taken up: a write-back beat in stream 1, an operand beat in stream 0 (R158, R159). -/
def Capt.take (x : Capt) (y : Beat) : Capt := if y.kind = 4 then { x with s1 := insBeat y x.s1 } else { x with s0 := insBeat y x.s0 }

/-- Beats are no passes. -/
theorem Capt.foldl_take_passes (l : List Beat) (x : Capt) : (l.foldl Capt.take x).passes = x.passes := by
  induction l generalizing x with
  | nil => rfl
  | cons y l ih =>
    have hy : (x.take y).passes = x.passes := by
      unfold Capt.take
      split <;> rfl
    rw [List.foldl_cons, ih, hy]

/-- A pass on the shadow other than the last takes up its beats and its signature (R158). -/
theorem State.capturePass_shadow {s : State} {q k : Nat} (beats : List Beat) (sig out : BitVec 64) (hx : s.capt q k ≠ Capt.free)
    (hpatch : (s.capt q k).patch = false) (hdone : (s.capt q k).done = false) (hst : (s.berth q (s.capt q k).berth).st = btDisputed)
    (hpasses : (s.capt q k).passes < 7) :
    s.capturePass q k beats sig out =
      let x := (beats.filter (fun y => y.index % 8 = (s.capt q k).passes)).foldl Capt.take (s.capt q k)
      s.setCapt q k { x with passes := x.passes + 1, sigs := x.sigs ++ [sig] } := by
  have hopen : ¬(s.capt q k = Capt.free ∨ (s.capt q k).patch ∨ (s.capt q k).done ∨ (s.berth q (s.capt q k).berth).st ≠ btDisputed) := by
    simp [hx, hpatch, hdone, hst]
  have hmore : ((beats.filter (fun y => y.index % 8 = (s.capt q k).passes)).foldl Capt.take (s.capt q k)).passes + 1 < 8 := by
    rw [Capt.foldl_take_passes]
    omega
  exact (if_neg hopen).trans ((if_pos (by omega)).trans (if_pos hmore))

/-- Four ticks after the witness's last pass the witness is given up (R158). -/
theorem State.witnessTimeout_due {s : State} {q k : Nat} (hx : s.capt q k ≠ Capt.free) (hpatch : (s.capt q k).patch = false)
    (hdone : (s.capt q k).done = false) (hcopied : (s.capt q k).copied = true) (hdue : (s.capt q k).witnessSince.tick + 4 ≤ s.time.tick) :
    s.witnessTimeout q k = s.dropWitness q k := by
  simp [State.witnessTimeout, hx, hpatch, hdone, hcopied, Nat.not_lt.mpr hdue]

/-! ### Audits -/

/-- The tile's oldest audit is skipped, or counted and its misses reported (R161, R162). -/
theorem State.auditResult_found {s : State} {p : Nat} {a : Audit} (skip : BitVec 256) (rows : List (List Nat))
    (ha : (s.quay (s.runner p)).audits.find? (fun a => a.p = p) = some a) :
    s.auditResult p skip rows =
      let h := s.runner p
      let n := s.auditTick a
      let fmt := dFmt a.desc
      let v := s.endAudit h a
      if 16384 * 8 < popCount skip * dK a.desc * elemBits fmt then v.count (QY_PILOT_CNT3_AUDIT_SKIPPED h) 1
      else
        let missed := ((rows.take (popCount skip)).filter (fun r => !r.all (zeroCode fmt))).length
        let v := if v.overdue n then v else v.count (QY_PILOT_CNT2_AUDITS h) 1
        if missed = 0 then v else v.predMiss h a n missed := by
  simp only [State.auditResult, ha]

/-- The tile's oldest overdue audit is marked and recorded (R162). -/
theorem State.auditLate_found {s : State} {p : Nat} {a : Audit}
    (ha : (s.quay (s.runner p)).audits.find? (fun a => decide (a.p = p) && !a.late && s.overdue (s.auditTick a)) = some a) :
    s.auditLate p =
      (s.modQuay (s.runner p) (fun t =>
        { t with audits := t.audits.map (fun (x : Audit) => if x = a then { x with late := true } else x) })).logTile p 0x030C a.desc.toNat
          (a.desc.toNat / 2 ^ 32) (s.auditTick a % 2 ^ 32) (dSeq a.desc) := by
  simp only [State.auditLate, ha]

/-! ### Make-ups and patches -/

/-- A make-up's output is kept, and stored as a patch once there is a capture berth for it (R163, R170). -/
theorem State.patchReady_runs {s : State} {q i : Nat} {m : MakeUp} (data : List (BitVec 64)) (hm : s.makeup q i = some m) (hran : m.ran = false)
    (hspare : m.spare.isSome = true) :
    s.patchReady q i data =
      let e := s.ktab q (dTag m.desc)
      let len := if ktOutLen e = 0 then resultBytes m.desc else ktOutLen e
      let v := s.setMakeup q i { m with ran := true, data := data.take (len / 8) }
      match m.capt with
      | some k => v.storePatch q i k
      | none =>
        match lowestFree (v.quay q).capts (v.captBerths q) with
        | some k => v.storePatch q i k
        | none => v := by
  have hwaits : ¬(m.ran || m.spare.isNone) = true := by
    rw [hran, Option.isNone_eq_false_iff.mpr hspare]
    decide
  simp only [State.patchReady, hm]
  exact if_neg hwaits

/-- A stored patch of a held core is written to the step's result buffer, and the hold ends (R163). -/
theorem State.patchApplied_held {s : State} {q i : Nat} {m : MakeUp} (hm : s.makeup q i = some m) (hready : m.ready = true) (hheld : m.held = true) :
    s.patchApplied q i =
      let v := (m.data.zipIdx).foldl (fun v x => v.emit (.lmReq m.p true (m.addr / 8 + x.2) x.1)) s
      let v := v.setMakeup q i { m with held := false, applied := true }
      let v := ((v.put (BOL_CTL_CG_HOLD m.p) 0).refreshTile m.p).count (QY_PILOT_CNT2_PATCHES q) 1
      let v := v.logTile m.p 0x030B (m.n % 2 ^ 32) (dSeq m.desc) m.lcore (8 * m.data.length)
      if m.n ≤ v.get HM_COMMIT_STAT_CTICK then v.endPatch q i else v := by
  have hdue : ¬(!m.ready || !m.held) = true := by
    rw [hready, hheld]
    decide
  simp only [State.patchApplied, hm]
  exact if_neg hdue

/-! ### The meanings of the commands -/

theorem exec_capturePassDone (s : State) (c q k : Nat) (beats : List (BitVec 64 × BitVec 256)) (sig out : BitVec 64) :
    exec (.capturePassDone c q k beats sig out) s = run s c fun u => u.onQuay q fun u =>
      u.capturePass q k (beats.map (fun x => (⟨x.1, x.2⟩ : Beat))) sig out := (rfl)

theorem exec_witnessTimeout (s : State) (c q k : Nat) :
    exec (.witnessTimeout c q k) s = run s c fun u => u.onQuay q fun u => u.witnessTimeout q k := (rfl)

theorem exec_auditResult (s : State) (c p : Nat) (skip : BitVec 256) (rows : List (List Nat)) :
    exec (.auditResult c p skip rows) s = run s c fun u => u.onTile p fun u => u.auditResult p skip rows := (rfl)

theorem exec_auditLate (s : State) (p : Nat) :
    exec (.auditLate p) s = run s 0 fun u => u.onTile p fun u => (u.at_ (u.window + 1)).auditLate p := (rfl)

theorem exec_patchReady (s : State) (c q i : Nat) (data : List (BitVec 64)) :
    exec (.patchReady c q i data) s = run s c fun u => u.onQuay q fun u => u.patchReady q i data := (rfl)

theorem exec_patchApplied (s : State) (c q i : Nat) :
    exec (.patchApplied c q i) s = run s c fun u => u.onQuay q fun u => u.patchApplied q i := (rfl)

theorem exec_disputeMessage (s : State) (c n : Nat) : exec (.disputeMessage c n) s = run s c fun u => u.disputeMessage n := (rfl)

theorem exec_disputeResend (s : State) (qs : List Nat) :
    exec (.disputeResend qs) s = run s 0 fun u => (u.at_ (u.commitAt + 1)).disputeResend (qs.filter (fun q => decide (q < u.nQuays))) := (rfl)

/-- Settles O16: each command is a run whose effect, in the case of its clause, is the one that the lemmas above give. -/
theorem capturesComplete : Obligations.CapturesComplete := by
  intro s c q h hq
  refine ⟨?pass, ?shadowPass, ?witness, ?audit, ?auditLate, ?ready, ?applied, ?dispute, ?resend⟩
  case pass =>
    intro k beats sig out
    exact exec_of_onQuay (exec_capturePassDone ..) h hq rfl
  case shadowPass =>
    intro k beats sig out hx hpatch hdone hst hpasses
    exact exec_of_onQuay (exec_capturePassDone ..) h hq (State.capturePass_shadow (s := s.begin_ c) _ sig out hx hpatch hdone hst hpasses)
  case witness =>
    intro k hx hpatch hdone hcopied hdue
    exact exec_of_onQuay (exec_witnessTimeout ..) h hq (State.witnessTimeout_due (s := s.begin_ c) hx hpatch hdone hcopied hdue)
  case audit =>
    intro p skip rows a hp ha
    exact exec_of_onTile (exec_auditResult ..) h hp (State.auditResult_found (s := s.begin_ c) skip rows ha)
  case auditLate =>
    intro p a hp ha
    exact exec_of_onTile (exec_auditLate ..) h hp (State.auditLate_found (s := (s.begin_ 0).at_ (s.window + 1)) ha)
  case ready =>
    intro i data m hm hran hspare
    exact exec_of_onQuay (exec_patchReady ..) h hq (State.patchReady_runs (s := s.begin_ c) data hm hran hspare)
  case applied =>
    intro i m hm hready hheld
    exact exec_of_onQuay (exec_patchApplied ..) h hq (State.patchApplied_held (s := s.begin_ c) hm hready hheld)
  case dispute =>
    intro n
    exact exec_of_run (exec_disputeMessage ..) h rfl
  case resend =>
    intro qs
    exact exec_of_run (exec_disputeResend ..) h rfl

end Sys2Proof.Machine

/-!
PROOFS. The Customs (chapter 05): what the dispatch of a dispute, its fetch and its evaluation come to, and what decides one that waits for its referee.
-/

namespace Sys2Proof.Machine

/-! ### A unit's work -/

/-- While the Customs runs and is enabled, the oldest dispute that waits goes to the free unit whose turn it is, if its row needs an evaluation (R186). -/
theorem State.customsDispatch_given {s : State} {e : CusEntry} {u : Nat} (hrun : s.customsRuns = true) (hen : s.flag HM_CUS_CTL_EN = true)
    (he : s.customs.queue.find? (fun (e : CusEntry) => decide (e.phase = 0)) = some e)
    (hu : rotWinner s.jt s.sp.variant.customs s.freeUnits = some u) (hkind : e.msg.kind ≠ 4) (hope : e.hopeless s.sp.variant.customs = none) :
    s.customsDispatch =
      let v := (s.put (HM_CUS_UNIT_BUSY u) 1).put HM_CUS_STAT_BUSY (setBitN (s.get HM_CUS_STAT_BUSY) u)
      v.setEntry { e with unit := some u, phase := 1, start := v.now } := by
  have hgo : ¬(!s.customsRuns || !s.flag HM_CUS_CTL_EN) = true := by simp [hrun, hen]
  have heval : ¬(e.msg.kind = 4 ∨ (e.hopeless s.sp.variant.customs).isSome = true) := by simp [hkind, hope]
  simp only [State.customsDispatch, if_neg hgo, he, hu, if_neg heval]

/-- A fetch that met no error of the store takes the dispute on to its evaluation (R191). -/
theorem State.fetchEnd_clean {s : State} {u : Nat} {e : CusEntry} (he : s.served u = some e) : s.fetchEnd u none [] = s.customsFetched u := by
  simp only [State.fetchEnd, he, List.foldl_nil]

/-- The unit of an evaluated dispute is left its last sums with their upsets. Where these agree with their residues and no error is forced the dispute is
settled, else the checker has its event (R183, R193; log entry 134). -/
theorem State.evalDone_evaluated {s : State} {u : Nat} {e : CusEntry} (upsets : List (Nat × Nat)) (he : s.served u = some e) (hphase : e.phase = 2) :
    s.evalDone u upsets =
      let a := ((s.evaluation e).last.getD (tabGet (fun _ => CusUnit.idle) s.customs.units u)).upset upsets
      let w : State := { s with customs.units := tabSet (fun _ => CusUnit.idle) s.customs.units u a }
      let w := w.setEntry { e with cycles := (s.since e.start).toNat }
      if !a.intact || w.isArmed 0 0 14 then w.checker 0 0 14 0 u (!a.intact) else w.evalEnd u := by
  simp only [State.evalDone, he]
  exact if_neg (not_not_intro hphase)

/-! ### The referee -/

/-- A referee run whose inputs stand and that has not answered yet frees its tile and keeps its signatures with the entry. They decide an entry that is
evaluated (R192, R201). -/
theorem State.refereeResult_awaited {s : State} {slot : Nat} {e : CusEntry} (tap out : BitVec 64) (he : s.entry slot = some e)
    (htile : e.refTile.isSome = true) (hready : e.refReady = true) (hsig : e.refSig = none) :
    s.refereeResult slot tap out =
      let e' := { e with refSig := some (tap, out) }
      let v := (s.freeReferee e).setEntry e'
      if e.phase = 3 then v.settleEntry e' (.ran tap out) else v := by
  have hruns : ¬(e.refTile.isNone = true ∨ (!e.refReady) = true ∨ e.refSig.isSome = true) := by
    simp [Option.isSome_iff_ne_none.mp htile, hready, hsig]
  simp only [State.refereeResult, he]
  exact if_neg hruns

/-- Four ticks after the request with no spare found the referee is absent, and the dispute is settled without it (R192). -/
theorem State.refereeTimeout_due {s : State} {slot : Nat} {e : CusEntry} {m : Moment} (he : s.entry slot = some e) (hasked : e.refAsked = some m)
    (hphase : e.phase = 3) (htile : e.refTile = none) (hdue : m.tick + 4 ≤ s.time.tick) : s.refereeTimeout slot = s.settleEntry e .absent := by
  simp only [State.refereeTimeout, he, hasked]
  exact if_pos ⟨hphase, Option.isNone_iff_eq_none.mpr htile, hdue⟩

/-! ### The meanings of the commands -/

theorem exec_customsDispatch (s : State) (c : Nat) : exec (.customsDispatch c) s = run s c State.customsDispatch := (rfl)

theorem exec_customsFetchDone (s : State) (c u : Nat) (ue : Option Nat) (ces : List (Nat × Nat)) :
    exec (.customsFetchDone c u ue ces) s = run s c fun v => v.fetchEnd u ue ces := (rfl)

theorem exec_customsEvalEnd (s : State) (c u : Nat) (upsets : List (Nat × Nat)) :
    exec (.customsEvalEnd c u upsets) s = run s c fun v => v.evalDone u upsets := (rfl)

theorem exec_refereeResult (s : State) (c slot : Nat) (tap out : BitVec 64) :
    exec (.refereeResult c slot tap out) s = run s c fun u => u.refereeResult slot tap out := (rfl)

theorem exec_refereeTimeout (s : State) (c slot : Nat) : exec (.refereeTimeout c slot) s = run s c fun u => u.refereeTimeout slot := (rfl)

/-- Settles O17: each command is a run whose effect, in the case of its clause, is the one that the lemmas above give. That the evaluation leaves the unit
its sums, and that upsets come with the command, is the model's choice (log entry 134). -/
theorem customsCompletes : Obligations.CustomsCompletes := by
  intro s c h
  refine ⟨?dispatch, ?fetch, ?cleanFetch, ?evaluated, ?decides, ?keeps, ?timeout⟩
  case dispatch =>
    intro e u hrun hen he hu hkind hope
    exact exec_of_run (exec_customsDispatch ..) h (State.customsDispatch_given (s := s.begin_ c) hrun hen he hu hkind hope)
  case fetch =>
    intro u ue ces e _
    exact exec_of_run (exec_customsFetchDone ..) h rfl
  case cleanFetch =>
    intro u e he
    exact exec_of_run (exec_customsFetchDone ..) h (State.fetchEnd_clean (s := s.begin_ c) he)
  case evaluated =>
    intro u upsets e he hphase
    exact exec_of_run (exec_customsEvalEnd ..) h (State.evalDone_evaluated (s := s.begin_ c) upsets he hphase)
  case decides =>
    intro slot tap out e he htile hready hsig hphase
    have hresult := State.refereeResult_awaited (s := s.begin_ c) tap out he htile hready hsig
    exact exec_of_run (exec_refereeResult ..) h (hresult.trans (if_pos hphase))
  case keeps =>
    intro slot tap out e he htile hready hsig hphase
    have hresult := State.refereeResult_awaited (s := s.begin_ c) tap out he htile hready hsig
    exact exec_of_run (exec_refereeResult ..) h (hresult.trans (if_neg hphase))
  case timeout =>
    intro slot e m he hasked hphase htile hdue
    exact exec_of_run (exec_refereeTimeout ..) h (State.refereeTimeout_due (s := s.begin_ c) he hasked hphase htile hdue)

end Sys2Proof.Machine

/-!
PROOFS. The commit and the recall (chapter 06): what the decision, the broadcast and the commit of a tick come to, the recall from its first pull to its
restart, and the host's operations.
-/

namespace Sys2Proof.Machine

/-! ### The commit of a tick -/

/-- A tick open to decision that is clean and has no check outstanding is let go, if it is the quay's next to commit and not let go yet (R38, R224). -/
theorem State.quayDeadline_clean {s : State} {q : Nat} (hrun : s.cmState = cmRun) (hopen : s.commit.openTick + 2 ≤ s.jt) (htick : s.ctick < s.jt - 2)
    (hctl : s.controlled q = true) (hrecall : s.commit.inRecall = none) (hnext : (s.quay q).egcTick + 1 = s.jt - 2) (hheld : q ∉ s.commit.released)
    (hclean : (s.at_ s.quayAt).uncleanAt q (s.jt - 2) = none) (hdone : (s.at_ s.quayAt).outstanding q (s.jt - 2) = false) :
    s.quayDeadline q =
      let v := s.at_ s.quayAt
      { v with commit.released := v.commit.released ++ [q] } := by
  have hclosed : s.cmState ≠ cmClosed := hrun ▸ by decide
  have hhalted : s.cmState ≠ cmHalted := hrun ▸ by decide
  have hdecides : ¬(s.cmState = cmClosed ∨ (s.cmState = cmHalted ∧ !s.donly) ∨ s.jt < s.commit.openTick + 2 ∨ s.jt - 2 ≤ s.ctick
      ∨ !s.controlled q) := by
    simp [hclosed, hhalted, hctl, Nat.not_lt.mpr hopen, Nat.not_le.mpr htick]
  have hgoes : ¬((s.commit.inRecall.isSome && !s.donly) || decide ((s.quay q).egcTick + 1 ≠ s.jt - 2) || s.commit.released.contains q) = true := by
    simp [hrecall, hnext, hheld]
  refine (if_neg hdecides).trans ?_
  split
  · exact if_neg hgoes
  · next hbad => exact absurd hdone (hbad hclean)

/-- While the job runs and the tick before last is the next to commit, the root decides it: a completed round commits, in detect-only mode every round does, and
any other round pulls HW1 with reason ROOT (R38, R225). -/
theorem State.rootDecide_inOrder {s : State} (hrun : s.cmState = cmRun) (hrecall : s.commit.inRecall = none) (hpend : s.commit.pend = none)
    (hnext : s.jt - 2 = s.ctick + 1) (hopen : s.commit.openTick + 2 ≤ s.jt) :
    s.rootDecide =
      if s.roundDone then (s.at_ s.rootAt).rootCommit (s.jt - 2)
      else if s.donly then (s.at_ s.rootAt).rootCommit (s.jt - 2)
      else
        let miss := s.quayList.filter (fun q => !s.commit.released.contains q)
        let v := ((s.at_ s.rootAt).at_ (s.rootAt + 1)).logHm 0x050A (s.jt - 2) miss.length (miss.headD 0) 0
        ({ v with commit.released := [], commit.releasedAt := none } : State).pullHw1 2 0 0 0 5 := by
  have hdecides : ¬((if s.donly then decide (s.cmState = cmClosed) else decide (s.cmState ≠ cmRun) || s.commit.inRecall.isSome) = true
      ∨ s.commit.pend.isSome ∨ s.jt - 2 ≠ s.ctick + 1 ∨ s.jt < s.commit.openTick + 2) := by
    simp [hrun, show cmRun ≠ cmClosed by decide, hrecall, hpend, hnext, Nat.not_lt.mpr hopen]
  exact if_neg hdecides

/-- The round of the tick before last is done once every quay has let it go and it is the next to commit (R225). -/
theorem State.roundDone_released {s : State} (hpend : s.commit.pend = none) (hnext : s.jt - 2 = s.ctick + 1) (hall : s.commit.releasedAt.isSome = true) :
    s.roundDone = true := by
  simp [State.roundDone, hpend, hnext, hall]

/-- A broadcast that reaches a quay before the commit's cycle is held there, and the Bollards that do not see it with their quay lag (R38, R224). -/
theorem State.commitBroadcast_held {s : State} {q n : Nat} (slow : List Nat) (hpend : s.commit.pend = some n) (hq : q ∉ s.commit.pendQuays) :
    s.commitBroadcast q slow =
      slow.foldl (fun v p => v.modTile p (fun t => { t with commitLag := some n })) { s with commit.pendQuays := s.commit.pendQuays ++ [q] } := by
  have hnew : ¬s.commit.pendQuays.contains q = true := by simpa using hq
  simp only [State.commitBroadcast, hpend, if_neg hnew]

/-- A broadcast that reaches a quay after the commit's cycle commits the quay at once, with its record; its late Bollards follow (R38, R491, R493). -/
theorem State.commitBroadcast_late {s : State} {q : Nat} (slow : List Nat) (hpend : s.commit.pend = none) (hcm : s.cmState ≠ cmClosed)
    (hq : (s.quay q).egcTick < s.ctick) (hlag : s.lagging q = []) :
    s.commitBroadcast q slow =
      let v := (s.applyQuay q s.ctick).logQuay q 0x0B09 q s.time.cyc 0 s.tick32
      slow.foldl (fun v p => v.hawserLate p) v := by
  have hall : slow.filter (fun p => !([] : List Nat).contains p) = slow := by simp
  simp only [State.commitBroadcast, hpend, if_neg hcm, hlag, List.foldl_nil, if_neg (Nat.not_le.mpr hq), hall]

/-- The pending commit is applied at the Harbourmaster, then at each quay that holds it and is behind (R222). -/
theorem State.commitApply_pending {s : State} {n : Nat} (hpend : s.commit.pend = some n) :
    s.commitApply =
      let v := (s.at_ s.commitAt).applyCommit n
      v.commit.pendQuays.foldl (fun v q => if (v.quay q).egcTick < v.ctick then v.applyQuay q v.ctick else v) { v with commit.pendQuays := [] } := by
  have hat : (s.at_ s.commitAt).commit.pend = some n := hpend
  simp only [State.commitApply, hat]

/-! ### The recall -/

/-- A count leaves the fields of the other registers. -/
theorem State.get_count_reg (s : State) {f g : Fld} (n : Nat) (h : g.reg ≠ f.reg) : (s.count f n).get g = s.get g := s.get_put_reg _ h

/-- Pulls that reach the root while the job runs and no recall is open start one (R226). -/
theorem State.recallRoot_opens {s : State} {n : Nat} {k : Pull} (hk : firstPull (s.commit.pulls.take n) = some k) (hrun : s.cmState = cmRun)
    (hrecall : s.commit.inRecall = none) (hdonly : s.donly = false) :
    s.recallRoot n =
      let l := s.commit.pulls.take n
      let v : State := { s with commit.pulls := s.commit.pulls.drop n }
      (v.count (HM_HAWSER_CNT_ROUNDS 1) l.length).newRecall k (linkEdge l) (((l.find? (fun x => decide (x.halt ≠ 0))).map (·.halt)).getD 0) := by
  generalize hw : ({ s with commit.pulls := s.commit.pulls.drop n } : State).count (HM_HAWSER_CNT_ROUNDS 1) (s.commit.pulls.take n).length = w
  have hkeeps {g : Fld} (hg : g.reg = HM_COMMIT_STAT) : w.get g = s.get g :=
    hw ▸ State.get_count_reg { s with commit.pulls := s.commit.pulls.drop n } _ (hg ▸ by decide)
  have hcm : w.cmState = cmRun := (hkeeps rfl).trans hrun
  have hdo : w.donly = false := by rw [State.donly, State.flag, hkeeps rfl]; exact hdonly
  have hwrecall : w.commit.inRecall = none := by simp only [← hw, State.count_commit, hrecall]
  have hclosed : w.cmState ≠ cmClosed := hcm ▸ by decide
  have hhalted : w.cmState ≠ cmHalted := hcm ▸ by decide
  simp only [State.recallRoot, hk, hw, hwrecall, if_neg hclosed, hdo, hhalted, Bool.false_eq_true, false_and, or_self, if_false]

/-- The drain ends 200 + DRAIN_CC cycles after the pull reached the root; STATE shows it where every region has a controller (R227, R523). -/
theorem State.drainEnd_due {s : State} {r : RecallSt} (hr : s.commit.inRecall = some r) (hdrain : r.drained = false)
    (hdue : (200 + s.get HM_COMMIT_CTL_DRAIN_CC : Int) ≤ s.since r.s) :
    s.drainEnd =
      let v := if s.cmState = cmRecall ∧ s.rst.lost = [] then s.put HM_COMMIT_STAT_STATE cmDrain else s
      (v.modRecall (fun r => { r with drained := true })).startMigrations.tryAnnounce := by
  have hends : ¬(r.drained = true ∨ s.since r.s < 200 + s.get HM_COMMIT_CTL_DRAIN_CC) := by
    simp [hdrain, Int.not_lt.mpr hdue]
  simp only [State.drainEnd, hr]
  exact if_neg hends

/-- The move of the logical core that is still being copied is done (R231). -/
theorem State.migrationDone_copied {s : State} {r : RecallSt} {l : Nat} {m : Migration} (hr : s.commit.inRecall = some r)
    (hm : r.moves.find? (fun (m : Migration) => decide (m.lcore = l) && !m.done) = some m) :
    s.migrationDone l =
      let v := s.modRecall (fun r => { r with moves := r.moves.map (fun (k : Migration) => if k = m then { m with done := true } else k) })
      (v.showMove (quayOf m.src) l m.src m.dst 4 false).tryAnnounce := by
  simp only [State.migrationDone, hr, hm]

/-- The reroute ends REROUTE_CC cycles after the latest link-down edge (R234, R235). -/
theorem State.rerouteDone_due {s : State} {r : RecallSt} (hr : s.commit.inRecall = some r) (hneed : r.needReroute = true)
    (hdue : (s.get HM_COMMIT_CTL_REROUTE_CC : Int) ≤ s.since r.edge) :
    s.rerouteDone = (s.modRecall (fun r => { r with rerouted := true })).tryAnnounce := by
  have hends : ¬((!r.needReroute) = true ∨ s.since r.edge < s.get HM_COMMIT_CTL_REROUTE_CC) := by
    simp [hneed, Int.not_lt.mpr hdue]
  simp only [State.rerouteDone, hr, if_neg hends]

/-- A mailbox not yet written keeps its core in reset and latches SELF, once (R227). -/
theorem State.mailboxLate_first {s : State} {p : Nat} {r : RecallSt} (hr : s.commit.inRecall = some r) (hmailed : r.mailed = true)
    (hp : p ∉ r.mailLate) :
    s.mailboxLate p = (s.modRecall (fun r => { r with mailLate := r.mailLate ++ [p] })).latchBol p 12 false 0 := by
  have hnew : ¬((!r.mailed) = true ∨ r.mailLate.contains p = true) := by simp [hmailed, hp]
  simp only [State.mailboxLate, hr, if_neg hnew]

/-! ### The host's operations -/

/-- RECALL has its effect outside detect-only mode and a closed harbour only (R254). -/
theorem State.hostRecall_pulls {s : State} (hdonly : s.donly = false) (hcm : s.cmState ≠ cmClosed) : s.hostRecall = s.pullHw1 3 0 0 0 7 :=
  if_neg (not_or.mpr ⟨Bool.eq_false_iff.mp hdonly, hcm⟩)

/-- HALT has its effect while a job runs (R236). -/
theorem State.hostHalt_pulls {s : State} (hcm : s.cmState ≠ cmClosed) (hhalted : s.cmState ≠ cmHalted) : s.hostHalt = s.haltPull 3 0 7 haltHost :=
  if_neg (not_or.mpr ⟨hcm, hhalted⟩)

/-- RESUME of a halted job that nothing bars goes back into the halted recall, past its drain and its reroute (R237). -/
theorem State.hostResume_resumes {s : State} {r : RecallSt} (hrecall : s.commit.inRecall = none) (hr : s.commit.halted = some r)
    (hbar : s.resumeBarred r = false) :
    s.hostResume =
      let v : State := { s with commit.halted := none, commit.replays := if r.halt = haltLoop then 0 else s.commit.replays }
      let v := (((v.put HM_COMMIT_OP_HALTED 0).put HM_COMMIT_OP_HALT_REASON 0).put HM_COMMIT_STAT_STATE cmDrain).haltEnds
      let v : State := { v with commit.inRecall := some { r with
        halt := 0, haltCore := 0, drained := true, rerouted := true, p := none, mailed := false, mailLate := [], resumed := true } }
      v.startMigrations.tryAnnounce := by
  simp only [State.hostResume, hrecall, hr]
  exact if_neg (Bool.eq_false_iff.mp hbar)

/-- ABANDON of a halted job closes the harbour (R598). -/
theorem State.abandon_halted {s : State} (h : s.cmState = cmHalted) : s.abandon = s.closeHarbour 1 := if_pos h

/-! ### The meanings of the commands -/

theorem exec_rootDecide (s : State) : exec .rootDecide s = run s 0 State.rootDecide := (rfl)

theorem exec_commitBroadcast (s : State) (c q : Nat) (slow : List Nat) :
    exec (.commitBroadcast c q slow) s = run s c fun u => u.onQuay q fun u => (u.commitBroadcast q slow).regionChecks q 8 := (rfl)

theorem exec_commitApply (s : State) : exec .commitApply s = run s 0 State.commitApply := (rfl)

theorem exec_recallRoot (s : State) (c n : Nat) : exec (.recallRoot c n) s = run s c fun u => u.recallRoot n := (rfl)

theorem exec_recallReceipt (s : State) (c q : Nat) (slow : List Nat) :
    exec (.recallReceipt c q slow) s = run s c fun u => u.onQuay q fun u => (u.recallReceipt q slow).regionChecks q 9 := (rfl)

theorem exec_drainEnd (s : State) (c : Nat) : exec (.drainEnd c) s = run s c State.drainEnd := (rfl)

theorem exec_migrationDone (s : State) (c l : Nat) : exec (.migrationDone c l) s = run s c fun u => u.migrationDone l := (rfl)

theorem exec_rerouteDone (s : State) (c : Nat) : exec (.rerouteDone c) s = run s c State.rerouteDone := (rfl)

theorem exec_mailboxWrite (s : State) :
    exec .mailboxWrite s = run s 0 fun u => u.quayList.foldl (fun v q => v.regionChecks q 12) u.mailboxWrite.closeStep := (rfl)

theorem exec_mailboxLate (s : State) (p : Nat) : exec (.mailboxLate p) s = run s 0 fun u => u.onTile p fun u => u.mailboxLate p := (rfl)

theorem exec_restart (s : State) : exec .restart s = run s 0 fun u => u.restart.closeStep := (rfl)

theorem exec_hostRecall (s : State) (c : Nat) : exec (.hostRecall c) s = run s c fun u => u.hostWrite HM_COMMIT_OP State.hostRecall := (rfl)

theorem exec_halt (s : State) (c : Nat) : exec (.halt c) s = run s c fun u => u.hostWrite HM_COMMIT_OP State.hostHalt := (rfl)

theorem exec_resume (s : State) (c : Nat) : exec (.resume c) s = run s c fun u => u.go HM_COMMIT_OP none (.resume c) State.hostResume := (rfl)

theorem exec_abandon (s : State) (c : Nat) : exec (.abandon c) s = run s c fun u => u.go HM_COMMIT_OP none (.abandon c) State.abandon := (rfl)

/-! ### How an operation of the host completes -/

/-- A host write on a page that takes it has its effect and its answer (R639). -/
theorem exec_of_hostWrite {s : State} {c a : Nat} {i : Instr} {f g : State → State} (e : exec i s = run s c fun u => u.hostWrite a f)
    (h : s.start.held = false) (hw : s.takesWrites a) (hfg : f (s.begin_ c) = g (s.begin_ c)) :
    exec i s = .next (s.after c fun u => (g u).emit (.hport 0 0)) := by
  obtain ⟨hready, hen⟩ := hw
  exact exec_of_run e h ((hostWrite_taken (s := s.begin_ c) hready hen).trans (congrArg (State.emit · (.hport 0 0)) hfg))

/-- A host GO on such a page, with the triplex present to serve it, likewise (R601). -/
theorem exec_of_go {s : State} {c a : Nat} {b : Option Fld} {i j : Instr} {f g : State → State} (e : exec i s = run s c fun u => u.go a b j f)
    (h : s.start.held = false) (hw : s.takesWrites a) (habsent : s.flag HM_TRIPLEX_STAT_ABSENT = false) (hfg : f (s.begin_ c) = g (s.begin_ c)) :
    exec i s = .next (s.after c fun u => (g u).emit (.hport 0 0)) := by
  obtain ⟨hready, hen⟩ := hw
  exact exec_of_run e h ((go_taken (s := s.begin_ c) hready hen habsent).trans (congrArg (State.emit · (.hport 0 0)) hfg))

/-- Settles O11: each command is a run whose effect, in the case of its clause, is the one that the lemmas above give; the quay's pull is that of an unclean
tick (R38). That a check still outstanding counts as not clean is the model's reading (log entry 171). -/
theorem commitCompletes : Obligations.CommitCompletes := by
  intro s h
  refine ⟨?letsGo, ?pulls, ?commits, ?incomplete, ?held, ?late, ?apply⟩
  case letsGo =>
    intro q hq hrun hopen htick hctl hrecall hnext hheld hclean hdone
    exact exec_of_onQuay (exec_quayDeadline ..) h hq
      (State.quayDeadline_clean (s := s.begin_ 0) hrun hopen htick hctl hrecall hnext hheld hclean hdone)
  case pulls =>
    intro q hq hrun hopen htick hctl hdonly hbad
    exact exec_quayDeadline_unclean h hq hrun hopen htick hctl hdonly hbad
  case commits =>
    intro hrun hrecall hpend hnext hopen hall
    have hdecide := State.rootDecide_inOrder (s := s.begin_ 0) hrun hrecall hpend hnext hopen
    exact exec_of_run (exec_rootDecide ..) h (hdecide.trans (if_pos (State.roundDone_released (s := s.begin_ 0) hpend hnext hall)))
  case incomplete =>
    intro hrun hrecall hpend hnext hopen hround hdonly
    have hdecide := State.rootDecide_inOrder (s := s.begin_ 0) hrun hrecall hpend hnext hopen
    exact exec_of_run (exec_rootDecide ..) h
      ((hdecide.trans (if_neg (Bool.eq_false_iff.mp hround))).trans (if_neg (Bool.eq_false_iff.mp hdonly)))
  case held =>
    intro c q slow n hq hpend hnew
    exact exec_of_onQuay (exec_commitBroadcast ..) h hq
      (congrArg (State.regionChecks · q 8) (State.commitBroadcast_held (s := s.begin_ c) slow hpend hnew))
  case late =>
    intro c q slow hq hpend hcm hbehind hlag
    exact exec_of_onQuay (exec_commitBroadcast ..) h hq
      (congrArg (State.regionChecks · q 8) (State.commitBroadcast_late (s := s.begin_ c) slow hpend hcm hbehind hlag))
  case apply =>
    intro n hpend
    exact exec_of_run (exec_commitApply ..) h (State.commitApply_pending (s := s.begin_ 0) hpend)

/-- Settles O12: each command is a run whose effect, in the case of its clause, is the one that the lemmas above give; a recall's receipt, the mailboxes and
the restart are the model's functions themselves. -/
theorem recallCompletes : Obligations.RecallCompletes := by
  intro s c h
  refine ⟨?opens, ?root, ?receipt, ?drain, ?migration, ?reroute, ?mailbox, ?mailLate, ?restart⟩
  case opens =>
    intro n k hk hrun hrecall hdonly
    exact exec_of_run (exec_recallRoot ..) h (State.recallRoot_opens (s := s.begin_ c) hk hrun hrecall hdonly)
  case root =>
    intro n k _
    exact exec_of_run (exec_recallRoot ..) h rfl
  case receipt =>
    intro q r slow hq _ _
    exact exec_of_onQuay (exec_recallReceipt ..) h hq rfl
  case drain =>
    intro r hr hdrain hdue
    exact exec_of_run (exec_drainEnd ..) h (State.drainEnd_due (s := s.begin_ c) hr hdrain hdue)
  case migration =>
    intro r l m hr hm
    exact exec_of_run (exec_migrationDone ..) h (State.migrationDone_copied (s := s.begin_ c) hr hm)
  case reroute =>
    intro r hr hneed hdue
    exact exec_of_run (exec_rerouteDone ..) h (State.rerouteDone_due (s := s.begin_ c) hr hneed hdue)
  case mailbox =>
    intro r _ _ _
    exact exec_of_run (exec_mailboxWrite ..) h rfl
  case mailLate =>
    intro p r hp hr hmailed hnew
    exact exec_of_onTile (exec_mailboxLate ..) h hp (State.mailboxLate_first (s := s.begin_ 0) hr hmailed hnew)
  case restart =>
    intro r t _ _ _ _ _
    exact exec_of_run (exec_restart ..) h rfl

/-- Settles O13: each operation is a host write, or a host GO, on a page that takes it, and its effect is the one that the lemmas above give. -/
theorem commitOpsComplete : Obligations.CommitOpsComplete := by
  intro s c h hw
  refine ⟨?pull, ?halt, ?resume, ?abandon⟩
  case pull =>
    intro hdonly hcm
    exact exec_of_hostWrite (exec_hostRecall ..) h hw (State.hostRecall_pulls (s := s.begin_ c) hdonly hcm)
  case halt =>
    intro hcm hhalted
    exact exec_of_hostWrite (exec_halt ..) h hw (State.hostHalt_pulls (s := s.begin_ c) hcm hhalted)
  case resume =>
    intro r habsent hrecall hr hbar
    exact exec_of_go (exec_resume ..) h hw habsent (State.hostResume_resumes (s := s.begin_ c) hrecall hr hbar)
  case abandon =>
    intro habsent hcm
    exact exec_of_go (exec_abandon ..) h hw habsent (State.abandon_halted (s := s.begin_ c) hcm)

end Sys2Proof.Machine

/-!
PROOFS. The health operations and the boundary moves (chapter 07): what the host's request of a colour, the end of a copy, a switch and a park's
timeout come to.
-/

namespace Sys2Proof.Machine

/-! ### The host's requests of a colour -/

/-- A tile keeps its colour while another register than its BOL_STAT is written. -/
theorem State.colour_put_other (s : State) {f : Fld} {p : Nat} (v : Nat) (h : BOL_STAT p ≠ f.reg) : (s.put f v).colour p = s.colour p :=
  s.get_put_reg v h

@[simp] theorem State.put_nQuays (s : State) (f : Fld) (v : Nat) : (s.put f v).nQuays = s.nQuays := (rfl)

@[simp] theorem State.put_use (s : State) (f : Fld) (v p : Nat) : (s.put f v).use p = s.use p := (rfl)

@[simp] theorem State.put_moving (s : State) (f : Fld) (v p : Nat) : (s.put f v).moving p = s.moving p := (rfl)

/-- A wafer's row has 1024 columns (R7). -/
theorem tileCol_lt (p : Nat) : tileCol p < 1024 := Nat.mod_lt p (by decide)

/-- A request that no other one precedes, of a tile of the configuration: it is refused where it would improve the colour, has no effect where the tile has the
colour already, and else sets Amber or takes the tile out of use (R286). -/
theorem State.healthOp_idle {s : State} {p : Nat} (op : Nat) (hbusy : s.flag HM_HEALTH_OP_BUSY = false) (hp : p < 2 ^ 20) (hq : quayOf p < s.nQuays) :
    s.healthOp p op =
      let v := (s.put HM_HEALTH_OP_PTILE p).put HM_HEALTH_OP_OP op
      let new := if op = 1 then amber else if op = 2 then vermilion else slate
      if severity new < severity (s.colour p) then v.endHealthOp true
      else if s.colour p = new then v
      else if op = 1 then v.setColour p amber 4 1
      else
        let waits := decide (s.use p = useServes) && s.built && !s.moving p
        (if waits then v.put HM_HEALTH_OP_BUSY 1 else v).takeOut p new (if op = 2 then 11 else 16) 1 := by
  have hcolour : ((s.put HM_HEALTH_OP_PTILE p).put HM_HEALTH_OP_OP op).colour p = s.colour p :=
    (State.colour_put_other _ _ (bolAddr_ne_page (by decide))).trans (s.colour_put_other _ (bolAddr_ne_page (by decide)))
  have hquay : ¬s.nQuays ≤ quayOf p := hq.not_ge
  have hcol : ¬1024 ≤ tileCol p := (tileCol_lt p).not_ge
  simp only [State.healthOp, hbusy, Bool.false_eq_true, if_false, Nat.mod_eq_of_lt hp, hcolour, hquay, ge_iff_le, hcol, false_or,
    State.put_built, State.put_nQuays, State.put_use, State.put_moving]

/-- A Green tile becomes Amber (R286). -/
theorem State.healthOp_amber {s : State} {p : Nat} (hbusy : s.flag HM_HEALTH_OP_BUSY = false) (hp : p < 2 ^ 20) (hq : quayOf p < s.nQuays)
    (hgreen : s.colour p = green) :
    s.healthOp p 1 = ((s.put HM_HEALTH_OP_PTILE p).put HM_HEALTH_OP_OP 1).setColour p amber 4 1 := by
  have hworse : ¬severity amber < severity green := by decide
  have hdiffers : green ≠ amber := by decide
  simp only [State.healthOp_idle 1 hbusy hp hq, hgreen, hworse, hdiffers, reduceIte]

/-- A tile that is less severe than Vermilion or Slate is taken out of use, and the operation stays BUSY while a serving core is moved (R286). -/
theorem State.healthOp_takesOut {s : State} {p op new : Nat} (hbusy : s.flag HM_HEALTH_OP_BUSY = false) (hp : p < 2 ^ 20) (hq : quayOf p < s.nQuays)
    (hop : op ≠ 1) (hnew : (if op = 2 then vermilion else slate) = new) (hless : severity (s.colour p) < severity new) :
    s.healthOp p op =
      let v := (s.put HM_HEALTH_OP_PTILE p).put HM_HEALTH_OP_OP op
      let v := if s.use p = useServes ∧ s.built = true ∧ s.moving p = false then v.put HM_HEALTH_OP_BUSY 1 else v
      v.takeOut p new (if op = 2 then 11 else 16) 1 := by
  have hworse : ¬severity new < severity (s.colour p) := hless.asymm
  have hdiffers : s.colour p ≠ new := fun k => absurd hless (k ▸ lt_irrefl _)
  simp only [State.healthOp_idle op hbusy hp hq, if_neg hop, hnew, if_neg hworse, if_neg hdiffers, Bool.and_eq_true, decide_eq_true_eq,
    Bool.not_eq_true', and_assoc]

/-! ### The copy and the switch of a move -/

/-- The end of a copy chooses the tick of the switch, which is announced where it is not the tick announced before (R276). -/
theorem State.copyDone_copying {s : State} {x : Nat} {m : Move} (hm : s.moveOf x = some m) (hphase : m.phase = 3) :
    s.copyDone x =
      let t := s.switchTick s.time.cyc ((s.get HM_MAP_CTL_MAP_CC : Int) - s.since m.sent + s.time.cyc)
      (if m.switchAt = some t then s else s.sendMap m.lcore (m.dst.getD 0) t).setMove { m with phase := 4, switchAt := some t } := by
  simp only [State.copyDone, hm]
  exact if_neg (not_not_intro hphase)

/-- A switch that is due takes the groups, lockstep and a rotation's test with it (R276). -/
theorem State.doSwitch_due {s : State} {x y t : Nat} {m : Move} (hm : s.moveOf x = some m) (hdst : m.dst = some y) (hat : m.switchAt = some t)
    (hphase : m.phase = 4) (hdue : t ≤ s.time.tick) :
    s.doSwitch x = ((((s.groupMoved x y).switchMove x).1.lockCarry x y).testSwitched x).refreshMembers := by
  have hswitches : ¬(m.phase ≠ 4 ∨ s.time.tick < t) := not_or.mpr ⟨not_not_intro hphase, Nat.not_lt.mpr hdue⟩
  simp only [State.doSwitch, hm, hdst, hat]
  exact if_neg hswitches

/-! ### The timeout of a park -/

/-- PARK_TICKS after its request, a move that must be made waits in detect-only mode for the next boundary and is else forced through a recall; one that may be
given up is abandoned (R277). -/
theorem State.parkTimeout_due {s : State} {x : Nat} {m : Move} (hm : s.moveOf x = some m) (hphase : m.phase = 1)
    (hdue : m.asked + s.get HM_HEALTH_CTL_PARK_TICKS ≤ s.jt) :
    s.parkTimeout x =
      if s.donly = true ∧ s.mustMove m = true then s.setMove { m with phase := 6 }
      else if s.mustMove m = true then
        let v := s.setMap m.lcore x false
        let v := if m.why = mvHost then v.endHealthOp false else v
        let v : State := { v.dropMove m with demands := v.demands ++ [(x, 7)] }
        v.pullQuay (quayOf x) 8
      else s.abandonMove m 2 := by
  have hends : ¬(m.phase ≠ 1 ∨ s.jt < m.asked + s.get HM_HEALTH_CTL_PARK_TICKS) := not_or.mpr ⟨not_not_intro hphase, Nat.not_lt.mpr hdue⟩
  simp only [State.parkTimeout, hm]
  exact if_neg hends

/-! ### The meanings of the commands -/

theorem exec_healthOpAmber (s : State) (c p : Nat) : exec (.healthOpAmber c p) s =
    run s c fun u => u.go HM_HEALTH_OP (some HM_HEALTH_OP_BUSY) (.healthOpAmber c p) fun u => u.healthOp p 1 := (rfl)

theorem exec_healthOpVermilion (s : State) (c p : Nat) : exec (.healthOpVermilion c p) s =
    run s c fun u => u.go HM_HEALTH_OP (some HM_HEALTH_OP_BUSY) (.healthOpVermilion c p) fun u => u.healthOp p 2 := (rfl)

theorem exec_healthOpSlate (s : State) (c p : Nat) : exec (.healthOpSlate c p) s =
    run s c fun u => u.go HM_HEALTH_OP (some HM_HEALTH_OP_BUSY) (.healthOpSlate c p) fun u => u.healthOp p 3 := (rfl)

theorem exec_moveCopyDone (s : State) (c x : Nat) : exec (.moveCopyDone c x) s = run s c fun u => u.copyDone x := (rfl)

theorem exec_moveSwitch (s : State) (x : Nat) : exec (.moveSwitch x) s = run s 0 fun u => u.doSwitch x := (rfl)

theorem exec_parkTimeout (s : State) (c x : Nat) : exec (.parkTimeout c x) s = run s c fun u => (u.parkTimeout x).testSweep := (rfl)

/-- Settles O19: each operation is a host GO on a page that takes it and each of the others a run, and its effect, in the case of its clause, is the one that
the lemmas above give. -/
theorem healthMovesComplete : Obligations.HealthMovesComplete := by
  intro s c h
  refine ⟨?amber, ?vermilion, ?slate, ?copied, ?switch, ?abandoned, ?boundary, ?forced⟩
  case amber =>
    rintro p ⟨hw, habsent⟩ hbusy hp hq hgreen
    exact exec_of_go (exec_healthOpAmber ..) h hw habsent (State.healthOp_amber (s := s.begin_ c) hbusy hp hq hgreen)
  case vermilion =>
    rintro p ⟨hw, habsent⟩ hbusy hp hq hless
    exact exec_of_go (exec_healthOpVermilion ..) h hw habsent
      (State.healthOp_takesOut (s := s.begin_ c) (op := 2) hbusy hp hq (by decide) rfl hless)
  case slate =>
    rintro p ⟨hw, habsent⟩ hbusy hp hq hless
    exact exec_of_go (exec_healthOpSlate ..) h hw habsent
      (State.healthOp_takesOut (s := s.begin_ c) (op := 3) hbusy hp hq (by decide) rfl hless)
  case copied =>
    intro x m hm hphase
    exact exec_of_run (exec_moveCopyDone ..) h (State.copyDone_copying (s := s.begin_ c) hm hphase)
  case switch =>
    intro x m y t hm hdst hat hphase hdue
    exact exec_of_run (exec_moveSwitch ..) h (State.doSwitch_due (s := s.begin_ 0) hm hdst hat hphase hdue)
  case abandoned =>
    intro x m hm hphase hdue hfree
    have hno : ¬s.mustMove m = true := Bool.eq_false_iff.mp hfree
    have hpark := State.parkTimeout_due (s := s.begin_ c) hm hphase hdue
    exact exec_of_run (exec_parkTimeout ..) h
      (congrArg State.testSweep ((hpark.trans (if_neg fun k => hno k.2)).trans (if_neg hno)))
  case boundary =>
    intro x m hm hphase hdue hmust hdonly
    have hpark := State.parkTimeout_due (s := s.begin_ c) hm hphase hdue
    exact exec_of_run (exec_parkTimeout ..) h (congrArg State.testSweep (hpark.trans (if_pos ⟨hdonly, hmust⟩)))
  case forced =>
    intro x m hm hphase hdue hmust hdonly
    have hheld : ¬s.donly = true := Bool.eq_false_iff.mp hdonly
    have hpark := State.parkTimeout_due (s := s.begin_ c) hm hphase hdue
    exact exec_of_run (exec_parkTimeout ..) h
      (congrArg State.testSweep ((hpark.trans (if_neg fun k => hheld k.1)).trans (if_pos hmust)))

end Sys2Proof.Machine

/-!
PROOFS. The ends of a Bollard's test operations (chapter 08): what a zeroising, a memory BIST and a scan interval come to, and that the commands complete.
-/

namespace Sys2Proof.Machine

/-! ### Zeroising -/

/-- What waits for a tile's zeroising does not depend on the engines. -/
theorem State.diagOf_setEngine (s : State) (p : Nat) (e : Engine) (r : Nat) : (s.setEngine p e).diagOf r = s.diagOf r := (rfl)

/-- A tile's slot does not depend on the engines. -/
theorem State.slotOf_setEngine (s : State) (p : Nat) (e : Engine) (r : Nat) : (s.setEngine p e).slotOf r = s.slotOf r := (rfl)

/-- A tile's record leaves what waits for a zeroising. -/
theorem State.diagOf_logTile (s : State) (p code p0 p1 p2 p3 r : Nat) : (s.logTile p code p0 p1 p2 p3).diagOf r = s.diagOf r := by
  simp only [State.diagOf, State.logTile, State.enqueue_test]

/-- A tile's record leaves the slots. -/
theorem State.slotOf_logTile (s : State) (p code p0 p1 p2 p3 r : Nat) : (s.logTile p code p0 p1 p2 p3).slotOf r = s.slotOf r := by
  simp only [State.slotOf, State.logTile, State.enqueue_test]

/-- A zeroising that runs in a good domain ends with ZERO_OK (R80, R305). -/
theorem State.zeroOk_running {s : State} {p : Nat} {m : Moment} (hm : (s.engine p).zeroAt = some m) (hok : s.cdomOk p = true) :
    s.zeroOk p = (s.put (BOL_SCAN_ZERO_OK p) 1).setEngine p { s.engine p with zeroAt := none } :=
  if_pos ⟨Option.isSome_of_eq_some hm, hok⟩

/-- Then a diagnosis that waited for it runs (R309). -/
theorem State.zeroDone_running {s : State} {p : Nat} {m : Moment} (hm : (s.engine p).zeroAt = some m) (hok : s.cdomOk p = true) :
    s.zeroDone p =
      let v := (s.put (BOL_SCAN_ZERO_OK p) 1).setEngine p { s.engine p with zeroAt := none }
      match v.diagOf p with
      | some (q, k, _) => v.runDiag q k
      | none => v := by
  rewrite [State.zeroDone, State.zeroOk_running hm hok]
  rfl

/-- A zeroising overdue in a slot's test, with no diagnosis waiting for it, fails the test with verdict ZEROISE (R305). -/
theorem State.zeroFail_ofSlot {s : State} {p k : Nat} {m : Moment} {t : TSlot} (hm : (s.engine p).zeroAt = some m)
    (hdue : s.get HM_TEST_CTL_ZERO_CC ≤ (s.since m).toNat) (hslot : s.slotOf p = some (k, t)) (hdiag : s.diagOf p = none) :
    s.zeroFail p =
      ((s.setEngine p { s.engine p with zeroAt := none }).logTile p 0x0706 p (s.since m).toNat 0 s.tick32).failTest (quayOf p) k t 5 0 := by
  have hfails : ¬(s.since m).toNat < s.get HM_TEST_CTL_ZERO_CC := Nat.not_lt.mpr hdue
  simp only [State.zeroFail, hm, if_neg hfails, State.diagOf_logTile, State.diagOf_setEngine, hdiag, State.slotOf_logTile, State.slotOf_setEngine, hslot]
  rfl

/-! ### Memory BIST -/

/-- A memory BIST that no slot's test runs leaves its result in BOL_MBIST and nothing else (R312). -/
theorem State.mbistDone_outside {s : State} {p : Nat} (pass : Bool) (rows : List Nat) (word bitNo : Nat) (hrun : (s.engine p).running ≠ 2) :
    s.mbistDone p pass rows word bitNo =
      let v := (s.put (BOL_MBIST_STATE p) (if pass = true then 2 else 3)).put (BOL_MBIST_FROWS p) (min rows.length 7)
      let v := ((v.put (BOL_MBIST_FROW p) (rows.headD 0)).put (BOL_MBIST_FWORD p) word).put (BOL_MBIST_FBIT p) bitNo
      if v.get (BOL_MBIST_OP p) = 4 then v.put (BOL_MBIST_REPN p) 0 else v :=
  if_pos hrun

/-! ### Scan intervals -/

/-- An LBIST interval whose patterns have been shifted: a signature that differs from the library's ends the run with FAIL and the interval, one that agrees
ends it with PASS after the sixteenth interval and else goes on to the next (R308). -/
theorem State.scanInterval_lbist {s : State} {p : Nat} (misr : BitVec 64) (hrun : (s.engine p).running = 1) (hdue : s.scanDue p = true)
    (hmode : s.get (BOL_SCAN_MODE p) = kdLbist) :
    s.scanInterval p misr =
      let e := s.engine p
      let half := (s.scanPlace p).1
      let next := Config.prpgAfter e.prpg (s.scanPats p)
      if misr ≠ s.lbistSig (quayOf p) half (s.scanPlace p).2 e.done then
        let v := s.setEngine p { e with misr := misr, running := 0, saved := e.prpg }
        let v := v.put (BOL_SCAN_PATTERN p) ((e.done + 1) * ((s.libSet (quayOf p) half).pats1 / 16) - 1)
        ((v.put (BOL_SCAN_INTERVAL p) e.done).put (BOL_SCAN_CELL p) 0x1FFF).put (BOL_SCAN_STATE p) 3
      else if 16 ≤ e.done + 1 then
        (s.setEngine p { e with misr := misr, running := 0, done := e.done + 1, prpg := next }).put (BOL_SCAN_STATE p) 2
      else s.setEngine p { e with misr := misr, done := e.done + 1, prpg := next } := by
  have hends : ¬((s.engine p).running ≠ 1 ∨ (!s.scanDue p) = true) := by simp [hrun, hdue]
  have hkind : decide (kdLbist = kdTopup) = false := by decide
  simp only [State.scanInterval, if_neg hends, hmode, hkind, Bool.false_eq_true, if_false]

/-! ### The meanings of the commands -/

theorem exec_zeroiseDone (s : State) (c p : Nat) : exec (.zeroiseDone c p) s = run s c fun u => u.fromCore p fun u => u.zeroDone p := (rfl)

theorem exec_zeroiseFail (s : State) (c p : Nat) : exec (.zeroiseFail c p) s = run s c fun u => u.onTile p fun u => u.zeroFail p := (rfl)

theorem exec_mbistDone (s : State) (c p : Nat) (pass : Bool) (rows : List Nat) (word bitNo : Nat) :
    exec (.mbistDone c p pass rows word bitNo) s = run s c fun u => u.fromCore p fun u => u.mbistDone p pass rows word bitNo := (rfl)

theorem exec_scanIntervalEnd (s : State) (c p : Nat) (misr : BitVec 64) :
    exec (.scanIntervalEnd c p misr) s = run s c fun u => u.onTile p fun u => u.scanInterval p misr := (rfl)

/-- Settles O9: each command is a run at its tile, from the core's domain where it is that domain's answer, whose effect, in the case of its clause, is the one
that the lemmas above give. -/
theorem tileTestsComplete : Obligations.TileTestsComplete := by
  intro s c p h ht
  refine ⟨?zeroised, ?zeroFails, ?zeroFail, ?mbist, ?mbistOutside, ?interval, ?intervalPasses, ?intervalFails⟩
  case zeroised =>
    intro m hm hok
    exact exec_of_fromCore (exec_zeroiseDone ..) h ht hok (State.zeroDone_running (s := s.begin_ c) hm hok)
  case zeroFails =>
    intro m k t hm hdue hslot hdiag
    exact exec_of_onTile (exec_zeroiseFail ..) h ht (State.zeroFail_ofSlot (s := s.begin_ c) hm hdue hslot hdiag)
  case zeroFail =>
    intro m _ _
    exact exec_of_onTile (exec_zeroiseFail ..) h ht rfl
  case mbist =>
    intro pass rows word bitNo hok
    exact exec_of_fromCore (exec_mbistDone ..) h ht hok rfl
  case mbistOutside =>
    intro pass rows word bitNo hok hrun
    exact exec_of_fromCore (exec_mbistDone ..) h ht hok (State.mbistDone_outside (s := s.begin_ c) pass rows word bitNo hrun)
  case interval =>
    intro misr _ _
    exact exec_of_onTile (exec_scanIntervalEnd ..) h ht rfl
  case intervalPasses =>
    intro misr hrun hdue hmode hsig hlast
    have hscan := State.scanInterval_lbist (s := s.begin_ c) misr hrun hdue hmode
    exact exec_of_onTile (exec_scanIntervalEnd ..) h ht
      ((hscan.trans (if_neg (not_not_intro hsig))).trans (if_pos (Nat.succ_le_succ hlast)))
  case intervalFails =>
    intro misr hrun hdue hmode hsig
    have hscan := State.scanInterval_lbist (s := s.begin_ c) misr hrun hdue hmode
    exact exec_of_onTile (exec_scanIntervalEnd ..) h ht (hscan.trans (if_pos hsig))

end Sys2Proof.Machine

/-!
PROOFS. The test slots (chapter 08): what the start of a functional slice, a refused Clearance, a diagnosis and the host's two requests come to, and that the
commands complete.
-/

namespace Sys2Proof.Machine

/-! ### Slices -/

/-- A functional slice that may start begins at once, at the commit's end (R299). -/
theorem State.sliceStart_functional {s : State} {q k : Nat} {t : TSlot} (ht : s.tslot q k = some t) (hphase : t.phase = 1) (hopen : s.isOpen = true)
    (hstop : (s.at_ (s.commitAt + 1)).stopReason q k t = 0) (hok : s.cdomOk t.p = true) (hkind : s.slotKind t = kdFunc) :
    s.sliceStart q k = (s.at_ (s.commitAt + 1)).beginSlice q k t := by
  have hslot : (s.at_ (s.commitAt + 1)).tslot q k = some t := ht
  have hrunning : (s.at_ (s.commitAt + 1)).isOpen = true := hopen
  have hgood : (s.at_ (s.commitAt + 1)).cdomOk t.p = true := hok
  have hfunc : (s.at_ (s.commitAt + 1)).slotKind t = kdFunc := hkind
  simp [State.sliceStart, hslot, hphase, hrunning, hstop, hgood, hfunc]

/-- A Clearance that has not been given within 16 ticks is withdrawn, and the test is put off (R304). -/
theorem State.testClrTimeout_due {s : State} {q k : Nat} {t : TSlot} (ht : s.tslot q k = some t) (hphase : t.phase = 1)
    (hdue : (s.quay q).clrPend.any (fun r => decide (r.p = t.p) && r.engine && decide (16 * s.tickLen ≤ s.since r.since)) = true) :
    s.testClrTimeout q k = (s.clrRelease t.p true).preempt q k t 2 := by
  simp only [State.testClrTimeout, ht]
  exact if_pos ⟨hphase, hdue⟩

/-- A diagnosis that runs leaves what it found, is counted and recorded, and ends the failed test and its partner (R309). -/
theorem State.diagDone_running {s : State} {q k : Nat} {t : TSlot} (pattern chain cell : Nat) (found : Bool) (ht : s.tslot q k = some t)
    (hphase : t.phase = 5) :
    s.diagDone q k pattern chain cell found =
      let v := if found = true then ((s.put (BOL_SCAN_PATTERN t.p) pattern).put (BOL_SCAN_CHAIN t.p) chain).put (BOL_SCAN_CELL t.p) cell else s
      let v := ((v.put (BOL_SCAN_DIAG_DONE t.p) 1).put (BOL_SCAN_STATE t.p) 3).count HM_TEST_CNT1_DIAGS 1
      let v := v.result { v.slotRes q t 1 with cell := if found = true then cell else 0xFFFF }
      (v.endPartner t).endFail q k t 1 := by
  simp only [State.diagDone, ht]
  exact if_neg (not_not_intro hphase)

/-! ### The host's requests -/

/-- A request that no other one precedes, of a tile of the configuration that is not Slate, keeps the operation BUSY and names the tile (R335). -/
theorem State.testNext_idle {s : State} {p : Nat} (hbusy : s.flag HM_TEST_OP_BUSY = false) (hp : p < 2 ^ 20) (hq : quayOf p < s.nQuays)
    (hcolour : s.colour p ≠ slate) :
    s.testNext p =
      let v := (s.put HM_TEST_OP_PTILE p).put HM_TEST_OP_OP 1
      { v.put HM_TEST_OP_BUSY 1 with test.next := some p } := by
  have hkept : ((s.put HM_TEST_OP_PTILE p).put HM_TEST_OP_OP 1).colour p = s.colour p :=
    (State.colour_put_other _ _ (bolAddr_ne_page (by decide))).trans (s.colour_put_other _ (bolAddr_ne_page (by decide)))
  have hrefused : ¬(s.nQuays ≤ quayOf p ∨ s.colour p = slate) := not_or.mpr ⟨hq.not_ge, hcolour⟩
  simp only [State.testNext, hbusy, Bool.false_eq_true, if_false, Nat.mod_eq_of_lt hp, State.put_nQuays, hkept]
  exact if_neg hrefused

/-- The slots are no register. -/
theorem State.slotOf_put (s : State) (f : Fld) (v p : Nat) : (s.put f v).slotOf p = s.slotOf p := (rfl)

/-- A request that no other one precedes, of a tile in a slot, marks the slot's test to end at its slice's end (R335). -/
theorem State.testAbort_ofSlot {s : State} {p i : Nat} {t : TSlot} (hbusy : s.flag HM_TEST_OP_BUSY = false) (hp : p < 2 ^ 20)
    (hslot : s.slotOf p = some (i, t)) :
    s.testAbort p = (((s.put HM_TEST_OP_PTILE p).put HM_TEST_OP_OP 2).setTslot (quayOf p) i (some { t with abort := true })).irq irqTest := by
  simp only [State.testAbort, hbusy, Bool.false_eq_true, if_false, Nat.mod_eq_of_lt hp, State.slotOf_put, hslot]

/-! ### The meanings of the commands -/

theorem exec_testSlotFill (s : State) (q : Nat) :
    exec (.testSlotFill q) s = run s 0 fun u => u.onQuay q fun u =>
      if u.testSweep.flag HM_TRIPLEX_STAT_ABSENT = true then u.testSweep else u.testSweep.slotFill q := (rfl)

theorem exec_testSliceStart (s : State) (q k : Nat) :
    exec (.testSliceStart q k) s = run s 0 fun u => u.onQuay q fun u => u.sliceStart q k := (rfl)

theorem exec_testSliceEnd (s : State) (c q k : Nat) (results : List (BitVec 64)) :
    exec (.testSliceEnd c q k results) s = run s c fun u => u.onQuay q fun u => u.sliceEnd q k results := (rfl)

theorem exec_sliceTimeout (s : State) (c q k : Nat) (waits : Bool) (results : List (BitVec 64)) :
    exec (.sliceTimeout c q k waits results) s = run s c fun u => u.onQuay q fun u => u.sliceTimeout q k waits results := (rfl)

theorem exec_testClearanceTimeout (s : State) (c q k : Nat) :
    exec (.testClearanceTimeout c q k) s = run s c fun u => u.onQuay q fun u => u.testClrTimeout q k := (rfl)

theorem exec_diagnosisDone (s : State) (c q k pattern chain cell : Nat) (found : Bool) :
    exec (.diagnosisDone c q k pattern chain cell found) s = run s c fun u => u.onQuay q fun u => u.diagDone q k pattern chain cell found := (rfl)

theorem exec_testNext (s : State) (c p : Nat) :
    exec (.testNext c p) s = run s c fun u => u.go HM_TEST_OP (some HM_TEST_OP_BUSY) (.testNext c p) fun u => u.testNext p := (rfl)

theorem exec_testAbort (s : State) (c p : Nat) :
    exec (.testAbort c p) s = run s c fun u => u.go HM_TEST_OP (some HM_TEST_OP_BUSY) (.testAbort c p) fun u => u.testAbort p := (rfl)

/-- Settles O20: each command is a run at its quay, the host's two a GO on a page that takes it, and its effect, in the case of its clause, is the one that the
lemmas above give. -/
theorem testSlotsComplete : Obligations.TestSlotsComplete := by
  intro s c q k h hq
  refine ⟨?fill, ?start, ?startFunctional, ?sliceEnd, ?timeout, ?clearance, ?diagnosis, ?next, ?abort⟩
  case fill =>
    intro _
    exact exec_of_onQuay (exec_testSlotFill ..) h hq rfl
  case start =>
    intro t _ _
    exact exec_of_onQuay (exec_testSliceStart ..) h hq rfl
  case startFunctional =>
    intro t ht hphase hopen hstop hok hkind
    exact exec_of_onQuay (exec_testSliceStart ..) h hq
      (State.sliceStart_functional (s := s.begin_ 0) ht hphase hopen hstop hok hkind)
  case sliceEnd =>
    intro t results _ _ _
    exact exec_of_onQuay (exec_testSliceEnd ..) h hq rfl
  case timeout =>
    intro t waits results _ _ _
    exact exec_of_onQuay (exec_sliceTimeout ..) h hq rfl
  case clearance =>
    intro t ht hphase hdue
    exact exec_of_onQuay (exec_testClearanceTimeout ..) h hq (State.testClrTimeout_due (s := s.begin_ c) ht hphase hdue)
  case diagnosis =>
    intro t pattern chain cell found ht hphase
    exact exec_of_onQuay (exec_diagnosisDone ..) h hq (State.diagDone_running (s := s.begin_ c) pattern chain cell found ht hphase)
  case next =>
    rintro p ⟨hw, habsent⟩ hbusy hp hquay hcolour
    exact exec_of_go (exec_testNext ..) h hw habsent (State.testNext_idle (s := s.begin_ c) hbusy hp hquay hcolour)
  case abort =>
    rintro p i t ⟨hw, habsent⟩ hbusy hp hslot
    exact exec_of_go (exec_testAbort ..) h hw habsent (State.testAbort_ofSlot (s := s.begin_ c) hbusy hp hslot)

end Sys2Proof.Machine

/-!
PROOFS. The test library's flash (chapter 08): what a request of the host and the end of an access come to, and that the commands complete.
-/

namespace Sys2Proof.Machine

/-! ### The host's requests -/

/-- A rescan asked for while no operation runs starts at once (R319). -/
theorem State.xspiRescan_idle {s : State} (hbusy : s.flag HM_XSPI_OP_BUSY = false) :
    s.xspiRescan = ((s.put HM_XSPI_OP_OP 3).put HM_XSPI_OP_DONE 0).startScan 3 :=
  if_neg (Bool.eq_false_iff.mp hbusy)

/-! ### The end of an access -/

/-- An access of a program or an erase that the device refuses ends the operation with RESULT 3 (R322). -/
theorem State.flashDone_refused {s : State} {f : Flash} (found : List (Nat × List (BitVec 8))) (hf : s.test.flash = some f) (hstage : f.stage < 3) :
    s.flashDone false found = (s.flashEnd 3, false) := by
  have hscan : f.stage ≠ 3 := hstage.ne
  simp only [State.flashDone, hf, if_neg hscan, Bool.not_false, if_true]

/-- The erase of its last sector ends an erase, with the whole of it DONE (R322). -/
theorem State.flashDone_erased {s : State} {f : Flash} (found : List (Nat × List (BitVec 8))) (hf : s.test.flash = some f) (hstage : f.stage = 0)
    (hop : f.op = 2) (hlast : f.sectors ≤ f.done + 1) :
    s.flashDone true found = ((s.put HM_XSPI_OP_DONE (sectorBytes * (f.done + 1))).flashEnd 0, false) := by
  have hscan : f.stage ≠ 3 := by rw [hstage]; decide
  have hmore : ¬f.done + 1 < f.sectors := hlast.not_gt
  simp only [State.flashDone, hf, if_neg hscan, Bool.not_true, Bool.false_eq_true, if_false, if_pos hstage, if_pos hop, if_neg hmore]

/-! ### The meanings of the commands -/

theorem exec_xspiProgram (s : State) (c : Nat) :
    exec (.xspiProgram c) s = run s c fun u => u.go HM_XSPI_OP (some HM_XSPI_OP_BUSY) (.xspiProgram c) State.xspiProgram := (rfl)

theorem exec_xspiErase (s : State) (c : Nat) :
    exec (.xspiErase c) s = run s c fun u => u.go HM_XSPI_OP (some HM_XSPI_OP_BUSY) (.xspiErase c) State.xspiErase := (rfl)

theorem exec_xspiRescan (s : State) (c : Nat) :
    exec (.xspiRescan c) s = run s c fun u => u.go HM_XSPI_OP (some HM_XSPI_OP_BUSY) (.xspiRescan c) State.xspiRescan := (rfl)

theorem exec_flashAccessDone (s : State) (c : Nat) (ok : Bool) (found : List (Nat × List (BitVec 8))) :
    exec (.flashAccessDone c ok found) s = run s c fun u => (u.flashDone ok found).1.prepStep := (rfl)

/-- The end of an access has the effect that the operation gives it, and PREPARE goes on (R322, R588). -/
theorem exec_flashAccessDone_of {s : State} {c : Nat} {ok scanned : Bool} {found : List (Nat × List (BitVec 8))} {g : State → State}
    (h : s.start.held = false) (hg : (s.begin_ c).flashDone ok found = (g (s.begin_ c), scanned)) :
    exec (.flashAccessDone c ok found) s = .next (s.after c fun u => (g u).prepStep) :=
  exec_of_run (exec_flashAccessDone ..) h (congrArg (fun r => r.1.prepStep) hg)

/-- Settles O21: each request of the host is a GO on a page that takes it and the end of an access a run, and its effect, in the case of its clause, is the one
that the lemmas above give. -/
theorem libraryCompletes : Obligations.LibraryCompletes := by
  intro s c h
  refine ⟨?requests, ?rescanIdle, ?access, ?refused, ?erased⟩
  case requests =>
    rintro ⟨hw, habsent⟩
    exact ⟨exec_of_go (exec_xspiProgram ..) h hw habsent rfl, exec_of_go (exec_xspiErase ..) h hw habsent rfl,
      exec_of_go (exec_xspiRescan ..) h hw habsent rfl⟩
  case rescanIdle =>
    rintro ⟨hw, habsent⟩ hbusy
    exact exec_of_go (exec_xspiRescan ..) h hw habsent (State.xspiRescan_idle (s := s.begin_ c) hbusy)
  case access =>
    intro f ok found _
    exact exec_of_run (exec_flashAccessDone ..) h rfl
  case refused =>
    intro f found hf hstage
    exact exec_flashAccessDone_of h (State.flashDone_refused (s := s.begin_ c) found hf hstage)
  case erased =>
    intro f found hf hstage hop hlast
    exact exec_flashAccessDone_of h (State.flashDone_erased (s := s.begin_ c) found hf hstage hop hlast)

end Sys2Proof.Machine

/-!
PROOFS. Heat and power (chapter 11): what a conversion, a regulator's alert and a unit's retest come to, and that the commands complete.
-/

namespace Sys2Proof.Machine

/-! ### Conversions -/

/-- The channels 90 to 103 are the pins HK_AIN2 to HK_AIN15, sampled in 0.1 mV (R454, R478). -/
theorem State.converted_pin {s : State} {ch : Nat} (val : Int) (fault : Nat) (hlo : 90 ≤ ch) (hhi : ch < 104) :
    s.converted_ ch val fault = s.ainSample (ch - 88) (min 12500 val.toNat) := by
  have hpin : 88 ≤ ch := Nat.le_trans (by decide) hlo
  exact (if_pos hpin).trans (if_pos ⟨hlo, hhi⟩)

/-- The channels below 88 are temperatures; a critical one triggers the flush (R454, R554). -/
theorem State.converted_temperature {s : State} {ch : Nat} (val : Int) (fault : Nat) (h : ch < 88) :
    s.converted_ ch val fault =
      let r := s.conversion ch val fault
      if r.2 = true then r.1.pfTrigger 3 else r.1 :=
  if_neg h.not_ge

/-! ### A regulator's alert -/

/-- The registers of the quays lie above the Harbourmaster's (R18). -/
theorem qyAddr_ge (q o : Nat) : 0x100000 ≤ qyAddr q o := by
  unfold qyAddr
  omega

/-- Lantern mode is a field of a Harbourmaster's register: a quay's registers do not touch it (R538). -/
theorem State.lantern_put_quay (s : State) {f : Fld} (v : Nat) (h : 0x100000 ≤ f.reg) : (s.put f v).lantern = s.lantern := by
  have hlow : HM_RST_STAT_LANTERN.reg < 0x100000 := by decide
  exact congrArg (fun n => decide (n ≠ 0)) (s.get_put_reg v (hlow.trans_le h).ne)

/-- Nor does a quay's own state. -/
theorem State.lantern_modQuay (s : State) (q : Nat) (f : QuaySt → QuaySt) : (s.modQuay q f).lantern = s.lantern := (rfl)

/-- Outside Lantern mode the alert is held and the devices of the regulator's bus are asked (R680). -/
theorem State.pmAlert_outside {s : State} {q : Nat} (hl : s.lantern = false) :
    s.pmAlert q =
      let v := (s.put (QY_RAIL_ALERT q) 1).modQuay q (fun t => { t with alertSeen := true })
      (v.quayList.filter (fun k => decide (k / 8 = q / 8))).foldl (fun v k => v.pmQueue ⟨k, 0x79, false, 0, 3⟩) (v.pmFault q) := by
  have hregister : 0x100000 ≤ (QY_RAIL_ALERT q).reg := qyAddr_ge q _
  have hlantern : ((s.put (QY_RAIL_ALERT q) 1).modQuay q (fun t => { t with alertSeen := true })).lantern = false :=
    (State.lantern_modQuay _ q _).trans ((s.lantern_put_quay 1 hregister).trans hl)
  exact if_neg (Bool.eq_false_iff.mp hlantern)

/-! ### A unit's retest -/

/-- A unit other than a triplex core that fails its retest becomes Slate, with the result's record (R323). -/
theorem State.unitRetest_fails {s : State} {k : Nat} (hv : (s.unit k).colour = vermilion) (hk : k < 4 ∨ 7 ≤ k) :
    s.unitRetest k false =
      (s.setUnitColour k slate).result { TestRes.blank with p := unitDomain k, kind := 7, verdict := 1, purpose := puRetest } := by
  have hvermilion : ¬(s.unit k).colour ≠ vermilion := not_not_intro hv
  have hcore : ¬(4 ≤ k ∧ k < 7) := by omega
  simp only [State.unitRetest, if_neg hvermilion, if_neg hcore, Bool.false_eq_true, false_and, and_false, if_false]

/-! ### The meanings of the commands -/

theorem exec_housekeepingRound (s : State) (k : Option Nat) : exec (.housekeepingRound k) s = runDown s 0 fun u => u.houseRound k := (rfl)

theorem exec_throttleEvaluation (s : State) : exec .throttleEvaluation s = run s 0 State.throttle := (rfl)

theorem exec_conversionDone (s : State) (c ch : Nat) (val : Int) (fault : Nat) :
    exec (.conversionDone c ch val fault) s = run s c fun u => (u.converted_ ch val fault).checker 0 0 21 0 0 false := (rfl)

theorem exec_busSample (s : State) (c c0 c1 : Nat) : exec (.busSample c c0 c1) s = run s c fun u => u.busPoint c0 c1 := (rfl)

theorem exec_pfailFall (s : State) (c : Nat) : exec (.pfailFall c) s = run s c State.pfailFall := (rfl)

theorem exec_pfailRise (s : State) (c : Nat) : exec (.pfailRise c) s = run s c State.pfailRise := (rfl)

theorem exec_pmbusAlert (s : State) (c q : Nat) :
    exec (.pmbusAlert c q) s = run s c fun u => u.onQuay q fun u => (if u.isOpen then u else u.closedAnswer 5).pmAlert q := (rfl)

theorem exec_pmbusTransactionDone (s : State) (c : Nat) (ack : Bool) (data : Nat) :
    exec (.pmbusTransactionDone c ack data) s = run s c fun u => u.pmbusDone ack data := (rfl)

theorem exec_unitRetestDone (s : State) (c k : Nat) (pass : Bool) :
    exec (.unitRetestDone c k pass) s = run s c fun u => u.unitRetest k pass := (rfl)

theorem exec_linkDomainPower (s : State) (c p : Nat) : exec (.linkDomainPower c p) s = run s c fun u => u.onTile p fun u => u.linkPower p := (rfl)

/-- Settles O18: each command is a run, at its quay or tile where it names one, whose effect, in the case of its clause, is the one that the lemmas above give;
the round, the throttling and the power-fail pin are the model's functions themselves. -/
theorem powerCompletes : Obligations.PowerCompletes := by
  intro s c h
  refine ⟨?round, ?throttle, ?conversion, ?pin, ?temperature, ?bus, ?fall, ?rise, ?alertOpen, ?alert, ?transaction, ?retest, ?retestFails, ?link⟩
  case round =>
    intro k _
    exact exec_of_runDown (exec_housekeepingRound ..) h rfl
  case throttle =>
    intro _
    exact exec_of_run (exec_throttleEvaluation ..) h rfl
  case conversion =>
    intro ch val fault
    exact exec_of_run (exec_conversionDone ..) h rfl
  case pin =>
    intro ch val hlo hhi
    exact exec_of_run (exec_conversionDone ..) h
      (congrArg (State.checker · 0 0 21 0 0 false) (State.converted_pin (s := s.begin_ c) val 0 hlo hhi))
  case temperature =>
    intro ch val fault hch
    exact exec_of_run (exec_conversionDone ..) h
      (congrArg (State.checker · 0 0 21 0 0 false) (State.converted_temperature (s := s.begin_ c) val fault hch))
  case bus =>
    intro c0 c1
    exact exec_of_run (exec_busSample ..) h rfl
  case fall => exact exec_of_run (exec_pfailFall ..) h rfl
  case rise => exact exec_of_run (exec_pfailRise ..) h rfl
  case alertOpen =>
    intro q hq hopen hl
    exact exec_of_onQuay (exec_pmbusAlert ..) h hq
      ((congrArg (State.pmAlert · q) (if_pos hopen)).trans (State.pmAlert_outside (s := s.begin_ c) hl))
  case alert =>
    intro q hq
    exact exec_of_onQuay (exec_pmbusAlert ..) h hq rfl
  case transaction =>
    intro x l ack data _
    exact exec_of_run (exec_pmbusTransactionDone ..) h rfl
  case retest =>
    intro k pass _
    exact exec_of_run (exec_unitRetestDone ..) h rfl
  case retestFails =>
    intro k hv hk
    exact exec_of_run (exec_unitRetestDone ..) h (State.unitRetest_fails (s := s.begin_ c) hv hk)
  case link =>
    intro p hp
    exact exec_of_onTile (exec_linkDomainPower ..) h hp rfl

end Sys2Proof.Machine

/-!
PROOFS. The store apertures, the windows and the rings (chapter 09): what an access of the host comes to in each range of the map, what a control core's ring
operation and a remote packet come to, and that the commands complete.
-/

namespace Sys2Proof.Machine

/-! ### The store apertures -/

/-- An access of a served size that no parity error stops is met by the range of the map that its address lies in (R636, R637, R640); a read carries no parity. -/
theorem State.aperture_clean {s : State} {a size : Nat} {write : Bool} (data : Nat) (ue : Bool) (ce : Option Nat) (hu : s.hportUp = true)
    (hparity : write = true → s.isArmed 0 0 22 = false) (hz : sizeOk a size = true) :
    s.aperture a size write data false ue ce =
      if 0x1000000 ≤ a ∧ a < 0x2000000 then s.harbourAccess (a - 0x1000000) size write data
      else if 0x40000000 ≤ a ∧ a < 0x40000000 + s.nQuays * 0x1000000 then
        s.quayAccess ((a - 0x40000000) / 0x1000000) ((a - 0x40000000) % 0x1000000) size write data ue ce
      else s.reply rspDecode 0 := by
  cases write with
  | false => simp [State.aperture, hu, hz]
  | true => simp [State.aperture, hu, hz, s.parity_clean (hparity rfl)]

/-- Between 0x0100_0000 and 0x0200_0000 it reaches the harbour store (R637). -/
theorem State.aperture_harbour {s : State} {a size : Nat} {write : Bool} (data : Nat) (ue : Bool) (ce : Option Nat) (hu : s.hportUp = true)
    (hparity : write = true → s.isArmed 0 0 22 = false) (hz : sizeOk a size = true) (hlo : 0x1000000 ≤ a) (hhi : a < 0x2000000) :
    s.aperture a size write data false ue ce = s.harbourAccess (a - 0x1000000) size write data :=
  (State.aperture_clean data ue ce hu hparity hz).trans (if_pos ⟨hlo, hhi⟩)

/-- The window of quay `q` reaches the offset within it of that quay's store (R342). -/
theorem State.aperture_quay {s : State} {q o size : Nat} {write : Bool} (data : Nat) (ue : Bool) (ce : Option Nat) (hu : s.hportUp = true)
    (hparity : write = true → s.isArmed 0 0 22 = false) (hz : sizeOk (0x40000000 + q * 0x1000000 + o) size = true) (hq : q < s.nQuays) (ho : o < 0x1000000) :
    s.aperture (0x40000000 + q * 0x1000000 + o) size write data false ue ce = s.quayAccess q o size write data ue ce := by
  have hharbour : ¬(0x1000000 ≤ 0x40000000 + q * 0x1000000 + o ∧ 0x40000000 + q * 0x1000000 + o < 0x2000000) := by omega
  have hwindow : 0x40000000 ≤ 0x40000000 + q * 0x1000000 + o ∧ 0x40000000 + q * 0x1000000 + o < 0x40000000 + s.nQuays * 0x1000000 := by omega
  have hquay : (0x40000000 + q * 0x1000000 + o - 0x40000000) / 0x1000000 = q := by omega
  have hoffset : (0x40000000 + q * 0x1000000 + o - 0x40000000) % 0x1000000 = o := by omega
  rw [State.aperture_clean data ue ce hu hparity hz, if_neg hharbour, if_pos hwindow, hquay, hoffset]

/-- Between the harbour store and the quays' windows no store answers (R636). -/
theorem State.aperture_decode {s : State} {a size : Nat} {write : Bool} (data : Nat) (ue : Bool) (ce : Option Nat) (hu : s.hportUp = true)
    (hparity : write = true → s.isArmed 0 0 22 = false) (hz : sizeOk a size = true) (hlo : 0x2000000 ≤ a) (hhi : a < 0x40000000) :
    s.aperture a size write data false ue ce = s.reply rspDecode 0 :=
  (State.aperture_clean data ue ce hu hparity hz).trans ((if_neg fun h => hlo.not_gt h.2).trans (if_neg fun h => hhi.not_ge h.1))

/-- At or beyond the configured size an access only sets APERTURE_RANGE on the quay's store page, and reads 0 (R342). -/
theorem State.quayAccess_beyond {s : State} {q o : Nat} (size : Nat) (write : Bool) (data : Nat) (ue : Bool) (ce : Option Nat) (h : s.storeBytes q ≤ o) :
    s.quayAccess q o size write data ue ce = (s.pageErr (qyAddr q 0x8000) errAperture).emit (.hport rspOk 0) := if_pos h

theorem exec_storeApertureAccess (s : State) (c a size : Nat) (data : BitVec 64) (write parBad ue : Bool) (ce : Option Nat) :
    exec (.storeApertureAccess c a size data write parBad ue ce) s = run s c fun u => u.aperture a size write data.toNat parBad ue ce := (rfl)

/-- Settles O49: the access is a run that reaches the quay's store, and beyond the configured size it comes to the page's error. -/
theorem quayStoreWindow : Obligations.QuayStoreWindow := by
  intro s c q o size data write ue ce h hu hn hq ho hz
  have hreach := State.aperture_quay (s := s.begin_ c) (write := write) data.toNat ue ce hu (fun _ => hn) hz hq ho
  refine ⟨?reached, ?beyond⟩
  case reached => exact exec_of_run (exec_storeApertureAccess ..) h hreach
  case beyond =>
    intro hbytes
    exact exec_of_run (exec_storeApertureAccess ..) h (hreach.trans (State.quayAccess_beyond (s := s.begin_ c) size write data.toNat ue ce hbytes))

/-! ### Rings and windows -/

/-- A ring operation by the control core is judged (R354). -/
theorem State.ringGo_rinol (s : State) (q ring n : Nat) (push : Bool) : s.ringGo q ring n push false = s.ringOp q ring n push :=
  if_neg Bool.false_ne_true

/-- A ring operation by the host on a page that takes the write is denied (R354). -/
theorem State.ringGo_host {s : State} {q : Nat} (ring n : Nat) (push : Bool) (hw : s.takesWrites (QY_RING_OP q)) :
    s.ringGo q ring n push true = (s.pageErr (QY_RING_OP q) errDenied).emit (.hport 0 0) :=
  (if_pos rfl).trans (hostWrite_taken hw.1 hw.2)

/-- In an open harbour a packet for a quay reaches its window, judged by the key that the window selects (R363). -/
theorem State.packet_open {s : State} {q : Nat} (k : Packet) (hq : q < s.nQuays) (ho : s.isOpen = true) :
    s.packet (some q) k =
      s.winPacket q k (if s.lantern || s.keys.quayBlank.contains q then none else s.quayKey (1 + s.getHeld (QY_WIN_CFG_KEY_SEL q (k.win % 16)))) := by
  rewrite [State.packet, State.onQuay_of_lt hq]
  exact if_pos ho

theorem exec_push (s : State) (c q ring n : Nat) (host : Bool) :
    exec (.push c q ring n host) s = run s c fun u => u.onQuay q fun u => u.ringGo q ring n true host := (rfl)

theorem exec_pop (s : State) (c q ring n : Nat) (host : Bool) :
    exec (.pop c q ring n host) s = run s c fun u => u.onQuay q fun u => u.ringGo q ring n false host := (rfl)

theorem exec_remoteWrite (s : State) (c : Nat) (quay : Option Nat) (wafer win off seq : Nat) (tag : BitVec 64) (rows : List (List (BitVec 64))) :
    exec (.remoteWrite c quay wafer win off seq tag rows) s = run s c fun u => u.packet quay ⟨wafer, win, off, seq, tag, rows⟩ := (rfl)

/-- Settles O24: each command is a run, at its quay where it names one, whose effect, in the case of its clause, is the one that the lemmas above give. That the
Harbourmaster's windows take packets in a closed harbour as well is the model's reading of R626 (log entry 59). -/
theorem ringsWindowsComplete : Obligations.RingsWindowsComplete := by
  intro s c h
  refine ⟨?push, ?pop, ?denied, ?quayWindow, ?hmWindow, ?harbour, ?quay, ?decode⟩
  case push =>
    intro q ring n hq
    exact exec_of_onQuay (exec_push ..) h hq ((s.begin_ c).ringGo_rinol q ring n true)
  case pop =>
    intro q ring n hq
    exact exec_of_onQuay (exec_pop ..) h hq ((s.begin_ c).ringGo_rinol q ring n false)
  case denied =>
    intro q ring n hq hw
    exact ⟨exec_of_onQuay (exec_push ..) h hq (State.ringGo_host (s := s.begin_ c) ring n true hw),
      exec_of_onQuay (exec_pop ..) h hq (State.ringGo_host (s := s.begin_ c) ring n false hw)⟩
  case quayWindow =>
    intro q wafer win off seq tag rows hq ho
    exact exec_of_run (exec_remoteWrite ..) h (State.packet_open (s := s.begin_ c) ⟨wafer, win, off, seq, tag, rows⟩ hq ho)
  case hmWindow =>
    intro wafer win off seq tag rows
    exact exec_of_run (exec_remoteWrite ..) h rfl
  case harbour =>
    intro a size data write ue ce hu hn hz hlo hhi
    exact exec_of_run (exec_storeApertureAccess ..) h (State.aperture_harbour (s := s.begin_ c) data.toNat ue ce hu (fun _ => hn) hz hlo hhi)
  case quay =>
    intro q o size data write ue ce hu hn hz hq ho
    exact exec_of_run (exec_storeApertureAccess ..) h (State.aperture_quay (s := s.begin_ c) data.toNat ue ce hu (fun _ => hn) hz hq ho)
  case decode =>
    intro a size data ue ce hu hz hlo hhi
    exact exec_of_run (exec_storeApertureAccess ..) h
      (State.aperture_decode (s := s.begin_ c) data.toNat ue ce hu (fun hwrite => absurd hwrite Bool.false_ne_true) hz hlo hhi)

end Sys2Proof.Machine

/-!
PROOFS. The stores (chapter 09): what a repair, a request of a bank and the end of a drain, of a wake and of an initialisation come to, and that the commands
complete.
-/

namespace Sys2Proof.Machine

/-- A change of a quay's state is what it reads afterwards. -/
theorem State.quay_modQuay_same (s : State) (q : Nat) (f : QuaySt → QuaySt) : (s.modQuay q f).quay q = f (s.quay q) := s.quay_setQuay_same q _

/-- A register's field is no part of a quay's state. -/
theorem State.quay_put (s : State) (f : Fld) (v q : Nat) : (s.put f v).quay q = s.quay q := (rfl)

/-! ### Forced scrubs and repairs -/

/-- FORCE_TICKS after the bank's last background slot its row is scrubbed at the cycle of the bank (R366). -/
theorem State.forcedScrub_due {s : State} {q b : Nat} (found synd word : Nat)
    (hdue : tabGet (fun _ => 0) (s.quay q).scrubTick b + s.get (QY_STORE_CTL_FORCE_TICKS q) ≤ s.time.tick) :
    s.forcedScrub q b found synd word = (s.at_ (s.commitAt + 1 + b)).scrub q b found synd word true :=
  if_neg hdue.not_gt

/-- The 32 spare rows of the bank are used: the repair ends with FULL and its record (R367). -/
theorem State.storeRepair_full {s : State} {q b : Nat} (row : Nat) (hidle : s.repairing q = false)
    (hused : 32 ≤ ((s.quay q).repairs.filter (fun x => decide (x.1 = b % 32))).length) :
    s.storeRepair q b row =
      let v := s.modQuay q (fun t => { t with repairAt := some s.now })
      let v := (v.put (QY_STORE_REPAIR_BANK q) b).put (QY_STORE_REPAIR_ROW q) row
      ((v.put (QY_STORE_REPAIR_FULL q) 1).put (QY_STORE_REPAIR_DONE q) 1).logQuay q 0x0804 (b % 32) (row % 2 ^ 13) 0 0 := by
  simp only [State.storeRepair, hidle, Bool.false_eq_true, if_false, State.quay_put, State.quay_modQuay_same, if_pos hused]

/-- A spare row takes the place of a row none of whose words is lost (R367, R368). -/
theorem State.storeRepair_spare {s : State} {q b row : Nat} (hidle : s.repairing q = false)
    (hused : ((s.quay q).repairs.filter (fun x => decide (x.1 = b % 32))).length < 32)
    (hgood : (List.range 8).any (fun i => tabGet (fun _ => false) (s.quay q).badWords (b % 32 * bankBytes + 64 * (row % 2 ^ 13) + 8 * i)) = false) :
    s.storeRepair q b row =
      let n := ((s.quay q).repairs.filter (fun x => decide (x.1 = b % 32))).length
      let i := rowOf (b % 32 * bankBytes + 64 * (row % 2 ^ 13))
      let v := s.modQuay q (fun t => { t with repairAt := some s.now })
      let v := (v.put (QY_STORE_REPAIR_BANK q) b).put (QY_STORE_REPAIR_ROW q) row
      let v := v.modQuay q (fun t => { t with
        repairs := t.repairs ++ [(b % 32, row % 2 ^ 13)], badWords := t.badWords.filter (fun x => decide (rowOf x.1 ≠ i))
        ceRuns := tabSet (fun _ => 0) t.ceRuns i 0 })
      let v := (v.put (QY_STORE_BANK_REPAIRS q (b % 32)) (n + 1)).put (QY_STORE_REPAIR_FULL q) 0
      ((v.put (QY_STORE_REPAIR_LOST q) 0).put (QY_STORE_REPAIR_DONE q) 1).logQuay q 0x0803 (b % 32) (row % 2 ^ 13) n 0 := by
  have hlost : bit false = 0 := rfl
  simp only [State.storeRepair, hidle, Bool.false_eq_true, if_false, State.quay_put, State.quay_modQuay_same, if_neg hused.not_ge, hgood, hlost]

/-! ### Banks -/

/-- A request for ON, RETAIN or OFF is kept and applied (R369). -/
theorem State.bankRequest_allowed {s : State} {q b req : Nat} (hb : b < s.banks q) (hreq : req < 4) (hone : req ≠ 1) :
    s.bankRequest q b (req % 4) = (s.put (QY_STORE_BANK_REQ q b) req).bankApply q b := by
  have hallowed : ¬(s.banks q ≤ b ∨ req % 4 = 1) := by omega
  rw [State.bankRequest, Nat.mod_eq_of_lt (Nat.mod_lt req (by decide)), if_neg hallowed, Nat.mod_eq_of_lt hreq]

/-- Rinol's request of a bank of the store (R369). -/
theorem State.bankGo_rinol {s : State} {q b req : Nat} (hb : b < s.banks q) (hreq : req < 4) (hone : req ≠ 1) :
    s.bankGo q b req false = (s.put (QY_STORE_BANK_REQ q b) req).bankApply q b :=
  ((if_neg hb.not_ge).trans (if_neg Bool.false_ne_true)).trans (State.bankRequest_allowed hb hreq hone)

/-- The host's request in a closed harbour, on a page that takes the write (R369, R371). -/
theorem State.bankGo_host {s : State} {q b req : Nat} (hb : b < s.banks q) (hreq : req < 4) (hone : req ≠ 1)
    (hw : s.takesWrites (QY_STORE_BANK_REQ q b).reg) (ho : s.isOpen = false) :
    s.bankGo q b req true = ((s.put (QY_STORE_BANK_REQ q b) req).bankApply q b).emit (.hport 0 0) := by
  have hclosed : ¬s.isOpen = true := Bool.eq_false_iff.mp ho
  rw [State.bankGo, if_neg hb.not_ge, if_pos rfl, hostWrite_taken hw.1 hw.2, if_neg hclosed, State.bankRequest_allowed hb hreq hone]

/-- A bank that is drained of its writers ends in RETAIN when that is requested (R370). -/
theorem State.bankDrained_retain {s : State} {q b : Nat} (hst : s.bankState q b = bkDrain) (hflight : s.get (QY_STORE_BANK_INFLIGHT q b) = 0)
    (hreq : s.get (QY_STORE_BANK_REQ q b) = 2) : s.bankDrained q b = s.setBank q b bkRetain := by
  have hends : ¬(s.bankState q b ≠ bkDrain ∨ s.get (QY_STORE_BANK_INFLIGHT q b) ≠ 0) := by simp [hst, hflight]
  simp only [State.bankDrained, if_neg hends, hreq]

/-- And in OFF when that is (R370). -/
theorem State.bankDrained_off {s : State} {q b : Nat} (hst : s.bankState q b = bkDrain) (hflight : s.get (QY_STORE_BANK_INFLIGHT q b) = 0)
    (hreq : s.get (QY_STORE_BANK_REQ q b) = 3) : s.bankDrained q b = s.bankOff q b := by
  have hends : ¬(s.bankState q b ≠ bkDrain ∨ s.get (QY_STORE_BANK_INFLIGHT q b) ≠ 0) := by simp [hst, hflight]
  simp only [State.bankDrained, if_neg hends, hreq]

/-- A bank whose time has passed is on, and applies a request that came meanwhile (R369). -/
theorem State.bankUp_due {s : State} {q b from_ : Nat} (hst : s.bankState q b = from_)
    (hdue : (bankTime from_ : Int) ≤ s.since (tabGet (fun _ => ⟨0, 0, 0⟩) (s.quay q).bankAt b)) :
    s.bankUp q b from_ =
      let v := s.setBank q b bkOn
      if (v.quay q).bankLate.contains b then (v.modQuay q (fun t => { t with bankLate := t.bankLate.erase b })).bankApply q b else v := by
  have hup : ¬(s.bankState q b ≠ from_ ∨ s.since (tabGet (fun _ => ⟨0, 0, 0⟩) (s.quay q).bankAt b) < bankTime from_) :=
    not_or.mpr ⟨not_not_intro hst, hdue.not_gt⟩
  exact if_neg hup

/-! ### The meanings of the commands -/

theorem exec_scrubSlot (s : State) (c q b found synd word : Nat) :
    exec (.scrubSlot c q b found synd word) s = run s c fun u => u.onQuay q fun u => u.scrubSlot q b found synd word := (rfl)

theorem exec_forcedScrub (s : State) (c q b found synd word : Nat) :
    exec (.forcedScrub c q b found synd word) s = run s c fun u => u.onQuay q fun u => u.forcedScrub q b found synd word := (rfl)

theorem exec_storeRepair (s : State) (c q b row : Nat) :
    exec (.storeRepair c q b row false) s = run s c fun u => u.onQuay q fun u => u.storeRepair q b row := (rfl)

theorem exec_storeRepair_host (s : State) (c q b row : Nat) :
    exec (.storeRepair c q b row true) s =
      run s c fun u => u.onQuay q fun u => u.hostWrite (qyAddr q 0x8160) fun u => u.storeRepair q b row := (rfl)

theorem exec_bankRequest (s : State) (c q b req : Nat) (host : Bool) :
    exec (.bankRequest c q b req host) s = run s c fun u => u.onQuay q fun u => u.bankGo q b req host := (rfl)

theorem exec_bankDrainDone (s : State) (c q b : Nat) :
    exec (.bankDrainDone c q b) s = run s c fun u => u.onQuay q fun u => u.bankDrained q b := (rfl)

theorem exec_bankWakeDone (s : State) (c q b : Nat) :
    exec (.bankWakeDone c q b) s = run s c fun u => u.onQuay q fun u => u.bankUp q b bkWake := (rfl)

theorem exec_bankInitDone (s : State) (c q b : Nat) :
    exec (.bankInitDone c q b) s = run s c fun u => u.onQuay q fun u => u.bankUp q b bkInit := (rfl)

/-- Settles O23: each command is a run at its quay whose effect, in the case of its clause, is the one that the lemmas above give; a slot of the scrubber is the
model's function itself. -/
theorem storeCompletes : Obligations.StoreCompletes := by
  intro s c q b h hq
  refine ⟨?slot, ?slotOn, ?forced, ?repair, ?repairHost, ?full, ?spare, ?request, ?requestHost, ?drained, ?retained, ?off, ?woken, ?initialised⟩
  case slot =>
    intro found synd word
    exact exec_of_onQuay (exec_scrubSlot ..) h hq rfl
  case slotOn =>
    intro found synd word _ _
    exact exec_of_onQuay (exec_scrubSlot ..) h hq rfl
  case forced =>
    intro found synd word hdue
    exact exec_of_onQuay (exec_forcedScrub ..) h hq (State.forcedScrub_due (s := s.begin_ c) found synd word hdue)
  case repair =>
    intro row
    exact exec_of_onQuay (exec_storeRepair ..) h hq rfl
  case repairHost =>
    intro row hw
    exact exec_of_onQuay (exec_storeRepair_host ..) h hq (hostWrite_taken (s := s.begin_ c) hw.1 hw.2)
  case full =>
    intro row hidle hused
    exact exec_of_onQuay (exec_storeRepair ..) h hq (State.storeRepair_full (s := s.begin_ c) row hidle hused)
  case spare =>
    intro row hidle hused hgood
    exact exec_of_onQuay (exec_storeRepair ..) h hq (State.storeRepair_spare (s := s.begin_ c) hidle hused hgood)
  case request =>
    intro req hb hreq hone
    exact exec_of_onQuay (exec_bankRequest ..) h hq (State.bankGo_rinol (s := s.begin_ c) hb hreq hone)
  case requestHost =>
    intro req hb hreq hone hw ho
    exact exec_of_onQuay (exec_bankRequest ..) h hq (State.bankGo_host (s := s.begin_ c) hb hreq hone hw ho)
  case drained =>
    intro _ _
    exact exec_of_onQuay (exec_bankDrainDone ..) h hq rfl
  case retained =>
    intro hst hflight hreq
    exact exec_of_onQuay (exec_bankDrainDone ..) h hq (State.bankDrained_retain (s := s.begin_ c) hst hflight hreq)
  case off =>
    intro hst hflight hreq
    exact exec_of_onQuay (exec_bankDrainDone ..) h hq (State.bankDrained_off (s := s.begin_ c) hst hflight hreq)
  case woken =>
    intro hst hdue
    exact exec_of_onQuay (exec_bankWakeDone ..) h hq (State.bankUp_due (s := s.begin_ c) hst hdue)
  case initialised =>
    intro hst hdue
    exact exec_of_onQuay (exec_bankInitDone ..) h hq (State.bankUp_due (s := s.begin_ c) hst hdue)

end Sys2Proof.Machine

/-!
PROOFS. The tenders, the tags and the gather buffer (chapter 09): what the start and the end of a transfer, a tagged access that goes on or ends and a fence come
to, and that the commands complete.
-/

namespace Sys2Proof.Machine

/-! ### Transfers -/

/-- An enabled tender that is idle begins the next work with a token, or with the one that a paused work has kept, and without one waits for it (R356, R359). -/
theorem State.tenderStart_idle {s : State} {q t f : Nat} {w : Work} (ht : t < 8) (hen : (s.get (QY_TND_CTL_EN q)).testBit t = true)
    (hnext : s.nextWork q t = some (w, f)) (hcur : (s.tender q t).cur = none) :
    s.tenderStart q t =
      let r := if f = 2 then (s, true) else s.tenderTake q
      if r.2 = true then r.1.beginWork q t f w else r.1.put (QY_TND_STAT_STATE q t) 1 := by
  simp only [State.tenderStart, Nat.mod_eq_of_lt ht, hen, hnext, hcur, Bool.not_true, Bool.false_eq_true, if_false, Option.isNone_none, Bool.false_and]

/-- The end of a transfer between a tile and elsewhere that met no error notes nothing before it is done (R360). -/
theorem State.transferEnd_clean {s : State} {q t : Nat} {d : List (BitVec 64)} (data : List (BitVec 64)) (ht : t < 8)
    (hcur : (s.tender q t).cur = some (.ring d)) (hsrc : srcStore (wType d) = false) :
    s.transferEnd q t 0 0 [] data 0 = s.tenderDone q t 0 0 data 0 := by
  simp [State.transferEnd, Nat.mod_eq_of_lt ht, hcur, hsrc]

/-! ### Tags -/

/-- A transfer that waited for tags which now allow it goes on (R351, R352). -/
theorem State.tagRetry_tender {s : State} {q t : Nat} {d : List (BitVec 64)} (hwait : (s.quay q).tagWaits.any (fun w => w.client = t + 3) = true)
    (hcur : (s.tender q t).cur = some (.ring d)) (hgo : s.tagStop q d = none) :
    s.tagRetry q (t + 3) =
      (s.modQuay q (fun y => { y with tagWaits := y.tagWaits.filter (fun w => decide (w.client ≠ t + 3)) })).put (QY_TND_STAT_STATE q t)
        (if wBg d then 3 else 2) := by
  have hcore : t + 3 ≠ 2 := by omega
  simp only [State.tagRetry, if_neg hcore, hwait, Bool.not_true, Bool.false_eq_true, if_false, Nat.add_sub_cancel, hcur, hgo]

/-- A control core whose access waited for a tag that now allows it goes on (R353). -/
theorem State.tagRetry_core {s : State} {q : Nat} {a : CoreAct} {l : List CoreAct} (hwait : (s.quay q).coreWait = a :: l) (hgo : s.coreStops q a = none) :
    s.tagRetry q 2 = s.coreGoes q (a :: l) := by
  simp [State.tagRetry, hwait, hgo]

/-- A change of a quay's state that keeps the tenders keeps the work of each. -/
theorem State.tender_modQuay (s : State) (q t : Nat) {f : QuaySt → QuaySt} (h : (f (s.quay q)).tenders = (s.quay q).tenders) :
    (s.modQuay q f).tender q t = s.tender q t := by
  rw [State.tender, State.quay_modQuay_same, h, State.tender]

/-- So does a record of the quay. -/
theorem State.tender_logQuay (s : State) (q code p0 p1 p2 p3 t : Nat) : (s.logQuay q code p0 p1 p2 p3).tender q t = s.tender q t := by
  rw [State.tender, State.logQuay, State.enqueue_quay, State.tender]

/-- A transfer that has waited TAG_WAIT_CC for a tag ends with status TAG_TIMEOUT and the record of its wait (R352). -/
theorem State.tagTimeout_tender {s : State} {q t : Nat} {w : TagWait} {d : List (BitVec 64)}
    (hwait : (s.quay q).tagWaits.find? (fun w => decide (w.client = t + 3) && decide ((s.get (QY_STORE_CTL_TAG_WAIT_CC q) : Int) ≤ s.since w.since)) = some w)
    (hcur : (s.tender q t).cur = some (.ring d)) :
    s.tagTimeout q (t + 3) =
      let v := s.modQuay q (fun y => { y with tagWaits := y.tagWaits.erase w })
      let v := v.logQuay q 0x0807 w.off (t + 3) w.mode (min (v.since w.since).toNat 0xFFFFFFFF)
      ((v.tenderReturn q).leaveBanks q d).ringEnd q t d 4 0 0 := by
  have hcore : t + 3 ≠ 2 := by omega
  have hkeeps : (s.modQuay q (fun y => { y with tagWaits := y.tagWaits.erase w })).tender q t = s.tender q t := s.tender_modQuay q t rfl
  simp only [State.tagTimeout, hwait, if_neg hcore, Nat.add_sub_cancel, State.tender_logQuay, hkeeps, hcur]

/-! ### The gather buffer -/

/-- A fence of a core that nothing holds drains the gather buffer (R347). -/
theorem State.coreRun_fence {s : State} {q : Nat} (h : (s.quay q).coreWait = []) : s.coreRun q [.fence] = s.gatherFlush q (fun _ => true) := if_pos h

/-! ### The meanings of the commands -/

theorem exec_tenderTransferStart (s : State) (c q t : Nat) :
    exec (.tenderTransferStart c q t) s = run s c fun u => u.onQuay q fun u => u.tenderStart q t := (rfl)

theorem exec_tenderTransferDone (s : State) (c q t ue off : Nat) (ces : List (Nat × Nat)) (data : List (BitVec 64)) (refusal : Nat) :
    exec (.tenderTransferDone c q t ue off ces data refusal) s = run s c fun u => u.onQuay q fun u => u.transferEnd q t ue off ces data refusal := (rfl)

theorem exec_taggedAccessRetry (s : State) (c q client : Nat) :
    exec (.taggedAccessRetry c q client) s = run s c fun u => u.onQuay q fun u => u.tagRetry q client := (rfl)

theorem exec_tagTimeout (s : State) (c q client : Nat) :
    exec (.tagTimeout c q client) s = run s c fun u => u.onQuay q fun u => u.tagTimeout q client := (rfl)

theorem exec_fence (s : State) (c q : Nat) (acts : List CoreAct) :
    exec (.fence c q acts) s = run s c fun u => u.onQuay q fun u => u.coreRun q (acts ++ [.fence]) := (rfl)

theorem exec_gatherIdleFlush (s : State) (c q : Nat) (acts same : List CoreAct) :
    exec (.gatherIdleFlush c q acts same) s = run s c fun u => u.onQuay q fun u => ((u.coreRun q acts).gatherIdle q).coreRun q same := (rfl)

/-- Settles O22: each command is a run at its quay whose effect, in the case of its clause, is the one that the lemmas above give; the pause of a background
transfer, the other ends of a transfer or of a wait and the idle rows are the model's functions themselves. -/
theorem tenderCompletes : Obligations.TenderCompletes := by
  intro s c q h hq
  refine ⟨?idle, ?pauses, ?done, ?doneClean, ?retry, ?retryCore, ?timeoutTransfer, ?timeout, ?fence, ?fenceAlone, ?idleRows⟩
  case idle =>
    intro t w f ht hen hnext hcur
    exact exec_of_onQuay (exec_tenderTransferStart ..) h hq (State.tenderStart_idle (s := s.begin_ c) ht hen hnext hcur)
  case pauses =>
    intro t x w f _ _ _ _ _ _ _
    exact exec_of_onQuay (exec_tenderTransferStart ..) h hq rfl
  case done =>
    intro t ue off ces data refusal w _ _
    exact exec_of_onQuay (exec_tenderTransferDone ..) h hq rfl
  case doneClean =>
    intro t data d ht hcur hsrc
    exact exec_of_onQuay (exec_tenderTransferDone ..) h hq (State.transferEnd_clean (s := s.begin_ c) data ht hcur hsrc)
  case retry =>
    intro t d _ hwait hcur hgo
    exact exec_of_onQuay (exec_taggedAccessRetry ..) h hq (State.tagRetry_tender (s := s.begin_ c) hwait hcur hgo)
  case retryCore =>
    intro a l hwait hgo
    exact exec_of_onQuay (exec_taggedAccessRetry ..) h hq (State.tagRetry_core (s := s.begin_ c) hwait hgo)
  case timeoutTransfer =>
    intro t w d hwait hcur
    exact exec_of_onQuay (exec_tagTimeout ..) h hq (State.tagTimeout_tender (s := s.begin_ c) hwait hcur)
  case timeout =>
    intro client w _
    exact exec_of_onQuay (exec_tagTimeout ..) h hq rfl
  case fence =>
    intro acts
    exact exec_of_onQuay (exec_fence ..) h hq rfl
  case fenceAlone =>
    intro hfree
    exact exec_of_onQuay (exec_fence ..) h hq (State.coreRun_fence (s := s.begin_ c) hfree)
  case idleRows =>
    intro acts same
    exact exec_of_onQuay (exec_gatherIdleFlush ..) h hq rfl

end Sys2Proof.Machine

/-!
PROOFS. The sync objects and the groups (chapter 10): which requests the gate serves, what each served request comes to, what a forwarded signal and a bad
operation come to, and that the commands complete.
-/

namespace Sys2Proof.Machine

/-! ### The gate of a request (R402, R403, R594) -/

/-- The gate serves a request at an enabled quay of an open harbour, outside a frozen tick, whose tick the window names; outside the Lantern where it is a
group's, and below the owner's reserved range where it names an object. -/
theorem State.reqGate_served {s : State} {op owner idx t8 t : Nat} (p l : Nat) (ho : s.isOpen = true) (hen : s.flag (QY_SYNC_CTL_EN owner) = true)
    (hgroup : opHreq ≤ op → s.lantern = false) (hobject : op ≤ opRead → idx < 1024 - s.get (QY_SYNC_CTL_RSV owner))
    (ht : s.reqTick t8 = some t) (hf : s.frozenAt owner = none) : s.reqGate p op owner idx t8 l = (s, some t) := by
  have hclosed : ¬(!s.isOpen || !s.flag (QY_SYNC_CTL_EN owner)) = true := by simp [ho, hen]
  have hlantern : ¬(decide (opHreq ≤ op) && s.lantern) = true := by simpa using hgroup
  have hrange : ¬(decide (op ≤ opRead) && decide (1024 - s.get (QY_SYNC_CTL_RSV owner) ≤ idx)) = true := by
    rw [Bool.and_eq_true, decide_eq_true_eq, decide_eq_true_eq]
    exact fun ⟨hop, hle⟩ => Nat.not_le.mpr (hobject hop) hle
  rw [State.reqGate, if_neg hclosed, if_neg hlantern, if_neg hrange]
  simp only [ht, hf]

section
variable {s : State} {p owner idx t8 l t : Nat}

/-! ### Requests at an object -/

/-- A SIGNAL that is served adds to its object (R402). -/
theorem State.signal_served (inc : Nat) (hg : s.reqGate p opSignal owner idx t8 l = (s, some t)) :
    s.signal p owner idx t8 l inc = s.signalObj owner idx (inc % 2 ^ 16) t l := by
  simp only [State.signal, hg]

/-- A READ that is served is answered with the value (R399). -/
theorem State.readObj_served (hg : s.reqGate p opRead owner idx t8 l = (s, some t)) :
    s.readObj p owner idx t8 l = s.answer p opRead stOk owner idx (s.obj owner idx).cnt.value := by
  simp only [State.readObj, hg]

/-- What an ARM compares its target with: the space, or the count (R407, R411). -/
def SyncObj.level (o : SyncObj) (space : Bool) : Nat := if space then o.space else o.cnt.value

/-- An object that held no quay, once it holds `w` for a waiter at core `l`: its minimum target falls to `target` (R407). -/
def SyncObj.joined (o : SyncObj) (w : Nat × Nat) (l target : Nat) (space : Bool) : SyncObj :=
  let low := fun (m : Option Nat) => some (match m with | some a => min a target | none => target)
  { o with
    tmin := if space then o.tmin else low o.tmin
    smin := if space then low o.smin else o.smin
    targets := [w], waiters := o.waiters + 1, wrec := if o.wrec.length < 4 then o.wrec ++ [l] else o.wrec }

/-- An ARM that is served and whose target is met is answered at once (R407). -/
theorem State.arm_met {target : Nat} {space : Bool} (ch : Nat) (hg : s.reqGate p opArm owner idx t8 l = (s, some t))
    (hmet : target % two64 ≤ (s.obj owner idx).level space) :
    s.arm p owner idx t8 l ch target space = s.answer p opArm stSatisfied owner idx (s.obj owner idx).cnt.value := by
  simp only [State.arm, hg]
  exact if_pos hmet

/-- An ARM that is served and whose target is not met joins the waiters of an object that holds no quay yet (R407). -/
theorem State.arm_joins {target : Nat} {space : Bool} (ch : Nat) (hg : s.reqGate p opArm owner idx t8 l = (s, some t))
    (hmet : (s.obj owner idx).level space < target % two64) (hfree : (s.obj owner idx).targets = []) :
    s.arm p owner idx t8 l ch target space =
      ((s.setObj owner idx ((s.obj owner idx).joined (quayOf p, ch % 16) l (target % two64) space)).count (QY_SYNC_CNT0_ARMS owner) 1).answer p opArm stOk owner
        idx (s.obj owner idx).cnt.value := by
  simp only [State.arm, hg]
  refine (if_neg (Nat.not_le.mpr hmet)).trans ?_
  rw [hfree]
  rfl

/-! ### Requests of a group -/

/-- A request of a group in an epoch that is not yet decided is kept with its tick (R413, R414). -/
theorem State.groupReq_kept {op : Nat} {r : GroupReq} (hg : s.reqGate r.p op (quayOf r.p) 0 t8 r.lcore = (s, some t))
    (hlast : s.get HM_COMMIT_STAT_CTICK < (s.epochOf t + 1) * 2 ^ s.get HM_HAWSER_CTL_EPOCH_LOG2 - 1) :
    s.groupReq op t8 r = { s with hawser.reqs := s.hawser.reqs ++ [{ r with tick := t }] } := by
  simp only [State.groupReq, hg, if_neg (Nat.not_le.mpr hlast)]

/-- One in an epoch already decided is refused with TICK (R414). -/
theorem State.groupReq_decided {op : Nat} {r : GroupReq} (hg : s.reqGate r.p op (quayOf r.p) 0 t8 r.lcore = (s, some t))
    (hlast : (s.epochOf t + 1) * 2 ^ s.get HM_HAWSER_CTL_EPOCH_LOG2 - 1 ≤ s.get HM_COMMIT_STAT_CTICK) :
    s.groupReq op t8 r = s.refuse r.p op stTick (quayOf r.p) 0 r.lcore 0 := by
  simp only [State.groupReq, hg, if_pos hlast]

/-- A query of a group of the table is answered with its first word (R413, R433). -/
theorem State.gquery_found {g : Nat} {x : Nat × Group} (hg : s.reqGate p opGquery (quayOf p) 0 t8 l = (s, some t))
    (hfind : s.hawser.groups.find? (fun x => decide (x.2.group = g % 2 ^ 16)) = some x) :
    s.gquery p t8 l g = s.answer p opGquery stOk (quayOf p) 0 (x.2.words.getD 0 0).toNat := by
  simp only [State.gquery, hg, hfind]

/-- A query of a group that the table does not hold is answered NONE (R413). -/
theorem State.gquery_none {g : Nat} (hg : s.reqGate p opGquery (quayOf p) 0 t8 l = (s, some t))
    (hfind : s.hawser.groups.find? (fun x => decide (x.2.group = g % 2 ^ 16)) = none) :
    s.gquery p t8 l g = s.answer p opGquery stNone (quayOf p) 0 0 := by
  simp only [State.gquery, hg, hfind]

end

/-! ### Bad operations and forwarded signals -/

/-- A bad operation at an enabled quay of an open harbour is answered BAD_OP, counted and recorded (R399, R440). -/
theorem State.badOp_open {s : State} {owner : Nat} (p op idx l : Nat) (ho : s.isOpen = true) (hen : s.flag (QY_SYNC_CTL_EN owner) = true) :
    s.badOp p op owner idx l =
      let v := (s.emit (.syncAnswer p op stBadOp (idx % 2 ^ 10 + owner % 2 ^ 6 * 2 ^ 10) 0)).count (QY_SYNC_CNT1_REFUSED owner) 1
      v.logQuay owner 0x0908 (idx % 2 ^ 10 + owner * 2 ^ 10) l stBadOp (v.jt % 2 ^ 32) := by
  simp [State.badOp, ho, hen]

/-- The oldest forwarded signal for an object arrives, outside a frozen tick: it adds to the mirror and may fire the waiters (R411, R428). -/
theorem State.linkForward_found {s : State} {q i : Nat} {e : Nat × Nat × Nat × Nat × Nat × Nat}
    (hfind : s.hawser.forwards.find? (fun e => decide (e.2.2.1 = q) && decide (e.2.2.2.1 = i)) = some e) (hf : s.frozenAt q = none) :
    s.linkForward q i =
      let v : State := { s with hawser.forwards := s.hawser.forwards.erase e }
      (v.setObj q i { v.obj q i with mirror := (v.obj q i).mirror.add e.2.2.2.2.1 e.2.2.2.2.2 (v.get HM_COMMIT_STAT_CTICK) }).checkFire q i := by
  have hf' : ({ s with hawser.forwards := s.hawser.forwards.erase e } : State).frozenAt q = none := hf
  simp only [State.linkForward, hfind, hf', Bool.false_eq_true, if_false]

/-! ### The meanings of the commands -/

theorem exec_signal (s : State) (c p owner idx t8 l inc : Nat) :
    exec (.signal c p owner idx t8 l inc) s = run s c fun u => u.onTile p fun u => u.signal p owner idx t8 l inc := (rfl)

theorem exec_read (s : State) (c p owner idx t8 l : Nat) :
    exec (.read c p owner idx t8 l) s = run s c fun u => u.onTile p fun u => u.readObj p owner idx t8 l := (rfl)

theorem exec_arm (s : State) (c p owner idx t8 l ch target : Nat) (space : Bool) :
    exec (.arm c p owner idx t8 l ch target space) s = run s c fun u => u.onTile p fun u => u.arm p owner idx t8 l ch target space := (rfl)

theorem exec_syncBadOp (s : State) (c p op owner idx l : Nat) :
    exec (.syncBadOp c p op owner idx l) s = run s c fun u => u.onTile p fun u => u.badOp p op owner idx l := (rfl)

theorem exec_linkForward (s : State) (c q i : Nat) : exec (.linkForward c q i) s = run s c fun u => u.onQuay q fun u => u.linkForward q i := (rfl)

theorem exec_syncSelect (s : State) (c q i : Nat) :
    exec (.syncSelect c q i) s = run s c fun u => u.onQuay q fun u => u.hostWrite (QY_SYNC_SEL q) fun u => u.syncSelect q i := (rfl)

theorem exec_hreq (s : State) (c p t8 l slot mask g lo hi : Nat) :
    exec (.hreq c p t8 l slot mask g lo hi) s =
      run s c fun u => u.onTile p fun u => u.groupReq opHreq t8 ⟨p, l, 0, slot, false, mask, g, lo, hi⟩ := (rfl)

theorem exec_hfree (s : State) (c p t8 l slot g : Nat) :
    exec (.hfree c p t8 l slot g) s = run s c fun u => u.onTile p fun u => u.groupReq opHfree t8 ⟨p, l, 0, slot, true, 0, g, 0, 0⟩ := (rfl)

theorem exec_gquery (s : State) (c p t8 l g : Nat) :
    exec (.gquery c p t8 l g) s = run s c fun u => u.onTile p fun u => u.gquery p t8 l g := (rfl)

/-- Settles O25: the gate serves the request, and each command is a run whose effect, in the case of its clause, is the one that the lemmas above give. -/
theorem syncCompletes : Obligations.SyncCompletes := by
  intro s c p h hp
  refine ⟨?requests, ?badOp, ?forward, ?select⟩
  case requests =>
    intro owner idx t8 l t ho hen hidx ht hf
    have served {op : Nat} (hop : op < opHreq) : (s.begin_ c).reqGate p op owner idx t8 l = (s.begin_ c, some t) :=
      State.reqGate_served p l ho hen (fun hge => absurd hop (Nat.not_lt.mpr hge)) (fun _ => hidx) ht hf
    have hsignal := served (op := opSignal) (by decide)
    have hread := served (op := opRead) (by decide)
    have harm := served (op := opArm) (by decide)
    refine ⟨?signal, ?read, ?met, ?metSpace, ?joins, ?joinsSpace⟩
    case signal =>
      intro inc
      exact exec_of_onTile (exec_signal ..) h hp (State.signal_served inc hsignal)
    case read => exact exec_of_onTile (exec_read ..) h hp (State.readObj_served hread)
    case met =>
      intro ch target hmet
      exact exec_of_onTile (exec_arm ..) h hp (State.arm_met ch harm (space := false) hmet)
    case metSpace =>
      intro ch target hmet
      exact exec_of_onTile (exec_arm ..) h hp (State.arm_met ch harm (space := true) hmet)
    case joins =>
      intro ch target hmet hfree
      exact exec_of_onTile (exec_arm ..) h hp (State.arm_joins ch harm (space := false) hmet hfree)
    case joinsSpace =>
      intro ch target hmet hfree
      exact exec_of_onTile (exec_arm ..) h hp (State.arm_joins ch harm (space := true) hmet hfree)
  case badOp =>
    intro op owner idx l ho hen
    exact exec_of_onTile (exec_syncBadOp ..) h hp (State.badOp_open (s := s.begin_ c) p op idx l ho hen)
  case forward =>
    intro q i e hq hfind hf
    exact exec_of_onQuay (exec_linkForward ..) h hq (State.linkForward_found (s := s.begin_ c) hfind hf)
  case select =>
    intro q i hq hw
    exact exec_of_onQuay (exec_syncSelect ..) h hq (hostWrite_taken (s := s.begin_ c) hw.1 hw.2)

/-- Settles O26: the gate serves the request, and each command is a run whose effect, in the case of its clause, is the one that the lemmas above give. -/
theorem groupsComplete : Obligations.GroupsComplete := by
  intro s c p t8 l t h hp ho hlantern hen ht hf
  have served {op : Nat} (hop : opRead < op) : (s.begin_ c).reqGate p op (quayOf p) 0 t8 l = (s.begin_ c, some t) :=
    State.reqGate_served p l ho hen (fun _ => hlantern) (fun hle => absurd hop (Nat.not_lt.mpr hle)) ht hf
  have hreq := served (op := opHreq) (by decide)
  have hfree := served (op := opHfree) (by decide)
  have hquery := served (op := opGquery) (by decide)
  refine ⟨?reqKept, ?freeKept, ?decided, ?found, ?none⟩
  case reqKept =>
    intro slot mask g lo hi hlast
    exact exec_of_onTile (exec_hreq ..) h hp (State.groupReq_kept (r := ⟨p, l, 0, slot, false, mask, g, lo, hi⟩) hreq hlast)
  case freeKept =>
    intro slot g hlast
    exact exec_of_onTile (exec_hfree ..) h hp (State.groupReq_kept (r := ⟨p, l, 0, slot, true, 0, g, 0, 0⟩) hfree hlast)
  case decided =>
    intro slot mask g lo hi hlast
    exact ⟨exec_of_onTile (exec_hreq ..) h hp (State.groupReq_decided (r := ⟨p, l, 0, slot, false, mask, g, lo, hi⟩) hreq hlast),
      exec_of_onTile (exec_hfree ..) h hp (State.groupReq_decided (r := ⟨p, l, 0, slot, true, 0, g, 0, 0⟩) hfree hlast)⟩
  case found =>
    intro g x hfind
    exact exec_of_onTile (exec_gquery ..) h hp (State.gquery_found hquery hfind)
  case none =>
    intro g hfind
    exact exec_of_onTile (exec_gquery ..) h hp (State.gquery_none hquery hfind)

end Sys2Proof.Machine

/-!
PROOFS. The hawsers and the ring of wafers (chapter 10): what an arrival, a release, a complete round, a frame, a calibration and a realignment come to, and
that the commands complete.
-/

namespace Sys2Proof.Machine

/-! ### Arrivals and releases at a job slot -/

section
variable {s : State} {p k e : Nat}

/-- An arrival at a slot without a barrier is recorded as a stray (R395). -/
theorem State.hawserArrive_stray (h : (s.slot p k).entry = none) : s.hawserArrive p k = s.logTile p 0x0902 p k (s.jt % 2 ^ 32) 0 := by
  simp only [State.hawserArrive, h]

/-- The first arrival of a round inverts B and reaches the fallback count (R395, R416). -/
theorem State.hawserArrive_first (h : (s.slot p k).entry = some e) (ha : (s.slot p k).arrived = false) :
    s.hawserArrive p k = (s.setSlot p k { s.slot p k with b := (s.slot p k).sense }).fallbackArrive p e := by
  simp only [State.hawserArrive, h, ha, Bool.not_false, if_true]

/-- A second one is kept as pending (R396). -/
theorem State.hawserArrive_second (h : (s.slot p k).entry = some e) (ha : (s.slot p k).arrived = true) (hpend : (s.slot p k).pend = false) :
    s.hawserArrive p k = (s.setSlot p k { s.slot p k with pend := true }).refreshHold p := by
  simp only [State.hawserArrive, h, ha, hpend, Bool.not_true, Bool.not_false, Bool.false_eq_true, if_false, if_true]

/-- A third one is an overrun (R397). -/
theorem State.hawserArrive_third (h : (s.slot p k).entry = some e) (ha : (s.slot p k).arrived = true) (hpend : (s.slot p k).pend = true) :
    s.hawserArrive p k =
      (((s.count (HM_HAWSER_CNT_OVERRUNS (3 + k)) 1).logTile p 0x0901 p k (s.jt % 2 ^ 32) 0).modTile p (fun t => { t with overrun := true })).refreshHold p := by
  simp only [State.hawserArrive, h, ha, hpend, Bool.not_true, Bool.false_eq_true, if_false]

/-- A release of a slot that is due ends the round there, and a pending arrival is the next round's (R396). -/
theorem State.hawserRelease_due (h : (s.slot p k).entry = some e) (hdue : (s.slot p k).due = true) :
    s.hawserRelease p k =
      let x := s.slot p k
      let v := ((s.emit (.hwcRelease p k)).setSlot p k
        { x with due := false, sense := !x.sense, b := if x.pend then !x.sense else x.b, pend := false }).refreshHold p
      if x.pend = true then v.fallbackArrive p e else v := by
  simp only [State.hawserRelease, h, hdue, Bool.not_true, Bool.false_eq_true, if_false]

end

/-! ### Rounds at the root -/

/-- A completion that is not HW2's has no further effect. -/
@[simp] theorem State.hw2Done_false (s : State) : s.hw2Done false = s := (rfl)

/-- A barrier on one device whose members have all arrived, with no release on its way, counts a round and is released (R392). -/
theorem State.roundComplete_job {s : State} {line k : Nat} (hlo : 3 ≤ line) (hhi : line ≤ 7) (hslot : (s.group k).slot = line - 3) (hm : s.membersOf k ≠ [])
    (hall : ∀ p ∈ s.membersOf k, (s.slot p (line - 3)).arrived = true ∧ (s.slot p (line - 3)).due = false) (hmode : (s.group k).mode = 1) :
    s.roundComplete line k = ((s.countRound line).releaseGroup k, false) := by
  have hready : ¬((s.group k).slot ≠ line - 3 ∨ (s.membersOf k).isEmpty ∨
      !(s.membersOf k).all (fun p => (s.slot p (s.group k).slot).arrived && !(s.slot p (s.group k).slot).due)) := by
    rw [hslot]
    simpa [hm] using hall
  have hjob : ¬(line < 3 ∨ 7 < line) := by omega
  rw [State.roundComplete, if_neg (by omega), if_neg (by omega), if_neg hjob]
  exact (if_neg hready).trans (if_pos hmode)

/-! ### The ring of wafers -/

/-- The parity of a frame's five bits is their exclusive or (R420). -/
theorem parity_five : ∀ b1 b2 b3 b4 b5 : Bool,
    decide ((bit b1 + bit b2 + bit b3 + bit b4 + bit b5) % 2 = 1) = b1.xor (b2.xor (b3.xor (b4.xor b5))) := by decide

/-- A gather frame of good parity on a lane in use, in an open harbour, sets what the lane has gathered (R420). -/
theorem State.hwxFrame_gather {s : State} {lane frame : Nat} (hlo : 2 ≤ lane) (hhi : lane ≤ 7) (hx : s.xen lane = true) (ho : s.isOpen = true)
    (hstart : frame.testBit 0 = true)
    (hpar : ((frame.testBit 1).xor ((frame.testBit 2).xor ((frame.testBit 3).xor ((frame.testBit 4).xor (frame.testBit 5))))) = false)
    (hkind : frame.testBit 1 = false) :
    s.hwxFrame lane frame =
      let r := (s.setExt lane { s.ext lane with gather := some (frame.testBit 2) }).driveRing lane
      (r.1, r.2, false) := by
  have hused : ¬((!frame.testBit 0) = true ∨ lane < 2 ∨ 7 < lane ∨ (!s.xen lane) = true) := by
    simp only [hstart, hx, Bool.not_true, Bool.false_eq_true, false_or, or_false]
    omega
  have hclosed : ¬(!s.isOpen && !(decide (lane = 2) && decide (s.hawser.hw2 ≠ 0))) = true := by simp [ho]
  have heven : ¬decide ((bit (frame.testBit 1) + bit (frame.testBit 2) + bit (frame.testBit 3) + bit (frame.testBit 4) + bit (frame.testBit 5)) % 2 = 1) =
      true := by
    rw [parity_five, hpar]
    exact Bool.false_ne_true
  have hgather : (!frame.testBit 1) = true := by simp [hkind]
  exact (if_neg hused).trans ((if_neg hclosed).trans ((if_neg heven).trans (if_pos hgather)))

/-- An ordinary frame is checked and gathered or applied (R420). -/
theorem State.ringFrame_ordinary (s : State) (lane frame a b : Nat) :
    s.ringFrame lane frame 0 a b =
      let r := s.hwxFrame lane frame
      (if r.2.2 = true then r.1.latchHm 23 false 0 else r.1).hw2Done r.2.1 := (rfl)

/-- A calibration frame of a closed device past its loading is answered (R421). -/
theorem State.ringFrame_cal {s : State} {cal : Nat} (lane frame a b : Nat) (hcal : cal ≠ 0) (ho : s.isOpen = false) (hph : phConfig ≤ s.phaseNo) :
    s.ringFrame lane frame cal a b = s.calFrame cal a b := by
  simp only [State.ringFrame, if_pos hcal, ho, Bool.false_eq_true, if_false, if_neg (Nat.not_lt.mpr hph)]

/-- The ring master of a closed device starts the pings; a single wafer has none to wait for (R421, R434). -/
theorem State.calGo_starts {s : State} (ho : s.isOpen = false) (hr : s.ringMaster = true) :
    s.calGo =
      let v := ((s.put HM_HAWSER_XCAL_CAL_STATE 1).put HM_HAWSER_XCAL_DPOS 0).put HM_HAWSER_XCAL_LOOP 0
      let v := ({ v with hawser.calTrips := [] } : State)
      if v.get HM_HAWSER_XCTL_WAFERS ≤ 1 then v.calSpread else v.calPing 1 := by
  have hgo : ¬(s.isOpen || !s.ringMaster) = true := by simp [ho, hr]
  exact if_neg hgo

/-- A ping that is out for 4,096 cc ends the calibration as failed (R421). -/
theorem State.calTimeout_expired {s : State} (hcal : s.get HM_HAWSER_XCAL_CAL_STATE = 1) (hsince : 4096 ≤ s.calSince) : s.calTimeout = s.calEnd 3 := by
  simp [State.calTimeout, hcal, hsince]

/-! ### The realignment -/

/-- At its tick an open harbour runs the realignment round on HW2, if HW2 is free; where HW2 is extended the round takes the ring (R391, R412). -/
theorem State.realign_runs {s : State} (ho : s.isOpen = true) (ht : s.jt % 2 ^ s.get HM_HAWSER_CTL_REALIGN_LOG2 = 0)
    (hnew : s.hawser.realigned ≠ some s.time.tick) (hw2 : s.hawser.hw2 = 0) :
    s.realign =
      let v := s.at_ (s.commitAt + 1)
      let v : State := { v with hawser.realigned := some s.time.tick, hawser.hw2 := 4 }
      if v.xen 2 = true then (v.setExt 2 { v.ext 2 with own := some (v.lineSense 2) }).driveRing 2 else (v.countRound 2, true) := by
  have hrun : ¬((!s.isOpen) = true ∨ s.jt % 2 ^ s.get HM_HAWSER_CTL_REALIGN_LOG2 ≠ 0 ∨ s.hawser.realigned = some s.time.tick ∨ s.hawser.hw2 ≠ 0) := by
    simp [ho, ht, hnew, hw2]
  exact if_neg hrun

/-! ### The meanings of the commands -/

theorem exec_hawserArrive (s : State) (c p k : Nat) : exec (.hawserArrive c p k) s = run s c fun u => u.fromCore p fun u => u.hawserArrive p k := (rfl)

theorem exec_hawserRelease (s : State) (c p k : Nat) : exec (.hawserRelease c p k) s = run s c fun u => u.onTile p fun u => u.hawserRelease p k := (rfl)

theorem exec_hawserRoundComplete (s : State) (c line k : Nat) :
    exec (.hawserRoundComplete c line k) s = run s c fun u => (u.roundComplete line k).1.hw2Done (u.roundComplete line k).2 := (rfl)

theorem exec_hwxFrame (s : State) (c lane frame cal a b : Nat) :
    exec (.hwxFrame c lane frame cal a b) s = run s c fun u => u.ringFrame lane frame cal a b := (rfl)

theorem exec_calGo (s : State) (c : Nat) : exec (.calGo c) s = run s c fun u => u.hostWrite HM_HAWSER_XCTL State.calGo := (rfl)

theorem exec_hwxCalTimeout (s : State) (c : Nat) : exec (.hwxCalTimeout c) s = run s c State.calTimeout := (rfl)

theorem exec_realign (s : State) (c : Nat) : exec (.realign c) s = run s c fun u => u.realign.1.hw2Done u.realign.2 := (rfl)

/-- Settles O6: each command is a run whose effect, in the case of its clause, is the one that the lemmas above give. -/
theorem hawserCompletes : Obligations.HawserCompletes := by
  intro s c h
  refine ⟨?arrive, ?release, ?round, ?roundJob, ?frame, ?gather, ?cal, ?calGo, ?calTimeout, ?realign⟩
  case arrive =>
    intro p k hp hok
    refine ⟨?stray, ?first, ?second, ?third⟩
    case stray =>
      intro hnone
      exact exec_of_fromCore (exec_hawserArrive ..) h hp hok (State.hawserArrive_stray (s := s.begin_ c) hnone)
    case first =>
      intro e he ha
      exact exec_of_fromCore (exec_hawserArrive ..) h hp hok (State.hawserArrive_first (s := s.begin_ c) he ha)
    case second =>
      intro e he ha hpend
      exact exec_of_fromCore (exec_hawserArrive ..) h hp hok (State.hawserArrive_second (s := s.begin_ c) he ha hpend)
    case third =>
      intro e he ha hpend
      exact exec_of_fromCore (exec_hawserArrive ..) h hp hok (State.hawserArrive_third (s := s.begin_ c) he ha hpend)
  case release =>
    intro p k e hp he hdue
    exact exec_of_onTile (exec_hawserRelease ..) h hp (State.hawserRelease_due (s := s.begin_ c) he hdue)
  case round =>
    intro line k
    exact exec_of_run (exec_hawserRoundComplete ..) h rfl
  case roundJob =>
    intro line k hlo hhi hslot hm hall hmode
    refine exec_of_run (exec_hawserRoundComplete ..) h ?_
    rw [State.roundComplete_job (s := s.begin_ c) hlo hhi hslot hm hall hmode, State.hw2Done_false]
  case frame =>
    intro lane frame a b
    exact exec_of_run (exec_hwxFrame ..) h (State.ringFrame_ordinary ..)
  case gather =>
    intro lane frame a b hlo hhi hx ho hstart hpar hkind
    refine exec_of_run (exec_hwxFrame ..) h ?_
    rw [State.ringFrame_ordinary, State.hwxFrame_gather (s := s.begin_ c) hlo hhi hx ho hstart hpar hkind]
    rfl
  case cal =>
    intro lane frame cal a b hcal ho hph
    exact exec_of_run (exec_hwxFrame ..) h (State.ringFrame_cal (s := s.begin_ c) lane frame a b hcal ho hph)
  case calGo =>
    intro hw ho hr
    exact exec_of_hostWrite (exec_calGo ..) h hw (State.calGo_starts (s := s.begin_ c) ho hr)
  case calTimeout =>
    intro hcal hsince
    exact exec_of_run (exec_hwxCalTimeout ..) h (State.calTimeout_expired (s := s.begin_ c) hcal hsince)
  case realign =>
    intro ho ht hnew hw2
    refine exec_of_run (exec_realign ..) h ?_
    rw [State.realign_runs (s := s.begin_ c) ho ht hnew hw2]
    rfl

end Sys2Proof.Machine

/-!
PROOFS. Clearance (chapter 11): what a core's request, the end of a hold and a hold past its limit come to, that the commands complete, and that a request of
a bad class is never granted.
-/

namespace Sys2Proof.Machine

/-! ### Requests -/

/-- A single request of a core of the configuration whose domain is good passes its Bollard's clamp and has no rival (R17, R50). -/
theorem State.clrRequests_core {s : State} {p : Nat} (cls : Nat) (ht : s.isTile p = true) (hok : s.cdomOk p = true) :
    s.clrRequests [(p, false, cls)] = s.clrRequest p false (cls % 4) := by
  have hquay : decide (quayOf p < s.nQuays) = true := ht
  simp [State.clrRequests, hquay, hok]

/-- After the sub-tick's share, a request of class 0 or 1 that the bucket covers is granted from the bucket (R448). -/
theorem State.clrRequest_fromBucket {s : State} {p cls : Nat} (hcls : cls < 2) (hidle : s.clrBusy p false = false)
    (hshare : s.beforeShare (quayOf p) = false) (hen : s.flag (QY_CLEAR_CTL_EN (quayOf p)) = true) (hgov : s.govState (quayOf p) ≠ gvPfail)
    (hbucket : clrCost cls ≤ s.get (BOL_CLR_BUCKET p)) :
    s.clrRequest p false cls =
      let v := s.put (BOL_CLR_BUCKET p) (s.get (BOL_CLR_BUCKET p) - clrCost cls)
      let v := v.put (QY_CLEAR_TOK_BUCKETS (quayOf p)) (v.get (QY_CLEAR_TOK_BUCKETS (quayOf p)) - clrCost cls)
      v.clrGrant ⟨p, false, cls, s.now⟩ true := by
  have hgood : ¬2 ≤ cls := hcls.not_ge
  simp [State.clrRequest, hidle, hgood, hshare, hen, hgov, hbucket]

/-- The Bollard keeps that the line of the core's request, which it does not grant, is high (R443). -/
def State.keepBadLine (s : State) (p : Nat) : State := s.modTile p (fun t => { t with clrBad := true })

/-- What a request of a bad class leaves in the registers and the Logbook: BAD_CLASS, its count and its record (R443, R471, R475). -/
def State.noteBadClass (s : State) (p cls : Nat) : State :=
  ((s.put (BOL_CLR_BAD_CLASS p) 1).count (QY_CLEAR_CNT1_BAD_CLASS (quayOf p)) 1).logTile p 0x0A0D p cls 0 s.tick32

/-- A core's request of class 2 or 3 is noted and does nothing else (R443). -/
theorem State.clrRequest_badClass {s : State} {p cls : Nat} (hidle : s.clrBusy p false = false) (hcls : 2 ≤ cls) :
    s.clrRequest p false cls = (s.keepBadLine p).noteBadClass p cls := by
  have hbad : (!false && decide (2 ≤ cls)) = true := decide_eq_true hcls
  exact (if_neg (Bool.eq_false_iff.mp hidle)).trans (if_pos hbad)

/-! ### The ends of a hold -/

/-- The fall of a core's request gives the two tokens of its clearance back (R444). -/
theorem State.clrRelease_core {s : State} {p : Nat} (h : s.flag (BOL_CLR_CORE_HOLD p) = true) :
    s.clrRelease p false = ((s.modTile p (fun t => { t with clrBad := false })).put (BOL_CLR_CORE_HOLD p) 0).giveBack p 2 := if_pos h

/-- The fall of the engine's request gives back what the tile holds beyond the core's two (R444). -/
theorem State.clrRelease_engine {s : State} {p : Nat} (h : s.flag (BOL_CLR_ENG_HOLD p) = true) :
    s.clrRelease p true =
      (s.put (BOL_CLR_ENG_HOLD p) 0).giveBack p (s.get (BOL_CLR_HELD p) - if s.flag (BOL_CLR_CORE_HOLD p) = true then 2 else 0) := if_pos h

/-- A hold past HOLD_MAX that has no record yet is counted and recorded (R445). -/
theorem State.overhold_due {s : State} {p : Nat} (hhold : s.flag (BOL_CLR_CORE_HOLD p) = true) (hover : (s.tile p).clrOver = false)
    (hlong : s.get (QY_CLEAR_CTL_HOLD_MAX (quayOf p)) < (s.since (s.tile p).clrSince).toNat) :
    s.overhold p =
      let v := (s.modTile p (fun t => { t with clrOver := true })).count (QY_CLEAR_CNT1_OVERHOLD (quayOf p)) 1
      v.logTile p 0x0A0C p (v.get (BOL_CLR_CLASS p)) (min (s.since (s.tile p).clrSince).toNat 0xFFFFFFFF) v.tick32 := by
  have hdue : ¬(!s.flag (BOL_CLR_CORE_HOLD p) || (s.tile p).clrOver
      || decide ((s.since (s.tile p).clrSince).toNat ≤ s.get (QY_CLEAR_CTL_HOLD_MAX (quayOf p)))) = true := by
    simp [hhold, hover, hlong.not_ge]
  exact if_neg hdue

/-! ### The meanings of the commands -/

theorem exec_clearanceRequest (s : State) (c : Nat) (l : List (Nat × Bool × Nat)) :
    exec (.clearanceRequest c l) s = run s c fun u => u.clrRequests l := (rfl)

theorem exec_clearanceRelease (s : State) (c p : Nat) (engine : Bool) :
    exec (.clearanceRelease c p engine) s = run s c fun u => u.onTile p fun u => u.clrRelease p engine := (rfl)

theorem exec_clearanceOverhold (s : State) (c p : Nat) :
    exec (.clearanceOverhold c p) s = run s c fun u => u.onTile p fun u => u.overhold p := (rfl)

theorem exec_subtickRedistribute (s : State) (q k : Nat) :
    exec (.subtickRedistribute q k) s = run s 0 fun u => u.onQuay q fun u => u.redistribute q k := (rfl)

/-- Settles O5: each command is a run, at its tile or quay where it names one, whose effect, in the case of its clause, is the one that the lemmas above
give. -/
theorem clearanceCompletes : Obligations.ClearanceCompletes := by
  intro s c p h hp
  refine ⟨?requests, ?fromBucket, ?releaseCore, ?releaseEngine, ?overhold, ?redistribute⟩
  case requests =>
    intro l
    exact exec_of_run (exec_clearanceRequest ..) h rfl
  case fromBucket =>
    intro cls hcls hok hidle hshare hen hgov hbucket
    have hclass : cls % 4 = cls := Nat.mod_eq_of_lt (by omega)
    refine exec_of_run (exec_clearanceRequest ..) h ?_
    rw [State.clrRequests_core (s := s.begin_ c) cls hp hok, hclass]
    exact State.clrRequest_fromBucket (s := s.begin_ c) hcls hidle hshare hen hgov hbucket
  case releaseCore =>
    intro hhold
    exact exec_of_onTile (exec_clearanceRelease ..) h hp (State.clrRelease_core (s := s.begin_ c) hhold)
  case releaseEngine =>
    intro hhold
    exact exec_of_onTile (exec_clearanceRelease ..) h hp (State.clrRelease_engine (s := s.begin_ c) hhold)
  case overhold =>
    intro hhold hover hlong
    exact exec_of_onTile (exec_clearanceOverhold ..) h hp (State.overhold_due (s := s.begin_ c) hhold hover hlong)
  case redistribute =>
    intro q k hq _
    exact exec_of_onQuay (exec_subtickRedistribute ..) h hq rfl

/-! ### A request of a bad class -/

/-- A Bollard's registers are no quay's clearance counts. -/
theorem QY_CLEAR_CNT1_ne_BOL_CLR (q p : Nat) : QY_CLEAR_CNT1 q ≠ BOL_CLR p := by
  unfold QY_CLEAR_CNT1 BOL_CLR qyAddr bolAddr
  omega

/-- A count writes its register alone. -/
theorem State.framed_count (s : State) {f : Fld} (n : Nat) {regs : List Nat} (h : f.reg ∈ regs) : s.Framed (s.count f n) regs := s.framed_put _ h

/-- The note of a bad class writes the two registers that show it, and the count of dropped records. -/
theorem State.framed_noteBadClass (s : State) {p : Nat} (cls : Nat) {regs : List Nat} (hclr : BOL_CLR p ∈ regs)
    (hcnt : QY_CLEAR_CNT1 (quayOf p) ∈ regs) (hlog : HM_LOG_CNT ∈ regs) : s.Framed (s.noteBadClass p cls) regs := by
  have hflag := s.framed_put (f := BOL_CLR_BAD_CLASS p) 1 hclr
  have hcount := (s.put (BOL_CLR_BAD_CLASS p) 1).framed_count (f := QY_CLEAR_CNT1_BAD_CLASS (quayOf p)) 1 hcnt
  rw [State.noteBadClass, State.logTile]
  exact (hflag.trans hcount).trans (State.framed_enqueue _ _ _ hlog)

/-- Of BOL_CLR the note writes BAD_CLASS. -/
theorem State.word_noteBadClass (s : State) (p cls : Nat) :
    (s.noteBadClass p cls).word (BOL_CLR p) = withField (s.word (BOL_CLR p)) 11 1 1 := by
  have hlog : BOL_CLR p ≠ HM_LOG_CNT := bolAddr_ne_page (by decide)
  rw [State.noteBadClass, State.logTile, State.word_enqueue _ _ _ hlog, State.count, State.word_put_other _ _ (QY_CLEAR_CNT1_ne_BOL_CLR _ p).symm]
  exact s.word_put_same (BOL_CLR_BAD_CLASS p) 1

/-- The note counts the request, up to the count's largest value. -/
theorem State.noteBadClass_count (s : State) (p cls : Nat) :
    (s.noteBadClass p cls).get (QY_CLEAR_CNT1_BAD_CLASS (quayOf p)) = min (s.get (QY_CLEAR_CNT1_BAD_CLASS (quayOf p)) + 1) 0xFFFF := by
  have hlog : HM_LOG_CNT < QY_CLEAR_CNT1 (quayOf p) := Nat.lt_of_lt_of_le (by decide) (qyAddr_ge _ _)
  have hbol : (QY_CLEAR_CNT1_BAD_CLASS (quayOf p)).reg ≠ (BOL_CLR_BAD_CLASS p).reg := QY_CLEAR_CNT1_ne_BOL_CLR _ p
  rw [State.noteBadClass, State.logTile, State.get_enqueue _ _ _ hlog.ne', State.get_count_same _ _ _ (by simp [QY_CLEAR_CNT1_BAD_CLASS]),
    State.get_put_reg _ _ hbol]
  rfl

/-- The note drives nothing. -/
theorem State.noteBadClass_out (s : State) (p cls : Nat) : (s.noteBadClass p cls).out = s.out := by
  simp [State.noteBadClass, State.logTile]

/-- The command of a core's request of class 2 or 3 ends as the note alone does, on the state that keeps the line's level. -/
theorem exec_clearanceRequest_badClass {s : State} {p cls : Nat} (c : Nat) (h : s.start.held = false) (ht : s.isTile p = true)
    (hok : s.cdomOk p = true) (hidle : s.clrBusy p false = false) (hcls : 2 ≤ cls % 4) :
    exec (.clearanceRequest c [(p, false, cls)]) s = .next ((s.keepBadLine p).after c fun u => u.noteBadClass p (cls % 4)) :=
  exec_of_run (g := fun u => (u.keepBadLine p).noteBadClass p (cls % 4)) (exec_clearanceRequest ..) h
    ((State.clrRequests_core (s := s.begin_ c) cls ht hok).trans (State.clrRequest_badClass (s := s.begin_ c) hidle hcls))

/-- Settles O55: the request ends in the note, whose frame gives what stays, and whose fields give what changes. -/
theorem badClassNeverGranted : Obligations.BadClassNeverGranted := by
  intro s c p cls h ht hok hidle hcls
  set v := s.keepBadLine p
  have hframed : (v.begin_ c).Framed ((v.begin_ c).noteBadClass p (cls % 4)) [BOL_CLR p, QY_CLEAR_CNT1 (quayOf p), HM_LOG_CNT] :=
    (v.begin_ c).framed_noteBadClass (cls % 4) (by simp) (by simp) (by simp)
  have hclr : (v.after c fun u => u.noteBadClass p (cls % 4)).word (BOL_CLR p) = withField (s.word (BOL_CLR p)) 11 1 1 :=
    (after_bolWord hframed.sp).trans ((v.begin_ c).word_noteBadClass p (cls % 4))
  obtain ⟨hregs, ⟨htiles, hquays⟩, hcontrol⟩ := State.Framed.after (s := v) (f := fun u => u.noteBadClass p (cls % 4)) hframed
  refine ⟨_, exec_clearanceRequest_badClass c h ht hok hidle hcls, ?badClass, ?count, ?fields, hregs, hquays, ?tile, ?others, hcontrol, ?out⟩
  case badClass => exact (congrArg (fieldOf · 11 1) hclr).trans (fieldOf_withField_same (by decide))
  case count =>
    have hreg : 0x100000 ≤ (QY_CLEAR_CNT1_BAD_CLASS (quayOf p)).reg := qyAddr_ge _ _
    have hkept := after_get (s := v) (c := c) (f := fun u => u.noteBadClass p (cls % 4))
      (Nat.lt_of_lt_of_le (by decide) hreg).ne' (Nat.lt_of_lt_of_le (by decide) hreg).ne' hframed.sp
    exact hkept.trans ((v.begin_ c).noteBadClass_count p (cls % 4))
  case fields =>
    intro lo w hlo
    rw [hclr]
    exact fieldOf_withField_other (by decide) hlo
  case tile => exact (congrArg (tabGet _ · p) htiles).trans (s.tile_modTile_same p _)
  case others =>
    intro r hr
    exact (congrArg (tabGet _ · r) htiles).trans (s.tile_setTile_other _ hr)
  case out => rw [after_out, State.noteBadClass_out, State.begin_out]

end Sys2Proof.Machine
/-!
PROOFS. What follows from the state at the end of every command (chapters 12, 14 and 15): the alarm causes, the pins of HM_IRQ_STAT, and a block that
PORST_N holds in reset.
-/

namespace Sys2Proof.Machine

/-! ### What the pins show after a command -/

/-- A write to a field leaves every field alone that is of another register or below it. -/
theorem State.get_put_beside (s : State) {f g : Fld} (v : Nat) (hf : f.lo + f.w ≤ 64) (h : g.reg ≠ f.reg ∨ g.lo + g.w ≤ f.lo) :
    (s.put f v).get g = s.get g :=
  h.elim (s.get_put_reg v) fun hlo => s.get_put_other v hf (.inl hlo)

/-- Driving the pins writes PIN and PINS and no other field (R496, R650). -/
theorem State.get_drivePins (s : State) {g : Fld} (hAlarm : g.reg ≠ HM_FAULT_ALARM ∨ g.lo + g.w ≤ 12) (hIrq : g.reg ≠ HM_IRQ_STAT ∨ g.lo + g.w ≤ 24) :
    s.drivePins.get g = s.get g := by
  rw [State.drivePins, State.get_put_beside _ (f := HM_IRQ_STAT_PINS) _ (by decide) hIrq,
    s.get_put_beside (f := HM_FAULT_ALARM_PIN) _ (by decide) hAlarm]

/-- So it leaves every register alone but HM_FAULT_ALARM and HM_IRQ_STAT. -/
theorem State.word_drivePins (s : State) {a : Nat} (hAlarm : a ≠ HM_FAULT_ALARM) (hIrq : a ≠ HM_IRQ_STAT) : s.drivePins.word a = s.word a := by
  rw [State.drivePins, State.word_put_other _ (f := HM_IRQ_STAT_PINS) _ hIrq, s.word_put_other (f := HM_FAULT_ALARM_PIN) _ hAlarm]

/-- The events of HM_IRQ_STAT stand below its pins. -/
theorem State.irqEvents_drivePins (s : State) {lo w : Nat} (h : lo + w ≤ 24) : s.drivePins.irqEvents lo w = s.irqEvents lo w := by
  have hevents : fieldOf (s.drivePins.word HM_IRQ_STAT) lo w = fieldOf (s.word HM_IRQ_STAT) lo w :=
    s.get_drivePins (g := ⟨HM_IRQ_STAT, lo, w⟩) (.inl (show HM_IRQ_STAT ≠ HM_FAULT_ALARM by decide)) (.inr h)
  simp only [State.irqEvents, hevents, s.word_drivePins (a := HM_IRQ_MASK) (by decide) (by decide)]

theorem State.irq0_drivePins (s : State) : s.drivePins.irq0 = s.irq0 := by
  simp only [State.irq0, s.get_drivePins (g := HM_TRIPLEX_STAT_CORES) (by decide) (by decide), s.get_drivePins (g := HM_FAULT_SUM_QUAYS) (by decide) (by decide),
    s.get_drivePins (g := HM_FAULT_ALARM_CAUSE) (by decide) (by decide), s.get_drivePins (g := HM_FAULT_ALARM_ACKED) (by decide) (by decide),
    s.word_drivePins (a := hmBlk 0x10) (by decide) (by decide), s.word_drivePins (a := hmBlk 0x14) (by decide) (by decide)]

theorem State.irq2_drivePins (s : State) : s.drivePins.irq2 = s.irq2 := by
  simp only [State.irq2, s.get_drivePins (g := HM_LOG_CTL_THRESH) (by decide) (by decide), s.get_drivePins (g := HM_LOG_WSEQ_WSEQ) (by decide) (by decide),
    s.get_drivePins (g := HM_LOG_RMARK_RMARK) (by decide) (by decide), s.get_drivePins (g := HM_LOG_STAT_STATE) (by decide) (by decide)]

/-- Four truth values fill the four bits of PINS. -/
theorem pins_lt (a b c d : Bool) : bit a + 2 * bit b + 4 * bit c + 8 * bit d < 2 ^ 4 := by
  have hbit : ∀ x : Bool, bit x ≤ 1 := by decide
  have ha := hbit a
  have hb := hbit b
  have hc := hbit c
  have hd := hbit d
  omega

/-- The pins that are driven show the state they were driven from. -/
theorem State.pinsFollow_drivePins (s : State) : s.drivePins.PinsFollow := by
  refine ⟨?pin, ?pins⟩
  case pin =>
    have hpin : s.drivePins.get HM_FAULT_ALARM_PIN = bit (decide (s.get HM_FAULT_ALARM_CAUSE ≠ 0)) := by
      rw [State.drivePins, State.get_put_reg _ _ (by decide), State.get_put_same _ _ _ (by decide)]
      exact Nat.mod_eq_of_lt (by cases decide (s.get HM_FAULT_ALARM_CAUSE ≠ 0) <;> decide)
    rw [hpin, s.get_drivePins (g := HM_FAULT_ALARM_CAUSE) (by decide) (by decide)]
  case pins =>
    rw [s.irq0_drivePins, s.irq2_drivePins, s.irqEvents_drivePins (by decide), s.irqEvents_drivePins (by decide)]
    rw [State.drivePins, State.get_put_same _ _ _ (by decide)]
    exact Nat.mod_eq_of_lt (pins_lt _ _ _ _)

/-- ALARM_N and the interrupt pins follow the state after every command. -/
theorem State.pinsFollow_settle (s : State) : s.settle.PinsFollow := s.clearAlarms.pinsFollow_drivePins

/-! ### The acknowledged causes after a command -/

/-- A bit set in a mask, of those named in a list or already in it. -/
theorem testBit_foldl_setBitN (l : List Nat) : ∀ (m c : Nat), (l.foldl setBitN m).testBit c = (decide (c ∈ l) || m.testBit c) := by
  induction l with
  | nil => intro m c; simp
  | cons x l ih =>
    intro m c
    rw [List.foldl_cons, ih, setBitN, Nat.testBit_or, Nat.testBit_two_pow]
    by_cases hx : x = c <;> simp [hx, eq_comm]

/-- The causes that an end of a command keeps: latched, and unacknowledged or still holding (R497). -/
def State.keptCauses (s : State) : List Nat :=
  (List.range 6).filter fun c => (s.get HM_FAULT_ALARM_CAUSE).testBit c && (!(s.get HM_FAULT_ALARM_ACKED).testBit c || s.alarmHolds c)

theorem State.keptCauses_lt (s : State) : s.keptCauses.foldl setBitN 0 < 2 ^ 6 := by
  refine Nat.lt_pow_two_of_testBit _ fun i hi => ?_
  rw [testBit_foldl_setBitN]
  simp [State.keptCauses, Nat.not_lt.mpr hi]

theorem State.settle_cause (s : State) : s.settle.get HM_FAULT_ALARM_CAUSE = s.keptCauses.foldl setBitN 0 := by
  rw [State.settle, State.get_drivePins _ (by decide) (by decide), State.clearAlarms, State.get_put_other _ _ (by decide) (by decide),
    State.get_put_same _ _ _ (by decide)]
  exact Nat.mod_eq_of_lt s.keptCauses_lt

theorem State.settle_acked (s : State) : s.settle.get HM_FAULT_ALARM_ACKED = s.get HM_FAULT_ALARM_ACKED &&& s.keptCauses.foldl setBitN 0 := by
  rw [State.settle, State.get_drivePins _ (by decide) (by decide), State.clearAlarms, State.get_put_same _ _ _ (by decide)]
  exact Nat.mod_eq_of_lt (Nat.and_lt_two_pow _ s.keptCauses_lt)

/-- Settling changes no condition of an alarm. -/
theorem State.alarmHolds_settle (s : State) (c : Nat) : s.settle.alarmHolds c = s.alarmHolds c := by
  have hclear (q : Nat) : s.settle.get (QY_CLEAR_STAT_STATE q) = s.get (QY_CLEAR_STAT_STATE q) := by
    refine s.get_settle ?_ ?_
    all_goals
      simp only [QY_CLEAR_STAT_STATE, QY_CLEAR_STAT, qyAddr, HM_FAULT_ALARM, HM_IRQ_STAT]
      omega
  have hbus : s.settle.get HM_PWR_BUS_HIGH = s.get HM_PWR_BUS_HIGH := s.get_settle (by decide) (by decide)
  have hlantern : s.settle.lantern = s.lantern := by
    simp only [State.lantern, State.flag, s.get_settle (f := HM_RST_STAT_LANTERN) (by decide) (by decide)]
  have hquays : s.settle.quayList = s.quayList := by simp only [State.quayList, State.nQuays, State.settle_sp]
  simp only [State.alarmHolds, State.flag, hclear, hbus, hlantern, hquays]

/-- An acknowledged cause that the end of a command keeps was latched, and its condition holds. -/
theorem State.alarmsFollow_settle (s : State) : s.settle.AlarmsFollow := by
  intro c _ h
  rw [s.settle_acked, Nat.testBit_and, testBit_foldl_setBitN, Nat.zero_testBit, Bool.or_false, Bool.and_eq_true, decide_eq_true_eq] at h
  obtain ⟨hacked, hkept⟩ := h
  have hcause : (s.keptCauses.foldl setBitN 0).testBit c = true := by simp [testBit_foldl_setBitN, hkept]
  have hholds : s.alarmHolds c = true := by
    have hwhy := (List.mem_filter.mp hkept).2
    simpa [hacked] using (Bool.and_eq_true_iff.mp hwhy).2
  exact ⟨s.settle_cause ▸ hcause, (s.alarmHolds_settle c).trans hholds⟩

/-! ### Every step -/

/-- On an empty queue a step leads nowhere else. -/
theorem step_of_empty {s : State} (h : s.pending = []) : step s = .next s := by rw [step, h]

/-- A step leads to the state it found, on an empty queue, or to a settled one. -/
theorem step_settled {s t : State} (h : step s = .next t) : t = s ∨ ∃ u : State, t = u.settle := by
  cases hq : s.pending with
  | nil => exact .inl (Host.Outcome.next.inj ((step_of_empty hq).symm.trans h)).symm
  | cons c l =>
    obtain ⟨u, e⟩ := exec_settled c { s with pending := l }
    exact .inr ⟨u, (Host.Outcome.next.inj (((step_of_pending hq).trans e).symm.trans h)).symm⟩

/-- Settles O46: a step idles or ends in a settled state, and in a settled state pins and acknowledged causes follow, as the model chooses it at the end of
every command (log entry 18). -/
theorem pinsAlwaysFollow : Obligations.PinsAlwaysFollow := by
  intro s t hpins halarms h
  rcases step_settled h with rfl | ⟨u, rfl⟩
  · exact ⟨hpins, halarms⟩
  · exact ⟨u.pinsFollow_settle, u.alarmsFollow_settle⟩

/-- Bit 2 of PINS is the third of the four truth values. -/
theorem testBit_pins_two : ∀ a b c d : Bool, (bit a + 2 * bit b + 4 * bit c + 8 * bit d).testBit 2 = c := by decide

/-- Settles O47: the pins of a settled state show the state; that they follow at once (log entry 18) and that RMARK above WSEQ leaves no unread record
(log entry 80) are the model's choices. -/
theorem logInterrupt : Obligations.LogInterrupt := by
  intro c s t h
  obtain ⟨u, e⟩ := exec_settled c s
  obtain rfl : u.settle = t := Host.Outcome.next.inj (e.symm.trans h)
  rw [u.pinsFollow_settle.2, testBit_pins_two, State.irq2, Bool.or_eq_true, decide_eq_true_eq, decide_eq_true_eq]
  rfl

/-! ### While PORST_N is low -/

/-- Settles O44: every command but the two that move PORST_N is a run, and a run withdraws what is driven and settles; that only the two act is the model's
reading (log entry 98), that the pins follow at once its choice (log entry 18). -/
theorem heldDoesNothing : Obligations.HeldDoesNothing := by
  intro c s h hreset hrelease
  rcases exec_run c s with e | e | ⟨n, f, e⟩
  · exact absurd e hreset
  · exact absurd e hrelease
  · exact e.trans (run_of_held h)

/-- Settles O45, by induction on the commands that run: each is taken from the queue and only settles (log entry 98). -/
theorem heldRunChangesNothing : Obligations.HeldRunChangesNothing := by
  intro n
  induction n with
  | zero =>
    intro s _ _ _
    exact ⟨s, rfl, rfl, rfl, fun _ _ _ => rfl, rfl, rfl, rfl, rfl, rfl, fun h => absurd h (Nat.lt_irrefl 0)⟩
  | succ n ih =>
    intro s hheld hlen hcmds
    obtain ⟨c, l, hq⟩ : ∃ c l, s.pending = c :: l := List.exists_cons_of_length_pos (by omega)
    simp only [hq, List.length_cons, List.take_succ_cons, List.forall_mem_cons] at hlen hcmds
    obtain ⟨⟨hreset, hrelease⟩, hrest⟩ := hcmds
    have hstep : step s = .next ({ s with pending := l, out := [] } : State).settle :=
      (step_of_pending hq).trans (heldDoesNothing c { s with pending := l } hheld hreset hrelease)
    obtain ⟨t, hrun, hpending, hstart, hword, hmem, htime, htiles, hquays, hcommit, hout⟩ :=
      ih ({ s with pending := l, out := [] } : State).settle (by simpa using hheld) (by simpa using hlen) (by simpa using hrest)
    simp only [State.settle_pending, State.settle_start, State.settle_mem, State.settle_time, State.settle_tiles, State.settle_quays,
      State.settle_commit] at hpending hstart hmem htime htiles hquays hcommit
    refine ⟨t, ?run, ?queue, hstart, ?words, hmem, htime, htiles, hquays, hcommit, ?out⟩
    case run =>
      have hcore : core.step s = .next ({ s with pending := l, out := [] } : State).settle := hstep
      simpa only [Host.Core.run, hcore] using hrun
    case queue => rw [hpending, hq, List.drop_succ_cons]
    case words =>
      intro a hAlarm hIrq
      exact (hword a hAlarm hIrq).trans (State.word_settle _ hAlarm hIrq)
    case out =>
      intro _
      cases n with
      | zero =>
        obtain rfl := Host.Outcome.next.inj hrun
        exact State.settle_out _
      | succ n => exact hout (Nat.succ_pos n)

/-! ### The queue and the table -/

/-- Settles O39: the step's own equation for an empty queue, the model's choice (log entry 1). -/
theorem emptyQueueIdles : Obligations.EmptyQueueIdles := fun _ h => step_of_empty h

/-- Settles O40: the table of words lists no command, so none is placed (log entry 2). -/
theorem noWordSpells : Obligations.NoWordSpells := fun _ _ => ⟨rfl, fun _ => rfl⟩

end Sys2Proof.Machine

/-!
PROOFS. The Logbook and the keys (chapter 14): the producers' queues, the writer, the flusher, reading, clearing and the key store.
-/

namespace Sys2Proof.Machine

/-! ### The producers' queues (R548 to R550) -/

@[simp] theorem State.prod_setProd_same (s : State) (i : Nat) (q : ProdQ) : (s.setProd i q).prod i = q := tabGet_tabSet_same ..

theorem State.prod_setProd_other (s : State) {i j : Nat} (q : ProdQ) (h : j ≠ i) : (s.setProd i q).prod j = s.prod j := tabGet_tabSet_other _ _ _ h

/-- A count changes no queue and no time. -/
@[simp] theorem State.prod_count (s : State) (f : Fld) (n i : Nat) : (s.count f n).prod i = s.prod i := (rfl)

@[simp] theorem State.tick32_count (s : State) (f : Fld) (n : Nat) : (s.count f n).tick32 = s.tick32 := (rfl)

@[simp] theorem State.get_setProd (s : State) (i : Nat) (q : ProdQ) (f : Fld) : (s.setProd i q).get f = s.get f := (rfl)

theorem queued_append (l : List (List Rec)) (claim : List Rec) : queued (l ++ [claim]) = queued l + claim.length := by simp [queued]

/-- An occurrence that merges takes no room: it only counts in the last record (R549). -/
theorem queued_mergeLast (r : Rec) : ∀ {l m : List (List Rec)}, mergeLast l r = some m → queued m = queued l := by
  intro l
  induction l with
  | nil => intro m h; cases h
  | cons c l ih =>
    intro m h
    cases l with
    | nil =>
      match c, h with
      | [a], h =>
        obtain ⟨-, rfl⟩ : mergeable a r = true ∧ [[{ a with rep := a.rep + 1 }]] = m := by simpa [mergeLast] using h
        rfl
    | cons d l =>
      obtain ⟨n, hn, rfl⟩ : ∃ n, mergeLast (d :: l) r = some n ∧ c :: n = m := by simpa [mergeLast] using h
      simp only [queued, List.map_cons, List.sum_cons] at ih ⊢
      rw [ih hn]

/-- The claim merged into the last record of a queue, if it is one record that merges (R549). -/
def mergedClaim (q : ProdQ) (claim : List Rec) : Option (List (List Rec)) := match claim with | [r] => mergeLast q.claims r | _ => none

/-- A producer that has dropped a claim (R550). -/
def State.droppedProd (s : State) (i : Nat) (claim : List Rec) : ProdQ :=
  let q := s.prod i
  let code := match claim with | r :: _ => r.code | [] => 0
  { q with
    dropped := q.dropped + claim.length, lastCode := code
    firstCode := if q.dropped = 0 then code else q.firstCode
    firstTick := if q.dropped = 0 then s.tick32 else q.firstTick }

theorem State.enqueue_match (s : State) (i : Nat) (claim : List Rec) :
    s.enqueue i claim = match mergedClaim (s.prod i) claim with
      | some l => s.setProd i { s.prod i with claims := l }
      | none =>
        if queued (s.prod i).claims + claim.length ≤ prodRoom i then s.setProd i { s.prod i with claims := (s.prod i).claims ++ [claim] }
        else (s.count HM_LOG_CNT_DROPPED claim.length).setProd i (s.droppedProd i claim) := by
  simp only [State.enqueue, State.tick32_count]
  rfl

/-- A claim is merged, queued where there is room, or dropped and counted (R548 to R550). -/
theorem State.enqueue_cases (s : State) (i : Nat) (claim : List Rec) :
    (∃ l, mergedClaim (s.prod i) claim = some l ∧ s.enqueue i claim = s.setProd i { s.prod i with claims := l })
    ∨ mergedClaim (s.prod i) claim = none ∧ queued (s.prod i).claims + claim.length ≤ prodRoom i
        ∧ s.enqueue i claim = s.setProd i { s.prod i with claims := (s.prod i).claims ++ [claim] }
    ∨ mergedClaim (s.prod i) claim = none ∧ prodRoom i < queued (s.prod i).claims + claim.length
        ∧ s.enqueue i claim = (s.count HM_LOG_CNT_DROPPED claim.length).setProd i (s.droppedProd i claim) := by
  rw [s.enqueue_match]
  cases hm : mergedClaim (s.prod i) claim with
  | some l => exact .inl ⟨l, rfl, rfl⟩
  | none =>
    by_cases hroom : queued (s.prod i).claims + claim.length ≤ prodRoom i
    · exact .inr (.inl ⟨rfl, hroom, if_pos hroom⟩)
    · exact .inr (.inr ⟨rfl, Nat.not_le.mp hroom, if_neg hroom⟩)

/-- A merged claim takes no room. -/
theorem queued_mergedClaim {q : ProdQ} {claim : List Rec} {l : List (List Rec)} (h : mergedClaim q claim = some l) : queued l = queued q.claims := by
  match claim, h with
  | [r], h => exact queued_mergeLast r h

/-- A claim of two records or more does not merge (R549). -/
theorem mergedClaim_of_two_le {q : ProdQ} {claim : List Rec} (h : 2 ≤ claim.length) : mergedClaim q claim = none := by
  match claim, h with
  | _ :: _ :: _, _ => rfl

/-- Settles O57: a claim is merged, queued where there is room, or dropped and counted. -/
theorem producerQueues : Obligations.ProducerQueues := by
  intro s i claim
  refine ⟨?room, ?others, ?dropped⟩
  case room =>
    intro hq
    rcases s.enqueue_cases i claim with ⟨l, hl, e⟩ | ⟨-, hroom, e⟩ | ⟨-, -, e⟩
    · rw [e, State.prod_setProd_same]
      exact (queued_mergedClaim hl).trans_le hq
    · rw [e, State.prod_setProd_same]
      exact (queued_append _ _).trans_le hroom
    · rw [e, State.prod_setProd_same]
      exact hq
  case others =>
    intro j hj
    rcases s.enqueue_cases i claim with ⟨l, -, e⟩ | ⟨-, -, e⟩ | ⟨-, -, e⟩
    · rw [e, State.prod_setProd_other _ _ hj]
    · rw [e, State.prod_setProd_other _ _ hj]
    · rw [e, State.prod_setProd_other _ _ hj, State.prod_count]
  case dropped =>
    intro h2 hfull
    rcases s.enqueue_cases i claim with ⟨l, hl, -⟩ | ⟨-, hroom, -⟩ | ⟨-, -, e⟩
    · rw [mergedClaim_of_two_le h2] at hl
      cases hl
    · exact absurd hroom (Nat.not_le.mpr hfull)
    · rw [e, State.prod_setProd_same, State.get_setProd]
      exact ⟨rfl, rfl, s.get_count_same HM_LOG_CNT_DROPPED _ (by decide)⟩

end Sys2Proof.Machine

/-!
PROOFS. What reading, kicking and acknowledging commands leave alone (chapters 02, 12, 13 and 14).
-/

namespace Sys2Proof.Machine

/-! ### The end of a command that changes a unit or the control -/

/-- From `s` to `t` an effect writes no register but those of `regs`, and no byte. -/
structure State.RegFramed (s t : State) (regs : List Nat) : Prop where
  sp : t.sp = s.sp
  mem : t.mem = s.mem
  rtDev : t.rtDev = s.rtDev
  word : ∀ a, a ∉ regs → t.word a = s.word a

/-- A write of a register of the list, whatever else of the state beside registers and stores it comes with. -/
theorem State.regFramed_put {s : State} {f : Fld} (v : Nat) {regs : List Nat} {t : State} (hsp : t.sp = s.sp) (hregs : t.regs = s.regs) (hmem : t.mem = s.mem)
    (hrtDev : t.rtDev = s.rtDev) (h : f.reg ∈ regs) : s.RegFramed (t.put f v) regs where
  sp := hsp
  mem := hmem
  rtDev := hrtDev
  word a ha := by
    have hother : a ≠ f.reg := fun e => ha (e ▸ h)
    rw [State.word_put_other _ _ hother, State.word, State.word, hsp, hregs]

/-- The end of a command keeps its effect's registers and stores but for the pins. -/
theorem State.RegFramed.after {s : State} {c : Nat} {f : State → State} {regs : List Nat} (h : (s.begin_ c).RegFramed (f (s.begin_ c)) regs) :
    s.RegFrame (s.after c f) regs := by
  refine ⟨?words, ?irqStat, ?mem, ?rtDev⟩
  case words =>
    intro a ha hAlarm hIrq
    exact (after_word hAlarm hIrq h.sp).trans (h.word a ha)
  case irqStat =>
    intro hregs lo w hlo
    have hword : ({ f (s.begin_ c) with pending := s.pending, sp := s.sp } : State).word HM_IRQ_STAT = s.word HM_IRQ_STAT := by
      have hkeep := h.word _ hregs
      simp only [State.word, h.sp, State.begin_sp] at hkeep ⊢
      exact hkeep
    rw [State.after, State.irqStat_settle _ hlo, hword]
  case mem => exact after_mem.trans h.mem
  case rtDev => exact (State.settle_rtDev _).trans h.rtDev

/-- What a command that is a run ends in, while PORST_N is high. -/
theorem eq_after_of_run {s t : State} {c : Nat} {i : Instr} {f : State → State} (e : exec i s = run s c f) (h : s.start.held = false)
    (ht : exec i s = .next t) : t = s.after c f :=
  (Host.Outcome.next.inj ((run_eq_after h).symm.trans (e.symm.trans ht))).symm

/-- HM_FAULT_ALARM follows the state at the end of every command, so no frame need name it. -/
theorem State.RegFrame.of_alarm {s t : State} {regs : List Nat} (h : s.RegFrame t (HM_FAULT_ALARM :: regs)) : s.RegFrame t regs := by
  obtain ⟨hword, hirq, hmem, hrtDev⟩ := h
  refine ⟨fun a ha hAlarm => hword a ?_ hAlarm, fun hregs => hirq ?_, hmem, hrtDev⟩
  · exact List.not_mem_cons_of_ne_of_not_mem hAlarm ha
  · exact List.not_mem_cons_of_ne_of_not_mem (by decide) hregs

/-! ### The operations -/

/-- The Logbook's own part of the state is in no frame. -/
theorem State.framed_withLog (s : State) (log : LogSt) (regs : List Nat) : s.Framed { s with log := log } regs where
  sp := rfl
  mem := rfl
  rtDev := rfl
  word _ _ := rfl
  units := by simp [State.UnitFrame]
  control := by simp [State.ControlFrame]

/-- A read's outcome is shown in HM_LOG_RSTAT and HM_LOG_RDATA (R558). -/
theorem State.framed_showRead (s : State) (status : Nat) (words : List (BitVec 64)) {regs : List Nat} (hstat : HM_LOG_RSTAT ∈ regs)
    (hdata : ∀ i < 4, HM_LOG_RDATA i ∈ regs) : s.Framed (s.showRead status words) regs := by
  have hput : s.Framed (s.put HM_LOG_RSTAT_STATUS status) regs := s.framed_put _ hstat
  refine List.foldlRecOn (motive := fun t => s.Framed t regs) _ _ hput ?_
  intro t ht i hi
  exact ht.trans (t.framed_setWord _ (hdata i (List.mem_range.mp hi)))

/-- A record that is fetched ends the fetch and is shown, or that the store holds none (R558). -/
theorem State.framed_logFetched (s : State) (words : List (BitVec 64)) {regs : List Nat} (hstat : HM_LOG_RSTAT ∈ regs)
    (hdata : ∀ i < 4, HM_LOG_RDATA i ∈ regs) : s.Framed (s.logFetched words) regs := by
  have hshow (log : LogSt) (status : Nat) (l : List (BitVec 64)) : s.Framed (({ s with log := log } : State).showRead status l) regs :=
    (s.framed_withLog log regs).trans (State.framed_showRead _ status l hstat hdata)
  unfold State.logFetched
  split
  · exact .refl s regs
  · split
    · exact hshow _ 2 []
    · split
      · exact hshow _ 4 []
      · exact hshow _ 0 words

/-- An acknowledgement writes HM_FAULT_ALARM and queues its record (R497, R505). -/
theorem State.framed_alarmAck (s : State) (mask source : Nat) {regs : List Nat} (halarm : HM_FAULT_ALARM ∈ regs) (hcnt : HM_LOG_CNT ∈ regs) :
    s.Framed (s.alarmAck mask source) regs := by
  simp only [State.alarmAck, State.logHm]
  exact (s.framed_put (f := HM_FAULT_ALARM_ACKED) _ halarm).trans (State.framed_enqueue _ _ _ hcnt)

/-- One at the sideband counts while D77 is on (R497). -/
theorem State.framed_ack_sideband (s : State) (mask : Nat) {regs : List Nat} (halarm : HM_FAULT_ALARM ∈ regs) (hcnt : HM_LOG_CNT ∈ regs) :
    s.Framed (s.ack mask false) regs := by
  unfold State.ack
  rw [if_neg Bool.false_ne_true]
  split
  · exact s.framed_alarmAck _ _ halarm hcnt
  · exact .refl s regs

/-- A Bollard access that nobody answers ends VOID with no data (R87). -/
theorem State.framed_bolTimeout (s : State) (q : Nat) {regs : List Nat} (hsel : QY_BOL_SEL q ∈ regs) (hdata : QY_BOL_DATA q ∈ regs) :
    s.Framed (s.bolTimeout q) regs := by
  unfold State.bolTimeout
  split
  · exact ((s.framed_put (f := QY_BOL_SEL_BUSY q) _ hsel).trans (State.framed_put _ (f := QY_BOL_SEL_VOID q) _ hsel)).trans
      (State.framed_setWord _ _ hdata)
  · exact .refl s regs

/-- A host's request to a tile's side port writes BOL_LM_ADDR and is driven out (R103). -/
theorem State.framed_lmAccess (s : State) (p : Nat) (w : Word) {regs : List Nat} (h : BOL_LM_ADDR p ∈ regs) : s.Framed (s.lmAccess p w) regs :=
  ((((s.framed_put (f := BOL_LM_ADDR_WORD p) _ h).trans (State.framed_put _ (f := BOL_LM_ADDR_WE p) _ h)).trans
    (State.framed_put _ (f := BOL_LM_ADDR_ERR p) _ h)).trans (State.framed_put _ (f := BOL_LM_ADDR_DONE p) _ h)).trans (State.framed_emit _ _ regs)

/-- A command that names no quay of the configuration changes nothing. -/
theorem State.framed_onQuay (s : State) {q : Nat} {k : State → State} {regs : List Nat} (h : s.Framed (k s) regs) : s.Framed (s.onQuay q k) regs := by
  unfold State.onQuay
  split
  · exact h
  · exact .refl s regs

/-- A command that names no tile of the configuration changes nothing. -/
theorem State.framed_onTile (s : State) {p : Nat} {k : State → State} {regs : List Nat} (h : s.Framed (k s) regs) : s.Framed (s.onTile p k) regs := by
  unfold State.onTile
  split
  · exact h
  · exact .refl s regs

/-! ### The meanings of the commands -/

theorem exec_logFetchDone (s : State) (c : Nat) (l : List (BitVec 64)) : exec (.logFetchDone c l) s = run s c fun u => u.logFetched l := (rfl)

theorem exec_quayWatchdogKick (s : State) (c q : Nat) (host : Bool) :
    exec (.quayWatchdogKick c q host) s = run s c fun u => u.onQuay q fun u => u.quayKick q host := (rfl)

theorem exec_hmWatchdogKick (s : State) (c : Nat) (host : Bool) : exec (.hmWatchdogKick c host) s = run s c fun u => u.hmKick host := (rfl)

theorem exec_dumpReadTimeout (s : State) (c n : Nat) : exec (.dumpReadTimeout c n) s = run s c fun u => u.dumpVoid n := (rfl)

/-- The core's kick of quay `q` writes QY_RST_WDOG and the moment of the kick, which the quay keeps (R542). -/
theorem quayKick_frame {s t : State} {c q : Nat} (h : s.start.held = false) (ht : exec (.quayWatchdogKick c q false) s = .next t) :
    s.RegFrame t [QY_RST_WDOG q] ∧ t.tiles = s.tiles ∧ s.ControlFrame t := by
  obtain rfl := eq_after_of_run (exec_quayWatchdogKick ..) h ht
  have hkick : (s.begin_ c).RegFramed ((s.begin_ c).quayKick q false) [QY_RST_WDOG q]
      ∧ ((s.begin_ c).quayKick q false).tiles = s.tiles ∧ s.ControlFrame ((s.begin_ c).quayKick q false) :=
    ⟨State.regFramed_put (f := QY_RST_WDOG_IDLE_TICKS q) _ rfl rfl rfl rfl (List.mem_singleton.mpr rfl), rfl, by
      simp [State.quayKick, State.ControlFrame, State.modQuay]⟩
  by_cases hq : q < (s.begin_ c).nQuays
  · rw [show s.after c (fun u => u.onQuay q fun u => u.quayKick q false) = s.after c (fun u => u.quayKick q false) from
      after_congr (State.onQuay_of_lt hq _)]
    obtain ⟨hregs, htiles, hcontrol⟩ := hkick
    refine ⟨hregs.after, ?_, ?_⟩
    · simpa [State.after] using htiles
    · simpa [State.ControlFrame, State.after] using hcontrol
  · have hidle : (s.begin_ c).Framed ((s.begin_ c).onQuay q fun u => u.quayKick q false) [QY_RST_WDOG q] := by
      rw [State.onQuay, if_neg hq]
      exact .refl _ _
    obtain ⟨hregs, hunits, hcontrol⟩ := hidle.after
    exact ⟨hregs, hunits.1, hcontrol⟩

/-- The core's kick of the Harbourmaster writes HM_RST_STAT and the moment of the kick, which the commit control keeps (R540). -/
theorem hmKick_frame {s t : State} {c : Nat} (h : s.start.held = false) (ht : exec (.hmWatchdogKick c false) s = .next t) :
    s.RegFrame t [HM_RST_STAT] ∧ s.UnitFrame t ∧ t.rst = s.rst := by
  obtain rfl := eq_after_of_run (exec_hmWatchdogKick ..) h ht
  have hregs : (s.begin_ c).RegFramed ((s.begin_ c).hmKick false) [HM_RST_STAT] :=
    State.regFramed_put (f := HM_RST_STAT_IDLE_TICKS) _ rfl rfl rfl rfl (List.mem_singleton.mpr rfl)
  refine ⟨hregs.after, ?_, ?_⟩
  · simp [State.UnitFrame, State.after, State.hmKick]
  · simp [State.hmKick]

/-- A dump's word that nobody answers is void; the dump, which the reset control keeps, notes it (R526). -/
theorem dumpVoid_frame {s t : State} {c n : Nat} (h : s.start.held = false) (ht : exec (.dumpReadTimeout c n) s = .next t) :
    s.RegFrame t [] ∧ s.UnitFrame t ∧ t.commit = s.commit := by
  obtain rfl := eq_after_of_run (exec_dumpReadTimeout ..) h ht
  obtain ⟨rst, hvoid⟩ : ∃ rst, (s.begin_ c).dumpVoid n = { s.begin_ c with rst := rst } := by
    unfold State.dumpVoid
    split
    · split
      · exact ⟨_, rfl⟩
      · exact ⟨_, rfl⟩
    · exact ⟨_, rfl⟩
  have hregs : (s.begin_ c).RegFramed ((s.begin_ c).dumpVoid n) [] := by
    rw [hvoid]
    exact ⟨rfl, rfl, rfl, fun _ _ => rfl⟩
  refine ⟨hregs.after, ?_, ?_⟩
  · simp [State.UnitFrame, State.after, hvoid]
  · simp [hvoid]

/-- Settles O60: each command is a run whose effect writes only what the lemmas above name. -/
theorem readingFrame : Obligations.ReadingFrame := by
  intro s t c p q n l w h
  refine ⟨?fetch, quayKick_frame h, hmKick_frame h, ?ack, ?access, ?sideport, dumpVoid_frame h⟩
  case fetch =>
    intro ht
    exact frame_of_run (exec_logFetchDone ..) h ht (State.framed_logFetched _ l (by decide) (by decide))
  case ack =>
    intro ht
    obtain ⟨hregs, hrest⟩ := frame_of_run (regs := [HM_FAULT_ALARM, HM_LOG_CNT]) (exec_alarmAck ..) h ht
      (State.framed_ack_sideband _ n (by decide) (by decide))
    exact ⟨hregs.of_alarm, hrest⟩
  case access =>
    intro ht
    exact frame_of_run (exec_bollardAccessTimeout ..) h ht (State.framed_onQuay _ (State.framed_bolTimeout _ q (by simp) (by simp)))
  case sideport =>
    intro ht
    exact frame_of_run (exec_lmSideportAccess ..) h ht (State.framed_onTile _ (State.framed_lmAccess _ p w (List.mem_singleton.mpr rfl)))

end Sys2Proof.Machine

/-!
PROOFS. The Logbook's commands (chapter 14): how the writer, the flusher, the port, the store's scan and reading complete.
-/

namespace Sys2Proof.Machine

/-! ### The correctable fault of a refused block -/

/-- A fault of the Harbourmaster that it corrects is latched, recorded and counted (R490, R492, R511, R513). -/
theorem State.latchHm_corrected {s : State} {b : Nat} (forced : Bool) (synd : Nat) (h : hmClass (coreCount (s.get HM_TRIPLEX_STAT_CORES)) b = .c) :
    s.latchHm b forced synd =
      (((s.latchWord (hmBlk 0) b forced).enqueue 0
        [(s.latchWord (hmBlk 0) b forced).mkRec 0x0B01 (srcWord tyHm 0 0) forced tyHm b synd (s.latchWord (hmBlk 0) b forced).tick32]).count
          HM_FAULT_CNT0_CORRECTED 1) := by
  simp [State.latchHm, State.logFault, h]

/-- Latching writes the block's fault word and the first fault, and no other register (R490). -/
theorem State.word_latchWord (s : State) {blk a : Nat} (b : Nat) (forced : Bool) (herr : a ≠ blk + 0x10) (hfirst : a ≠ blk + 0x1C) :
    (s.latchWord blk b forced).word a = s.word a := by
  simp only [State.latchWord, State.word_coin]
  rw [State.word_setWord_other _ _ herr]
  split
  · exact State.word_setWord_other _ _ hfirst
  · rfl

/-- The verify error of a block (R492 bit 19) leaves HM_LOG_STAT alone. -/
theorem State.logBlock_latchHm (s : State) : (s.latchHm 19 false 0).get HM_LOG_STAT_BLOCK = s.get HM_LOG_STAT_BLOCK := by
  rw [s.latchHm_corrected (b := 19) false 0 rfl, State.count, State.get_put_reg _ _ (by decide), State.get_enqueue _ _ _ (by decide)]
  exact State.get_congr (s.word_latchWord 19 false (by decide) (by decide))

/-! ### What each function does in the case of a statement -/

/-- The claim of a producer that alone has one is admitted, while the writer is free and admission is not held (R548, R550). -/
theorem State.logRecord_single {s : State} {i : Nat} {r : List Rec} {l : List (List Rec)} (hscan : s.log.scan = false) (hbusy : s.writerBusy = false)
    (hheld : s.logHeld = false) (hi : i ≤ 64) (hc : (s.prod i).claims = r :: l) : s.logRecord [i] = ((s.takeClaim i).acceptClaim r).showHold := by
  simp [State.logRecord, hscan, hbusy, hheld, hi, hc]

/-- With the store idle and 2,047 records waiting a trickle block begins (R553). -/
theorem State.trickle_due {s : State} (hscan : s.log.scan = false) (hen : s.flag HM_LOG_CTL_STORE_EN = true) (hidle : s.logState = lsIdle)
    (hwr : s.log.wr = none) (htrig : s.log.trigger = 0) (hroom : s.fseq + 2047 ≤ s.wseq) : s.trickle = s.beginBlock false 2047 := by
  have hwaits : ¬s.wseq < s.fseq + 2047 := Nat.not_lt.mpr hroom
  simp [State.trickle, hscan, hen, hidle, hwr, htrig, hwaits]

/-- A trickle block that verifies moves FSEQ behind it (R553). -/
theorem State.flushDone_good {s : State} {w : BlockWr} (hw : s.log.wr = some w) (hpf : w.pf = false) (hn : s.log.pf = none) :
    s.flushDone true =
      let v := (({ s with log.wr := none, log.badRun := 0 } : State).put HM_LOG_FSEQ_FSEQ (max s.fseq (w.first + w.len))).advanceBlock
      ((v.count HM_LOG_CNT_FLUSHES 1).setLogState lsIdle).showHold := by
  simp [State.flushDone, hw, hpf, hn]

/-- A block of a power-fail flush, or one that the flush has found being written, is not verified (R554). -/
theorem State.flushDone_powerFail {s : State} {w : BlockWr} (ok : Bool) (hw : s.log.wr = some w) (hpf : w.pf = true ∨ s.log.pf.isSome = true) :
    s.flushDone ok =
      let v := if w.pf then s.sendTrailer w else s
      let v := (({ v with log.wr := none } : State).put HM_LOG_FSEQ_FSEQ (max v.fseq (w.first + w.len))).advanceBlock
      (if v.log.pf.isSome then v.pfNext else v.setLogState lsIdle).showHold := by
  simp only [State.flushDone, hw]
  exact if_pos hpf

/-- The first refusal of a trickle block has it written again (R553). -/
theorem State.flushDone_retries {s : State} {w : BlockWr} (hw : s.log.wr = some w) (hpf : w.pf = false) (hn : s.log.pf = none) (hr : w.retry = false) :
    s.flushDone false =
      let v := (s.latchHm 19 false 0).emit (.logWrite ((s.latchHm 19 false 0).get HM_LOG_STAT_BLOCK) w.first w.len false)
      { v.sendTrailer w with log.wr := some { w with retry := true } } := by
  simp [State.flushDone, hw, hpf, hn, hr, s.logBlock_latchHm]

/-- The second marks the block bad (R555). -/
theorem State.flushDone_bad {s : State} {w : BlockWr} (hw : s.log.wr = some w) (hpf : w.pf = false) (hn : s.log.pf = none) (hr : w.retry = true) :
    s.flushDone false = s.badBlock w 1 := by
  simp [State.flushDone, hw, hpf, hn, hr]

/-- A block whose write the device does not answer is given up (R555). -/
theorem State.portTimeout_writing {s : State} {w : BlockWr} (hw : s.log.wr = some w) : s.portTimeout = s.badBlock w 2 := by
  simp only [State.portTimeout, hw]

/-- At its bound a power-fail flush that writes no block ends (R554). -/
theorem State.pfStop_idle {s : State} {m : Moment} (hpf : s.log.pf = some m) (hdue : (pfFlushCc : Int) ≤ s.since m) (hw : s.log.wr = none) :
    s.pfStop = ((({ s with log.pf := none } : State).setLogState lsIdle).clearTrigger).showHold := by
  have hbound : ¬s.since m < pfFlushCc := not_lt.mpr hdue
  simp [State.pfStop, hpf, hw, hbound]

/-- One that writes a block closes it first (R554). -/
theorem State.pfStop_writing {s : State} {m : Moment} {w : BlockWr} (hpf : s.log.pf = some m) (hdue : (pfFlushCc : Int) ≤ s.since m)
    (hw : s.log.wr = some w) :
    s.pfStop =
      let v := if w.pf then s.sendTrailer w else s
      let v := (({ v with log.wr := none } : State).put HM_LOG_FSEQ_FSEQ (max s.fseq (w.first + w.len))).advanceBlock
      ((({ v with log.pf := none } : State).setLogState lsIdle).clearTrigger).showHold := by
  have hbound : ¬s.since m < pfFlushCc := not_lt.mpr hdue
  simp [State.pfStop, hpf, hw, hbound]

/-- A failed port is taken up (R555). -/
theorem State.portRetry_failed {s : State} (h : s.logState = lsFailed) :
    s.portRetry = (({ s with log.badRun := 0 } : State).setLogState lsIdle).showHold := if_pos h

/-- A store without a valid trailer starts empty (R556). -/
theorem State.storeResume_blank {s : State} (h : s.log.scan = true) :
    s.storeResume [] =
      let v := ({ s with log.scan := false, log.base := 0 } : State).setLogState lsIdle
      let v := ((v.put HM_LOG_WSEQ_WSEQ 0).put HM_LOG_FSEQ_FSEQ 0).put HM_LOG_STAT_BLOCK 0
      (v.logHm 0x0D06 0 0 0 0).showHold := by
  simp [State.storeResume, bestTrailer, h]

/-- A record that the store still holds is shown (R558). -/
theorem State.logFetched_held {s : State} {n : Nat} {w : BitVec 64} (l : List (BitVec 64)) (hf : s.log.fetch = some n) (hw : w.toNat % 2 ^ 16 ≠ 0) :
    s.logFetched (w :: l) = ({ s with log.fetch := none } : State).showRead 0 (w :: l) := by
  simp only [State.logFetched, hf]
  rw [if_neg (List.cons_ne_nil w l), if_neg (show ¬((w :: l).getD 0 0).toNat % 2 ^ 16 = 0 from hw)]

/-! ### The meanings of the commands -/

theorem exec_logRecord (s : State) (c : Nat) (l : List Nat) : exec (.logRecord c l) s = run s c fun u => u.logRecord l := (rfl)

theorem exec_trickleFlush (s : State) (c : Nat) : exec (.trickleFlush c) s = run s c State.trickle := (rfl)

theorem exec_flushBlockDone (s : State) (c : Nat) (ok : Bool) : exec (.flushBlockDone c ok) s = run s c fun u => u.flushDone ok := (rfl)

theorem exec_logPortTimeout (s : State) (c : Nat) : exec (.logPortTimeout c) s = run s c State.portTimeout := (rfl)

theorem exec_logFlush (s : State) (c : Nat) : exec (.logFlush c) s = run s c fun u => u.hostWrite HM_LOG_CTL fun u => u.pfTrigger 5 := (rfl)

theorem exec_pfailFlushStop (s : State) (c : Nat) : exec (.pfailFlushStop c) s = run s c State.pfStop := (rfl)

theorem exec_logPortRetry (s : State) (c : Nat) : exec (.logPortRetry c) s = run s c fun u => u.hostWrite HM_LOG_CTL State.portRetry := (rfl)

theorem exec_logStoreResume (s : State) (c : Nat) (l : List (Nat × Nat × Nat × Nat × Bool)) :
    exec (.logStoreResume c l) s = run s c fun u => u.storeResume (l.map fun x => ⟨x.1, x.2.1, x.2.2.1, x.2.2.2.1, x.2.2.2.2⟩) := (rfl)

theorem exec_logReadSelect (s : State) (c n : Nat) :
    exec (.logReadSelect c n) s = run s c fun u => u.hostWrite HM_LOG_RSEL fun u => u.logSelect n := (rfl)

/-- Settles O31: each command is a run whose effect, in the case of its clause, is the one that the lemmas above give. -/
theorem logCompletes : Obligations.LogCompletes := by
  intro s c h
  refine ⟨?record, ?single, ?trickle, ?good, ?powerFail, ?retries, ?bad, ?timeout, ?flush, ?stop, ?stopWriting, ?retry, ?resume, ?blank, ?select, ?fetch,
    ?shown⟩
  case record =>
    intro l _ _
    exact exec_of_run (exec_logRecord ..) h rfl
  case single =>
    intro r l i hscan hbusy hheld hi hc
    exact exec_of_run (exec_logRecord ..) h (State.logRecord_single (s := s.begin_ c) hscan hbusy hheld hi hc)
  case trickle =>
    intro hscan hen hidle hwr htrig hroom
    exact exec_of_run (exec_trickleFlush ..) h (State.trickle_due (s := s.begin_ c) hscan hen hidle hwr htrig hroom)
  case good =>
    intro w hw hpf hn
    exact exec_of_run (exec_flushBlockDone ..) h (State.flushDone_good (s := s.begin_ c) hw hpf hn)
  case powerFail =>
    intro w ok hw hpf
    exact exec_of_run (exec_flushBlockDone ..) h (State.flushDone_powerFail (s := s.begin_ c) ok hw hpf)
  case retries =>
    intro w hw hpf hn hr
    exact exec_of_run (exec_flushBlockDone ..) h (State.flushDone_retries (s := s.begin_ c) hw hpf hn hr)
  case bad =>
    intro w hw hpf hn hr
    exact exec_of_run (exec_flushBlockDone ..) h (State.flushDone_bad (s := s.begin_ c) hw hpf hn hr)
  case timeout =>
    intro w hw
    exact exec_of_run (exec_logPortTimeout ..) h (State.portTimeout_writing (s := s.begin_ c) hw)
  case flush =>
    intro hw
    exact exec_of_run (exec_logFlush ..) h (hostWrite_taken (s := s.begin_ c) hw.1 hw.2)
  case stop =>
    intro m hpf hdue hw
    exact exec_of_run (exec_pfailFlushStop ..) h (State.pfStop_idle (s := s.begin_ c) hpf hdue hw)
  case stopWriting =>
    intro m w hpf hdue hw
    exact exec_of_run (exec_pfailFlushStop ..) h (State.pfStop_writing (s := s.begin_ c) hpf hdue hw)
  case retry =>
    intro hw hfailed
    exact exec_of_run (exec_logPortRetry ..) h
      ((hostWrite_taken (s := s.begin_ c) hw.1 hw.2).trans (congrArg (State.emit · (.hport 0 0)) (State.portRetry_failed (s := s.begin_ c) hfailed)))
  case resume =>
    intro l _
    exact exec_of_run (exec_logStoreResume ..) h rfl
  case blank =>
    intro hscan
    exact exec_of_run (exec_logStoreResume ..) h (State.storeResume_blank (s := s.begin_ c) hscan)
  case select =>
    intro n hw
    exact exec_of_run (exec_logReadSelect ..) h (hostWrite_taken (s := s.begin_ c) hw.1 hw.2)
  case fetch =>
    intro n w _
    exact exec_of_run (exec_logFetchDone ..) h rfl
  case shown =>
    intro n w l hf hw
    exact exec_of_run (exec_logFetchDone ..) h (State.logFetched_held (s := s.begin_ c) l hf hw)

end Sys2Proof.Machine

/-!
PROOFS. Clearing the Logbook and the key store (chapter 14): how a nonce, a clear and the operations on keys complete.
-/

namespace Sys2Proof.Machine

/-! ### What each function does in the case of a statement -/

/-- A read of the nonce's page while no clear runs draws a fresh nonce (R561). -/
theorem State.nonceRead_idle {s : State} (h : s.flag HM_LOG_CLR_BUSY = false) :
    s.nonceRead =
      let a := s.free
      let b := a.2.free
      let v := (b.2.setWord HM_LOG_NONCE0 a.1).setWord HM_LOG_NONCE1 b.1
      ({ v with log.nonce := some (BitVec.ofNat 128 (a.1.toNat + b.1.toNat * 2 ^ 64), v.time.tick) } : State).emit (.hport 0 a.1) :=
  if_neg (Bool.eq_false_iff.mp h)

/-- The command of a clear: its range, token, key and nonce, the nonce if it is not older than 2^20 ticks (R561, R569). -/
def State.clearCmd (s : State) : ClearSt :=
  let fresh := match s.log.nonce with
    | some (n, t) => if s.time.tick ≤ t + 2 ^ 20 then some n else none
    | none => none
  let token := (List.range 4).foldl (fun acc i => acc + s.get (HM_LOG_TOKEN_TOKEN i) * 2 ^ (64 * i)) 0
  ⟨s.get HM_LOG_CLR_FIRST_FIRST, s.get HM_LOG_CLR_LAST_LAST, BitVec.ofNat 256 token, s.key 0, s.keyId 0, fresh, false⟩

/-- LOG_CLEAR while no clear runs takes its command and consumes the nonce (R561). -/
theorem State.logClear_idle {s : State} (h : s.flag HM_LOG_CLR_BUSY = false) :
    s.logClear (s.key 0) (s.keyId 0) = { s.put HM_LOG_CLR_BUSY 1 with log.clear := some s.clearCmd, log.nonce := none } :=
  if_neg (Bool.eq_false_iff.mp h)

/-- A granted clear clears the buffer's records of its range that it may (R560, R562). -/
theorem State.clearVerified_granted {s : State} {k : ClearSt} (hk : s.log.clear = some k) (hv : k.verified = false) (h0 : s.clearRefusal k = 0) :
    s.clearVerified =
      let l := s.clearable k.first k.last
      let v : State := { s with log.buf := s.log.buf.filter (fun kv => !l.contains kv.1) }
      let v := (v.put HM_LOG_CLR_CLEARED l.length).logHm 0x0D01 k.first k.last l.length k.keyId
      if v.flag HM_LOG_CTL_STORE_EN then { v with log.clear := some { k with verified := true } } else v.endClear 0 := by
  have hverified : ¬k.verified = true := Bool.eq_false_iff.mp hv
  have hreason : ¬s.clearRefusal k ≠ 0 := not_not.mpr h0
  simp only [State.clearVerified, hk]
  exact (if_neg hverified).trans (if_neg hreason)

/-- A refused clear is recorded with its reason and ends (R562). -/
theorem State.clearVerified_refused {s : State} {k : ClearSt} (hk : s.log.clear = some k) (hv : k.verified = false) (h0 : s.clearRefusal k ≠ 0) :
    s.clearVerified =
      let v : State := if s.clearRefusal k = 1 then { s with log.refusals := s.log.refusals + 1 } else s
      (v.logHm 0x0D02 k.first k.last (s.clearRefusal k) v.tick32).endClear (s.clearRefusal k) := by
  have hverified : ¬k.verified = true := Bool.eq_false_iff.mp hv
  simp only [State.clearVerified, hk]
  exact (if_neg hverified).trans (if_pos h0)

/-- A granted clear ends with the records that only the store held (R560). -/
theorem State.clearDone_granted {s : State} {k : ClearSt} (n : Nat) (hk : s.log.clear = some k) (hv : k.verified = true) :
    s.clearDone n = (s.count HM_LOG_CLR_CLEARED n).endClear 0 := by
  simp only [State.clearDone, hk, hv, if_true]

/-- The key that the host has put together in DATA (R567). -/
def State.keyData (s : State) : BitVec 256 := BitVec.ofNat 256 ((List.range 4).foldl (fun acc i => acc + s.get (HM_KEY_DATA_DATA i) * 2 ^ (64 * i)) 0)

/-- The key of slot `n` is loaded, DATA is zeroed, and the load is recorded (R567). -/
def State.keyLoaded (s : State) (n : Nat) : State :=
  let v := (List.range 4).foldl (fun v i => v.setWord (HM_KEY_DATA i) 0) s
  let v : State := { v with keys.keys := tabSet (fun _ => none) v.keys.keys n (some s.keyData) }
  let v := (v.put HM_KEY_STAT_LOADED (setBitN (v.get HM_KEY_STAT_LOADED) n)).setKeyId n (s.get HM_KEY_SEL_KEY_ID)
  v.logHm 0x0D07 n (s.get HM_KEY_SEL_KEY_ID) 0 v.tick32

/-- KEY_LOAD of a slot outside Lantern mode, with no operation running (R567). -/
theorem State.keyLoad_slot {s : State} {n : Nat} (hn : s.get HM_KEY_SEL_SLOT = n) (h4 : n ≤ 4) (hl : s.lantern = false) (hb : s.flag HM_KEY_OP_BUSY = false) :
    s.keyLoad =
      if n = 0 then (s.keyLoaded n).keyEnd
      else
        let v := (s.keyLoaded n).put HM_KEY_STAT_SPREAD (clrBitN ((s.keyLoaded n).get HM_KEY_STAT_SPREAD) n)
        { v.put HM_KEY_OP_BUSY 1 with keys.coming := some (n, s.keyData) } := by
  have hallowed : ¬((s.lantern && decide (s.get HM_RST_STAT_RESTART_STATE ≠ 1)) || s.flag HM_KEY_OP_BUSY) = true := by simp [hl, hb]
  have hslot : ¬5 ≤ s.get HM_KEY_SEL_SLOT := by omega
  subst hn
  exact (if_neg hallowed).trans (if_neg hslot)

/-- A key of slots 1 to 4 that is on its way reaches the quays (R567). -/
theorem State.keySpread_coming {s : State} {slot : Nat} {k : BitVec 256} (h : s.keys.coming = some (slot, k)) :
    s.keySpread =
      let v : State := { s with keys.quayKeys := tabSet (fun _ => none) s.keys.quayKeys slot (some k) }
      (v.put HM_KEY_STAT_SPREAD (setBitN (v.get HM_KEY_STAT_SPREAD) slot)).keyEnd := by
  simp only [State.keySpread, h]

/-- KEY_ZERO zeroes every copy of a slot and is recorded (R568). -/
theorem State.keyZero_slot {s : State} (h : s.get HM_KEY_SEL_SLOT < 5) :
    s.keyZero =
      let n := s.get HM_KEY_SEL_SLOT
      ((s.zeroKey n).logHm 0x0D08 (2 ^ n) 1 (s.keyId n) s.tick32).irq irqKey := if_neg (Nat.not_le.mpr h)

/-! ### The meanings of the commands -/

theorem exec_nonceRead (s : State) (c : Nat) :
    exec (.nonceRead c) s = run s c fun u => if u.pageReady HM_LOG_NONCE0 then u.nonceRead else u.emit (.hport 0 0) := (rfl)

theorem exec_logClear (s : State) (c : Nat) :
    exec (.logClear c) s = run s c fun u => u.hostWrite HM_LOG_CLR fun u => u.logClear (u.key 0) (u.keyId 0) := (rfl)

theorem exec_logClearVerified (s : State) (c : Nat) :
    exec (.logClearVerified c) s = run s c fun u => if u.flag HM_TRIPLEX_STAT_ABSENT then u else u.clearVerified := (rfl)

theorem exec_clearStorePassDone (s : State) (c n : Nat) : exec (.clearStorePassDone c n) s = run s c fun u => u.clearDone n := (rfl)

theorem exec_keyLoad (s : State) (c : Nat) :
    exec (.keyLoad c) s = run s c fun u => u.go HM_KEY_OP (some HM_KEY_OP_BUSY) (.keyLoad c) State.keyLoad := (rfl)

theorem exec_keySpread (s : State) : exec .keySpread s = run s 0 State.keySpread := (rfl)

theorem exec_keyZero (s : State) (c : Nat) :
    exec (.keyZero c) s = run s c fun u => u.go HM_KEY_OP (some HM_KEY_OP_BUSY) (.keyZero c) State.keyZero := (rfl)

/-- A host GO that its page takes, whose operation has the effect `r`, ends with `r` and the answer. -/
theorem go_effect {s r : State} {a : Nat} {b : Option Fld} {i : Instr} {k : State → State} (hg : s.takesGo a) (hk : k s = r) :
    s.go a b i k = r.emit (.hport 0 0) :=
  (go_taken hg.1.1 hg.1.2 hg.2).trans (congrArg (State.emit · (.hport 0 0)) hk)

/-- So does a host write. -/
theorem hostWrite_effect {s r : State} {a : Nat} {k : State → State} (hw : s.takesWrites a) (hk : k s = r) : s.hostWrite a k = r.emit (.hport 0 0) :=
  (hostWrite_taken hw.1 hw.2).trans (congrArg (State.emit · (.hport 0 0)) hk)

/-- Settles O32: each command is a run whose effect, in the case of its clause, is the one that the lemmas above give. -/
theorem keysComplete : Obligations.KeysComplete := by
  intro s c h
  refine ⟨?nonce, ?clear, ?granted, ?refused, ?pass, ?logKey, ?windowKey, ?spread, ?zero⟩
  case nonce =>
    intro hr hb
    exact exec_of_run (exec_nonceRead ..) h ((if_pos hr).trans (State.nonceRead_idle (s := s.begin_ c) hb))
  case clear =>
    intro hw hb
    exact exec_of_run (exec_logClear ..) h (hostWrite_effect (s := s.begin_ c) hw (State.logClear_idle (s := s.begin_ c) hb))
  case granted =>
    intro k ha hk hv h0
    exact exec_of_run (exec_logClearVerified ..) h
      ((if_neg (Bool.eq_false_iff.mp ha)).trans (State.clearVerified_granted (s := s.begin_ c) hk hv h0))
  case refused =>
    intro k ha hk hv h0
    exact exec_of_run (exec_logClearVerified ..) h
      ((if_neg (Bool.eq_false_iff.mp ha)).trans (State.clearVerified_refused (s := s.begin_ c) hk hv h0))
  case pass =>
    intro k n hk hv
    exact exec_of_run (exec_clearStorePassDone ..) h (State.clearDone_granted (s := s.begin_ c) n hk hv)
  case logKey =>
    intro hg hl hb hslot
    exact exec_of_run (exec_keyLoad ..) h
      (go_effect (s := s.begin_ c) hg ((State.keyLoad_slot (s := s.begin_ c) hslot (by decide) hl hb).trans (if_pos rfl)))
  case windowKey =>
    intro n hn h1 h4 hg hl hb
    exact exec_of_run (exec_keyLoad ..) h
      (go_effect (s := s.begin_ c) hg ((State.keyLoad_slot (s := s.begin_ c) hn.symm h4 hl hb).trans (if_neg (Nat.ne_of_gt h1))))
  case spread =>
    intro slot k hk
    exact exec_of_run (exec_keySpread ..) h (State.keySpread_coming (s := s.begin_ 0) hk)
  case zero =>
    intro hg hslot
    exact exec_of_run (exec_keyZero ..) h (go_effect (s := s.begin_ c) hg (State.keyZero_slot (s := s.begin_ c) hslot))

end Sys2Proof.Machine

/-!
PROOFS. Hang, resets, Lantern mode and dumps (chapters 12 and 13): how Breakwaters by the host, watchdogs, resets and dumps complete.
-/

namespace Sys2Proof.Machine

/-! ### Reads beside a write -/

/-- A write below the Bollards' file leaves the role of every tile. -/
theorem State.role_put (s : State) {f : Fld} (v p : Nat) (h : f.reg < 0x100000000) : (s.put f v).role p = s.role p :=
  s.get_put_reg v (bolAddr_ne_page h)

/-- A write of another register than HM_TRIPLEX_STAT leaves the phase. -/
theorem State.phaseNo_put (s : State) {f : Fld} (v : Nat) (h : HM_TRIPLEX_STAT ≠ f.reg) : (s.put f v).phaseNo = s.phaseNo := s.get_put_reg v h

theorem State.isOpen_put (s : State) {f : Fld} (v : Nat) (h : HM_TRIPLEX_STAT ≠ f.reg) : (s.put f v).isOpen = s.isOpen := by
  rw [State.isOpen, State.isOpen, s.phaseNo_put v h]

theorem State.flag_put_reg (s : State) {f g : Fld} (v : Nat) (h : g.reg ≠ f.reg) : (s.put f v).flag g = s.flag g := by
  rw [State.flag, State.flag, s.get_put_reg v h]

/-! ### Breakwaters and watchdogs -/

/-- BREAKWATER_REGION of a quay that exists raises its Breakwater and pulls HW1 as the host (R510). -/
theorem State.hostRegion_quay {s : State} {q : Nat} (hq : q < s.nQuays) (h64 : q < 64) :
    s.hostRegion q = ((s.put HM_FAULT_OP_QUAY q).regionBreakwater q 0xFF true).pullHw1 3 q 0 0 7 := by
  simp only [State.hostRegion, Nat.mod_eq_of_lt h64]
  exact if_neg (Nat.not_le.mpr hq)

/-- The watchdog of a working quay whose core has not kicked for four ticks resets it (R514). -/
theorem State.quayWatchdog_expired {s : State} {q : Nat} (hst : s.quayState q = 0) (ht : (4 * s.tickLen : Int) ≤ s.since (s.quay q).kickAt) :
    s.quayWatchdog q =
      let v := (s.latchQuay q 23 false 0).put (QY_RST_WDOG_WHY q) 1
      (v.logQuay q 0x0C03 q ((s.since (s.quay q).kickAt).toNat / v.tickLen) 0 v.tick32).quayForced q 1 false :=
  if_neg (not_or.mpr ⟨not_not.mpr hst, not_lt.mpr ht⟩)

/-- The Harbourmaster's watchdog, of two cores at least that are not paused, enters Lantern mode after four ticks without a kick (R514). -/
theorem State.hmWatchdog_expired {s : State} (hl : s.inLantern = false) (ha : s.flag HM_TRIPLEX_STAT_ABSENT = false) (hc : 2 ≤ coreCount s.cores)
    (ht : (4 * s.tickLen : Int) ≤ s.since s.commit.kickAt) :
    s.hmWatchdog = (s.logHm 0x0C04 (coreCount s.cores) ((s.since s.commit.kickAt).toNat / s.tickLen) 0 s.tick32).enterLantern 3 := by
  have hexpired : ¬(s.inLantern = true ∨ s.flag HM_TRIPLEX_STAT_ABSENT = true ∨ coreCount s.cores < 2 ∨ s.since s.commit.kickAt < 4 * s.tickLen) := by
    rw [hl, ha, not_or, not_or, not_or]
    exact ⟨Bool.false_ne_true, Bool.false_ne_true, Nat.not_lt.mpr hc, not_lt.mpr ht⟩
  exact if_neg hexpired

/-! ### Resets -/

/-- A tile out of its job, while no dump is held for it, is reset (R518, R525). -/
theorem State.tileReset_partition {s : State} {p : Nat} (hr : s.role p ≠ roleJob) (hd : s.rst.dump = none) :
    s.tileReset p 6 false =
      let v := (s.put (BOL_CTL_GUARD p) 1).put (BOL_CTL_CG_HOLD p) 1
      let v := (v.put (BOL_CDOM_RST p) 1).coreReset p
      let v := (v.count (QY_RST_CNT_TILE_RESETS (quayOf p)) 1).logTile p 0x0C05 p 6 (s.recentResets p).length v.tick32
      v.tileReady p := by
  simp [State.tileReset, hr, hd]

/-- An operation on resets while none runs (R539). -/
theorem State.rstOp_idle {s : State} (op : Nat) (k : State → State) (h : s.flag HM_RST_OP_BUSY = false) : s.rstOp op k = k (s.put HM_RST_OP_OP op) :=
  if_neg (Bool.eq_false_iff.mp h)

/-- TILE_RESET of a tile out of its job begins and resets it (R539). -/
theorem State.tileResetOp_idle {s : State} {p : Nat} (pwr : Bool) (hq : quayOf p < s.nQuays) (hr : s.role p ≠ roleJob) :
    s.tileResetOp p pwr =
      let v := (s.put HM_RST_ARG_PTILE p).put HM_RST_ARG_PWR (bit pwr)
      let v : State := { v.put HM_RST_OP_BUSY 1 with rst.op := some ⟨1, 0, 0, 0, 0, 0, pwr, true, if pwr then [p] else []⟩ }
      (v.tileReset p 5 pwr).rstStep := by
  have hrole : ((s.put HM_RST_ARG_PTILE p).put HM_RST_ARG_PWR (bit pwr)).role p = s.role p :=
    (State.role_put _ _ _ (by decide)).trans (State.role_put _ _ _ (by decide))
  have hserves : ¬(s.nQuays ≤ quayOf p ∨ s.role p = roleJob) := not_or.mpr ⟨Nat.not_le.mpr hq, hr⟩
  simp only [State.tileResetOp, hrole, State.put_nQuays]
  rw [if_neg hserves]

/-- QUAY_RESET with its cause standing raises the quay's pull and resets it (R520). -/
theorem State.quayReset_due {s : State} {q reason : Nat} (hst : s.quayState q = 0 ∨ s.quayState q = 4) (hc : s.resetCause q reason = true) :
    s.quayReset q reason false = (s.pullQuay q 8).quayForced q reason false := by
  have hserves : (s.quayState q ≠ 0 && s.quayState q ≠ 4) = false := by
    rcases hst with e | e <;> simp [e]
  simp only [State.quayReset, hserves, hc, Bool.not_true, Bool.or_false, Bool.false_eq_true, if_false]

/-- QUAY_RESET_OP of a quay that exists resets it and ends (R539). -/
theorem State.quayResetOp_quay {s : State} {q : Nat} (hq : q < s.nQuays) :
    s.quayResetOp q = ((s.put HM_RST_ARG_QUAY q).quayReset q 4 false).rstEnd false := by
  simp only [State.quayResetOp, State.put_nQuays]
  rw [if_neg (Nat.not_le.mpr hq)]

/-- SOFT_RESET of a page of the Harbourmaster is denied (R644). -/
theorem State.softWrite_hm {s : State} {page o : Nat} (hrows : (hmPageRows page).isEmpty = false) (hp : page < 256) (ho : o < 0x1000) :
    s.softWrite (0x1000 * page + o) = (s.pageErr (0x1000 * page + o) errDenied).reply rspOk 0 := by
  have hlow : 0x1000 * page + o < 0x100000 := by omega
  have hpage : (0x1000 * page + o) / 0x1000 = page := by omega
  simp [State.softWrite, State.softReset, hlow, Nat.not_le.mpr hlow, hpage, hrows]

/-- SOFT_RESET of a page of a quay resets the quay (R644). -/
theorem State.softWrite_quay {s : State} {q page o : Nat} (hq : q < s.nQuays) (hrows : (qyPageRows page).isEmpty = false) (hp : page < 16) (ho : o < 0x1000) :
    s.softWrite (0x100000 + 0x10000 * q + 0x1000 * page + o) = (s.quayReset q 4 false).reply rspOk 0 := by
  have hhigh : ¬0x100000 + 0x10000 * q + 0x1000 * page + o < 0x100000 := by omega
  have hquay : (0x100000 + 0x10000 * q + 0x1000 * page + o - 0x100000) / 0x10000 = q := by omega
  have hpage : (0x100000 + 0x10000 * q + 0x1000 * page + o - 0x100000) % 0x10000 / 0x1000 = page := by omega
  simp [State.softWrite, State.softReset, hhigh, Nat.not_lt.mp hhigh, hquay, hpage, hrows, hq]

/-- The self-test of a quay that has booted ends its reset (R520, R535). -/
theorem State.selftestDone_reset {s : State} {q : Nat} (pass : Bool) (rows : Nat) (hq : q < s.nQuays) (hl : s.lantern = false)
    (hok : s.start.quaysOk.contains q = true) : s.selftestDone q pass rows = (s.quaySelftest q pass).tryAnnounce := by
  have hbooted : (s.start.quaysOk.contains q || s.start.quaysBad.contains q) = true := by rw [hok, Bool.true_or]
  exact (if_neg (Nat.not_le.mpr hq)).trans ((if_pos hbooted).trans (if_neg (Bool.eq_false_iff.mp hl)))

/-- The first self-test of a quay ends its boot (R584). -/
theorem State.selftestDone_boot {s : State} {q : Nat} (pass : Bool) (rows : Nat) (hq : q < s.nQuays) (hok : s.start.quaysOk.contains q = false)
    (hbad : s.start.quaysBad.contains q = false) : s.selftestDone q pass rows = s.quayBoot q pass rows := by
  have hnew : ¬(s.start.quaysOk.contains q || s.start.quaysBad.contains q) = true := by
    rw [hok, hbad]
    decide
  exact (if_neg (Nat.not_le.mpr hq)).trans (if_neg hnew)

/-- QUAY_RECLAIM of a Green adopted quay asks for the recall that returns its work (R522). -/
theorem State.quayReclaim_adopted {s : State} {q : Nat} (hq : q < s.nQuays) (hc : (s.quay q).colour = green) (ha : s.flag (QY_RST_STAT_ADOPTED q) = true) :
    (s.put HM_RST_OP_OP 4).quayReclaim q =
      let v : State := { ((s.put HM_RST_OP_OP 4).put HM_RST_ARG_QUAY q).put HM_RST_OP_BUSY 1 with
        rst.op := some ⟨4, q, 0, 0, 0, 0, false, true, []⟩, rst.reclaim := s.rst.reclaim ++ [q] }
      v.pullHw1 2 0 0 0 8 := by
  have hpage (o : Nat) (ho : o < 0x100000) : QY_RST_STAT q ≠ o := (Nat.lt_of_lt_of_le ho (qyAddr_ge q _)).ne'
  have hadopted : ((s.put HM_RST_OP_OP 4).put HM_RST_ARG_QUAY q).flag (QY_RST_STAT_ADOPTED q) = true := by
    rw [State.flag_put_reg _ _ (hpage _ (by decide)), State.flag_put_reg _ _ (hpage _ (by decide)), ha]
  have hreclaims : ¬(s.nQuays ≤ q ∨ (s.quay q).colour ≠ green
      ∨ (!((s.put HM_RST_OP_OP 4).put HM_RST_ARG_QUAY q).flag (QY_RST_STAT_ADOPTED q)) = true) := by
    rw [hadopted, hc]
    simpa using hq
  simp only [State.quayReclaim, State.put_nQuays, State.quay_put, State.put_rst]
  rw [if_neg hreclaims]

/-- ENTER_LANTERN in a closed harbour, or where INJECT_L allows it (R539). -/
theorem State.lanternOp_allowed {s : State} (ho : s.isOpen = false ∨ s.flag HM_FAULT_CTL_INJECT_L = true) (hb : s.flag HM_RST_OP_BUSY = false) :
    s.lanternOp =
      let v := (s.put HM_RST_OP_OP 5).logForce 0 0 0x0B03 (bit s.isOpen) 0xFE
      ((v.count HM_FAULT_CNT0_FORCED 1).enterLantern 5).rstEnd false := by
  have hopen : (s.put HM_RST_OP_OP 5).isOpen = s.isOpen := s.isOpen_put 5 (by decide)
  have hinject : (s.put HM_RST_OP_OP 5).flag HM_FAULT_CTL_INJECT_L = s.flag HM_FAULT_CTL_INJECT_L := s.flag_put_reg 5 (by decide)
  have hallowed : (s.isOpen && !s.flag HM_FAULT_CTL_INJECT_L) = false := by
    rcases ho with e | e <;> simp [e]
  rw [State.lanternOp, State.rstOp_idle _ _ hb, hopen, hinject, hallowed]
  rfl

/-- Lantern mode is left once the restart has ended and its keys are back (R530). -/
theorem State.lanternExit_ready {s : State} (hl : s.lantern = true) (hr : s.get HM_RST_STAT_RESTART_STATE = 1)
    (hk : s.rst.keysWanted.all (fun n => (s.get HM_KEY_STAT_LOADED).testBit n) = true) :
    s.lanternExit = (({ (s.at_ (s.commitAt + 1)).leaveLantern with rst.keysWanted := [] } : State).keptVerdicts).rstEnd false := by
  have hready : ¬((!s.lantern) = true ∨ s.get HM_RST_STAT_RESTART_STATE ≠ 1
      ∨ (!s.rst.keysWanted.all (fun n => (s.get HM_KEY_STAT_LOADED).testBit n)) = true) := by
    rw [hl, hr, hk]
    decide
  exact if_neg hready

/-! ### Dumps -/

/-- A dump starts while none is taken or held (R525). -/
theorem State.startDump_free {s : State} (kind what unit : Nat) (hd : s.rst.dump = none) (hh : s.flag HM_RST_DUMP_HELD = false) :
    s.startDump kind what unit = ({ s with rst.dump := some ⟨kind, what, unit, s.tide, s.jt, [], false⟩ }, true) := by
  simp [State.startDump, hd, hh]

/-- DUMP of a tile, a quay or the wafer that exists, while none is taken or held, takes the dump of that unit (R525). -/
theorem State.dumpOp_free {s : State} {kind p q : Nat} (h1 : 1 ≤ kind) (h3 : kind ≤ 3) (hq : kind = 2 → q < s.nQuays) (hp : kind = 1 → quayOf p < s.nQuays)
    (hd : s.rst.dump = none) (hh : s.flag HM_RST_DUMP_HELD = false) :
    (s.put HM_RST_OP_OP 7).dumpOp kind p q =
      let v := (((s.put HM_RST_OP_OP 7).put HM_RST_ARG_KIND kind).put HM_RST_ARG_PTILE p).put HM_RST_ARG_QUAY q
      let v : State := { v with rst.dump := some ⟨dkHost, kind, if kind = 1 then p else q, v.tide, v.jt, [], false⟩ }
      { v.put HM_RST_OP_BUSY 1 with rst.op := some ⟨7, q, 0, 0, 0, 0, false, true, []⟩ } := by
  have hargs : ¬(kind = 0 ∨ 3 < kind ∨ (kind = 2 ∧ s.nQuays ≤ q) ∨ (kind = 1 ∧ s.nQuays ≤ quayOf p)) := by omega
  have hnone : ((((s.put HM_RST_OP_OP 7).put HM_RST_ARG_KIND kind).put HM_RST_ARG_PTILE p).put HM_RST_ARG_QUAY q).rst.dump = none := by
    rw [State.put_rst, State.put_rst, State.put_rst, State.put_rst, hd]
  have hheld : ((((s.put HM_RST_OP_OP 7).put HM_RST_ARG_KIND kind).put HM_RST_ARG_PTILE p).put HM_RST_ARG_QUAY q).flag HM_RST_DUMP_HELD = false := by
    rw [State.flag_put_reg _ _ (by decide), State.flag_put_reg _ _ (by decide), State.flag_put_reg _ _ (by decide), State.flag_put_reg _ _ (by decide), hh]
  have hstart := State.startDump_free dkHost kind (if kind = 1 then p else q) hnone hheld
  simp only [State.dumpOp, State.put_nQuays, hstart, if_neg hargs, if_true]

/-- A word of a dump that nobody answers is void (R526). -/
theorem State.dumpVoid_reading {s : State} {d : DumpSt} {n : Nat} (hd : s.rst.dump = some d) (hs : d.staged = false) (hn : d.voids.contains n = false) :
    s.dumpVoid n = { s with rst.dump := some { d with voids := d.voids ++ [n] } } := by
  simp only [State.dumpVoid, hd, hs, hn]
  rfl

/-- The image of a dump that is still reading is stored and held; a quay that waited for it goes down (R527). -/
theorem State.dumpDone_reading {s : State} {d : DumpSt} (ext : List (BitVec 64)) (hd : s.rst.dump = some d) (hs : d.staged = false) :
    s.dumpDone ext =
      let img := s.dumpImage d ext
      let v := s.writeWords (hsAddr (s.get HM_RST_DUMP_OFF)) img
      let v := ((v.put HM_RST_DUMP_HELD 1).put HM_RST_DUMP_KIND d.kind).put HM_RST_DUMP_COPIED 0
      let v := (v.put HM_RST_DUMP_BYTES (8 * img.length)).count HM_RST_CNT_DUMPS 1
      let v := v.logHm 0x0C0B d.kind (8 * img.length) d.voids.length v.tick32
      let v : State := { v with rst.dump := some { d with staged := true } }
      let v := if d.kind = 2 ∧ v.quayState d.unit = 1 then v.quayDown d.unit else v
      match v.rst.op with
      | some o => if o.op = 7 then v.rstEnd false else v
      | none => v := by
  simp only [State.dumpDone, hd]
  exact if_neg (Bool.eq_false_iff.mp hs)

/-- A finished image that the Logbook's store has copied sets COPIED and ends the dump (R525). -/
theorem State.dumpCopied_staged {s : State} {d : DumpSt} (hd : s.rst.dump = some d) (hs : d.staged = true) (he : s.flag HM_LOG_CTL_STORE_EN = true) :
    s.dumpCopied = { s.put HM_RST_DUMP_COPIED 1 with rst.dump := none } := by
  simp only [State.dumpCopied, hd, hs, he]
  rfl

/-! ### The meanings of the commands -/

theorem exec_breakwaterRegion (s : State) (c q : Nat) :
    exec (.breakwaterRegion c q) s = run s c fun u => u.hostWrite HM_FAULT_OP fun u => u.hostRegion q := (rfl)

theorem exec_breakwaterWafer (s : State) (c : Nat) : exec (.breakwaterWafer c) s = run s c fun u => u.hostWrite HM_FAULT_OP State.hostWafer := (rfl)

theorem exec_quayWatchdog (s : State) (c q : Nat) :
    exec (.quayWatchdog c q) s = runDown s c fun u => u.onQuay q fun u => u.quayWatchdog q := (rfl)

theorem exec_hmWatchdog (s : State) (c : Nat) : exec (.hmWatchdog c) s = runDown s c State.hmWatchdog := (rfl)

theorem exec_tileComputeReset (s : State) (c p reason : Nat) (pwr : Bool) :
    exec (.tileComputeReset c p reason pwr) s = run s c fun u => u.onTile p fun u => (u.tileReset p reason pwr).rstStep := (rfl)

theorem exec_tileReset (s : State) (c p : Nat) (pwr : Bool) :
    exec (.tileReset c p pwr) s
      = run s c fun u => u.go HM_RST_OP (some HM_RST_OP_BUSY) (.tileReset c p pwr) fun u => u.rstOp 1 fun u => u.tileResetOp p pwr := (rfl)

theorem exec_partitionReset (s : State) (c q r1 r2 c1 c2 : Nat) (pwr : Bool) :
    exec (.partitionReset c q r1 r2 c1 c2 pwr) s = run s c fun u => u.go HM_RST_OP (some HM_RST_OP_BUSY) (.partitionReset c q r1 r2 c1 c2 pwr) fun u =>
      u.rstOp 2 fun u => u.partitionReset q r1 r2 c1 c2 pwr := (rfl)

theorem exec_quayReset (s : State) (c q reason : Nat) :
    exec (.quayReset c q reason) s = runDown s c fun u => u.onQuay q fun u => u.quayReset q reason false := (rfl)

theorem exec_quayResetOp (s : State) (c q : Nat) :
    exec (.quayResetOp c q) s
      = runDown s c fun u => u.go HM_RST_OP (some HM_RST_OP_BUSY) (.quayResetOp c q) fun u => u.rstOp 3 fun u => u.quayResetOp q := (rfl)

theorem exec_softReset (s : State) (c a : Nat) : exec (.softReset c a) s = runDown s c fun u => u.softWrite a := (rfl)

theorem exec_quayAdopt (s : State) (c q : Nat) : exec (.quayAdopt c q) s = runDown s c fun u => u.onQuay q fun u => u.adoptDone q := (rfl)

theorem exec_quaySelftestDone (s : State) (c q : Nat) (pass : Bool) (rows : Nat) :
    exec (.quaySelftestDone c q pass rows) s = runDown s c fun u => u.onQuay q fun u => u.selftestDone q pass rows := (rfl)

theorem exec_quayReclaim (s : State) (c q : Nat) :
    exec (.quayReclaim c q) s
      = run s c fun u => u.go HM_RST_OP (some HM_RST_OP_BUSY) (.quayReclaim c q) fun u => u.rstOp 4 fun u => u.quayReclaim q := (rfl)

theorem exec_enterLantern (s : State) (c : Nat) :
    exec (.enterLantern c) s = runDown s c fun u => u.go HM_RST_OP (some HM_RST_OP_BUSY) (.enterLantern c) State.lanternOp := (rfl)

theorem exec_harbourmasterRestart (s : State) (c pass : Nat) :
    exec (.harbourmasterRestart c pass) s = run s c fun u => u.hostWrite HM_RST_OP fun u => u.hmRestart pass := (rfl)

theorem exec_lanternExit (s : State) : exec .lanternExit s = run s 0 State.lanternExit := (rfl)

theorem exec_dump (s : State) (c kind p q : Nat) :
    exec (.dump c kind p q) s
      = run s c fun u => u.go HM_RST_OP (some HM_RST_OP_BUSY) (.dump c kind p q) fun u => u.rstOp 7 fun u => u.dumpOp kind p q := (rfl)

theorem exec_dumpDone (s : State) (c : Nat) (ext : List (BitVec 64)) : exec (.dumpDone c ext) s = run s c fun u => u.dumpDone ext := (rfl)

theorem exec_dumpCopyDone (s : State) (c : Nat) : exec (.dumpCopyDone c) s = run s c State.dumpCopied := (rfl)

/-- A GO of an operation on resets that its page takes, while none runs. -/
theorem rstGo_effect {s r : State} {i : Instr} {op : Nat} {k : State → State} (hg : s.takesGo HM_RST_OP) (hb : s.flag HM_RST_OP_BUSY = false)
    (hk : k (s.put HM_RST_OP_OP op) = r) :
    (s.go HM_RST_OP (some HM_RST_OP_BUSY) i fun u => u.rstOp op k) = r.emit (.hport 0 0) :=
  go_effect hg ((s.rstOp_idle op k hb).trans hk)

/-- Settles O28: each command is a run whose effect, in the case of its clause, is the one that the lemmas above give. -/
theorem watchdogsComplete : Obligations.WatchdogsComplete := by
  intro s c h
  refine ⟨?region, ?wafer, ?quayWatchdog, ?quayKick, ?quayHost, ?hmWatchdog, ?hmKick, ?hmHost⟩
  case region =>
    intro q hq h64 hw
    exact exec_of_run (exec_breakwaterRegion ..) h (hostWrite_effect (s := s.begin_ c) hw (State.hostRegion_quay (s := s.begin_ c) hq h64))
  case wafer =>
    intro hw
    exact exec_of_run (exec_breakwaterWafer ..) h (hostWrite_effect (s := s.begin_ c) hw rfl)
  case quayWatchdog =>
    intro q hq hst ht
    exact exec_of_runDown (exec_quayWatchdog ..) h
      ((State.onQuay_of_lt (s := s.begin_ c) hq _).trans (State.quayWatchdog_expired (s := s.begin_ c) hst ht))
  case quayKick =>
    intro q hq
    exact exec_of_run (exec_quayWatchdogKick ..) h (State.onQuay_of_lt (s := s.begin_ c) hq _)
  case quayHost =>
    intro q hq
    exact exec_of_run (exec_quayWatchdogKick ..) h (State.onQuay_of_lt (s := s.begin_ c) hq _)
  case hmWatchdog =>
    intro hl ha hc ht
    exact exec_of_runDown (exec_hmWatchdog ..) h (State.hmWatchdog_expired (s := s.begin_ c) hl ha hc ht)
  case hmKick => exact exec_of_run (exec_hmWatchdogKick ..) h rfl
  case hmHost => exact exec_of_run (exec_hmWatchdogKick ..) h rfl

/-- Settles O29: each command is a run whose effect, in the case of its clause, is the one that the lemmas above give. That ENTER_LANTERN counts in FORCED
(log entry 74) and that QUAY_RESET acts only while its cause stands (log entry 160) are the model's choices. -/
theorem resetsComplete : Obligations.ResetsComplete := by
  intro s c h
  refine ⟨?tile, ?partition, ?tileOp, ?partitionOp, ?quay, ?quayOp, ?softHm, ?softQuay, ?adopt, ?selftest, ?boot, ?reclaim, ?lantern, ?restart, ?exit⟩
  case tile =>
    intro p reason pwr hp _ _
    exact exec_of_run (exec_tileComputeReset ..) h (State.onTile_of_isTile (s := s.begin_ c) hp _)
  case partition =>
    intro p hp hr hd
    exact exec_of_run (exec_tileComputeReset ..) h ((State.onTile_of_isTile (s := s.begin_ c) hp _).trans
      (congrArg State.rstStep (State.tileReset_partition (s := s.begin_ c) hr hd)))
  case tileOp =>
    intro p pwr hq hr hg hb
    have hrole : ((s.begin_ c).put HM_RST_OP_OP 1).role p ≠ roleJob := (State.role_put _ _ _ (by decide)).trans_ne hr
    exact exec_of_run (exec_tileReset ..) h (rstGo_effect (s := s.begin_ c) hg hb (State.tileResetOp_idle pwr hq hrole))
  case partitionOp =>
    intro q r1 r2 c1 c2 pwr _ _ _ _ _ hg hb
    exact exec_of_run (exec_partitionReset ..) h (rstGo_effect (s := s.begin_ c) hg hb rfl)
  case quay =>
    intro q reason hq hst hc
    exact exec_of_runDown (exec_quayReset ..) h
      ((State.onQuay_of_lt (s := s.begin_ c) hq _).trans (State.quayReset_due (s := s.begin_ c) hst hc))
  case quayOp =>
    intro q hq hg hb
    exact exec_of_runDown (exec_quayResetOp ..) h (rstGo_effect (s := s.begin_ c) hg hb (State.quayResetOp_quay hq))
  case softHm =>
    intro page o hrows hp ho
    exact exec_of_runDown (exec_softReset ..) h (State.softWrite_hm hrows hp ho)
  case softQuay =>
    intro q page o hq hrows hp ho
    exact exec_of_runDown (exec_softReset ..) h (State.softWrite_quay (s := s.begin_ c) hq hrows hp ho)
  case adopt =>
    intro q o hq _
    exact exec_of_runDown (exec_quayAdopt ..) h (State.onQuay_of_lt (s := s.begin_ c) hq _)
  case selftest =>
    intro q pass rows hq hl hok
    exact exec_of_runDown (exec_quaySelftestDone ..) h
      ((State.onQuay_of_lt (s := s.begin_ c) hq _).trans (State.selftestDone_reset (s := s.begin_ c) pass rows hq hl hok))
  case boot =>
    intro q pass rows hq hok hbad
    exact exec_of_runDown (exec_quaySelftestDone ..) h
      ((State.onQuay_of_lt (s := s.begin_ c) hq _).trans (State.selftestDone_boot (s := s.begin_ c) pass rows hq hok hbad))
  case reclaim =>
    intro q hq hc ha hg hb
    refine exec_of_run (exec_quayReclaim ..) h ((rstGo_effect (s := s.begin_ c) hg hb (State.quayReclaim_adopted (s := s.begin_ c) hq hc ha)).trans ?_)
    rfl
  case lantern =>
    intro ho hg hb
    exact exec_of_runDown (exec_enterLantern ..) h (go_effect (s := s.begin_ c) hg (State.lanternOp_allowed (s := s.begin_ c) ho hb))
  case restart =>
    intro pass hw _ _ _
    exact exec_of_run (exec_harbourmasterRestart ..) h (hostWrite_effect (s := s.begin_ c) hw rfl)
  case exit =>
    intro hl hr hk
    refine exec_of_run (exec_lanternExit ..) h ((State.lanternExit_ready (s := s.begin_ 0) hl hr hk).trans ?_)
    rfl

/-- Settles O30: each command is a run whose effect, in the case of its clause, is the one that the lemmas above give. -/
theorem dumpsComplete : Obligations.DumpsComplete := by
  intro s c h
  refine ⟨?dump, ?void, ?done, ?copied⟩
  case dump =>
    intro kind p q h1 h3 hq hp hd hh hg hb
    refine exec_of_run (exec_dump ..) h ((rstGo_effect (s := s.begin_ c) hg hb (State.dumpOp_free (s := s.begin_ c) h1 h3 hq hp hd hh)).trans ?_)
    rfl
  case void =>
    intro d n hd hs hn
    exact exec_of_run (exec_dumpReadTimeout ..) h (State.dumpVoid_reading (s := s.begin_ c) hd hs hn)
  case done =>
    intro d ext hd hs
    refine exec_of_run (exec_dumpDone ..) h ((State.dumpDone_reading (s := s.begin_ c) ext hd hs).trans ?_)
    rfl
  case copied =>
    intro d hd hs he
    exact exec_of_run (exec_dumpCopyDone ..) h (State.dumpCopied_staged (s := s.begin_ c) hd hs he)

end Sys2Proof.Machine

/-!
PROOFS. The host's accesses (chapter 17): addresses that no block answers, the gate of a host write, and a write to the harbour store.
-/

namespace Sys2Proof.Machine

/-! ### Unmapped addresses (R636) -/

/-- Address `a` belongs to no block, store or window of the map (R636). -/
def State.Unmapped (s : State) (a : Nat) : Prop :=
  0x40000 ≤ a ∧ a < 0x100000 ∨ 0x100000 + s.nQuays * 0x10000 ≤ a ∧ a < 0x1000000 ∨ 0x2000000 ≤ a ∧ a < 0x40000000
    ∨ 0x40000000 + s.nQuays * 0x1000000 ≤ a

/-- No store answers an access to an unmapped address. -/
theorem State.aperture_unmapped {s : State} {a size : Nat} {write : Bool} (data : Nat) (ue : Bool) (ce : Option Nat) (hu : s.hportUp = true)
    (hparity : write = true → s.isArmed 0 0 22 = false) (hz : sizeOk a size = true) (ha : s.Unmapped a) :
    s.aperture a size write data false ue ce = s.reply rspDecode 0 := by
  unfold State.Unmapped at ha
  have hharbour : ¬(0x1000000 ≤ a ∧ a < 0x2000000) := by omega
  have hwindow : ¬(0x40000000 ≤ a ∧ a < 0x40000000 + s.nQuays * 0x1000000) := by omega
  rw [State.aperture_clean data ue ce hu hparity hz, if_neg hharbour, if_neg hwindow]

/-- No page takes a write to an unmapped address. -/
theorem State.regWrite_unmapped {s : State} {a size : Nat} (data : Nat) (hu : s.hportUp = true) (hn : s.isArmed 0 0 22 = false) (hz : sizeOk a size = true)
    (ha : s.Unmapped a) : s.regWrite a size data false = s.reply rspDecode 0 := by
  by_cases hstore : 0x1000000 ≤ a
  · have hup : ¬(!s.hportUp) = true := by simp [hu]
    exact ((if_neg hup).trans (if_pos hstore)).trans (State.aperture_unmapped data false none hu (fun _ => hn) hz ha)
  · unfold State.Unmapped at ha
    have hpages : ¬(a < 0x40000 ∨ (0x100000 ≤ a ∧ a < 0x100000 + s.nQuays * 0x10000)) := by omega
    rw [State.regWrite_clean data hu hn (Nat.lt_of_not_le hstore) hz, if_neg hpages]

/-- An effect that is no more than an answer takes no quay and no triplex out of service. -/
theorem State.aftermath_emit (s : State) (o : Out) : s.aftermath (s.emit o) = s.emit o := by
  have hquays : (s.emit o).quayList.filter (fun q => decide (s.quayState q = 0) && decide ((s.emit o).quayState q ≠ 0)) = [] := by
    refine List.filter_eq_nil_iff.mpr fun q _ => ?_
    simp only [State.quayState, State.get_emit]
    by_cases hq : s.get (QY_RST_STAT_STATE q) = 0 <;> simp [hq]
  have hlantern : ((s.emit o).lantern && !s.lantern) = false := by
    rw [State.lantern, State.flag_emit]
    exact Bool.and_not_self _
  simp only [State.aftermath, hquays, List.foldl_nil, hlantern, Bool.false_eq_true, if_false]

/-- Settles O48: a write and a read at an unmapped address come to the answer DECODE. -/
theorem unmappedAddresses : Obligations.UnmappedAddresses := by
  intro s c a size data ue ce h hu hn hz ha
  refine ⟨?register, ?write, ?read⟩
  case register =>
    refine exec_of_run (exec_registerWrite ..) h ?_
    exact (congrArg _ (State.regWrite_unmapped (s := s.begin_ c) data.toNat hu hn hz ha)).trans (State.aftermath_emit _ _)
  case write =>
    exact exec_of_run (exec_storeApertureAccess ..) h (State.aperture_unmapped (s := s.begin_ c) data.toNat ue ce hu (fun _ => hn) hz ha)
  case read =>
    exact exec_of_run (exec_storeApertureAccess ..) h
      (State.aperture_unmapped (s := s.begin_ c) data.toNat ue ce hu (fun e => absurd e Bool.false_ne_true) hz ha)

/-! ### The gate of a host write (R640, R644) -/

/-- A command that is a host write of the page of place `a`. -/
def IsHostWrite (i : Instr) (c a : Nat) : Prop := ∀ s : State, ∃ k : State → State, exec i s = run s c fun u => u.hostWrite a k

/-- On a page that is not served it is refused (R640). -/
theorem hostWrite_notReady {s : State} {a : Nat} (k : State → State) (h : s.pageReady a = false) : s.hostWrite a k = s.emit (.hport rspRefused 0) := by
  have hready : (!s.pageReady a) = true := by simp [h]
  exact if_pos hready

/-- On a page that is not enabled it is denied (R644). -/
theorem hostWrite_denied {s : State} {a : Nat} (k : State → State) (h : s.pageReady a = true) (he : s.pageEn a = false) :
    s.hostWrite a k = (s.pageErr a errDenied).emit (.hport 0 0) := by
  have hready : ¬(!s.pageReady a) = true := by simp [h]
  have hen : (!s.pageEn a) = true := by simp [he]
  exact (if_neg hready).trans (if_pos hen)

/-- The commands that are a host write whatever the state, each with the place that it writes. -/
def hostWrites (c : Nat) : List (Instr × Nat) :=
  [(.align c, HM_TIME_CTL), (.calGo c, HM_HAWSER_XCTL), (.hostRecall c, HM_COMMIT_OP), (.halt c, HM_COMMIT_OP), (.resume c, HM_COMMIT_OP),
    (.abandon c, HM_COMMIT_OP), (.xspiProgram c, HM_XSPI_OP), (.xspiErase c, HM_XSPI_OP), (.xspiRescan c, HM_XSPI_OP), (.breakwaterWafer c, HM_FAULT_OP),
    (.logFlush c, HM_LOG_CTL), (.logPortRetry c, HM_LOG_CTL), (.logClear c, HM_LOG_CLR), (.keyLoad c, HM_KEY_OP), (.keyZero c, HM_KEY_OP),
    (.load c, HM_TRIPLEX_OP), (.epoch c, HM_TRIPLEX_OP), (.startTest c, HM_TRIPLEX_OP), (.openHarbour c, HM_TRIPLEX_OP), (.close c, HM_TRIPLEX_OP),
    (.update c, HM_TRIPLEX_OP), (.lockstepGo c, HM_LOCKSTEP_CTL), (.lockstepStop c, HM_LOCKSTEP_CTL)]

theorem isHostWrite_hostWrites (c : Nat) : ∀ x ∈ hostWrites c, IsHostWrite x.1 c x.2 := by
  simp only [hostWrites, List.forall_mem_cons]
  refine ⟨?_, ?_, ?_, ?_, ?_, ?_, ?_, ?_, ?_, ?_, ?_, ?_, ?_, ?_, ?_, ?_, ?_, ?_, ?_, ?_, ?_, ?_, ?_, fun _ hx => absurd hx List.not_mem_nil⟩
  all_goals exact fun s => ⟨_, rfl⟩

/-- Settles O50: each command of the list is a host write, whose gate acts before its effect. -/
theorem hostGate : Obligations.HostGate := by
  intro s c i a h hi
  obtain ⟨k, e⟩ := isHostWrite_hostWrites c (i, a) hi s
  exact ⟨fun hr => exec_of_run e h (hostWrite_notReady (s := s.begin_ c) k hr), fun hr he => exec_of_run e h (hostWrite_denied (s := s.begin_ c) k hr he)⟩

/-! ### A write to the harbour store (R635, R640) -/

/-- A write by the host to a bank that serves, in a closed harbour, stores its bytes (R640). -/
theorem State.harbourAccess_write {s : State} {o size : Nat} (data : Nat) (hs : s.phaseNo ≠ phSelftest) (hf : s.phaseNo ≠ phFailed) (ho : s.isOpen = false)
    (hb : (s.unit (ukBank (o / 4194304))).colour < vermilion) :
    s.harbourAccess o size true data = (s.writeBytes (hsAddr o) (dataBytes data size)).reply rspOk 0 := by
  have hserves : ¬(s.phaseNo = phSelftest ∨ s.phaseNo = phFailed ∨ vermilion ≤ (s.unit (ukBank (o / 4194304))).colour) :=
    not_or.mpr ⟨hs, not_or.mpr ⟨hf, Nat.not_le.mpr hb⟩⟩
  simp only [State.harbourAccess, if_neg hserves, ho, Bool.not_true, Bool.false_eq_true, if_false]

/-- Storing bytes changes nothing but the stores. -/
theorem State.framedOut_writeBytes (s : State) (a : Nat) (l : List (BitVec 8)) :
    (s.writeBytes a l).sp = s.sp ∧ (s.writeBytes a l).regs = s.regs ∧ (s.writeBytes a l).tiles = s.tiles ∧ (s.writeBytes a l).quays = s.quays
      ∧ (s.writeBytes a l).out = s.out := by
  obtain ⟨m, e⟩ := State.writeBytes_eq l s a
  rw [e]
  exact ⟨rfl, rfl, rfl, rfl, rfl⟩

/-- Settles O58: the access is a run that stores the bytes of its data and answers. -/
theorem harbourStoreWrite : Obligations.HarbourStoreWrite := by
  intro s c o size data ue ce h hu hn ho hz hs hf hopen hb
  have hreach : (s.begin_ c).aperture (0x1000000 + o) size true data.toNat false ue ce
      = ((s.begin_ c).writeBytes (hsAddr o) (dataBytes data.toNat size)).reply rspOk 0 := by
    rw [State.aperture_harbour (s := s.begin_ c) data.toNat ue ce hu (fun _ => hn) hz (by omega) (by omega), Nat.add_sub_cancel_left]
    exact State.harbourAccess_write (s := s.begin_ c) data.toNat hs hf hopen hb
  have hlen : (dataBytes data.toNat size).length = size := by simp [dataBytes]
  obtain ⟨hsp, hregs, htiles, hquays, hout⟩ := (s.begin_ c).framedOut_writeBytes (hsAddr o) (dataBytes data.toNat size)
  have hbyte (a : Nat) : (s.after c fun u => (u.writeBytes (hsAddr o) (dataBytes data.toNat size)).reply rspOk 0).byte a
      = ((s.begin_ c).writeBytes (hsAddr o) (dataBytes data.toNat size)).byte a := by
    simp only [State.byte, after_mem]
    rfl
  refine ⟨_, exec_of_run (g := fun u => (u.writeBytes (hsAddr o) (dataBytes data.toNat size)).reply rspOk 0) (exec_storeApertureAccess ..) h hreach,
    ?stored, ?others, ?canonical, ?words, ?units, ?out⟩
  case stored =>
    intro i hi
    rw [hbyte, State.byte_writeBytes_same _ _ _ (hlen.symm ▸ hi)]
    simp [dataBytes]
  case others =>
    intro a ha
    rw [hbyte, State.byte_writeBytes_other _ _ _ (hlen.symm ▸ ha)]
    rfl
  case canonical =>
    intro hwf
    rw [after_mem]
    exact memWf_writeBytes (s := s.begin_ c) _ _ hwf
  case words =>
    intro a hAlarm hIrq
    rw [after_word hAlarm hIrq (by exact hsp)]
    exact congrArg₂ (fun sp regs => tabGet (resetWord sp) regs a) hsp hregs
  case units =>
    exact ⟨(State.settle_tiles _).trans htiles, (State.settle_quays _).trans hquays⟩
  case out =>
    rw [after_out]
    exact congrArg (· ++ [_]) hout

end Sys2Proof.Machine

/-!
PROOFS. Start-up, opening and closing (chapter 15): an operation of the triplex in a phase that takes it and in one that does not.
-/

namespace Sys2Proof.Machine

/-! ### Phases and operations -/

/-- What an operation of the triplex comes to in a phase that does not take it (R580). -/
def State.wrongPhase (s : State) (op : Nat) : State := ((s.put HM_TRIPLEX_OP_OP op).put HM_TRIPLEX_OP_BUSY 0).tripEnd 4

/-- An operation in a phase that does not take it ends at once (R580). -/
theorem State.tripOp_wrongPhase {s : State} {op : Nat} {ok : List Nat} (k : State → State) (hb : s.flag HM_TRIPLEX_OP_BUSY = false) (hp : s.phaseNo ∉ ok) :
    s.tripOp op ok k = s.wrongPhase op := by
  have hphase : (!ok.contains s.phaseNo) = true := by simpa using hp
  exact (if_neg (Bool.eq_false_iff.mp hb)).trans (if_pos hphase)

/-- An operation in a phase that takes it runs with its code noted (R580). -/
theorem State.tripOp_phase {s : State} {op : Nat} {ok : List Nat} (k : State → State) (hb : s.flag HM_TRIPLEX_OP_BUSY = false) (hp : s.phaseNo ∈ ok) :
    s.tripOp op ok k = k ((s.put HM_TRIPLEX_OP_OP op).put HM_TRIPLEX_OP_BUSY 1) := by
  have hphase : ¬(!ok.contains s.phaseNo) = true := by simpa using hp
  exact (if_neg (Bool.eq_false_iff.mp hb)).trans (if_neg hphase)

/-- CLOSE while no operation runs withdraws nothing (R598). -/
theorem State.closeOp_idle {s : State} (hb : s.flag HM_TRIPLEX_OP_BUSY = false) :
    s.closeOp = s.tripOp 6 [phOpen]
      (fun s => if s.cmState = cmHalted then s.closeHarbour 2 else { s.hostHalt with start := { s.start with closing := 2 } }) := by
  have hidle : ¬(s.flag HM_TRIPLEX_OP_BUSY && (s.start.epoch || decide (s.start.opening = 1))) = true := by
    rw [hb]
    exact Bool.false_ne_true
  exact if_neg hidle

/-- CLOSE withdraws an OPEN that waits for its tick (R598). -/
theorem State.closeOp_opening {s : State} (hb : s.flag HM_TRIPLEX_OP_BUSY = true) (ho : s.start.opening = 1) : s.closeOp = s.withdraw := by
  have hwaits : (s.flag HM_TRIPLEX_OP_BUSY && (s.start.epoch || decide (s.start.opening = 1))) = true := by simp [hb, ho]
  exact if_pos hwaits

/-! ### What a refused operation leaves -/

/-- An event bit is set in HM_IRQ_STAT alone (R650). -/
theorem State.framed_irq (s : State) (b : Nat) {regs : List Nat} (h : HM_IRQ_STAT ∈ regs) : s.Framed (s.irq b) regs :=
  (s.framed_setWord _ h).trans (State.framed_withCycle _ _ _ _ regs)

theorem State.get_irq (s : State) (b : Nat) {f : Fld} (h : f.reg ≠ HM_IRQ_STAT) : (s.irq b).get f = s.get f := by
  simp only [State.irq, State.get, State.word_coin, State.word_setWord_other _ _ h]

/-- The event bit of the triplex is raised. -/
theorem State.get_irq_triplex (s : State) : (s.irq irqTriplex).get HM_IRQ_STAT_TRIPLEX = 1 := by
  have hbit : (s.word HM_IRQ_STAT ||| BitVec.ofNat 64 (2 ^ 1)).getLsbD 1 = true := by simp
  rw [BitVec.getLsbD, Nat.testBit_eq_decide_div_mod_eq, decide_eq_true_eq] at hbit
  calc (s.irq irqTriplex).get HM_IRQ_STAT_TRIPLEX
      = fieldOf (s.word HM_IRQ_STAT ||| BitVec.ofNat 64 (2 ^ 1)) 1 1 := congrArg (fieldOf · 1 1) (s.word_setWord_same HM_IRQ_STAT _)
    _ = (s.word HM_IRQ_STAT ||| BitVec.ofNat 64 (2 ^ 1)).toNat / 2 ^ 1 % 2 := congrArg (· % 2) (Nat.shiftRight_eq_div_pow _ _)
    _ = 1 := hbit

/-- An operation that fails ends with its result and REFUSED (R580). -/
theorem State.tripEnd_failed (s : State) {result : Nat} (h : result ≠ 0) :
    s.tripEnd result = (((s.put HM_TRIPLEX_OP_BUSY 0).put HM_TRIPLEX_OP_RESULT result).irq irqTriplex).put HM_TRIPLEX_OP_REFUSED 1 := if_pos h

section
variable (s : State) (op : Nat)

theorem State.wrongPhase_eq : s.wrongPhase op
    = ((((((s.put HM_TRIPLEX_OP_OP op).put HM_TRIPLEX_OP_BUSY 0).put HM_TRIPLEX_OP_BUSY 0).put HM_TRIPLEX_OP_RESULT 4).irq irqTriplex).put
        HM_TRIPLEX_OP_REFUSED 1) := State.tripEnd_failed _ (by decide)

/-- Only HM_TRIPLEX_OP and HM_IRQ_STAT are written. -/
theorem State.framed_wrongPhase {regs : List Nat} (ho : HM_TRIPLEX_OP ∈ regs) (hi : HM_IRQ_STAT ∈ regs) : s.Framed (s.wrongPhase op) regs := by
  rw [State.wrongPhase_eq]
  exact (((((s.framed_put _ ho).trans (State.framed_put _ _ ho)).trans (State.framed_put _ _ ho)).trans (State.framed_put _ _ ho)).trans
    (State.framed_irq _ _ hi)).trans (State.framed_put _ _ ho)

theorem State.out_wrongPhase : (s.wrongPhase op).out = s.out := by
  rw [State.wrongPhase_eq]
  rfl

theorem State.refused_wrongPhase : (s.wrongPhase op).get HM_TRIPLEX_OP_REFUSED = 1 := by
  rw [State.wrongPhase_eq, State.get_put_same _ _ _ (by decide)]
  rfl

/-- The fields of HM_TRIPLEX_OP below REFUSED are those of before the event. -/
theorem State.get_wrongPhase {f : Fld} (hr : f.reg = HM_TRIPLEX_OP) (hf : f.lo + f.w ≤ 10) : (s.wrongPhase op).get f
    = ((((s.put HM_TRIPLEX_OP_OP op).put HM_TRIPLEX_OP_BUSY 0).put HM_TRIPLEX_OP_BUSY 0).put HM_TRIPLEX_OP_RESULT 4).get f := by
  have hirq : f.reg ≠ HM_IRQ_STAT := by
    rw [hr]
    decide
  rw [State.wrongPhase_eq, State.get_put_other _ _ (by decide) (.inl hf), State.get_irq _ _ hirq]

theorem State.result_wrongPhase : (s.wrongPhase op).get HM_TRIPLEX_OP_RESULT = 4 := by
  rw [State.get_wrongPhase _ _ rfl (by decide), State.get_put_same _ _ _ (by decide)]
  rfl

theorem State.busy_wrongPhase : (s.wrongPhase op).get HM_TRIPLEX_OP_BUSY = 0 := by
  rw [State.get_wrongPhase _ _ rfl (by decide), State.get_put_other _ _ (by decide) (.inl (by decide)), State.get_put_same _ _ _ (by decide)]
  rfl

theorem State.op_wrongPhase : (s.wrongPhase op).get HM_TRIPLEX_OP_OP = op % 16 := by
  rw [State.get_wrongPhase _ _ rfl (by decide), State.get_put_other _ _ (by decide) (.inl (by decide)),
    State.get_put_other _ _ (by decide) (.inl (by decide)), State.get_put_other _ _ (by decide) (.inl (by decide)), State.get_put_same _ _ _ (by decide)]
  rfl

theorem State.event_wrongPhase : (s.wrongPhase op).get HM_IRQ_STAT_TRIPLEX = 1 := by
  rw [State.wrongPhase_eq, State.get_put_reg _ _ (by decide), State.get_irq_triplex]

end

/-! ### The commands -/

theorem exec_load {s : State} (c : Nat) : exec (.load c) s = run s c fun u => u.go HM_TRIPLEX_OP (some HM_TRIPLEX_OP_BUSY) (.load c) State.load := (rfl)
theorem exec_prepare {s : State} (c : Nat) (taps : List Nat) :
    exec (.prepare c taps) s = run s c fun u => u.go HM_TRIPLEX_OP (some HM_TRIPLEX_OP_BUSY) (.prepare c taps) (fun v => v.prepare taps) := (rfl)
theorem exec_epoch {s : State} (c : Nat) : exec (.epoch c) s = run s c fun u => u.go HM_TRIPLEX_OP (some HM_TRIPLEX_OP_BUSY) (.epoch c) State.epochOp := (rfl)
theorem exec_startTest {s : State} (c : Nat) :
    exec (.startTest c) s = run s c fun u => u.go HM_TRIPLEX_OP (some HM_TRIPLEX_OP_BUSY) (.startTest c) State.startTest := (rfl)
theorem exec_openHarbour {s : State} (c : Nat) :
    exec (.openHarbour c) s = run s c fun u => u.go HM_TRIPLEX_OP (some HM_TRIPLEX_OP_BUSY) (.openHarbour c) State.openOp := (rfl)
theorem exec_close {s : State} (c : Nat) : exec (.close c) s = run s c fun u => u.go HM_TRIPLEX_OP (some HM_TRIPLEX_OP_BUSY) (.close c) State.closeOp := (rfl)
theorem exec_update {s : State} (c : Nat) :
    exec (.update c) s = run s c fun u => u.go HM_TRIPLEX_OP (some HM_TRIPLEX_OP_BUSY) (.update c) State.updateOp := (rfl)
theorem exec_openingTick {s : State} : exec .openingTick s = run s 0 State.openingTick := (rfl)

/-- The operation `op` of the triplex, which the phases of `ok` take: command `i` is its GO at cycle `c`. -/
def IsTripOp (i : Instr) (c op : Nat) (ok : List Nat) : Prop :=
  ∃ g k, (∀ s, exec i s = run s c fun u => u.go HM_TRIPLEX_OP (some HM_TRIPLEX_OP_BUSY) i g)
    ∧ ∀ s : State, s.flag HM_TRIPLEX_OP_BUSY = false → g s = s.tripOp op ok k

/-- The operations that R580 refuses in a wrong phase, each with its code and the phases that take it. -/
def tripOps (c : Nat) : List (Instr × Nat × List Nat) :=
  [(.load c, 1, [phWaitImage]), (.epoch c, 3, [phConfig]), (.startTest c, 4, [phConfig]), (.openHarbour c, 5, [phReady]), (.close c, 6, [phOpen]),
    (.update c, 7, [phConfig, phReady, phOpen])]

theorem isTripOp_tripOps (c : Nat) : ∀ x ∈ tripOps c, IsTripOp x.1 c x.2.1 x.2.2 := by
  simp only [tripOps, List.forall_mem_cons]
  refine ⟨?load, ?epoch, ?startTest, ?openHarbour, ?close, ?update, fun _ hx => absurd hx List.not_mem_nil⟩
  case load => exact ⟨_, _, fun _ => exec_load c, fun _ _ => rfl⟩
  case epoch => exact ⟨_, _, fun _ => exec_epoch c, fun _ _ => rfl⟩
  case startTest => exact ⟨_, _, fun _ => exec_startTest c, fun _ _ => rfl⟩
  case openHarbour => exact ⟨_, _, fun _ => exec_openHarbour c, fun _ _ => rfl⟩
  case close => exact ⟨_, _, fun _ => exec_close c, fun _ hb => State.closeOp_idle hb⟩
  case update => exact ⟨_, _, fun _ => exec_update c, fun _ _ => rfl⟩

/-- The GO of an operation in a wrong phase. -/
theorem exec_wrongPhase {s : State} {c op : Nat} {i : Instr} {ok : List Nat} (hi : IsTripOp i c op ok) (h : s.start.held = false)
    (hg : s.takesGo HM_TRIPLEX_OP) (hb : s.flag HM_TRIPLEX_OP_BUSY = false) (hp : s.phaseNo ∉ ok) :
    exec i s = .next (s.after c fun u => (u.wrongPhase op).emit (.hport 0 0)) := by
  obtain ⟨g, k, e, hop⟩ := hi
  refine exec_of_run (e s) h (go_effect (s := s.begin_ c) hg ?_)
  rw [hop (s.begin_ c) hb]
  exact State.tripOp_wrongPhase (s := s.begin_ c) k hb hp

/-- Settles O51: each operation of the list ends by `wrongPhase`, which writes HM_TRIPLEX_OP and raises its event alone. -/
theorem phaseRefusals : Obligations.PhaseRefusals := by
  intro s c i op ok h hg hb hi hp
  have hcode : op % 16 = op := by
    have hcodes : ∀ x ∈ tripOps c, x.2.1 % 16 = x.2.1 := by simp [tripOps]
    exact hcodes _ hi
  refine ⟨_, exec_wrongPhase (isTripOp_tripOps c _ hi) h hg hb hp, ?_⟩
  have hframe : (s.begin_ c).Framed (((s.begin_ c).wrongPhase op).emit (.hport 0 0)) [HM_TRIPLEX_OP, HM_IRQ_STAT] :=
    (State.framed_wrongPhase _ op (by simp) (by simp)).trans (State.framed_emit _ _ _)
  have hfield {f : Fld} (hf : f.reg = HM_TRIPLEX_OP) :
      (s.after c fun u => (u.wrongPhase op).emit (.hport 0 0)).get f = ((s.begin_ c).wrongPhase op).get f := by
    refine after_get ?_ ?_ hframe.sp <;> rw [hf] <;> decide
  obtain ⟨⟨hwords, -, hmem, -⟩, hunits, -⟩ := State.Framed.after (f := fun u => (u.wrongPhase op).emit (.hport 0 0)) hframe
  refine ⟨?op, ?result, ?refused, ?busy, ?phase, ?event, ?out, hunits, hmem⟩
  case op => exact (hfield rfl).trans ((State.op_wrongPhase _ _).trans hcode)
  case result => exact (hfield rfl).trans (State.result_wrongPhase _ _)
  case refused => exact (hfield rfl).trans (State.refused_wrongPhase _ _)
  case busy => exact (hfield rfl).trans (State.busy_wrongPhase _ _)
  case phase => exact congrArg (fieldOf · _ _) (hwords HM_TRIPLEX_STAT (by decide) (by decide) (by decide))
  case event =>
    have hsettle := State.irqStat_settle { ((s.begin_ c).wrongPhase op).emit (.hport 0 0) with pending := s.pending, sp := s.sp } (lo := 1) (w := 1) (by decide)
    refine hsettle.trans ((congrArg (fieldOf · 1 1) ?_).trans (State.event_wrongPhase (s.begin_ c) op))
    exact congrArg (fun sp => tabGet (resetWord sp) _ HM_IRQ_STAT) hframe.sp.symm
  case out => exact after_out.trans (congrArg (· ++ [_]) (State.out_wrongPhase _ _))

end Sys2Proof.Machine

/-!
PROOFS. Start-up, opening and closing (chapter 15): how the operations complete in a phase that takes them.
-/

namespace Sys2Proof.Machine

section
variable {s : State}

/-- EPOCH once the preparation allows it and before there is an epoch (R591). -/
theorem State.epochOp_prepared (hb : s.flag HM_TRIPLEX_OP_BUSY = false) (hp : s.phaseNo = phConfig) (hprep : s.start.prep.testBit 2 = true)
    (he : s.time.epoch = false) :
    s.epochOp =
      let v := (s.put HM_TRIPLEX_OP_OP 3).put HM_TRIPLEX_OP_BUSY 1
      { v with start := { v.start with epoch := true }, hawser.hw2 := 1 } := by
  have hallowed : ¬((!s.start.prep.testBit 2) = true ∨ s.time.epoch = true) := by simp [hprep, he]
  rw [State.epochOp, State.tripOp_phase _ hb (List.mem_singleton.mpr hp)]
  simp only [State.put_start, State.put_time]
  rw [if_neg hallowed]

/-- OPEN in READY goes through the checks (R595). -/
theorem State.openOp_ready (hb : s.flag HM_TRIPLEX_OP_BUSY = false) (hp : s.phaseNo = phReady) :
    s.openOp = ((s.put HM_TRIPLEX_OP_OP 5).put HM_TRIPLEX_OP_BUSY 1).openTry := State.tripOp_phase _ hb (List.mem_singleton.mpr hp)

/-- The state of the commits is in no register of the triplex. -/
theorem State.cmState_put {f : Fld} (v : Nat) (h : HM_COMMIT_STAT ≠ f.reg) : (s.put f v).cmState = s.cmState := s.get_put_reg v h

theorem State.cmState_closeOp (s : State) : ((s.put HM_TRIPLEX_OP_OP 6).put HM_TRIPLEX_OP_BUSY 1).cmState = s.cmState :=
  (State.cmState_put _ (by decide)).trans (State.cmState_put _ (by decide))

/-- The halt that the host asks for leaves the state of the start-up. -/
theorem State.hostHalt_start (s : State) : s.hostHalt.start = s.start := by
  unfold State.hostHalt
  split <;> rfl

/-- CLOSE of a halted job closes at once (R598). -/
theorem State.closeOp_halted (hb : s.flag HM_TRIPLEX_OP_BUSY = false) (hp : s.phaseNo = phOpen) (hc : s.cmState = cmHalted) :
    s.closeOp = ((s.put HM_TRIPLEX_OP_OP 6).put HM_TRIPLEX_OP_BUSY 1).closeHarbour 2 :=
  (State.closeOp_idle hb).trans ((State.tripOp_phase _ hb (List.mem_singleton.mpr hp)).trans (if_pos (s.cmState_closeOp.trans hc)))

/-- CLOSE of a running job asks for its halt and closes after it (R598). -/
theorem State.closeOp_running (hb : s.flag HM_TRIPLEX_OP_BUSY = false) (hp : s.phaseNo = phOpen) (hc : s.cmState ≠ cmHalted) :
    s.closeOp =
      let v := ((s.put HM_TRIPLEX_OP_OP 6).put HM_TRIPLEX_OP_BUSY 1).hostHalt
      { v with start := { v.start with closing := 2 } } := by
  have hstate : ((s.put HM_TRIPLEX_OP_OP 6).put HM_TRIPLEX_OP_BUSY 1).cmState ≠ cmHalted := fun e => hc (s.cmState_closeOp.symm.trans e)
  refine ((State.closeOp_idle hb).trans ((State.tripOp_phase _ hb (List.mem_singleton.mpr hp)).trans (if_neg hstate))).trans ?_
  rw [← State.hostHalt_start]

end

/-- Settles O34: each command is a run whose effect, in the case of its clause, is the one that the lemmas above give. -/
theorem startUpCompletes : Obligations.StartUpCompletes := by
  intro s c h
  refine ⟨fun hg hb => ⟨?prepare, ?epoch, ?startTest, ?openHarbour, ?closeHalted, ?closeRunning, ?closeWrong, ?epochWrong,
    ?openWrong⟩, ?withdraw, ?tick⟩
  case prepare => exact fun taps _ => exec_of_run (exec_prepare ..) h (go_effect (s := s.begin_ c) hg rfl)
  case epoch =>
    exact fun hp hprep he => exec_of_run (exec_epoch ..) h (go_effect (s := s.begin_ c) hg (State.epochOp_prepared (s := s.begin_ c) hb hp hprep he))
  case startTest => exact fun _ _ => exec_of_run (exec_startTest ..) h (go_effect (s := s.begin_ c) hg rfl)
  case openHarbour => exact fun hp => exec_of_run (exec_openHarbour ..) h (go_effect (s := s.begin_ c) hg (State.openOp_ready (s := s.begin_ c) hb hp))
  case closeHalted => exact fun hp hc => exec_of_run (exec_close ..) h (go_effect (s := s.begin_ c) hg (State.closeOp_halted (s := s.begin_ c) hb hp hc))
  case closeRunning => exact fun hp hc => exec_of_run (exec_close ..) h (go_effect (s := s.begin_ c) hg (State.closeOp_running (s := s.begin_ c) hb hp hc))
  case closeWrong => exact fun hp => exec_wrongPhase (isTripOp_tripOps c (.close c, 6, [phOpen]) (by simp [tripOps])) h hg hb (by simpa using hp)
  case epochWrong => exact fun hp => exec_wrongPhase (isTripOp_tripOps c (.epoch c, 3, [phConfig]) (by simp [tripOps])) h hg hb (by simpa using hp)
  case openWrong => exact fun hp => exec_wrongPhase (isTripOp_tripOps c (.openHarbour c, 5, [phReady]) (by simp [tripOps])) h hg hb (by simpa using hp)
  case withdraw => exact fun hg hb ho => exec_of_run (exec_close ..) h (go_effect (s := s.begin_ c) hg (State.closeOp_opening (s := s.begin_ c) hb ho))
  case tick => exact fun _ _ => exec_of_run exec_openingTick h rfl

end Sys2Proof.Machine

/-!
PROOFS. Power-up (chapter 15): reset, domains, the boot ROM, and an image's load.
-/

namespace Sys2Proof.Machine

section
variable {s : State} {d pass : Nat}

/-! ### The case that each clause names -/

theorem State.resetRelease_held (h : s.start.held = true) :
    s.resetRelease = ({ s with start := { s.start with held := false, domains := [(75, 2)] } } : State).setLogState lsScan := by
  have hheld : ¬(!s.start.held) = true := by simp [h]
  exact if_neg hheld

/-- A populated domain that is off, rested and of no Slate unit is switched on (R670). -/
theorem State.domainOn_off (hp : s.populated d = true) (h0 : s.domain d = 0) (hs : s.domainSlate d = false) (hr : s.domainRested d 2200 = true) :
    s.domainOn d = s.setDomain d 1 := by
  have hswitches : (s.populated d && decide (s.domain d = 0) && !s.domainSlate d && s.domainRested d 2200) = true := by simp [hp, h0, hs, hr]
  exact if_pos hswitches

/-- A domain switched on long enough ago is on (R670). -/
theorem State.domainGood_risen (h1 : s.domain d = 1) (hr : s.domainRested d 1100 = true) :
    s.domainGood d = if d = 79 then earlyPages.foldl (fun v n => v.hmPageReady n) (s.setDomain d 2) else s.setDomain d 2 := by
  have hrisen : ¬(s.domain d ≠ 1 ∨ (!s.domainRested d 1100) = true) := by simp [h1, hr]
  exact if_neg hrisen

/-- The cores' state after the boot ROM's self-test (R583). -/
def State.testedCores (s : State) (m : Nat) : State :=
  (List.range 3).foldl (fun v n => if m.testBit n then v else v.setUnitColour (ukCore n) vermilion) (s.setCores m)

/-- The boot ROM in the self-test: fewer than two cores that pass are too few (R583). -/
theorem State.bootRom_selftest (hp : s.phaseNo = phSelftest) :
    s.bootRom pass =
      let v := s.testedCores (pass % 8)
      if coreCount (pass % 8) < 2 then (v.setPhase phFailed).alarm 2
      else (v.setPhase phWaitImage).logHm 0x0E01 v.sp.stepping ((v.word OC_CONFIG).toNat % 2 ^ 32) (coreCount (pass % 8)) 0 := if_neg (not_not.mpr hp)

/-- The image opens the configuration once the quays have been tested (R586). -/
theorem State.imageLoaded_tested (hp : s.phaseNo = phLoading) (ht : s.quaysTested = true) :
    s.imageLoaded =
      let v : State := { s with start := { s.start with loading := none }, commit := { s.commit with kickAt := s.now } }
      let v := v.start.quaysOk.foldl (fun v q => v.modQuay q (fun t => { t with kickAt := v.now })) v
      ((List.range 26).foldl (fun v n => v.hmPageReady n) ((v.put HM_TRIPLEX_VER_STAGED 0).setPhase phConfig)).tripEnd 0 := by
  have hloads : ¬(s.phaseNo ≠ phLoading ∨ (!s.quaysTested) = true) := by simp [hp, ht]
  exact if_neg hloads

end

/-! ### The commands -/

theorem exec_powerOnReset {s : State} : exec .powerOnReset s = ran s.powerOnReset := (rfl)
theorem exec_resetRelease {s : State} : exec .resetRelease s = ran ({ s with out := [] }.resetRelease) := (rfl)
theorem exec_domainSwitchOn {s : State} (c d : Nat) : exec (.domainSwitchOn c d) s = run s c fun u => u.domainOn d := (rfl)
theorem exec_domainPowerGood {s : State} (c d : Nat) : exec (.domainPowerGood c d) s = run s c fun u => u.domainGood d := (rfl)
theorem exec_bootRom {s : State} (c pass : Nat) : exec (.bootRom c pass) s = run s c fun u => u.bootRom pass := (rfl)
theorem exec_imageLoaded {s : State} (c : Nat) : exec (.imageLoaded c) s = run s c State.imageLoaded := (rfl)

/-- Settles O33: each command is a run, or a step of its own before the release, whose effect is that of the lemmas above. That power good of D79 makes
the early pages READY at once is log 163, and that a reset keeps the waiting commands and the count of free values is log 4. -/
theorem powerUpCompletes : Obligations.PowerUpCompletes := by
  refine ⟨fun s => exec_powerOnReset, ?release, fun s c h => ⟨?switchOn, ?good, ?early, ?boot, ?bootFails, ?load, ?loaded⟩⟩
  case release => exact fun s h => exec_resetRelease.trans (congrArg ran (State.resetRelease_held (s := { s with out := [] }) h))
  case switchOn => exact fun d hp h0 hs hr => exec_of_run (exec_domainSwitchOn ..) h (State.domainOn_off (s := s.begin_ c) hp h0 hs hr)
  case good => exact fun d h1 hr hd => exec_of_run (exec_domainPowerGood ..) h ((State.domainGood_risen (s := s.begin_ c) h1 hr).trans (if_neg hd))
  case early => exact fun h1 hr => exec_of_run (exec_domainPowerGood ..) h ((State.domainGood_risen (s := s.begin_ c) h1 hr).trans (if_pos rfl))
  case boot =>
    exact fun pass hp hc => exec_of_run (exec_bootRom ..) h ((State.bootRom_selftest (s := s.begin_ c) hp).trans (if_neg (Nat.not_lt.mpr hc)))
  case bootFails => exact fun pass hp hc => exec_of_run (exec_bootRom ..) h ((State.bootRom_selftest (s := s.begin_ c) hp).trans (if_pos hc))
  case load =>
    exact fun hg hb hp => exec_of_run (exec_load ..) h
      (go_effect (s := s.begin_ c) hg (State.tripOp_phase (s := s.begin_ c) _ hb (List.mem_singleton.mpr hp)))
  case loaded => exact fun hp ht => exec_of_run (exec_imageLoaded ..) h (State.imageLoaded_tested (s := s.begin_ c) hp ht)

end Sys2Proof.Machine

/-!
PROOFS. The update in service (chapter 15): how the update begins, loads its image, hands over and reloads the quays, and how a core rejoins.
-/

namespace Sys2Proof.Machine

/-! ### The image in the harbour store -/

section
variable {s t : State} (m : Staged)

theorem State.readBytes_of_mem (hm : t.mem = s.mem) (n : Nat) : ∀ a, t.readBytes a n = s.readBytes a n := by
  induction n with
  | zero => exact fun _ => rfl
  | succ n ih =>
    intro a
    simp only [State.readBytes, State.byte, hm, ih]

theorem State.imgBytes_of_mem (hm : t.mem = s.mem) (lo hi : Nat) : t.imgBytes m lo hi = s.imgBytes m lo hi := State.readBytes_of_mem hm _ _

theorem State.imgNum_of_mem (hm : t.mem = s.mem) (lo n : Nat) : t.imgNum m lo n = s.imgNum m lo n :=
  congrArg bytesNat (State.imgBytes_of_mem m hm lo (lo + n))

/-- An image's header is in the stores. -/
theorem State.imgHead_of_mem (hm : t.mem = s.mem) : t.imgHead m = s.imgHead m := by
  simp only [State.imgHead, State.imgNum_of_mem m hm]

/-- The result of an image rests on the stores and the design-time values (R585). -/
theorem State.imageResult_of_mem (hm : t.mem = s.mem) (hsp : t.sp = s.sp) : t.imageResult m = s.imageResult m := by
  simp only [State.imageResult, State.imgNum_of_mem m hm, State.imgBytes_of_mem m hm, hsp]

end

/-! ### The update begins -/

/-- The operation `op` noted as running, as `tripOp` leaves it to its effect. -/
def State.noteOp (s : State) (op : Nat) : State := (s.put HM_TRIPLEX_OP_OP op).put HM_TRIPLEX_OP_BUSY 1

section
variable {s : State} (op : Nat)

theorem State.get_noteOp {f : Fld} (h : f.reg ≠ HM_TRIPLEX_OP) : (s.noteOp op).get f = s.get f := (State.get_put_reg _ _ h).trans (State.get_put_reg _ _ h)

theorem State.staged_noteOp : (s.noteOp op).staged = s.staged := congrArg₂ Staged.mk (s.get_noteOp op (by decide)) (s.get_noteOp op (by decide))

theorem State.cores_noteOp : (s.noteOp op).cores = s.cores := s.get_noteOp op (by decide)

theorem State.lantern_noteOp : (s.noteOp op).lantern = s.lantern := congrArg (fun n => decide (n ≠ 0)) (s.get_noteOp op (by decide))

end

/-- The update has begun with image `i`. -/
def State.beginUpdate (s : State) (i : Image) : State := { s with start := { s.start with upd := 1, loading := some i } }

/-- An image of a version that the running one hands over to begins the update of a full triplex (R599). -/
theorem State.updateOp_begins {s : State} (hp : s.phaseNo = phConfig ∨ s.phaseNo = phReady ∨ s.phaseNo = phOpen) (hb : s.flag HM_TRIPLEX_OP_BUSY = false)
    (h2 : s.imageResult s.staged ≠ 2) (h3 : s.imageResult s.staged ≠ 3) (hc : s.cores = 7) (hl : s.lantern = false)
    (hmin : (s.imgHead s.staged).hoMin ≤ s.get HM_TRIPLEX_VER_HO_OUT) (hmax : s.get HM_TRIPLEX_VER_HO_OUT ≤ (s.imgHead s.staged).hoOut) :
    s.updateOp =
      let v := (s.put HM_TRIPLEX_OP_OP 7).put HM_TRIPLEX_OP_BUSY 1
      { v with start := { v.start with upd := 1, loading := some (s.imgHead s.staged) } } := by
  have hmem : (s.noteOp 7).mem = s.mem := rfl
  have hresult : ¬((s.noteOp 7).imageResult (s.noteOp 7).staged = 2 ∨ (s.noteOp 7).imageResult (s.noteOp 7).staged = 3) := by
    rw [State.staged_noteOp, State.imageResult_of_mem _ hmem rfl]
    exact not_or.mpr ⟨h2, h3⟩
  have hcores : ¬(s.noteOp 7).cores ≠ 7 := not_not.mpr ((State.cores_noteOp 7).trans hc)
  have hlantern : ¬(s.noteOp 7).lantern = true := by rw [State.lantern_noteOp, hl]; exact Bool.false_ne_true
  have hhead : (s.noteOp 7).imgHead (s.noteOp 7).staged = s.imgHead s.staged := by rw [State.staged_noteOp, State.imgHead_of_mem _ hmem]
  have hfits : ¬((s.noteOp 7).get HM_TRIPLEX_VER_HO_OUT < ((s.noteOp 7).imgHead (s.noteOp 7).staged).hoMin
      ∨ ((s.noteOp 7).imgHead (s.noteOp 7).staged).hoOut < (s.noteOp 7).get HM_TRIPLEX_VER_HO_OUT) := by
    rw [hhead, State.get_noteOp 7 (by decide)]
    exact not_or.mpr ⟨Nat.not_lt.mpr hmin, Nat.not_lt.mpr hmax⟩
  refine (State.tripOp_phase _ hb (by simpa using hp)).trans ?_
  exact (if_neg hresult).trans ((if_neg hcores).trans ((if_neg hlantern).trans ((if_neg hfits).trans (congrArg (s.noteOp 7).beginUpdate hhead))))

/-! ### The update goes on -/

section
variable {s : State}

/-- Core 2 leaves at the commit's end (R599). -/
theorem State.updateLeave_begun (h : s.start.upd = 1) :
    s.updateLeave =
      let v := (((s.at_ (s.commitAt + 1)).setCores 3).setUpd 2 1).coreKeysBlank 2
      (v.put HM_TRIPLEX_VER_STAGED ((v.start.loading.map (·.version)).getD 0)).logStep 2 1 v.running := if_neg (not_not.mpr h)

/-- The record of an image leaves the stores. -/
theorem State.imgHead_logImage (m : Staged) (r : Nat) : (s.logImage m r).imgHead m = s.imgHead m :=
  State.imgHead_of_mem m (State.enqueue_mem ..)

/-- The load of core 2 ends with the image's result (R599). -/
theorem State.updateLoaded_loading (h : s.start.upd = 2) :
    s.updateLoaded =
      let r := s.imageResult s.staged
      let i := s.imgHead s.staged
      let v := s.logImage s.staged r
      if r = 0 then (({ v with start := { v.start with loading := some i } } : State).setUpd 3 2).logStep 2 2 i.version
      else
        let v := ((v.setUpd 6 4).put HM_TRIPLEX_VER_STAGED 0).logStep 2 4 v.running
        { v with start := { v.start with result := r, rejoin := some 2, loading := none } } := by
  refine (if_neg (not_not.mpr h)).trans ((ite_not ..).trans ?_)
  rw [State.imgHead_logImage]

/-- A closed harbour waits for no commit: an open one hands over at a clean one (R599, log 90). -/
theorem State.updateHandover_loaded {i : Image} (hi : s.start.loading = some i) (h : s.start.upd = 3)
    (hclean : s.isOpen = false ∨ (s.ctick + 2 = s.jt ∧ s.commit.inRecall = none ∧ s.cmState = cmRun)) :
    s.updateHandover =
      let v := ((((s.at_ (s.commitAt + 1)).setUpd 4 3).setCores 6).coreKeysFilled 1).coreKeysFilled 2
      let v := ((v.put HM_TRIPLEX_VER_RUNNING i.version).put HM_TRIPLEX_VER_HO_OUT i.hoOut).put HM_TRIPLEX_VER_STAGED 0
      { v.put HM_TRIPLEX_STAT_ABSENT 1 with start := { v.start with image := i, loading := none, pause := some (1, v.now), reload := 0, reloadAt := none } } := by
  have hwaits : ¬(s.start.upd ≠ 3 ∨ (s.isOpen = true ∧ (s.ctick + 2 ≠ s.jt ∨ s.commit.inRecall.isSome = true ∨ s.cmState ≠ cmRun))) := by
    rcases hclean with hclosed | ⟨hjt, hrecall, hrun⟩
    · simp [h, hclosed]
    · simp [h, hjt, hrecall, hrun]
  unfold State.updateHandover
  rw [hi]
  exact if_neg hwaits

/-- After the pause, once a tick, the next quay is reloaded (R599). -/
theorem State.updateReload_next (h : s.start.upd = 4) (hp : s.start.pause = none) (ht : s.start.reloadAt ≠ some s.time.tick) :
    s.updateReload =
      let q := s.start.reload
      let v := (s.modQuay q (fun t => { t with kickAt := s.now })).put (QY_RST_WDOG_IDLE_TICKS q) 0
      let v : State := { v with start := { v.start with reload := q + 1, reloadAt := some v.time.tick } }
      if q + 1 < v.nQuays then v else { v.setUpd 5 4 with start := { v.start with upd := 5, rejoin := some 0 } } := by
  have hwaits : ¬(s.start.upd ≠ 4 ∨ s.start.pause.isSome = true ∨ s.start.reloadAt = some s.time.tick) := by simp [h, hp, ht]
  exact if_neg hwaits

/-- A core that may rejoin, its load being no other's, pauses the triplex for it (R600). -/
theorem State.triplexRejoin_pauses {n : Nat} {same : Bool} (h : s.mayRejoin n = true) (hs : same = true ∨ s.start.upd ≠ 5) :
    s.triplexRejoin n same =
      let v := s.at_ (s.commitAt + 1)
      { v.put HM_TRIPLEX_STAT_ABSENT 1 with start := { v.start with rejoin := some n, pause := some (2, v.now) } } := by
  have hmay : ¬(!s.mayRejoin n) = true := by simp [h]
  have hsame : ¬((s.at_ (s.commitAt + 1)).start.upd = 5 ∧ (!same) = true) := by
    rcases hs with e | e <;> simp [e]
  exact (if_neg hmay).trans (if_neg hsame)

end

/-! ### The commands -/

theorem exec_updateLeave {s : State} : exec .updateLeave s = run s 0 State.updateLeave := (rfl)
theorem exec_updateLoadDone {s : State} (c : Nat) : exec (.updateLoadDone c) s = run s c State.updateLoaded := (rfl)
theorem exec_updateHandover {s : State} : exec .updateHandover s = run s 0 State.updateHandover := (rfl)
theorem exec_updateQuayReload {s : State} (c : Nat) : exec (.updateQuayReload c) s = run s c State.updateReload := (rfl)
theorem exec_triplexRejoin {s : State} (n : Nat) (same : Bool) : exec (.triplexRejoin n same) s = run s 0 fun u => u.triplexRejoin n same := (rfl)

/-- Settles O35: each command is a run whose effect, in the case of its clause, is the one that the lemmas above give. That a handover in a closed harbour
waits for no commit is log 90, and that it takes the state whole is log 169. -/
theorem updateCompletes : Obligations.UpdateCompletes := by
  intro s c h
  refine ⟨?update, ?begins, ?leave, ?loadDone, ?loaded, ?handover, ?reload, ?rejoin, ?rejoinOther⟩
  case update => exact fun hg _ _ => exec_of_run (exec_update ..) h (go_effect (s := s.begin_ c) hg rfl)
  case begins =>
    intro n hn hg hb hp h2 h3 hc hl hmin hmax
    subst hp
    have hresult : (s.begin_ c).imageResult (s.begin_ c).staged = s.imageResult s.staged := State.imageResult_of_mem s.staged rfl rfl
    have hhead : (s.begin_ c).imgHead (s.begin_ c).staged = s.imgHead s.staged := State.imgHead_of_mem s.staged rfl
    rw [← hresult] at h2 h3
    rw [← hhead] at hmin hmax ⊢
    exact exec_of_run (exec_update ..) h (go_effect (s := s.begin_ c) hg (State.updateOp_begins (s := s.begin_ c) hn hb h2 h3 hc hl hmin hmax))
  case leave => exact fun hu => exec_of_run exec_updateLeave h (State.updateLeave_begun (s := s.begin_ 0) hu)
  case loadDone => exact fun _ => exec_of_run (exec_updateLoadDone ..) h rfl
  case loaded => exact fun hu => exec_of_run (exec_updateLoadDone ..) h (State.updateLoaded_loading (s := s.begin_ c) hu)
  case handover => exact fun i hi hu hclean => exec_of_run exec_updateHandover h (State.updateHandover_loaded (s := s.begin_ 0) hi hu hclean)
  case reload => exact fun hu hp ht => exec_of_run (exec_updateQuayReload ..) h (State.updateReload_next (s := s.begin_ c) hu hp ht)
  case rejoin => exact fun n hm => exec_of_run (exec_triplexRejoin ..) h (State.triplexRejoin_pauses (s := s.begin_ 0) hm (.inl rfl))
  case rejoinOther => exact fun n hm hu => exec_of_run (exec_triplexRejoin ..) h (State.triplexRejoin_pauses (s := s.begin_ 0) hm (.inr hu))

end Sys2Proof.Machine

/-!
PROOFS. Lockstep of two wafers (chapter 16): how the commands complete.
-/

namespace Sys2Proof.Machine

section
variable {s : State}

/-! ### The case that each clause names -/

/-- A peer that does not answer within a second ends the start (R626). -/
theorem State.lockTimeout_due (hs : s.lockState = lkStarting) (hp : s.lock.peerStart = none) (ht : s.lock.started + s.get HM_TIME_TPS_TPS ≤ s.time.tick) :
    s.lockTimeout = s.lockRefuse 3 0 := if_pos ⟨hs, by rw [hp]; rfl, ht⟩

/-- STOP ends a lockstep that starts, runs or drills (R632). -/
theorem State.lockStopOp_active (hs : s.lockState ∈ [lkStarting, lkRunning, lkDrilling]) (hw : s.hawser.hw2 ≠ 2) : s.lockStopOp = s.lockStop 1 false :=
  (if_pos (List.contains_iff_mem.mpr hs)).trans (congrArg (fun v : State => v.lockStop 1 false) (if_neg hw))

/-- A contribution outside a recall and within its quay's sixteen steps enters its row (R621). -/
theorem State.lockContribution_enters {l : Nat} {k : Contrib} (hk : s.lock.contribs.find? (fun c => decide (c.lcore = l)) = some k)
    (hr : s.commit.inRecall = none) (hlo : s.lockLowest (s.homeQuay l) ≤ k.step) (hhi : k.step < s.lockLowest (s.homeQuay l) + 16) :
    s.lockContribution l =
      let v : State := { s with lock.contribs := s.lock.contribs.erase k }
      let q := s.homeQuay l
      let row := (l - q * s.logicalPer) / 128
      let x := (v.rowShare q k.step row).add k.k k.tick (v.get HM_COMMIT_STAT_CTICK)
      { v with lock.rows := tabSet (fun _ => RowShare.zero) v.lock.rows (rowKey q k.step row) x } := by
  have hkept : ¬(false = true ∨ k.step < s.lockLowest (s.homeQuay l)) := not_or.mpr ⟨Bool.false_ne_true, Nat.not_lt.mpr hlo⟩
  have hroom : ¬s.lockLowest (s.homeQuay l) + 16 ≤ k.step := Nat.not_le.mpr hhi
  unfold State.lockContribution
  simp only [hk, hr]
  exact (if_neg hkept).trans (if_neg hroom)

/-- A step whose every quay's digest is in ends now (R622). -/
def State.endStep (s : State) (n : Nat) : State :=
  match s.stepQuays n with
  | none => s
  | some _ => { s with lock.doneAt := tabSet (fun _ => (0, 0)) s.lock.doneAt n (s.jt, s.time.tick) }

/-- The digest of a finished step of a quay enters the wafer's step (R622). -/
theorem State.quayDigest_some {q : Nat} {d : Nat × Nat × BitVec 64} (hd : s.lock.digests.find? (fun d => decide (d.1 = q)) = some d) :
    s.quayDigest q =
      let v : State := { s with lock.digests := s.lock.digests.erase d }
      let v : State := { v with lock.own := tabSet (fun _ => none) v.lock.own (d.2.1 * 64 + q) (some d.2.2) }
      v.endStep d.2.1 := by
  unfold State.quayDigest
  rw [hd]
  rfl

/-- A running lockstep with no refused row to send again sends the step that comes next (R623). -/
theorem State.slotSend_next {qs : List (BitVec 64)} (refused : Bool) (hs : s.lockState = lkRunning) (hr : s.lock.resend = [])
    (hq : s.stepQuays s.lock.sendNext = some qs) (hn : s.lock.sendNext < s.lock.next + 255) (ht : (s.stepDone s.lock.sendNext).2 ≠ s.time.tick) :
    s.slotSend refused =
      let n := s.lock.sendNext
      let rows := s.slotHead n (stepDigest qs) (s.stepDone n).1 0 false :: inRows ((s.nQuays + 7) / 8) qs
      let v := s.lockSend (1024 * (n % 256)) rows
      let v : State := { v with lock.sendNext := n + 1 }
      if refused then { v with lock.resend := [(n, 1024 * (n % 256), rows)] } else v := by
  have hstarting : s.lockState ≠ lkStarting := by rw [hs]; decide
  have hdrilling : s.lockState ≠ lkDrilling := by rw [hs]; decide
  have hsends : ¬(s.lock.next + 255 ≤ s.lock.sendNext ∨ (s.stepDone s.lock.sendNext).2 = s.time.tick) := not_or.mpr ⟨Nat.not_le.mpr hn, ht⟩
  unfold State.slotSend
  refine (if_neg hstarting).trans ((if_neg hdrilling).trans ((if_neg (not_not.mpr hs)).trans ?_))
  simp only [hr, hq]
  exact if_neg hsends

/-- A row that was refused is sent again, once a tick (R623). -/
theorem State.slotSend_again {r : Nat × Nat × List (List (BitVec 64))} {l : List (Nat × Nat × List (List (BitVec 64)))} (refused : Bool)
    (hs : s.lockState = lkRunning) (hr : s.lock.resend = r :: l) (ht : s.lock.sentAt ≠ s.time.tick) :
    s.slotSend refused =
      let v := (s.lockSend r.2.1 r.2.2).count HM_LOCKSTEP_CNT_RESENDS 1
      if refused then v else { v with lock.resend := l } := by
  have hstarting : s.lockState ≠ lkStarting := by rw [hs]; decide
  have hdrilling : s.lockState ≠ lkDrilling := by rw [hs]; decide
  have hagain : ¬(!decide (s.lock.sentAt ≠ s.time.tick)) = true := by simpa using ht
  unfold State.slotSend
  refine (if_neg hstarting).trans ((if_neg hdrilling).trans ((if_neg (not_not.mpr hs)).trans ?_))
  simp only [hr]
  exact if_neg hagain

/-- An uncorrectable word of the compare ends a lockstep that runs or drills (R624). -/
theorem State.lockCompare_uncorrectable (hs : s.lockState = lkRunning ∨ s.lockState = lkDrilling) :
    s.lockCompare true = (s.at_ (s.commitAt + 1)).lockStop 3 false := by
  rcases hs with hrun | hdrill
  · have hdrilling : ¬(s.at_ (s.commitAt + 1)).lockState = lkDrilling := fun e => absurd (hrun.symm.trans e) (by decide)
    have hrunning : ¬(s.at_ (s.commitAt + 1)).lockState ≠ lkRunning := not_not.mpr hrun
    exact (if_neg hdrilling).trans ((if_neg hrunning).trans (if_pos rfl))
  · have hdrilling : (s.at_ (s.commitAt + 1)).lockState = lkDrilling := hdrill
    exact (if_pos hdrilling).trans (if_pos rfl)

end

/-! ### The commands -/

theorem exec_lockstepGo {s : State} (c : Nat) : exec (.lockstepGo c) s = run s c fun u => u.hostWrite HM_LOCKSTEP_CTL State.lockGo := (rfl)
theorem exec_lockstepStartTimeout {s : State} (c : Nat) : exec (.lockstepStartTimeout c) s = run s c State.lockTimeout := (rfl)
theorem exec_lockstepStop {s : State} (c : Nat) : exec (.lockstepStop c) s = run s c fun u => u.hostWrite HM_LOCKSTEP_CTL State.lockStopOp := (rfl)
theorem exec_lockstepContribution {s : State} (c l : Nat) : exec (.lockstepContribution c l) s = run s c fun u => u.lockContribution l := (rfl)
theorem exec_quayDigest {s : State} (c q : Nat) : exec (.quayDigest c q) s = run s c fun u => u.onQuay q (fun v => v.quayDigest q) := (rfl)
theorem exec_lockstepSlotSend {s : State} (c : Nat) (refused : Bool) : exec (.lockstepSlotSend c refused) s = run s c fun u => u.slotSend refused := (rfl)
theorem exec_lockstepCompare {s : State} (ue : Bool) : exec (.lockstepCompare ue) s = run s 0 fun u => u.lockCompare ue := (rfl)

/-- Settles O36: each command is a run whose effect, in the case of its clause, is the one that the lemmas above give. -/
theorem lockstepCompletes : Obligations.LockstepCompletes := by
  intro s c h
  refine ⟨?go, ?timeout, ?stop, ?contribution, ?digest, ?sendNext, ?sendAgain, ?uncorrectable, ?compare⟩
  case go => exact fun hw _ _ _ => exec_of_run (exec_lockstepGo ..) h (hostWrite_effect (s := s.begin_ c) hw rfl)
  case timeout => exact fun hs hp ht => exec_of_run (exec_lockstepStartTimeout ..) h (State.lockTimeout_due (s := s.begin_ c) hs hp ht)
  case stop =>
    exact fun hw hs hh => exec_of_run (exec_lockstepStop ..) h (hostWrite_effect (s := s.begin_ c) hw (State.lockStopOp_active (s := s.begin_ c) hs hh))
  case contribution =>
    exact fun l k hk hr hlo hhi => exec_of_run (exec_lockstepContribution ..) h (State.lockContribution_enters (s := s.begin_ c) hk hr hlo hhi)
  case digest =>
    exact fun q d hq hd => exec_of_run (exec_quayDigest ..) h
      ((State.onQuay_of_lt (s := s.begin_ c) hq _).trans (State.quayDigest_some (s := s.begin_ c) hd))
  case sendNext =>
    exact fun qs refused hs hr hq hn ht => exec_of_run (exec_lockstepSlotSend ..) h (State.slotSend_next (s := s.begin_ c) refused hs hr hq hn ht)
  case sendAgain => exact fun r l refused hs hr ht => exec_of_run (exec_lockstepSlotSend ..) h (State.slotSend_again (s := s.begin_ c) refused hs hr ht)
  case uncorrectable => exact fun hs => exec_of_run (exec_lockstepCompare ..) h (State.lockCompare_uncorrectable (s := s.begin_ 0) hs)
  case compare => exact fun _ => exec_of_run (exec_lockstepCompare ..) h rfl

end Sys2Proof.Machine
